-- ==== Sys2Proof/Word.lean ====
section
/-!
DEFINITION. Word.lean: the word types and the fixed units of the model.

Register values are held as their unsigned encodings (R11, R12), so a register is a natural number below its width.
-/
namespace Sys2Proof

/-- The raw unsigned encoding of a dictionary value, most significant octet first (R11, R12). -/
abbrev Raw := Nat

/-- CT64 units (2^-16 ns) in one nanosecond (R18). -/
abbrev unitsPerNs : Nat := 65536

/-- CT64 units in one frame: 244,140.625 ns (R32). -/
abbrev frameUnits : Nat := 16000000000

/-- CT64 units in one second. -/
abbrev secondUnits : Nat := 65536000000000

/-- Frames in one TAI second (R32). -/
abbrev framesPerSecond : Nat := 4096

/-- One increment unit of the timescale, 2^-56 ns, is this fraction of a CT64 unit (2^40 of them make one). -/
abbrev subUnits : Nat := 2 ^ 40

end Sys2Proof
end

