-- ==== Sys2Proof/Operand.lean ====
section
/-!
DEFINITION. Operand.lean: the operands of the commands, as plain data.

A command carries what reaches the device from outside in that step: a host message, a received frame, the readings of
the frame's sensors. Instants are in CT64 units (2^-16 ns) after the start of the frame in which the command falls.
-/
namespace Sys2Proof

/-- The two ends of a management conversation (R80): the far address and UDP port, and the device's own address and UDP port it used. -/
structure Peer where
  address : Nat
  port : Nat
  localAddress : Nat
  localPort : Nat
  deriving DecidableEq, Repr

/-- The header and tag of a received QOP message (R63), and how it arrived: host SPI, in a frame with its Fcs (R82), or MGT from a
peer. -/
structure Head where
  onSpi : Bool
  peer : Peer
  length : Nat
  session : Nat
  sequence : Nat
  requestTag : Nat
  tag : Nat
  fcs : Nat
  deriving DecidableEq, Repr

/-- One item of a Write (R63): address, number of value octets, and the value octets read as a number (R12). -/
structure Item where
  index : Nat
  sub : Nat
  octets : Nat
  value : Nat
  deriving DecidableEq, Repr

/-- The value octets of a command entry's write: how many, and what they spell (R59, R60). -/
structure Value where
  octets : Nat
  value : Nat
  deriving DecidableEq, Repr

/-- The selection of a Subscribe (R85): entry addresses, or a source mask with a least severity. -/
inductive Selection where
  | entries (l : List (Nat × Nat))
  | events (mask : Nat) (minSeverity : Nat)
  deriving DecidableEq, Repr

/-- The body of a request of an open session (R63, R85). -/
inductive Body where
  | read (l : List (Nat × Nat))
  | write (l : List Item)
  | subscribe (subType periodFrames : Nat) (sel : Selection)
  | unsubscribe (id : Nat)
  | keepalive
  | close
  deriving DecidableEq, Repr

/-- A satellite in view, for channel allocation (R298, R299): system 1 GPS, 2 Galileo, 3 BeiDou, 4 QZSS; PRN;
elevation in 0.1°; azimuth in degrees; which signals it broadcasts (L1 or E1 or B1C, L1C, the L5 band). -/
structure SkySat where
  system : Nat
  prn : Nat
  elevation : Int
  azimuth : Nat
  l1 : Bool
  l1c : Bool
  l5 : Bool
  deriving DecidableEq, Repr

/-- What the correlators report of a channel in a second (R336): channel 1 to 192, state, C/N0 in 0.1 dB-Hz. -/
structure ChannelReport where
  channel : Nat
  state : Nat
  cn0 : Nat
  deriving DecidableEq, Repr

/-- A second of the engine (R301, R325): cause of a processor fault (0 none), image check, channel reports. -/
structure GnssSecond where
  fault : Nat
  imageValid : Bool
  reports : List ChannelReport
  deriving DecidableEq, Repr

/-- One satellite's observations propagated to the epoch (R305, R306): code and carrier in µm, C/N0 in 0.1 dB-Hz (0 not
tracked), elevation in 0.1°, its position with the Earth-rotation correction in µm, the tropospheric delay and the
modelled L1 ionospheric delay in µm, the broadcast clock correction in fs, health, ephemeris and the lowest phase-lock
indicator since the last epoch, in 0.001 (R299). -/
structure SatObs where
  system : Nat
  prn : Nat
  elevation : Int
  cn0L1 : Nat
  cn0L5 : Nat
  codeL1 : Int
  codeL5 : Int
  carrierL1 : Int
  carrierL5 : Int
  x : Int
  y : Int
  z : Int
  tropo : Int
  iono : Int
  clock : Int
  healthy : Bool
  ephemeris : Bool
  lock : Nat
  deriving DecidableEq, Repr

/-- A broadcast future leap (R310): week field, its width in bits, day of that week after whose end it falls (0 the
first day), and the ΔtLSF that follows it. -/
structure BroadcastLeap where
  week : Nat
  bits : Nat
  day : Nat
  after : Int
  deriving DecidableEq, Repr

/-- The week field of a tracked signal (R300): its system, its value and its width in bits. -/
structure WeekField where
  system : Nat
  value : Nat
  bits : Nat
  deriving DecidableEq, Repr

/-- The engine's inputs for an epoch (R300, R303, R309, R310, R314): observations; the unconstrained position in 0.1 mm with
its 3D sigma in mm; broadcast UTC parameters A0 in fs, A1 in 10^-18 and t_ot in TAI seconds, of the time system and of
Galileo; ΔtLS; a future leap; broadcast system offsets in fs; the week fields received. Code and carrier refer to the transmit
time in the week nearest the timescale. -/
structure GnssEpoch where
  sats : List SatObs
  position : Option (Int × Int × Int × Nat)
  a0 : Int
  a1 : Int
  tot : Nat
  galileoA0 : Int
  galileoA1 : Int
  galileoTot : Nat
  leapSeconds : Int
  leap : Option BroadcastLeap
  offsets : List Int
  weeks : List WeekField
  deriving DecidableEq, Repr

/-- OSNMA material of a tag (R318 to R320): NMA status, public key and chain identifiers, whether the chain needs only
supported functions, the satellite and ADKD covered, the data, the tag with its length in bits, the TESLA key, and the public key and
chain that the message revokes. -/
structure OsnmaTag where
  status : Nat
  keyId : Nat
  chainId : Nat
  supported : Bool
  prn : Nat
  adkd : Nat
  data : List Nat
  tag : Nat
  bits : Nat
  teslaKey : Nat
  revokedKey : Option Nat
  revokedChain : Option Nat
  deriving DecidableEq, Repr

/-- How a frame came in (R376, R382): port, lane, t_i in 2^-56 ns after the frame start, d_rx in fs, and source MAC. -/
structure Rx where
  port : Nat
  lane : Nat
  ti : Nat
  drx : Nat
  mac : Nat
  deriving DecidableEq, Repr

/-- A received frame's form (R403 to R406): octets with FCS, FCS check, tags outer first as (TPID, VID), Ethertype and
slow-protocol subtype, whether it is addressed to a port address, IP version (0 none), UDP destination port (0 none), and
message type and domain of a PTP message. -/
structure RxFrame where
  rx : Rx
  length : Nat
  fcsOk : Bool
  tags : List (Nat × Nat)
  ethertype : Nat
  subtype : Nat
  toPort : Bool
  ip : Nat
  udpPort : Nat
  ptp : Option (Nat × Nat)
  deriving DecidableEq, Repr

/-- An exception datagram from the host (R406): where it came from, its header, octets after the header, and the
tags of its frame as (TPID, PCP). -/
structure HostFrame where
  address : Nat
  version : Nat
  kind : Nat
  port : Nat
  flags : Nat
  length : Nat
  tag : Nat
  octets : Nat
  tags : List (Nat × Nat)
  deriving DecidableEq, Repr

/-- What a lane's calibration measured (R385): mean transmit and receive delays and their spreads, in fs. -/
structure LaneDelays where
  tx : Int
  rx : Int
  txSpread : Nat
  rxSpread : Nat
  deriving DecidableEq, Repr

/-- A receiver's condition (R390): signal, block, alignment and FEC lock, hi_ber, and what its counters gained. -/
structure PcsStatus where
  signal : Bool
  locked : Bool
  hiBer : Bool
  fecCorrected : Nat
  fecUncorrected : Nat
  blockErrors : Nat
  deriving DecidableEq, Repr

/-- A scheduled message (R430): kind 0 Sync, 1 Follow_Up, 2 Announce, 3 Signalling, 4 NREF Delay_Req; sender an instance,
or 8 + r; port; client slot plus one, 0 for multicast; of Signalling the place in the list of destinations. -/
structure Send where
  kind : Nat
  sender : Nat
  port : Nat
  slot : Nat
  deriving DecidableEq, Repr

/-- The AUTHENTICATION TLV of a received message (R443, R444): whether it is the last TLV, and its fields. -/
structure AuthTlv where
  last : Bool
  length : Nat
  indicator : Nat
  spp : Nat
  keyId : Nat
  icv : Nat
  deriving DecidableEq, Repr

/-- A received PTP message (R426, R428, R444): how it came in, transport (0 L2, 1 UDP/IPv4, 2 UDP/IPv6), source and
destination addresses as the client record has them, header fields, the octets before the ICV, and its TLV. -/
structure PtpRx where
  rx : Rx
  transport : Nat
  source : Nat
  destination : Nat
  unicast : Bool
  domain : Nat
  identity : Nat
  sequence : Nat
  correction : Int
  octets : List Nat
  auth : Option AuthTlv
  deriving DecidableEq, Repr

/-- A REQUEST_UNICAST_TRANSMISSION or GRANT_UNICAST_TRANSMISSION TLV (R435): message type, logInterMessagePeriod,
durationField. -/
structure UnicastTlv where
  type : Nat
  period : Int
  duration : Nat
  deriving DecidableEq, Repr

/-- The fields of a received Ziestari bound TLV that a client uses (R364, R448): Systematic, Random, GrowthRate and the
epoch in CT64 units. -/
structure BoundTlv where
  systematic : Nat
  random : Nat
  growth : Nat
  epoch : Nat
  deriving DecidableEq, Repr

/-- The Announce fields a client uses (R449): clockClass, clockAccuracy, currentUtcOffset, and the flags
currentUtcOffsetValid, leap61 and leap59. -/
structure AnnounceRx where
  clockClass : Nat
  accuracy : Nat
  utcOffset : Int
  utcValid : Bool
  leap61 : Bool
  leap59 : Bool
  deriving DecidableEq, Repr

/-- A received NTP request (R450): how it came in, IP version, addresses, VN, mode, poll, transmit timestamp. -/
structure NtpRx where
  rx : Rx
  ip : Nat
  source : Nat
  destination : Nat
  version : Nat
  mode : Nat
  poll : Int
  transmit : Nat
  deriving DecidableEq, Repr

/-- A received NTS request (R453, R454): bodies of its Unique Identifier and NTS Cookie fields, lengths of its Cookie
Placeholder bodies, whether the Authenticator comes last, the octets before it, its nonce and ciphertext, and whether the response's
authentication is late (R395). -/
structure NtsRx where
  base : NtpRx
  ids : List (List Nat)
  cookies : List (List Nat)
  placeholders : List Nat
  authLast : Bool
  covered : List Nat
  nonce : List Nat
  sealedPart : List Nat
  late : Bool
  deriving DecidableEq, Repr

/-- How a Skovwin packet came in (R514, R515): port, CRC check, Sequence, Tag. -/
structure SkPacket where
  port : Nat
  crcOk : Bool
  sequence : Nat
  tag : Nat
  deriving DecidableEq, Repr

/-- The body of a Beat (R517): octets 8 to 103. -/
structure Beat where
  role : Nat
  position : Nat
  flags : Nat
  innings : Nat
  frameStart : Nat
  markerTx : Nat
  markerRx : Nat
  bound : Nat
  growth : Nat
  deviceState : Nat
  qc : Nat
  leapKind : Nat
  utcOffset : Int
  leapSeconds : Nat
  stepSize : Int
  stepAt : Nat
  discontinuity : Nat
  health : Nat
  ack : Nat
  handOverAt : Nat
  digest : Nat
  deriving DecidableEq, Repr

/-- One item of a Replication packet (R519). -/
structure ReplItem where
  op : Nat
  slot : Nat
  data : Nat
  deriving DecidableEq, Repr

/-- The body of a Replication packet (R519): frame, index, Last, items. -/
structure Replication where
  frame : Nat
  index : Nat
  last : Bool
  items : List ReplItem
  deriving DecidableEq, Repr

/-- A transaction at the bus matrix (R617 to R620): master, ID, target (0 to 5 for T0 to T5; 15 unmapped), byte offset in
the target, and the wait for its grant in ns. -/
structure BusOp where
  master : Nat
  id : Nat
  target : Nat
  offset : Nat
  wait : Nat
  deriving DecidableEq, Repr

/-- A physical upset of a memory line (R600 to R602): target, line, and what flips in its data, in the inner check bits
and in the outer check symbols. -/
structure Upset where
  target : Nat
  line : Nat
  data : Nat
  inner : Nat
  outer : Nat
  deriving DecidableEq, Repr

/-- What the tests of a shutdown or a start found (R664, R666): failed units with the kind of test (0x01 logic, 0x02
memory, 0x03 analogue), items as unit, quantity and value, and how long the tests took in µs. -/
structure TestResults where
  failed : List (Nat × Nat)
  items : List (Nat × Nat × Int)
  micros : Nat
  deriving DecidableEq, Repr

/-- A rising edge of TCK with TMS and TDI as they stand, or TRST_N pulled low (R695). -/
structure TapEdge where
  reset : Bool
  tms : Bool
  tdi : Bool
  deriving DecidableEq, Repr

/-- What the sequencer reads at a frame start (R35): the 24 sensors in 0.001 °C, the 6 region supplies and the 11 rails in
µV; whether the duplicate counters differ (R105); the XO edge of a second as cycles counted and its instant in CT64 units
(R171); phase meter readings of data ports as the port and the phase against the nominal grid in 10 ps (R183); the mean
offset of MOSC against TCLK as FRAC64 (R267); phase detector readings of the clock outputs (R265); CALRO code pairs of the
lines of a channel (R158); pairs whose sweep test fails with the stuck level (R633); durations of the slots in ns; idle
lines of the memory targets' scrubbers (R612); physical upsets of memory lines (R597); edges on the test access port since the
last frame start (R695). -/
structure FrameInput where
  sensors : List Int
  volts : List Nat
  rails : List Nat
  mismatch : Bool
  xoEdge : Option (Nat × Nat)
  syncE : List (Nat × Int)
  mosc : Option Int
  vco : List Nat
  calro : List (Nat × List (Nat × Nat × Nat × Nat))
  failedPairs : List (Nat × Nat)
  slotTimes : List Nat
  scrubIdle : List Nat
  upsets : List Upset
  tap : List TapEdge
  deriving DecidableEq, Repr

end Sys2Proof
end

