-- ==== Sys2Proof/Syntax.lean ====
section
/-!
DEFINITION. Syntax.lean: the commands and events of the device, one constructor per row of spec/opcode_table.json.

A constructor carries what reaches the device from outside in that step (Operand.lean). A host command carries the header of
its QOP message and the value it writes.
-/
namespace Sys2Proof

/-- One row of the table of operations and events. -/
inductive Instr where
  /-- FRAME_START (R33 to R42). -/
  | frameStart (inp : FrameInput)
  /-- SEQUENCER_OVERRUN (R44). -/
  | sequencerOverrun (slot : Nat)
  /-- STEP_APPLY (R109, R112). -/
  | stepApply
  /-- SET_APPLY (R110, R112). -/
  | setApply
  /-- LEAP_APPLIED (R118). -/
  | leapApplied
  /-- TIMER_FIRE (R121, R131). -/
  | timerFire (n : Nat)
  /-- TRG_PULSE_END (R127, R132). -/
  | trgPulseEnd (m : Nat)
  /-- TIMER_ARM (R123). -/
  | timerArm (h : Head) (n : Nat)
  /-- TIMER_DISARM (R127). -/
  | timerDisarm (h : Head) (n : Nat)
  /-- INPUT_EDGE_STAMP (R147 to R155). -/
  | inputEdgeStamp (c : Nat) (line : Nat) (cycle : Nat) (j : Nat) (f : Nat) (twin : Option (Nat × Nat))
  /-- WINDOW_MISS (R150, R151). -/
  | windowMiss (c : Nat)
  /-- TWIN_SWAP (R156, R158). -/
  | twinSwap (c : Nat)
  /-- CAL_COLLECTION_COMPLETE (R157, R161, R385; unit 0 to 18 a channel, 19 and 20 the PCT of WEST and EAST; temperature and supply at
its end). -/
  | calCollectionComplete (unit : Nat) (line : Nat) (hist : List (List Nat)) (first : List Nat) (temp : Int) (volt : Nat)
  /-- CAL_TIMEOUT (R157; unit as in CAL_COLLECTION_COMPLETE). -/
  | calTimeout (unit : Nat) (line : Nat)
  /-- WAITING_TIMER_EXPIRY (R194, R195). -/
  | waitingTimerExpiry (ref : Nat)
  /-- HANDOVER_WINDOW_CLOSE (R203, R221, R230). -/
  | handoverWindowClose
  /-- DWELL_COMPLETE (R221, R228). -/
  | dwellComplete
  /-- SERVO_UNLOCK (R221). -/
  | servoUnlock
  /-- STEER_UPDATE (R233 to R236). -/
  | steerUpdate
  /-- STEER_REPLY (R238). -/
  | steerReply (octets : List Nat)
  /-- STEER_REPLY_TIMEOUT (R238). -/
  | steerReplyTimeout
  /-- OSC_MODEL_FIT (R240 to R242). -/
  | oscModelFit
  /-- APLL0_LOCK (R221, R257). -/
  | apll0Lock
  /-- APLL0_LOCK_TIMEOUT (R257). -/
  | apll0LockTimeout
  /-- APLL0_RETURN_TO_MOSC (R257, R571). -/
  | apll0ReturnToMosc
  /-- APLL_BAND_FOUND (R261). -/
  | apllBandFound (a : Nat)
  /-- APLL_LOCK (R261, R265). -/
  | apllLock (a : Nat)
  /-- APLL_LOCK_TIMEOUT (R261). -/
  | apllLockTimeout (a : Nat)
  /-- APLL_LOCK_LOSS (R261). -/
  | apllLockLoss (a : Nat)
  /-- APLL_PLAN_WRITE (R259). -/
  | apllPlanWrite (h : Head) (items : List Item)
  /-- OUTPUT_ACTIVITY_LOSS (R273; 0x30 + n a clock output, 0x40 + p a pulse output). -/
  | outputActivityLoss (code : Nat)
  /-- ZTOD_SEND (R281). -/
  | ztodSend (m : Nat)
  /-- TODI_MESSAGE (R282, R284). -/
  | todiMessage (k : Nat) (octets : List Nat)
  /-- TODI_OCTET_GAP (R284). -/
  | todiOctetGap (k : Nat)
  /-- GNSS_STATE_EVALUATE (R301, R325, R326). -/
  | gnssStateEvaluate (sec : GnssSecond)
  /-- CHANNEL_ALLOCATION (R298, R299). -/
  | channelAllocation (sky : List SkySat)
  /-- SAMPLE_CLOCK_FAULT (R296). -/
  | sampleClockFault (b : Nat)
  /-- GNSS_SOLUTION (R301 to R310). -/
  | gnssSolution (e : GnssEpoch)
  /-- G0_RECORD_POST (R311). -/
  | g0RecordPost
  /-- POSITION_CHECK (R314; in 0.1 mm). -/
  | positionCheck (x : Int) (y : Int) (z : Int)
  /-- NOTCH_ENGAGE (R323, R324). -/
  | notchEngage (b : Nat) (hz : Int)
  /-- NOTCH_DISENGAGE (R324). -/
  | notchDisengage (b : Nat) (k : Nat)
  /-- OSNMA_TAG_VERIFY (R318 to R320). -/
  | osnmaTagVerify (t : OsnmaTag)
  /-- DSM_PKR_RECEIVE (R319). -/
  | dsmPkrReceive (keyId : Nat) (material : List Nat) (proof : List Nat)
  /-- TRUSTED_TIME_UPDATE (R321, R322). -/
  | trustedTimeUpdate
  /-- AUDIT_RECORD_STORE (R366 to R370). -/
  | auditRecordStore
  /-- AUDIT_RECORD_LOST (R368). -/
  | auditRecordLost
  /-- AUDIT_CHECKPOINT (R369). -/
  | auditCheckpoint
  /-- PORT_CALIBRATION_DONE (R377, R385 to R387). -/
  | portCalibrationDone (q : Nat) (lanes : List LaneDelays)
  /-- PORT_CAL_INCOMPLETE (R385, R386). -/
  | portCalIncomplete (q : Nat)
  /-- PORT_UP (R390). -/
  | portUp (q : Nat)
  /-- PORT_DOWN (R390). -/
  | portDown (q : Nat)
  /-- SCHEDULED_SEND (R430, R434, R460, R461). -/
  | scheduledSend (m : Send) (late : Bool)
  /-- RECEIVED_FRAME (R402 to R406). -/
  | receivedFrame (f : RxFrame)
  /-- PAUSE_RECEIVE (R396). -/
  | pauseReceive (q : Nat) (quanta : Nat)
  /-- PFC_RECEIVE (R396). -/
  | pfcReceive (q : Nat) (enable : Nat) (times : List Nat)
  /-- PAUSE_EXPIRY (R396). -/
  | pauseExpiry (q : Nat)
  /-- STAMP_HOLD_EXPIRY (R400). -/
  | stampHoldExpiry (q : Nat)
  /-- STAMP_QUEUE_DRAIN (R401). -/
  | stampQueueDrain (q : Nat)
  /-- HOST_FRAME_FOR_TRANSMISSION (R399, R406, R408). -/
  | hostFrameForTransmission (f : HostFrame)
  /-- ARP_REQUEST (R427; q 6 is MGT). -/
  | arpRequest (q : Nat) (address : Nat) (toward : Nat)
  /-- NEIGHBOUR_SOLICITATION (R427; q 6 is MGT). -/
  | neighbourSolicitation (q : Nat) (address : Nat) (toward : Nat)
  /-- ESMC_PDU_RECEIVE (R410). -/
  | esmcPduReceive (q : Nat) (ssm : Nat) (enhanced : Option Nat)
  /-- ESMC_TIMEOUT (R410). -/
  | esmcTimeout (q : Nat)
  /-- ESMC_INFORMATION_PDU (R412). -/
  | esmcInformationPdu (q : Nat)
  /-- DELAY_REQ (R437, R438). -/
  | delayReq (m : PtpRx)
  /-- REQUEST_UNICAST_TRANSMISSION (R435). -/
  | requestUnicastTransmission (m : PtpRx) (tlvs : List UnicastTlv)
  /-- CANCEL_UNICAST_TRANSMISSION (R436). -/
  | cancelUnicastTransmission (m : PtpRx) (types : List Nat)
  /-- GRANT_LAPSE (R436). -/
  | grantLapse (slot : Nat) (type : Nat)
  /-- NTP_REQUEST (R450, R452). -/
  | ntpRequest (m : NtpRx)
  /-- NTS_REQUEST (R454). -/
  | ntsRequest (m : NtsRx)
  /-- NREF_GRANT_RECEIVE (R445). -/
  | nrefGrantReceive (n : Nat) (m : PtpRx) (tlvs : List UnicastTlv)
  /-- NREF_NEGOTIATION_TIMEOUT (R445). -/
  | nrefNegotiationTimeout (n : Nat)
  /-- NREF_FAULT_RETRY (R445). -/
  | nrefFaultRetry (n : Nat)
  /-- NREF_RENEWAL (R445). -/
  | nrefRenewal (n : Nat) (type : Nat)
  /-- NREF_GRANT_LOSS (R445). -/
  | nrefGrantLoss (n : Nat) (type : Nat) (cancelled : Bool)
  /-- NREF_SYNC_RECEIVE (R446, R447). -/
  | nrefSyncReceive (n : Nat) (m : PtpRx) (followUp : Bool) (twoStep : Bool) (t1 : Nat) (bound : Option BoundTlv)
  /-- NREF_DELAY_RESP_RECEIVE (R446 to R448). -/
  | nrefDelayRespReceive (n : Nat) (m : PtpRx) (t4 : Nat)
  /-- NREF_ANNOUNCE_RECEIVE (R449). -/
  | nrefAnnounceReceive (n : Nat) (m : PtpRx) (a : AnnounceRx) (bound : Option BoundTlv)
  /-- OPEN (R68 to R73). -/
  | qopOpen (h : Head) (level : Nat) (keyRef : Nat) (hostNonce : Nat)
  /-- PROVE (R69, R70, R74). -/
  | qopProve (h : Head)
  /-- CHALLENGE_TIMEOUT (R71). -/
  | challengeTimeout (slot : Nat)
  /-- READ (R61, R65, R66). -/
  | qopRead (h : Head) (l : List (Nat × Nat))
  /-- WRITE (R38, R39, R65). -/
  | qopWrite (h : Head) (items : List Item)
  /-- SUBSCRIBE (R85, R86). -/
  | qopSubscribe (h : Head) (subType : Nat) (period : Nat) (sel : Selection)
  /-- UNSUBSCRIBE (R64). -/
  | qopUnsubscribe (h : Head) (id : Nat)
  /-- KEEPALIVE (R64). -/
  | qopKeepalive (h : Head)
  /-- CLOSE (R64). -/
  | qopClose (h : Head)
  /-- IDLE_TIMEOUT (R76). -/
  | idleTimeout (slot : Nat)
  /-- NOTIFY_PERIODIC (R86, R87). -/
  | notifyPeriodic (slot : Nat) (id : Nat)
  /-- NOTIFY_EVENT (R86, R89). -/
  | notifyEvent (slot : Nat) (id : Nat)
  /-- SPI_FRAME_ABORT (R83). -/
  | spiFrameAbort
  /-- SEQ_STATS_CLEAR (R40). -/
  | seqStatsClear (h : Head) (v : Value)
  /-- DEVICE_RESET (R97). -/
  | deviceReset (h : Head) (v : Value)
  /-- DICTIONARY_COMMAND_RESET (R97, R583). -/
  | dictionaryCommandReset
  /-- STORE_COMMIT (R90). -/
  | storeCommit (h : Head) (v : Value)
  /-- STORE_COMMIT_DONE (R90, R91). -/
  | storeCommitDone (ok : Bool)
  /-- STORE_REVERT (R96). -/
  | storeRevert (h : Head) (v : Value)
  /-- STORE_ERASE (R96). -/
  | storeErase (h : Head) (v : Value)
  /-- QOP_COUNTERS_CLEAR (R98). -/
  | qopCountersClear (h : Head) (v : Value)
  /-- MGT_ADDRESS_WRITE (R98). -/
  | mgtAddressWrite (h : Head) (items : List Item)
  /-- LIFE_CYCLE_TO_PROVISIONING (R500). -/
  | lifeCycleToProvisioning (h : Head)
  /-- LIFE_CYCLE_TO_SERVICE (R500). -/
  | lifeCycleToService (h : Head)
  /-- LIFE_CYCLE_TO_MAINTENANCE (R500). -/
  | lifeCycleToMaintenance (h : Head)
  /-- LIFE_CYCLE_TO_BLANK (R500). -/
  | lifeCycleToBlank (h : Head)
  /-- LIFE_CYCLE_TO_RETIRED (R500). -/
  | lifeCycleToRetired (h : Head)
  /-- LIFE_CYCLE_CHANGE (R500). -/
  | lifeCycleChange (ok : Bool)
  /-- TIME_SET (R110). -/
  | timeSet (h : Head) (v : Value)
  /-- TIME_ADJUST (R111). -/
  | timeAdjust (h : Head) (v : Value)
  /-- HOST_LEAP_INSERT (R119). -/
  | hostLeapInsert (h : Head) (time : Nat)
  /-- HOST_LEAP_DELETE (R119). -/
  | hostLeapDelete (h : Head) (time : Nat)
  /-- HOST_LEAP_WITHDRAW (R119). -/
  | hostLeapWithdraw (h : Head) (time : Nat)
  /-- CH_SOURCE (R721). -/
  | chSource (h : Head) (items : List Item)
  /-- CH_RELEASE (R54). -/
  | chRelease (h : Head) (c : Nat) (v : Value)
  /-- WATERSHED_FORCED_REF (R202). -/
  | watershedForcedRef (h : Head) (v : Value)
  /-- WATERSHED_STATS_CLEAR (R215). -/
  | watershedStatsClear (h : Head) (v : Value)
  /-- OSC_MODEL_RESET (R242). -/
  | oscModelReset (h : Head) (v : Value)
  /-- APLL_RELEASE (R54, R261). -/
  | apllRelease (h : Head) (a : Nat) (v : Value)
  /-- OUT_REALIGN (R265). -/
  | outRealign (h : Head) (n : Nat) (v : Value)
  /-- OUT_RELEASE (R54). -/
  | outRelease (h : Head) (n : Nat) (v : Value)
  /-- PLS_RELEASE (R54). -/
  | plsRelease (h : Head) (p : Nat) (v : Value)
  /-- GNSS_RELEASE (R301). -/
  | gnssRelease (h : Head) (v : Value)
  /-- GNSS_SURVEY_RESTART (R301, R303). -/
  | gnssSurveyRestart (h : Head) (v : Value)
  /-- GNSS_TRUSTED_TIME_SET (R321). -/
  | gnssTrustedTimeSet (h : Head) (v : Value)
  /-- GNSS_BANK_RELEASE (R336). -/
  | gnssBankRelease (h : Head) (v : Value)
  /-- PORT_COUNTERS_CLEAR (R416). -/
  | portCountersClear (h : Head) (v : Value)
  /-- EXC_BIND (R407). -/
  | excBind (h : Head) (v : Value)
  /-- PORT_RECALIBRATE (R390). -/
  | portRecalibrate (h : Head) (q : Nat) (v : Value)
  /-- PORT_RELEASE (R54). -/
  | portRelease (h : Head) (q : Nat) (v : Value)
  /-- PORT_ENABLE_WRITE (R390). -/
  | portEnableWrite (h : Head) (items : List Item)
  /-- CRYPTO_LANE_RELEASE (R54). -/
  | cryptoLaneRelease (h : Head) (v : Value)
  /-- CLIENT_DELETE (R466). -/
  | clientDelete (h : Head) (v : Value)
  /-- PROTO_COUNTERS_CLEAR (R466). -/
  | protoCountersClear (h : Head) (v : Value)
  /-- KEY_LOAD (R479). -/
  | keyLoad (h : Head) (v : Value)
  /-- KEY_DELETE (R479). -/
  | keyDelete (h : Head) (v : Value)
  /-- KEY_REDERIVE_ALL (R488). -/
  | keyRederiveAll (h : Head) (v : Value)
  /-- KEY_SLOT_SPEC (R486, R488). -/
  | keySlotSpec (h : Head) (items : List Item)
  /-- KEY_STORE_COMMIT_DONE (R480, R482). -/
  | keyStoreCommitDone (ok : Bool)
  /-- KEY_STORE_PACING_END (R483). -/
  | keyStorePacingEnd
  /-- KEY_EXPIRY (R493). -/
  | keyExpiry (node : Nat)
  /-- BEAT_RECEIVE (R514, R515, R517). -/
  | beatReceive (p : SkPacket) (b : Beat)
  /-- REPLICATION_PACKET (R514, R519). -/
  | replicationPacket (p : SkPacket) (x : Replication)
  /-- KHOLD_INPUT_CHANGE (R528 to R530; the levels of KHOLD_I and KHOLD_IB). -/
  | kholdInputChange (high : Bool) (inverse : Bool)
  /-- KEEPER_TAKEOVER (R532, R533). -/
  | keeperTakeover
  /-- KEEPER_START_WAIT_EXPIRY (R533). -/
  | keeperStartWaitExpiry
  /-- HAND_OVER_RELEASE (R533). -/
  | handOverRelease
  /-- HAND_OVER_AT (R533). -/
  | handOverAt
  /-- HAND_OVER_ABANDON (R542). -/
  | handOverAbandon
  /-- REVERT_HOLD_EXPIRY (R542). -/
  | revertHoldExpiry
  /-- KEEPER_SWITCHOVER (R542). -/
  | keeperSwitchover (h : Head) (v : Value)
  /-- KEEPER_REJOIN (R533). -/
  | keeperRejoin (h : Head) (v : Value)
  /-- ADDRESS_ANNOUNCE (R545). -/
  | addressAnnounce
  /-- SKOVWIN_CAL_DONE (R520, R521). -/
  | skovwinCalDone (m : Nat) (lane : Option LaneDelays) (distribution : Int)
  /-- SKOVWIN_PORT_UP (R520). -/
  | skovwinPortUp (m : Nat)
  /-- SKOVWIN_LINK_DOWN (R520). -/
  | skovwinLinkDown (m : Nat) (loss : Bool)
  /-- SK_FAULT_CLEAR (R520). -/
  | skFaultClear (h : Head) (m : Nat) (v : Value)
  /-- SK_RELEASE (R54). -/
  | skRelease (h : Head) (m : Nat) (v : Value)
  /-- POWER_ON_RESET (R583, R584). -/
  | powerOnReset (cascId : Nat) (keepPref : Bool) (pinLow : Bool)
  /-- SUPPLY_RESET (R583). -/
  | supplyReset
  /-- PIN_RESET (R583). -/
  | pinReset
  /-- WATCHDOG_RESET (R583, R719). -/
  | watchdogReset
  /-- DOMAIN_POWER_GOOD (R556; domains by their bit (R595)). -/
  | domainPowerGood (x : Nat)
  /-- START_UP_TEST_END (R666, R667). -/
  | startUpTestEnd (x : TestResults)
  /-- DRAM_TRAINING_DONE (R607, R608). -/
  | dramTrainingDone (first : Bool) (second : Bool) (selfCheck : Bool)
  /-- FILL_COMPLETE (R606). -/
  | fillComplete (micros : Nat)
  /-- BOOT_COUNT_COMMIT (R668, R671). -/
  | bootCountCommit (ok : Bool)
  /-- FIRST_FRAME_OF_TIME_SERVICE (R94, R588; µs since the release of the reset, and ns since the coarse counter was last brought up to date). -/
  | firstFrame (bootMicros : Nat) (coarseNs : Nat)
  /-- OP_STEP_UP (R31, R559). -/
  | opStepUp
  /-- OP_SETTLE_FAIL (R559). -/
  | opSettleFail (rail : Nat)
  /-- OP_STEP_DOWN (R31, R560). -/
  | opStepDown
  /-- PMBUS_FAULT (R562). -/
  | pmbusFault (address : Nat)
  /-- XO_QUALIFIED (R565). -/
  | xoQualified (estimate : Nat)
  /-- XO_FAIL (R566). -/
  | xoFail
  /-- XO_RESTART (R566). -/
  | xoRestart
  /-- SYS_CLOCK_TO_SPLL (R567). -/
  | sysClockToSpll
  /-- SYS_CLOCK_FALLBACK (R561, R567). -/
  | sysClockFallback
  /-- MOSC_QUALIFIED (R569). -/
  | moscQualified
  /-- MOSC_TRIP (R570). -/
  | moscTrip (cause : Nat)
  /-- MOSC_RETURN (R571). -/
  | moscReturn (h : Head) (v : Value)
  /-- FORCED_SWITCH (R573). -/
  | forcedSwitch (mux : Nat)
  /-- SUPPLY_WARNING (R576; the rails beyond their levels as a mask, the lowest voltage in µV). -/
  | supplyWarning (rails : Nat) (lowest : Nat)
  /-- SUPPLY_EPISODE_END (R578). -/
  | supplyEpisodeEnd
  /-- PASS_RESUME (R578). -/
  | passResume
  /-- THROTTLE_END (R582). -/
  | throttleEnd
  /-- SUPPLY_STATS_CLEAR (R594). -/
  | supplyStatsClear (h : Head) (v : Value)
  /-- RUN (R589). -/
  | run (h : Head)
  /-- WARM_HOLD (R589). -/
  | warmHold (h : Head)
  /-- DEEP_HOLD (R589). -/
  | deepHold (h : Head)
  /-- WAKE (R588, R589). -/
  | wake (pin : Bool) (ns : Nat)
  /-- MEM_READ (R597, R602). -/
  | memRead (op : BusOp) (octets : Nat)
  /-- MEM_WRITE (R598). -/
  | memWrite (op : BusOp) (data : List Nat) (last : Bool)
  /-- MASTER_RESET (R599, R623; the time to drain in ns). -/
  | masterReset (master : Nat) (outstanding : Nat) (time : Nat)
  /-- DRAIN_TIMEOUT (R624). -/
  | drainTimeout (master : Nat)
  /-- MEM_COUNTERS_CLEAR (R625). -/
  | memCountersClear (h : Head) (v : Value)
  /-- MEM_TEST_WRITE (R615). -/
  | memTestWrite (h : Head) (v : Value)
  /-- MEM_TEST_READ (R616). -/
  | memTestRead (h : Head) (v : Value)
  /-- PAIR_FAULT (R630, R641; sources with the capture of a source that no checker of the model presents). -/
  | pairFault (l : List (Nat × Nat))
  /-- REACTION_WINDOW_CLOSE (R642). -/
  | reactionWindowClose
  /-- RAIL_FAULT (R632). -/
  | railFault (n : Nat) (levels : Nat)
  /-- RAIL_FAULT_END (R632). -/
  | railFaultEnd (n : Nat)
  /-- DOMAIN_RESTART (R638). -/
  | domainRestart (x : Nat)
  /-- DOMAIN_RELEASE (R638). -/
  | domainRelease (h : Head) (v : Value)
  /-- EVT_ACKNOWLEDGE (R649). -/
  | evtAcknowledge (h : Head) (v : Value)
  /-- EVT_CLEAR (R653). -/
  | evtClear (h : Head) (n : Nat) (v : Value)
  /-- REFEREE_CLEAR_ALL (R652). -/
  | refereeClearAll (h : Head) (v : Value)
  /-- FAULT_INJECT_CHECK_BIT (R650). -/
  | faultInjectCheckBit (h : Head) (source : Nat) (count : Nat) (unit : Nat) (options : Nat)
  /-- FAULT_INJECT_PAIR (R650). -/
  | faultInjectPair (h : Head) (source : Nat) (count : Nat) (unit : Nat) (options : Nat)
  /-- FAULT_INJECT_RAIL (R650). -/
  | faultInjectRail (h : Head) (source : Nat) (count : Nat) (unit : Nat) (options : Nat)
  /-- SHUTDOWN_REQUEST (R586, R659). -/
  | shutdownRequest
  /-- SHUTDOWN_COMMITTING (R659). -/
  | shutdownCommitting
  /-- SHUTDOWN_TESTING (R663, R664). -/
  | shutdownTesting (x : TestResults)
  /-- SHUTDOWN_RECORDING (R659, R665). -/
  | shutdownRecording (micros : Nat) (ok : Bool)
  /-- SHUTDOWN_TRUNCATE (R660). -/
  | shutdownTruncate (tested : Nat) (micros : Nat) (ok : Bool)
  /-- LIFETIME_COMMIT (R671). -/
  | lifetimeCommit (ok : Bool)
  /-- PC_WINDOW_CLOSE (R675). -/
  | pcWindowClose (n : Nat)
  /-- PC_CONFIGURATION_WRITE (R674, R675). -/
  | pcConfigurationWrite (h : Head) (items : List Item)
  /-- PC_SNAPSHOT (R676). -/
  | pcSnapshot (h : Head) (v : Value)
  /-- PC_CLEAR_ALL (R676). -/
  | pcClearAll (h : Head) (v : Value)
  /-- PC_CLEAR (R676). -/
  | pcClear (h : Head) (n : Nat) (v : Value)
  /-- START_SERVICE_RELEASE (R685). -/
  | startServiceRelease (h : Head) (v : Value)
  /-- AUDIT_ARCHIVE_DAYS (R370). -/
  | auditArchiveDays (h : Head) (v : Value)
  /-- RESET_RELEASE (R700, R701). -/
  | resetRelease
  /-- PCS_STATUS_CHANGE (R384, R390, R419). -/
  | pcsStatusChange (q : Nat) (x : PcsStatus)
  /-- MGT_LINK_CHANGE (R414; the speed in Mb/s). -/
  | mgtLinkChange (up : Bool) (speed : Nat)
  /-- OUTBOUND_FRAME_SHIFTED_OUT (R84). -/
  | outboundFrameShiftedOut
  /-- HOST_SPI_NOISE_FRAME (R83). -/
  | hostSpiNoiseFrame
  /-- PAIR_QUIET (R630). -/
  | pairQuiet (n : Nat)
  /-- PLS_PULSE_END (R275). -/
  | plsPulseEnd (p : Nat)
  deriving DecidableEq, Repr

end Sys2Proof
end

