-- ==== Sys2Proof/Config.lean ====
section
/-!
DEFINITION. Config.lean: what an implementation fixes and what the spec leaves open.

Every constant here has no body: nothing can be proved about its value, so a claim holds whatever it is.
Log entry 2 lists them.
-/
namespace Sys2Proof.Config

/-- Per-device contents of an entry marked "per device" or strapped, by index and subindex (DESIGN CHOICE, log entry 3). -/
opaque deviceData : Nat → Nat → Nat

/-- Per-release contents of an entry marked "per release", by index and subindex (DESIGN CHOICE, log entry 3). -/
opaque releaseData : Nat → Nat → Nat

/-- The instant inside the frame at which a command that states none acts, by the free counter (DESIGN CHOICE, log entry 4). -/
opaque instant : Nat → Nat

/-- A free value of the given class and place, by the free counter (DESIGN CHOICE, log entry 4). -/
opaque freeValue : Nat → Nat → Nat

/-- Random octets from the device's random source, read as a number: width in bits, free counter (DESIGN CHOICE, log entry 4). -/
opaque random : Nat → Nat → Nat

/-- The exponential function on rationals, as this implementation evaluates it (DESIGN CHOICE, log entry 6). -/
opaque exp : Rat → Rat

/-- The square root on rationals, as this implementation evaluates it (DESIGN CHOICE, log entry 6). -/
opaque sqrt : Rat → Rat

/-- The constant pi as this implementation holds it (DESIGN CHOICE, log entry 6). -/
opaque pi : Rat

/-- The natural logarithm on rationals, as this implementation evaluates it (DESIGN CHOICE, log entry 6). -/
opaque log : Rat → Rat

/-- 1 / sin of an angle in degrees, as this implementation evaluates it (DESIGN CHOICE, log entry 6). -/
opaque cosecant : Rat → Rat

/-- The OSNMA verification of R318, as the OSNMA SIS ICD defines it: stored or held public key, and the tag's material:
TESLA key, ADKD, satellite, data, tag and its length (DEDUCED, log entry 5). -/
opaque osnmaTag : List Nat → Nat → Nat → Nat → List Nat → Nat → Nat → Bool

/-- The Merkle proof of a DSM-PKR against a stored root (R319, DEDUCED, log entry 5). -/
opaque merkleProof : List Nat → Nat → List Nat → List Nat → Bool

/-- The keyed hashes of the client and rate tables (R440, R452; DESIGN CHOICE, log entry 2): key, which hash, the hashed octets. -/
opaque tableHash : Nat → Nat → List Nat → Nat

/-- The part of a target that a master's window opens at an offset, for the windows whose place the spec does not give
(R618, DESIGN CHOICE, log entry 55): 0 none, 1 stash, 2 message buffers, 3 client rate state, 4 NTP buckets, 5 audit archive, 6 mailbox,
log ring, event log, QOP buffers or own block. -/
opaque window : Nat → Nat → Nat → Nat

/-- The octets of a line of full rate state or full NTP buckets (R610, DESIGN CHOICE, log entry 55). -/
opaque fullLine : Nat → Nat → Nat

/-- Base address of a target in the matrix address space (R625, DESIGN CHOICE, log entry 55). -/
opaque targetBase : Nat → Nat

/-- Whether a DRAM line lies inside the audit archive (R605, R615, DESIGN CHOICE, log entry 55): target, line, AuditArchiveDays. -/
opaque archiveLine : Nat → Nat → Nat → Bool

/-- Number of bits of the test access port's instruction register (R695, DESIGN CHOICE, log entry 126). -/
opaque tapBits : Nat

/-- Code of IDCODE, SAMPLE/PRELOAD and EXTEST, 0 to 2, in the instruction register (R695, DESIGN CHOICE, log entry 126). -/
opaque tapCode : Nat → Nat

/-- The cells of the boundary-scan register, first out first, each by the row of R693's pin groups whose pin it stands at (R695,
DESIGN CHOICE, log entry 126). -/
opaque boundaryCells : List Nat

/-- Inner check octet of a 64-bit word (R600, DESIGN CHOICE, log entry 56). -/
opaque innerCheck : Nat → Nat

/-- Outer check symbols of a line (R601, DESIGN CHOICE, log entry 56): target, line address, data. -/
opaque outerCheck : Nat → Nat → Nat → Nat

end Sys2Proof.Config
end

