-- ==== Sys2Proof/Machine/Device.lean ====
section
/-!
DEFINITION. The device's state below the queue: the registers, the lists and the queues the spec gives it.

Every single-valued register, host-visible or internal, is one place of `regs` (see Entry.lean and Hidden.lean); an
exact internal quantity is one place of `rats`. What has a varying number of parts is a list of records here.
-/
namespace Sys2Proof.Machine

/-- What the sequencer latched at the last frame start, and the instant of the command in hand, in CT64 units since
the epoch (with the 2^-56 ns below the frame start's last unit): the model's own read copy of the timescale (DESIGN CHOICE, log entry 7). -/
structure View where
  now : Nat
  frameStart : Nat
  fraction : Nat
  frames : Nat
  deriving DecidableEq, Repr

/-- A pending step or set (R109, R110): its size and the frame start at which it applies, in CT64 units. -/
structure Correction where
  isSet : Bool
  size : Int
  due : Nat
  deriving DecidableEq, Repr

/-- A raising that a checker presents on its dual-rail pair (R628, R630): source, the 8 capture octets as a number,
the rail-fault and injected marks, and whether an injected raising acts (R650, R651). -/
structure Post where
  source : Nat
  detail : Nat
  railFault : Bool
  injected : Bool
  act : Bool
  deriving DecidableEq, Repr

/-- An open reaction window (R642): the raising that opened it, its expected set, and the last frame it covers. -/
structure Window where
  source : Nat
  sequence : Nat
  expected : List Nat
  lastFrame : Nat
  deriving DecidableEq, Repr

/-- One item of a Response or Notify (R63). -/
structure ReplyItem where
  index : Nat
  sub : Nat
  status : Nat
  octets : Nat
  value : Nat
  deriving DecidableEq, Repr

/-- A message the device sends in a QOP conversation (R63): Type, Status, items, and the fields that only one type
has (Challenge nonce, Accept level and timeout, Subscribe identifier, Notify loss count, time and event records). -/
structure QopMessage where
  type : Nat
  session : Nat
  sequence : Nat
  requestTag : Nat
  status : Nat
  items : List ReplyItem
  extra : List Nat
  tag : Nat
  deriving DecidableEq, Repr

/-- A subscription of a session (R85 to R89). -/
structure Subscription where
  id : Nat
  subType : Nat
  periodFrames : Nat
  sel : Selection
  lastFrame : Nat
  lost : Nat
  lastValues : List Nat
  waiting : List (List Nat)
  deriving DecidableEq, Repr

/-- A request whose Response the session keeps (R77). -/
structure Kept where
  requestTag : Nat
  body : Body
  reply : QopMessage
  deriving DecidableEq, Repr

/-- A QOP session slot in use: a pending handshake or an open session (R68 to R79). -/
structure Session where
  slot : Nat
  id : Nat
  onSpi : Bool
  peer : Peer
  level : Nat
  unauthenticated : Bool
  isOpen : Bool
  hostNonce : Nat
  deviceNonce : Nat
  hostKey : Nat
  deviceKey : Nat
  highest : Nat
  seen : List Nat
  sent : Nat
  kept : List Kept
  subs : List Subscription
  lastFrame : Nat
  auditCursor : Option Nat
  clientCursor : Nat
  second : Nat
  served : Nat
  deriving DecidableEq, Repr

/-- An accepted Write waiting for its S0 (R38, R39, R62). `answer` holds the Response still owed when an item is one
the sequencer may also write (R40): session, request tag and body. -/
structure Staged where
  items : List Item
  answer : Option (Nat × Nat × Body)
  origin : Nat
  deriving DecidableEq, Repr

/-- One copy of the configuration image (R90 to R94): generation, whether its format and CRC check, and its values. -/
structure StoreCopy where
  generation : Nat
  valid : Bool
  values : List (Nat × Nat)
  deriving DecidableEq, Repr


/-- A stamp a channel has delivered and S0 has not collected: channel (16 to 18 the link channels), source code, CT64
units since the epoch, and the mark of R145. -/
structure Stamp where
  channel : Nat
  source : Nat
  time : Nat
  moved : Bool
  deriving DecidableEq, Repr

/-- A G0 record between the engine and S0 (R311 to R313): epoch second, x in CT64 units, σ_b in fs, e_G0, flags,
satellites, systems, UTC data, the DiscontinuityCount at the epoch, and the four biases in CT64 units. -/
structure G0Record where
  epoch : Nat
  offset : Int
  sigma : Nat
  bound : Nat
  flags : Nat
  sats : Nat
  systems : Nat
  utcOffset : Int
  leapKind : Nat
  leapTime : Nat
  disc : Nat
  biases : List Int
  deriving DecidableEq, Repr

/-- What the engine keeps of a satellite between epochs (R305, R307, R328): system and PRN as one number, its band
set, the last epoch, the epochs since smoothing restarted, S_IF and L_IF in metres, code minus carrier of 300 s newest first, the
geometry-free delay from code and from carrier of 61 epochs, the epoch until which it is excluded, and code minus carrier
on each band in metres (R299). -/
structure SatTrack where
  key : Nat
  bands : Nat
  epoch : Nat
  n : Nat
  smooth : Rat
  carrier : Rat
  cmc : List Rat
  iono : List (Rat × Rat)
  outUntil : Nat
  bandCmc : Rat × Rat
  deriving DecidableEq, Repr

/-- The estimated bias of a system in seconds (R308): its mean and variance. -/
structure SysBias where
  system : Nat
  mean : Rat
  var : Rat
  deriving DecidableEq, Repr

/-- Navigation data under OSNMA (R319, R320): satellite, ADKD, the data, the tag bits verified, whether a tag failed, and the public
key and chain of the tags. -/
structure OsnmaData where
  prn : Nat
  adkd : Nat
  data : List Nat
  bits : Nat
  failed : Bool
  keyId : Nat
  chainId : Nat
  deriving DecidableEq, Repr

/-- A stored key (R474, R478, R505): the published fields, its material read as a number of the kind's length, and the
warnings already raised (R495). -/
structure KeyRec where
  index : Nat
  kind : Nat
  usage : Nat
  state : Nat
  generation : Nat
  uses : Nat
  limit : Nat
  ceiling : Nat
  expiryKind : Nat
  notAfter : Nat
  loadTime : Nat
  material : Nat
  warned : Nat
  deriving DecidableEq, Repr

/-- One image position of the key store (R480): its generation, whether its CRC checks, the life-cycle state, the keys, and
the generations of the Empty records by index. -/
structure KeyImage where
  position : Nat
  generation : Nat
  valid : Bool
  lifeCycle : Nat
  keys : List KeyRec
  empties : List (Nat × Nat)
  deriving DecidableEq, Repr

/-- What a key store commit does (R479, R490, R493, R494, R500). -/
inductive KeyJob where
  | load (k : KeyRec) (rederive : Bool)
  | delete (index : Nat)
  | ceiling (index value : Nat)
  | expire (index : Nat)
  | lifeCycle (state : Nat)
  deriving DecidableEq, Repr

/-- A working slot that has a specification (R487, R497): status fields, the derived material, the generations of its
ancestors at its derivation by node (stored key i, or 0x8000 + slot), and the warnings raised. -/
structure WorkSlot where
  slot : Nat
  state : Nat
  cause : Nat
  depth : Nat
  generation : Nat
  uses : Nat
  derivedAt : Nat
  check : Nat
  material : Nat
  lineage : List (Nat × Nat)
  warned : Nat
  deriving DecidableEq, Repr


/-- Where a message goes and from where (R426): transport (0 L2, 1 UDP/IPv4, 2 UDP/IPv6), destination MAC, source and
destination address of 16 octets, UDP port, hop limit and DSCP. -/
structure Route where
  transport : Nat
  mac : Nat
  source : Nat
  address : Nat
  udp : Nat
  hop : Nat
  dscp : Nat
  deriving DecidableEq, Repr

/-- A PTP message that the device sends (R428): header fields, and the octets after the header. -/
structure PtpMessage where
  type : Nat
  domain : Nat
  flags : Nat
  correction : Int
  identity : Nat
  portNumber : Nat
  sequence : Nat
  interval : Int
  body : List Nat
  deriving DecidableEq, Repr

/-- An NTP response (R450, R452): header fields, and the octets of its extension fields. -/
structure NtpMessage where
  leap : Nat
  version : Nat
  stratum : Nat
  poll : Int
  rootDispersion : Nat
  referenceId : Nat
  reference : Nat
  origin : Nat
  receive : Nat
  transmit : Nat
  extensions : List Nat
  deriving DecidableEq, Repr

/-- What a frame carries: a PTP or NTP message; an answer or announcement of an address and its MAC (R427, R545); an ESMC
PDU with its event flag, QL and, with the extended TLV, the clock identity (R412); a host frame with its SeqTag (R406). -/
inductive Payload where
  | ptp (r : Route) (m : PtpMessage)
  | ntp (r : Route) (m : NtpMessage)
  | resolved (ip address mac toward : Nat)
  | esmc (event : Bool) (ql : Nat) (identity : Option Nat)
  | host (tag : Nat)
  deriving DecidableEq, Repr

/-- A frame leaves a port (R376, R393, R402): its octets with FCS, egress time, source MAC, inserted tags as (TPID, TCI),
content, and whether its FCS is inverted (R395). -/
structure SentFrame where
  port : Nat
  octets : Nat
  time : Nat
  mac : Nat
  tags : List (Nat × Nat)
  payload : Payload
  stomped : Bool
  deriving DecidableEq, Repr

/-- What becomes of the egress time of a PTP message (R394): nothing, originTimestamp, kept for the Follow_Up of a
destination, or kept for the exchange of an NREF. -/
inductive Fill where
  | none
  | origin
  | keep (destination : Nat)
  | exchange (r : Nat)
  deriving DecidableEq, Repr

/-- What an NTS response needs at its commit (R454): the Unique Identifier's body, the S2C key, the new cookies. -/
structure NtsAnswer where
  id : List Nat
  key : Nat
  cookies : List (List Nat)
  deriving DecidableEq, Repr

/-- What waits to be committed on a port (R393, R396). The sender of a PTP message is its instance, or 8 + r. -/
inductive TxWhat where
  | ptp (sender sa : Nat) (r : Route) (m : PtpMessage) (fill : Fill)
  | ntp (r : Route) (m : NtpMessage) (nts : Option NtsAnswer)
  | plain (p : Payload)
  | host (tag : Nat) (stamp : Bool)
  deriving DecidableEq, Repr

/-- A frame before its commit: port, priority, octets with FCS where they are known before it, and whether the host
sends it. -/
structure TxJob where
  port : Nat
  priority : Nat
  octets : Nat
  fromHost : Bool
  late : Bool
  what : TxWhat
  deriving DecidableEq, Repr

/-- An entry of a transmit time-stamp queue (R398): kind, port, SeqTag, t_tx or LastTag, Count, when it was made. -/
structure StampEntry where
  kind : Nat
  port : Nat
  tag : Nat
  value : Nat
  count : Nat
  made : Nat
  deriving DecidableEq, Repr

/-- A stamp-requesting host frame that is held (R399), and when its hold ends; 0 behind the first of its port. -/
structure HeldFrame where
  job : TxJob
  deadline : Nat
  deriving DecidableEq, Repr

/-- An exception datagram to the bound host (R401, R406): address, UDP port, kind, data port, reason, octets after the
header, SeqTag, Stamp, and the entries of Kind 0x03. -/
structure ExcDatagram where
  address : Nat
  udpPort : Nat
  kind : Nat
  port : Nat
  reason : Nat
  length : Nat
  tag : Nat
  stamp : Nat
  entries : List StampEntry
  deriving DecidableEq, Repr

/-- A client record (R439) with its slot; the grants as intervals, 0x7F for none. -/
structure Client where
  slot : Nat
  authSeen : Bool
  inst : Nat
  port : Nat
  transport : Nat
  mac : Nat
  address : Nat
  identity : Nat
  logAnnounce : Int
  logSync : Int
  logDelayResp : Int
  sendPhase : Nat
  announceExpiry : Nat
  syncExpiry : Nat
  delayRespExpiry : Nat
  syncSeqBase : Nat
  lastDelayReqSeq : Nat
  lastSignallingSeq : Nat
  grantSecond : Nat
  deriving DecidableEq, Repr

/-- Rate state of a client, by slot (R437, R442): Delay_Req tokens and the instant they were counted at; the global frame
from which a new grant takes effect, for Announce and Sync (R433), with the Sync interval and base in force until then. -/
structure ClientRate where
  slot : Nat
  tokens : Rat
  time : Nat
  announceFrom : Nat
  syncFrom : Nat
  oldLog : Int
  oldBase : Nat
  deriving DecidableEq, Repr

/-- Signalling TLVs waiting for a destination (R431): sender (an instance, or 8 + r), port, route, target port identity,
TLV octets, and the global frame of the last message to it, plus one. -/
structure Signalling where
  sender : Nat
  port : Nat
  route : Route
  target : Nat
  tlvs : List (List Nat)
  lastFrame : Nat
  deriving DecidableEq, Repr

/-- A Sync an NREF holds (R446): sequenceId, t2 and t1 in CT64 units, corrections in 2^-16 ns, its authentication, and
whether its Follow_Up is awaited. -/
structure NrefSync where
  sequence : Nat
  t2 : Nat
  t1 : Nat
  correction : Int
  auth : Bool
  waiting : Bool
  deriving DecidableEq, Repr

/-- What an NREF holds (R445 to R449): when it entered its state, grants as (message type, interval, second granted,
duration), Syncs newest first, Delay_Reqs sent as (sequenceId, t3), whether the Announce in force was authenticated, and
the last authenticated bound TLV. -/
structure NrefRun where
  ref : Nat
  since : Nat
  grants : List (Nat × Int × Nat × Nat)
  renewed : List Nat
  syncs : List NrefSync
  requests : List (Nat × Nat)
  announceAuth : Bool
  bound : Option BoundTlv
  deriving DecidableEq, Repr

/-- A bucket of the NTP rate table (R452, R455): tokens, when they were counted, and the instants of its last RATE kiss
and NTS NAK, plus one. -/
structure NtpBucket where
  bucket : Nat
  tokens : Rat
  time : Nat
  kissed : Nat
  refused : Nat
  deriving DecidableEq, Repr

/-- Received work that waits for a frame's budget (R460). -/
inductive ProtoWork where
  | delayReq (m : PtpRx)
  | request (m : PtpRx) (tlvs : List UnicastTlv)
  | cancel (m : PtpRx) (types : List Nat)
  | ntp (m : NtpRx)
  | nts (m : NtsRx)
  deriving DecidableEq, Repr

/-- A Beat of a Skovwin port that waits for S0, or was consumed last (R515, R517): port, body, whether it verified, and
the frame count at its consumption. -/
structure BeatIn where
  port : Nat
  beat : Beat
  auth : Bool
  frame : Nat
  deriving DecidableEq, Repr

/-- A frame's markers on a Skovwin port (R513): frame count, own t_tx, and the stamp of the peer's marker plus one. -/
structure Marks where
  port : Nat
  frame : Nat
  sent : Nat
  got : Nat
  deriving DecidableEq, Repr

/-- A measurement of a reference waiting for S1 (R181, R186): offset in CT64 units, its time, whether it was
authenticated, the random term that came with it in fs, and the mark of a discontinuity of known cause (R188). -/
structure Measurement where
  ref : Nat
  x : Rat
  time : Nat
  auth : Bool
  random : Nat
  rebase : Bool
  deriving DecidableEq, Repr

/-- History of a reference's estimate, or of the oscillator prediction (key 31), for the drift monitor (R209, R210):
the frame count at its restart, per-frame values and per-second means newest first, the open second, the last
innovations and the last measurement times newest first (R187, R342). -/
structure Track where
  key : Nat
  since : Nat
  frames : List Rat
  seconds : List Rat
  openSum : Rat
  openCount : Nat
  innovations : List Rat
  times : List Nat
  deriving DecidableEq, Repr

/-- D_base of a pair of references (R210): whether it is fixed yet. -/
structure PairBase where
  ref : Nat
  other : Nat
  value : Rat
  fixed : Bool
  deriving DecidableEq, Repr

/-- A 64 s block of oscillator samples (R240): its second, the mean y_free and the mean temperature in °C. -/
structure OscBlock where
  second : Nat
  mean : Rat
  temp : Option Rat
  deriving DecidableEq, Repr

/-- A pulse whose ZTOD message has been rendered (R279, R360): output, target, whether the bound state was Tracking, Anchored or
Holdover then, whether the message has begun to leave, and the kind for source 62 of what bars the pulse, 0 none. -/
structure Announced where
  output : Nat
  target : Nat
  fixed : Bool
  sent : Bool
  barred : Nat
  deriving DecidableEq, Repr

/-- A pulse whose placement is frozen (R41, R277): output, target, F in CT64 units, and the intended edge in them. -/
structure Frozen where
  output : Nat
  target : Nat
  follow : Int
  edge : Rat
  deriving DecidableEq, Repr

/-- What an output pin drives from an edge on: a level, nothing, or its clock. -/
inductive PinLevel where
  | low
  | high
  | highImpedance
  | clock
  deriving DecidableEq, Repr

/-- What leaves the device in a step, for whoever reads the state: the model's record of its outputs (DESIGN CHOICE, log entry 10). -/
inductive Emit where
  | qop (peer : Peer) (m : QopMessage)
  | spi (frame : List Nat)
  | edge (output : Nat) (level : PinLevel) (at_ : Nat)
  | line (n : Nat) (at_ : Nat)
  | serial (unit : Nat) (octets : List Nat) (at_ : Nat)
  | pmbus (point : Nat)
  | frame (f : SentFrame)
  | datagram (f : ExcDatagram)
  | beat (port sequence tag : Nat) (b : Beat)
  | replication (sequence frame : Nat) (changes : List ReplItem) (bulkFrom bulkCount : Nat) (whole : Bool)
  | bus (master id code : Nat) (data : List Nat)
  | tdo (bits : List Bool)
  deriving DecidableEq, Repr

/-- The states of the test access port's controller, as IEEE 1149.1 names them (R695). -/
inductive TapState where
  | testLogicReset | runTestIdle
  | selectDr | captureDr | shiftDr | exit1Dr | pauseDr | exit2Dr | updateDr
  | selectIr | captureIr | shiftIr | exit1Ir | pauseIr | exit2Ir | updateIr
  deriving DecidableEq, Repr

/-- The instructions of the test access port (R695). -/
inductive TapInstruction where
  | bypass | idcode | samplePreload | extest
  deriving DecidableEq, Repr

/-- The test access port (R695): its controller, the instruction in force, the register between TDI and TDO with the bit next out
first, and the latches of the boundary cells. -/
structure Tap where
  state : TapState
  instruction : TapInstruction
  shift : List Bool
  boundary : List Bool
  deriving DecidableEq, Repr

/-- The port after power-up or TRST_N: Test-Logic-Reset with IDCODE (R695). -/
def Tap.reset : Tap := ⟨.testLogicReset, .idcode, [], []⟩

/-- The device but for its timescale counter, its memories and its command queue. -/
structure Dev where
  /-- Registers by address, dictionary and internal, where they differ from their defaults (R9, R57). -/
  regs : List (Nat × Nat)
  /-- Exact quantities of the filters and loops by key, where they are not 0 (Quantity.lean). -/
  rats : List (Nat × Rat)
  /-- What left the device in the last command (DESIGN CHOICE, log entry 10). -/
  emit : List Emit
  /-- The counter behind the free values (DESIGN CHOICE, log entry 4). -/
  free : Nat
  /-- What the sequencer latched, and the instant of the command in hand (DESIGN CHOICE, log entry 7). -/
  view : View
  /-- SlewRemaining in 2^-56 ns (R107). -/
  slewLeft : Int
  /-- The pending step or set (R109, R110). -/
  corr : Option Correction
  /-- Pairs presented and not yet confirmed, oldest first (R628, R630). -/
  posted : List Post
  /-- Open reaction windows, oldest first (R642). -/
  windows : List Window
  /-- QOP slots in use, newest first (R68 to R79). -/
  sessions : List Session
  /-- Frames queued on host SPI, oldest first (R84). -/
  spiQueue : List QopMessage
  /-- Accepted Writes that wait for S0, in order of acceptance (R38, R62). -/
  staged : List Staged
  /-- Registers as they stood at the last frame start, which reads of sequencer-maintained entries show (R61, DEDUCED, log entry 113). -/
  shown : List (Nat × Nat)
  /-- Entries that the device wrote since the last S0, for contended Writes (R40). -/
  wrote : List Nat
  /-- Configuration copy A (R90 to R94). -/
  copyA : Option StoreCopy
  /-- Configuration copy B (R90 to R94). -/
  copyB : Option StoreCopy
  /-- The image that a commit under way captured (R90). -/
  storeImage : Option (List (Nat × Nat))
  /-- Messages of the last 64 frames, for the target point (R558). -/
  loads : List Nat
  /-- Quantities whose first live value has been compared with the shutdown record (R669). -/
  compared : List Nat
  /-- Stamps that S0 has not collected (R48, R139). -/
  stamps : List Stamp
  /-- The last 64 XO stamps: cycles and instant (R171). -/
  xoStamps : List (Nat × Nat)
  /-- A day of XO samples: second, y, temperature (R172). -/
  xoSamples : List (Nat × Rat × Rat)
  /-- The last 7 daily means of XO (R172). -/
  xoDays : List (Nat × Rat)
  /-- Measurements that wait for S1 (R181, R186). -/
  measures : List Measurement
  /-- Histories of the drift monitor (R209, R210). -/
  tracks : List Track
  /-- D_base of the pairs (R210). -/
  bases : List PairBase
  /-- The differences of the open hand-over window (R203). -/
  handover : List Rat
  /-- Followed phases of the last 4,096 frames (R227). -/
  followed : List Rat
  /-- R_tot over the last frames of Acquire, newest first (R231). -/
  acquireRuns : List Rat
  /-- Y_free of the last frames with their frame counts, newest first (R240, R243). -/
  freeRuns : List (Nat × Rat)
  /-- Closed oscillator blocks (R240). -/
  blocks : List OscBlock
  /-- The MOSC monitor's last 64 measurements of MOSC against XO, newest first, as FRAC64 values (R267, R569). -/
  moscReads : List Int
  /-- Pulses whose placement is frozen (R41, R277). -/
  frozen : List Frozen
  /-- Pulses with a rendered message (R279, R360). -/
  announced : List Announced
  /-- The bounds that the next frame start publishes, by address (R42). -/
  nextBound : List (Nat × Nat)
  /-- The record of the second that ends, not yet keyed (R366). -/
  auditDraft : Option (Nat × Nat)
  /-- Records that wait for the archive, with their frame (R367). -/
  auditWaiting : List (Nat × Nat)
  /-- The audit archive in DRAM: sequence and record, oldest first (R368, R370). -/
  archive : List (Nat × Nat)
  /-- The checkpoint in NV: sequence, generation, Mac (R369). -/
  nvAudit : Option (Nat × Nat × Nat)
  /-- Sample-clock stamps of each band (R296). -/
  gsStamps : List (Nat × List (Nat × Nat))
  /-- The G0 record not yet posted (R311). -/
  g0Formed : Option G0Record
  /-- The G0 record posted for S0 (R311). -/
  g0Posted : Option G0Record
  /-- Rates of G0 in the last 64 seconds, newest first (R328). -/
  g0Rates : List Rat
  /-- Satellites between epochs (R305, R307, R328). -/
  sats : List SatTrack
  /-- Biases of the systems (R308). -/
  sysBias : List SysBias
  /-- Signal sums of the jam reference that is being learned, by band and elevation (R325). -/
  jamSums : List (Nat × Nat × Nat)
  /-- The learned jam reference, by band and elevation (R325). -/
  jamRefs : List (Nat × Nat)
  /-- Sums of the position survey (R303). -/
  survey : List Rat
  /-- Navigation data under OSNMA (R320). -/
  osnma : List OsnmaData
  /-- The public key held from a DSM-PKR (R319). -/
  osnmaKey : Option (Nat × List Nat)
  /-- Stored keys (R474). -/
  keys : List KeyRec
  /-- Keys loaded in Provisioning and not yet committed (R479). -/
  stagedKeys : List KeyRec
  /-- The two positions of the key store, the current one first (R480). -/
  images : List KeyImage
  /-- The key store commit under way, and what it does (R480). -/
  keyCommit : Option (KeyImage × KeyJob)
  /-- Commits that wait for pacing, oldest first (R483). -/
  keyJobs : List KeyJob
  /-- What a commit read back does at the next frame start (R479, R500). -/
  keyEffect : Option KeyJob
  /-- Working slots that have a specification (R487). -/
  slots : List WorkSlot
  /-- Frames that wait for their commit (R393, R396). -/
  txWaiting : List TxJob
  /-- Stamp-requesting host frames on hold (R399). -/
  held : List HeldFrame
  /-- Time-stamp queue entries, oldest first (R398). -/
  stampQueue : List StampEntry
  /-- Loss markers still open (R398). -/
  openMarkers : List StampEntry
  /-- Client records, by slot (R439). -/
  clients : List Client
  /-- Rate state of clients (R437). -/
  rates : List ClientRate
  /-- The keys of the table hashes, drawn at random (R440). -/
  tableKeys : Nat
  /-- Messages submitted in this frame (R430). -/
  sentNow : List (Nat × Nat)
  /-- Signalling TLVs that wait for their destinations (R431). -/
  signals : List Signalling
  /-- What each NREF holds (R445 to R449). -/
  nrefs : List NrefRun
  /-- Buckets of the NTP rate table (R452). -/
  buckets : List NtpBucket
  /-- Received work that waits for a frame's budget (R460). -/
  protoQueue : List (Nat × Nat × ProtoWork)
  /-- Beats that wait for S0 (R515). -/
  beatsIn : List BeatIn
  /-- The Beats consumed last, by port (R517). -/
  peers : List BeatIn
  /-- Markers of the last frames (R513). -/
  marks : List Marks
  /-- Replication packets that wait for S0 (R519). -/
  replIn : List Replication
  /-- What the partner has been sent (R519, R540). -/
  replSent : List ReplItem
  /-- The copies of the lifetime record in NV, newest first (R671). -/
  nvLife : List StoreCopy
  /-- The two shutdown record slots in NV, newest first (R665). -/
  shutRecords : List Nat
  /-- Items that the shutdown's tests measured (R664). -/
  testItems : List (Nat × Nat × Int)
  /-- Requests that wait while the control processors serve them (R79). -/
  qopWaiting : List (Head × Body)
  /-- Opens whose session derivation waits for a use ceiling (R490): head, level and host nonce. -/
  opensWaiting : List (Head × Nat × Nat)
  /-- The event log in DRAM, newest first: entries of 32 octets (R605, R646). -/
  eventLog : List Nat
  /-- The test access port (R695). -/
  tap : Tap
  deriving DecidableEq, Repr

end Sys2Proof.Machine
end

