-- ==== Sys2Proof/Machine/Entry.lean ====
section
/-!
DEFINITION. Dictionary entries as data: types, access levels, keep classes, ranges (R6 to R13, R57 to R59).
-/
namespace Sys2Proof.Machine

/-- Dictionary value types (R11); `int n` is a signed internal register of n octets. -/
inductive Ty where
  | u8 | u16 | u32 | u64 | i32 | i64 | bool | enum8 | time96 | ct64 | span64 | frac64 | ps32
  | octets (n : Nat) | str (n : Nat) | cmd (n : Nat) | int (n : Nat)
  deriving DecidableEq, Repr

/-- Octets of a value of each type (R11, R59, R60). -/
def Ty.size : Ty → Nat
  | .u8 => 1 | .u16 => 2 | .u32 => 4 | .u64 => 8 | .i32 => 4 | .i64 => 8 | .bool => 1 | .enum8 => 1
  | .time96 => 12 | .ct64 => 8 | .span64 => 8 | .frac64 => 8 | .ps32 => 4
  | .octets n => n | .str n => n | .cmd n => n | .int n => n

/-- Whether the encoding is two's complement (R11). -/
def Ty.signed : Ty → Bool
  | .i32 => true | .i64 => true | .span64 => true | .frac64 => true | .int _ => true | _ => false

/-- Whether the entry is a command (R60). -/
def Ty.isCmd : Ty → Bool
  | .cmd _ => true | _ => false

/-- Access levels, Observer below Operator below Custodian (R6). -/
inductive Level where
  | observer | operator | custodian
  deriving DecidableEq, Repr

/-- The level as the code of an Open body (R63), which also orders the levels (R6). -/
def Level.code : Level → Nat
  | .observer => 0 | .operator => 1 | .custodian => 2

/-- The level an Open asks for; nothing for an unlisted code (R11, R63). -/
def Level.ofCode : Nat → Option Level
  | 0 => some .observer | 1 => some .operator | 2 => some .custodian | _ => none

/-- Keep classes (R8). -/
inductive Keep where
  | v | k | s
  deriving DecidableEq, Repr

/-- The range of values an entry accepts by itself (R11); rules over several entries stand with their chapters. -/
inductive Range where
  | any
  | span (lo hi : Int)
  | runs (l : List (Nat × Nat))
  | nonzero
  | divisorOf (n : Nat)
  | quotientOf (n lo hi : Nat)
  | powerOfTwo (hi : Nat)
  | stepped (lo hi step : Nat)
  deriving DecidableEq, Repr

/-- One dictionary entry: its address, type, rights, keep class, default and range (one row of a spec table). -/
structure Entry where
  index : Nat
  sub : Nat
  ty : Ty
  rd : Level
  wr : Option Level
  keep : Keep
  dflt : Nat
  range : Range
  deriving DecidableEq, Repr

/-- The address of an entry as one number, index in [23:8] and subindex in [7:0] (the packing of 0x1020:09). -/
def Entry.addr (e : Entry) : Nat := e.index * 256 + e.sub

/-- The modulus of an entry's encoding. -/
def Entry.modulus (e : Entry) : Nat := 256 ^ e.ty.size

/-- The default as encoded. -/
def Entry.reset (e : Entry) : Nat := e.dflt % e.modulus

/-- A raw value read as the entry's type reads it (R11). -/
def Entry.toInt (e : Entry) (v : Nat) : Int :=
  if e.ty.signed && decide (e.modulus ≤ 2 * v) then (v : Int) - (e.modulus : Int) else (v : Int)

/-- The encoding of an integer in the entry's type, saturating at the ends of the type. -/
def Entry.ofInt (e : Entry) (i : Int) : Nat :=
  if e.ty.signed then
    (max (-(e.modulus / 2 : Int)) (min i ((e.modulus / 2 : Int) - 1)) % (e.modulus : Int)).toNat
  else (max 0 (min i ((e.modulus : Int) - 1))).toNat

/-- Whether a raw value lies in a range, read as the entry's type reads it. -/
def Entry.inRange (e : Entry) (v : Nat) : Bool :=
  match e.range with
  | .any => true
  | .span lo hi => decide (lo ≤ e.toInt v) && decide (e.toInt v ≤ hi)
  | .runs l => l.any fun p => decide (p.1 ≤ v) && decide (v ≤ p.2)
  | .nonzero => v != 0
  | .divisorOf n => v != 0 && n % v == 0
  | .quotientOf n lo hi => v != 0 && n % v == 0 && decide (lo ≤ n / v) && decide (n / v ≤ hi)
  | .powerOfTwo hi => v != 0 && decide (v ≤ hi) && 2 ^ (Nat.log2 v) == v
  | .stepped lo hi st => decide (lo ≤ v) && decide (v ≤ hi) && v % st == 0

/-- Whether a raw value is an encoding of the entry's type (R11): BOOL takes 0 and 1, TIME96 nanoseconds stay below
one second (R17), STRING takes 0x20 to 0x7E padded with 0x00. -/
def Entry.wellTyped (e : Entry) (v : Nat) : Bool :=
  decide (v < e.modulus) &&
  match e.ty with
  | .bool => decide (v ≤ 1)
  | .time96 => decide (v / 65536 % 2 ^ 32 ≤ 999999999)
  | .str n =>
      let os := (List.range n).map fun i => v / 256 ^ (n - 1 - i) % 256
      let body := os.takeWhile (· != 0)
      body.all (fun o => decide (0x20 ≤ o) && decide (o ≤ 0x7E)) && (os.drop body.length).all (· == 0)
  | _ => true

/-- Octets `o` to `o + n - 1` of a `size`-octet value read zero. -/
def zeroOctets (size o n v : Nat) : Nat :=
  v - v / 256 ^ (size - o - n) % 256 ^ n * 256 ^ (size - o - n)

/-- What an entry holds of a written value: the reserved octets 7, 28 to 31 and 88 to 95 of a KeySlotSpec read 0 (R13, R486). -/
def Entry.held (e : Entry) (v : Nat) : Nat :=
  if 0x6900 ≤ e.index ∧ e.index ≤ 0x6907 then zeroOctets 96 7 1 (zeroOctets 96 28 4 (zeroOctets 96 88 8 v)) else v

/-- A TIME96 field's nanoseconds stay below one second (R17). -/
def time96Ok (v : Nat) : Bool := decide (v / 65536 % 2 ^ 32 ≤ 999999999)

/-- A run of addresses that one table row gives: base index, first and number of units, first subindex and number of
subindices, and the entry of unit `n` and place `k` (R57, R58). -/
structure Family where
  base : Nat
  first : Nat
  count : Nat
  sub : Nat
  subs : Nat
  entry : Nat → Nat → Entry

/-- The entry a family gives at an address, if the address lies in it. -/
def Family.find? (f : Family) (index sub : Nat) : Option Entry :=
  if f.base + f.first ≤ index ∧ index < f.base + f.count ∧ f.sub ≤ sub ∧ sub < f.sub + f.subs then
    some (f.entry (index - f.base) (sub - f.sub))
  else none

/-- Default severities of event sources 0 to 127: 0 Note, 1 Alert, 2 Isolate, 3 Hand-over, 4 Safe stop (R634). -/
def severityTable : List Nat :=
  [0, 1, 1, 1, 1, 0, 1, 1, 1, 0, 0, 1, 0, 1, 3, 1, 1, 2, 1, 0, 1, 1, 1, 1] ++
  [1, 0, 0, 1, 1, 1, 1, 0, 0, 1, 1, 0, 0, 0, 0, 0, 0, 0, 0, 0, 0, 0, 0, 0, 0, 1, 1, 1, 1, 1, 1, 0] ++
  [1, 0, 1, 1, 0, 1, 1, 2, 1, 2, 0, 1, 0, 1, 0, 0, 1, 1, 1, 0, 1, 1, 0, 2, 1, 1, 1, 1] ++
  [1, 0, 1, 0, 0, 1, 1, 0, 0, 0, 0, 1, 1, 1, 0, 2, 2, 1, 1, 0, 1, 0, 1, 3, 0, 1, 1, 0] ++
  [0, 1, 1, 1, 1, 1, 0, 1, 1, 1, 0, 2, 1, 0, 1, 3]

/-- The Blank default of a working slot specification: Parent 0xFFFF, every other octet 0 (R486). -/
def keySlotSpecBlank : Nat := 0xFFFF * 256 ^ 92

end Sys2Proof.Machine
end

