-- ==== Sys2Proof/Machine/DictCore.lean ====
section
/-!
DEFINITION. Dictionary entries (spec tables, read row by row): identity, access, timescale, sequencer and start-up.
One definition per table row; `n` is the unit number the table adds to the index, `k` the place within a
range of subindices. Fields: index, subindex, type, read level, write level, keep class, default, range.
-/
namespace Sys2Proof.Machine
namespace Dict

/-- 01, R47. Number of slots aborted since reset or the last SeqStatsClear; saturates at 0xFFFFFFFF -/
def seqOverrunCount : Entry := ⟨0x23F0, 1, .u32, .observer, none, .v, 0, .any⟩
/-- 01, R47. Slot last aborted: 0x00 to 0x07 for S0 to S7; 0xFF none -/
def seqLastOverrunSlot : Entry := ⟨0x23F0, 2, .enum8, .observer, none, .v, 0xFF, .any⟩
/-- 01, R47. Smallest margin seen between S7 completion and the 140 µs deadline, in ns -/
def seqMinSlack : Entry := ⟨0x23F0, 3, .u32, .observer, none, .v, 140000, .any⟩
/-- 01, R47. One octet. Value 0x01 sets 0x23F0:01 to 0, 0x23F0:02 to 0xFF, 0x23F0:03 to 140,000 and 0x23F1:01 to … -/
def seqStatsClear : Entry := ⟨0x23F0, 4, .cmd 1, .observer, (some .operator), .v, 0, .span 1 1⟩
/-- 01, R47. Number of the frame in which the read was served, 0 to 4,095 -/
def frameNumber : Entry := ⟨0x23F0, 5, .u16, .observer, none, .v, 0, .any⟩
/-- 01, R47. Longest observed duration of slots S0 to S7 in turn, in ns -/
def seqSlotWorst (k : Nat) : Entry := ⟨0x23F1, 1 + k, .u32, .observer, none, .v, 0, .any⟩
/-- 02, R96. Constant -/
def vendorName : Entry := ⟨0x1000, 1, .str 16, .observer, none, .v, 0x4F7576736F7200000000000000000000, .any⟩
/-- 02, R96. Constant -/
def partNumber : Entry := ⟨0x1000, 2, .str 16, .observer, none, .v, 0x5A543734343000000000000000000000, .any⟩
/-- 02, R96. Constant -/
def familyName : Entry := ⟨0x1000, 3, .str 16, .observer, none, .v, 0x5A696573746172690000000000000000, .any⟩
/-- 02, R96. Stepping B (R1) -/
def siliconStepping : Entry := ⟨0x1001, 0, .u8, .observer, none, .v, 0x42, .any⟩
/-- 02, R96. Written at manufacture -/
def serialNumber : Entry := ⟨0x1002, 1, .str 16, .observer, none, .v, Config.deviceData (0x1002) (1), .any⟩
/-- 02, R96. Fused die identifier -/
def dieId : Entry := ⟨0x1002, 2, .octets 8, .observer, none, .v, Config.deviceData (0x1002) (2), .any⟩
/-- 02, R96. Octets: major, minor, patch, build -/
def firmwareVersion : Entry := ⟨0x1003, 1, .u32, .observer, none, .v, Config.releaseData (0x1003) (1), .any⟩
/-- 02, R96. As FirmwareVersion -/
def gnssFirmwareVersion : Entry := ⟨0x1003, 2, .u32, .observer, none, .v, Config.releaseData (0x1003) (2), .any⟩
/-- 02, R96. Image format the firmware writes -/
def storeFormatVersion : Entry := ⟨0x1003, 3, .u16, .observer, none, .v, Config.releaseData (0x1003) (3), .any⟩
/-- 02, R96. 0x00 Boot, 0x01 Free-run, 0x02 Acquire, 0x03 Locked, 0x04 Holdover, 0x05 Safe -/
def deviceState : Entry := ⟨0x1010, 1, .enum8, .observer, none, .v, 0x00, .any⟩
/-- 02, R96. Timescale value at the last change of DeviceState -/
def deviceStateSince : Entry := ⟨0x1010, 2, .time96, .observer, none, .v, 0, .any⟩
/-- 02, R96. 0x00 Blank, 0x01 Provisioning, 0x02 Service, 0x03 Maintenance, 0x04 Retired; held in the key store and not … -/
def lifeCycleState : Entry := ⟨0x1010, 3, .enum8, .observer, none, .s, 0x00, .any⟩
/-- 02, R96. ENUM8 target state; permitted changes as in Key store and derivation tree; others receive StateConflict -/
def lifeCycleRequest : Entry := ⟨0x1010, 4, .cmd 1, .observer, (some .custodian), .v, 0, .span 0 4⟩
/-- 02, R96. 0x00 power-on, 0x01 supply, 0x02 pin, 0x03 watchdog, 0x04 dictionary command -/
def lastResetCause : Entry := ⟨0x1010, 5, .enum8, .observer, none, .v, 0x00, .any⟩
/-- 02, R96. Whole seconds since the last reset that reached CTRL -/
def uptimeSeconds : Entry := ⟨0x1010, 6, .u64, .observer, none, .v, 0, .any⟩
/-- 02, R96. Value 0x5A resets the device (dictionary command reset); other values receive OutOfRange -/
def deviceReset : Entry := ⟨0x1011, 0, .cmd 1, .observer, (some .custodian), .v, 0, .span 90 90⟩
/-- 02, R96. Value 0x01 starts a commit (R90) -/
def storeCommit : Entry := ⟨0x1020, 1, .cmd 1, .observer, (some .operator), .v, 0, .span 1 1⟩
/-- 02, R96. 0x00 Idle, 0x01 InProgress, 0x02 Deferred, 0x03 Failed -/
def storeStatus : Entry := ⟨0x1020, 2, .enum8, .observer, none, .v, 0x00, .any⟩
/-- 02, R96. Generation of the current copy; 0 when none is valid -/
def storeGeneration : Entry := ⟨0x1020, 3, .u32, .observer, none, .v, 0, .any⟩
/-- 02, R96. Some live value of an image entry (R718) differs from the current copy; when no copy is valid, from its … -/
def storeDirty : Entry := ⟨0x1020, 4, .bool, .observer, none, .v, 0, .any⟩
/-- 02, R96. Value 0x01 sets every live S value to the current copy's value, in one frame -/
def storeRevert : Entry := ⟨0x1020, 5, .cmd 1, .observer, (some .operator), .v, 0, .span 1 1⟩
/-- 02, R96. Value 0x01 invalidates both copies; StateConflict in Service; Busy while StoreStatus is InProgress or … -/
def storeErase : Entry := ⟨0x1020, 6, .cmd 1, .observer, (some .custodian), .v, 0, .span 1 1⟩
/-- 02, R96. 0x00 current copy applied, 0x01 older copy applied because the newer copy failed its check (R94), 0x02 … -/
def bootStoreStatus : Entry := ⟨0x1020, 7, .enum8, .observer, none, .v, 0x00, .any⟩
/-- 02, R96. Entries rejected at boot (R94) -/
def bootStoreRejects : Entry := ⟨0x1020, 8, .u16, .observer, none, .v, 0, .any⟩
/-- 02, R96. First rejected address: index in [23:8], subindex in [7:0] -/
def bootStoreFirstReject : Entry := ⟨0x1020, 9, .u32, .observer, none, .v, 0, .any⟩
/-- 02, R98. Protocol version served -/
def qopVersion : Entry := ⟨0x1400, 1, .u8, .observer, none, .v, 0x01, .any⟩
/-- 02, R98. UDP port on MGT, 1,024 to 65,535; takes effect for new sessions -/
def qopUdpPort : Entry := ⟨0x1400, 2, .u16, .observer, (some .custodian), .s, 7440, .span 1024 65535⟩
/-- 02, R98. Constant (R68) -/
def qopMaxSessions : Entry := ⟨0x1400, 3, .u8, .observer, none, .v, 8, .any⟩
/-- 02, R98. Idle time before a session is ended, 10 to 3,600 s -/
def qopIdleTimeout : Entry := ⟨0x1400, 4, .u32, .observer, (some .operator), .s, 60, .span 10 3600⟩
/-- 02, R98. All zero disables IPv4 -/
def mgtIpv4Address : Entry := ⟨0x1401, 1, .octets 4, .observer, (some .custodian), .s, 0, .any⟩
/-- 02, R98. 0 to 32 -/
def mgtIpv4PrefixLength : Entry := ⟨0x1401, 2, .u8, .observer, (some .custodian), .s, 0, .span 0 32⟩
/-- 02, R98. All zero: on-link peers only -/
def mgtIpv4Gateway : Entry := ⟨0x1401, 3, .octets 4, .observer, (some .custodian), .s, 0, .any⟩
/-- 02, R98. All zero disables IPv6 -/
def mgtIpv6Address : Entry := ⟨0x1401, 4, .octets 16, .observer, (some .custodian), .s, 0, .any⟩
/-- 02, R98. 0 to 128 -/
def mgtIpv6PrefixLength : Entry := ⟨0x1401, 5, .u8, .observer, (some .custodian), .s, 0, .span 0 128⟩
/-- 02, R98. All zero: on-link peers only -/
def mgtIpv6Gateway : Entry := ⟨0x1401, 6, .octets 16, .observer, (some .custodian), .s, 0, .any⟩
/-- 02, R98. One per session slot; layout below -/
def sessionState (k : Nat) : Entry := ⟨0x1402, 1 + k, .u32, .observer, none, .v, 0, .any⟩
/-- 02, R98. Messages discarded under R74; saturates -/
def qopAuthFailCount : Entry := ⟨0x1403, 1, .u32, .observer, none, .v, 0, .any⟩
/-- 02, R98. Messages discarded under R75; saturates -/
def qopReplayDropCount : Entry := ⟨0x1403, 2, .u32, .observer, none, .v, 0, .any⟩
/-- 02, R98. Messages discarded under R63, or answered BadMessage; saturates -/
def qopMalformedCount : Entry := ⟨0x1403, 3, .u32, .observer, none, .v, 0, .any⟩
/-- 02, R98. Frames discarded under R83; saturates -/
def qopSpiCrcErrorCount : Entry := ⟨0x1403, 4, .u32, .observer, none, .v, 0, .any⟩
/-- 02, R98. Notify messages and events lost under R84 and R89; saturates -/
def qopNotifyLostCount : Entry := ⟨0x1403, 5, .u32, .observer, none, .v, 0, .any⟩
/-- 02, R98. Value 0x01 sets 0x1403:01 to 0x1403:05 to 0 at the next S0 -/
def qopCountersClear : Entry := ⟨0x1403, 6, .cmd 1, .observer, (some .operator), .v, 0, .span 1 1⟩
/-- 03, R135. Timescale value latched when the read is served -/
def timeNow : Entry := ⟨0x2000, 1, .time96, .observer, none, .v, 0, .any⟩
/-- 03, R135. TimeNow as CT64, from the same latch -/
def timeNowCt : Entry := ⟨0x2000, 2, .ct64, .observer, none, .v, 0, .any⟩
/-- 03, R135. Constant (R102) -/
def incrementNominal : Entry := ⟨0x2000, 3, .u64, .observer, none, .v, 0x00CCCCCCCCCCCCCD, .any⟩
/-- 03, R135. Increment in force in the frame of the read -/
def incrementActive : Entry := ⟨0x2000, 4, .u64, .observer, none, .v, 0x00CCCCCCCCCCCCCD, .any⟩
/-- 03, R135. Servo rate trim in force -/
def rateTrim : Entry := ⟨0x2000, 5, .frac64, .observer, none, .v, 0, .any⟩
/-- 03, R135. Slew component in force, in 2^-56 ns -/
def slewIncrement : Entry := ⟨0x2000, 6, .i64, .observer, none, .v, 0, .any⟩
/-- 03, R135. Correction not yet slewed -/
def slewRemaining : Entry := ⟨0x2000, 7, .span64, .observer, none, .v, 0, .any⟩
/-- 03, R135. Steps and sets applied; saturates -/
def discontinuityCount : Entry := ⟨0x2000, 8, .u32, .observer, none, .k, 0, .any⟩
/-- 03, R135. Frame start of the last step or set -/
def lastDiscontinuityTime : Entry := ⟨0x2000, 9, .time96, .observer, none, .k, 0, .any⟩
/-- 03, R135. Its size -/
def lastDiscontinuitySize : Entry := ⟨0x2000, 10, .span64, .observer, none, .k, 0, .any⟩
/-- 03, R135. R114 -/
def clientServiceStarted : Entry := ⟨0x2000, 11, .bool, .observer, none, .v, 0, .any⟩
/-- 03, R135. Size of a pending step or set; 0 when none -/
def stepPendingSize : Entry := ⟨0x2000, 12, .span64, .observer, none, .v, 0, .any⟩
/-- 03, R135. Frame start at which it applies -/
def stepPendingAt : Entry := ⟨0x2000, 13, .ct64, .observer, none, .v, 0, .any⟩
/-- 03, R135. In 0.01 ns/s, 1 to 1,000,000 (0.01 to 10,000 ns/s) -/
def slewLimit : Entry := ⟨0x2001, 1, .u32, .observer, (some .operator), .s, 500, .span 1 1000000⟩
/-- 03, R135. Permits forward steps (R106) -/
def stepEnable : Entry := ⟨0x2001, 2, .bool, .observer, (some .operator), .s, 0, .span 0 1⟩
/-- 03, R135. In ns, 1,000 to 1,000,000,000 -/
def stepThreshold : Entry := ⟨0x2001, 3, .u32, .observer, (some .operator), .s, 1000000, .span 1000 1000000000⟩
/-- 03, R135. 16 to 4,096 frames -/
def stepLeadFrames : Entry := ⟨0x2001, 4, .u16, .observer, (some .operator), .s, 64, .span 16 4096⟩
/-- 03, R135. TIME96 value, 12 octets (R110) -/
def timeSet : Entry := ⟨0x2001, 5, .cmd 12, .observer, (some .operator), .v, 0, .any⟩
/-- 03, R135. SPAN64 value, 8 octets (R111) -/
def timeAdjust : Entry := ⟨0x2001, 6, .cmd 8, .observer, (some .operator), .v, 0, .any⟩
/-- 03, R135. TAI − UTC in force, in s -/
def utcOffset : Entry := ⟨0x2002, 1, .i32, .observer, none, .k, 37, .any⟩
/-- 03, R135. 0x00 host, 0x01 auto -/
def utcSource : Entry := ⟨0x2002, 2, .enum8, .observer, (some .operator), .s, 0x01, .span 0 1⟩
/-- 03, R135. 0 to 255 s; in force when UtcSource is 0x00 -/
def hostUtcOffset : Entry := ⟨0x2002, 3, .i32, .observer, (some .operator), .s, 37, .span 0 255⟩
/-- 03, R135. 0x00 none, 0x01 insert, 0x02 delete -/
def leapPending : Entry := ⟨0x2002, 4, .enum8, .observer, none, .k, 0x00, .any⟩
/-- 03, R135. R117; 0 when none -/
def leapTime : Entry := ⟨0x2002, 5, .time96, .observer, none, .k, 0, .any⟩
/-- 03, R135. 16 octets (R119) -/
def hostLeapAnnounce : Entry := ⟨0x2002, 6, .cmd 16, .observer, (some .operator), .v, 0, .any⟩
/-- 03, R135. Reference ID 0 to 17 that supplied UtcOffset; 0xFE host; 0xFF none -/
def utcSourceRef : Entry := ⟨0x2002, 7, .u8, .observer, none, .v, 0xFF, .any⟩
/-- 03, R135. UtcOffset has come from a reference or from host software -/
def utcValid : Entry := ⟨0x2002, 8, .bool, .observer, none, .k, 0, .any⟩
/-- 03, R136. 0x00 off, 0x01 one-shot, 0x02 periodic, 0x03 aligned -/
def tmrMode (n : Nat) : Entry := ⟨0x2100 + n, 1, .enum8, .observer, (some .operator), .s, 0x00, .span 0 3⟩
/-- 03, R136. Timer destinations table -/
def tmrDestination (n : Nat) : Entry := ⟨0x2100 + n, 2, .enum8, .observer, (some .operator), .s, 0xFF, .runs [(0, 7), (16, 35), (255, 255)]⟩
/-- 03, R136. First target for modes 0x01 and 0x02; R20 applies -/
def tmrTarget (n : Nat) : Entry := ⟨0x2100 + n, 3, .ct64, .observer, (some .operator), .v, 0, .any⟩
/-- 03, R136. Period; positive, at most 3,600 s -/
def tmrPeriod (n : Nat) : Entry := ⟨0x2100 + n, 4, .span64, .observer, (some .operator), .s, 65536000000000, .span 1 235929600000000000⟩
/-- 03, R136. Offset within the second for mode 0x03 -/
def tmrOffset (n : Nat) : Entry := ⟨0x2100 + n, 5, .span64, .observer, (some .operator), .s, 0, .any⟩
/-- 03, R136. Targets, fired or missed, before Done (R121, R124); 0 unlimited -/
def tmrFireLimit (n : Nat) : Entry := ⟨0x2100 + n, 6, .u32, .observer, (some .operator), .s, 0, .any⟩
/-- 03, R136. TRG pulse width in ns -/
def tmrWidth (n : Nat) : Entry := ⟨0x2100 + n, 7, .u32, .observer, (some .operator), .s, 100, .any⟩
/-- 03, R136. 0x00 fire late, 0x01 skip (R124, R125) -/
def tmrMissPolicy (n : Nat) : Entry := ⟨0x2100 + n, 8, .enum8, .observer, (some .operator), .s, 0x00, .span 0 1⟩
/-- 03, R136. 0x01 arm, 0x00 disarm -/
def tmrArm (n : Nat) : Entry := ⟨0x2100 + n, 9, .cmd 1, .observer, (some .operator), .v, 0, .span 0 1⟩
/-- 03, R136. 0x00 Idle, 0x01 Armed, 0x02 Done -/
def tmrState (n : Nat) : Entry := ⟨0x2100 + n, 10, .enum8, .observer, none, .v, 0x00, .any⟩
/-- 03, R136. Fires since the last arm; saturates -/
def tmrFireCount (n : Nat) : Entry := ⟨0x2100 + n, 11, .u32, .observer, none, .v, 0, .any⟩
/-- 03, R136. Target of the last fire -/
def tmrLastFire (n : Nat) : Entry := ⟨0x2100 + n, 12, .ct64, .observer, none, .v, 0, .any⟩
/-- 03, R136. R131 -/
def tmrLastResidual (n : Nat) : Entry := ⟨0x2100 + n, 13, .span64, .observer, none, .v, 0, .any⟩
/-- 03, R136. Missed targets since the last arm; saturates -/
def tmrMissCount (n : Nat) : Entry := ⟨0x2100 + n, 14, .u32, .observer, none, .v, 0, .any⟩
/-- 03, R136. R130 -/
def tmrArmAtBoot (n : Nat) : Entry := ⟨0x2100 + n, 15, .bool, .observer, (some .operator), .s, 0, .span 0 1⟩
/-- 03, R136. Pending target; 0 when not Armed -/
def tmrNextFire (n : Nat) : Entry := ⟨0x2100 + n, 16, .ct64, .observer, none, .v, 0, .any⟩
/-- 03, R137. Enables the driver -/
def trgEnable (n : Nat) : Entry := ⟨0x2200 + n, 1, .bool, .observer, (some .operator), .s, 0, .span 0 1⟩
/-- 03, R137. 0x00 active high, 0x01 active low -/
def trgPolarity (n : Nat) : Entry := ⟨0x2200 + n, 2, .enum8, .observer, (some .operator), .s, 0x00, .span 0 1⟩
/-- 03, R137. 0x00 driven inactive, 0x01 high impedance -/
def trgIdle (n : Nat) : Entry := ⟨0x2200 + n, 3, .enum8, .observer, (some .operator), .s, 0x00, .span 0 1⟩
/-- 03, R137. R133; 0 to 100 ns -/
def trgBoardDelay (n : Nat) : Entry := ⟨0x2200 + n, 4, .span64, .observer, (some .operator), .s, 0, .span 0 6553600⟩
/-- 03, R137. Timer driving the output; 0xFF none -/
def trgOwner (n : Nat) : Entry := ⟨0x2200 + n, 5, .u8, .observer, none, .v, 0xFF, .any⟩
/-- 18, R689. 0x00 none, 0x01 until first Locked (R683) -/
def startServiceHold : Entry := ⟨0x1030, 1, .enum8, .observer, (some .operator), .s, 0x01, .span 0 1⟩
/-- 18, R689. R684 -/
def startServiceHoldActive : Entry := ⟨0x1030, 2, .bool, .observer, none, .v, 1, .any⟩
/-- 18, R689. 0x01 (R685) -/
def startServiceRelease : Entry := ⟨0x1030, 3, .cmd 1, .observer, (some .operator), .v, 0, .span 1 1⟩
/-- 18, R689. Frame start at which the hold ended -/
def serviceStartTime : Entry := ⟨0x1030, 4, .time96, .observer, none, .v, 0, .any⟩
/-- 18, R689. Release of reset, or wake, to first frame of time service, in µs -/
def bootDuration : Entry := ⟨0x1030, 5, .u32, .observer, none, .v, 0, .any⟩
/-- 18, R689. First frame of time service to first Locked, in ms; 0 until then -/
def firstLockDuration : Entry := ⟨0x1030, 6, .u32, .observer, none, .v, 0, .any⟩

/-- Address families of this file, part 0 (R57, R58). -/
def famsCore0 : List Family := [
  ⟨0x23F0, 0, 1, 1, 1, fun _ _ => seqOverrunCount⟩,
  ⟨0x23F0, 0, 1, 2, 1, fun _ _ => seqLastOverrunSlot⟩,
  ⟨0x23F0, 0, 1, 3, 1, fun _ _ => seqMinSlack⟩,
  ⟨0x23F0, 0, 1, 4, 1, fun _ _ => seqStatsClear⟩,
  ⟨0x23F0, 0, 1, 5, 1, fun _ _ => frameNumber⟩,
  ⟨0x23F1, 0, 1, 1, 8, fun _ k => seqSlotWorst k⟩,
  ⟨0x1000, 0, 1, 1, 1, fun _ _ => vendorName⟩,
  ⟨0x1000, 0, 1, 2, 1, fun _ _ => partNumber⟩,
  ⟨0x1000, 0, 1, 3, 1, fun _ _ => familyName⟩,
  ⟨0x1001, 0, 1, 0, 1, fun _ _ => siliconStepping⟩,
  ⟨0x1002, 0, 1, 1, 1, fun _ _ => serialNumber⟩,
  ⟨0x1002, 0, 1, 2, 1, fun _ _ => dieId⟩,
  ⟨0x1003, 0, 1, 1, 1, fun _ _ => firmwareVersion⟩,
  ⟨0x1003, 0, 1, 2, 1, fun _ _ => gnssFirmwareVersion⟩,
  ⟨0x1003, 0, 1, 3, 1, fun _ _ => storeFormatVersion⟩,
  ⟨0x1010, 0, 1, 1, 1, fun _ _ => deviceState⟩,
  ⟨0x1010, 0, 1, 2, 1, fun _ _ => deviceStateSince⟩,
  ⟨0x1010, 0, 1, 3, 1, fun _ _ => lifeCycleState⟩,
  ⟨0x1010, 0, 1, 4, 1, fun _ _ => lifeCycleRequest⟩,
  ⟨0x1010, 0, 1, 5, 1, fun _ _ => lastResetCause⟩,
  ⟨0x1010, 0, 1, 6, 1, fun _ _ => uptimeSeconds⟩,
  ⟨0x1011, 0, 1, 0, 1, fun _ _ => deviceReset⟩,
  ⟨0x1020, 0, 1, 1, 1, fun _ _ => storeCommit⟩,
  ⟨0x1020, 0, 1, 2, 1, fun _ _ => storeStatus⟩,
  ⟨0x1020, 0, 1, 3, 1, fun _ _ => storeGeneration⟩]

/-- Address families of this file, part 1 (R57, R58). -/
def famsCore1 : List Family := [
  ⟨0x1020, 0, 1, 4, 1, fun _ _ => storeDirty⟩,
  ⟨0x1020, 0, 1, 5, 1, fun _ _ => storeRevert⟩,
  ⟨0x1020, 0, 1, 6, 1, fun _ _ => storeErase⟩,
  ⟨0x1020, 0, 1, 7, 1, fun _ _ => bootStoreStatus⟩,
  ⟨0x1020, 0, 1, 8, 1, fun _ _ => bootStoreRejects⟩,
  ⟨0x1020, 0, 1, 9, 1, fun _ _ => bootStoreFirstReject⟩,
  ⟨0x1400, 0, 1, 1, 1, fun _ _ => qopVersion⟩,
  ⟨0x1400, 0, 1, 2, 1, fun _ _ => qopUdpPort⟩,
  ⟨0x1400, 0, 1, 3, 1, fun _ _ => qopMaxSessions⟩,
  ⟨0x1400, 0, 1, 4, 1, fun _ _ => qopIdleTimeout⟩,
  ⟨0x1401, 0, 1, 1, 1, fun _ _ => mgtIpv4Address⟩,
  ⟨0x1401, 0, 1, 2, 1, fun _ _ => mgtIpv4PrefixLength⟩,
  ⟨0x1401, 0, 1, 3, 1, fun _ _ => mgtIpv4Gateway⟩,
  ⟨0x1401, 0, 1, 4, 1, fun _ _ => mgtIpv6Address⟩,
  ⟨0x1401, 0, 1, 5, 1, fun _ _ => mgtIpv6PrefixLength⟩,
  ⟨0x1401, 0, 1, 6, 1, fun _ _ => mgtIpv6Gateway⟩,
  ⟨0x1402, 0, 1, 1, 8, fun _ k => sessionState k⟩,
  ⟨0x1403, 0, 1, 1, 1, fun _ _ => qopAuthFailCount⟩,
  ⟨0x1403, 0, 1, 2, 1, fun _ _ => qopReplayDropCount⟩,
  ⟨0x1403, 0, 1, 3, 1, fun _ _ => qopMalformedCount⟩,
  ⟨0x1403, 0, 1, 4, 1, fun _ _ => qopSpiCrcErrorCount⟩,
  ⟨0x1403, 0, 1, 5, 1, fun _ _ => qopNotifyLostCount⟩,
  ⟨0x1403, 0, 1, 6, 1, fun _ _ => qopCountersClear⟩,
  ⟨0x2000, 0, 1, 1, 1, fun _ _ => timeNow⟩,
  ⟨0x2000, 0, 1, 2, 1, fun _ _ => timeNowCt⟩]

/-- Address families of this file, part 2 (R57, R58). -/
def famsCore2 : List Family := [
  ⟨0x2000, 0, 1, 3, 1, fun _ _ => incrementNominal⟩,
  ⟨0x2000, 0, 1, 4, 1, fun _ _ => incrementActive⟩,
  ⟨0x2000, 0, 1, 5, 1, fun _ _ => rateTrim⟩,
  ⟨0x2000, 0, 1, 6, 1, fun _ _ => slewIncrement⟩,
  ⟨0x2000, 0, 1, 7, 1, fun _ _ => slewRemaining⟩,
  ⟨0x2000, 0, 1, 8, 1, fun _ _ => discontinuityCount⟩,
  ⟨0x2000, 0, 1, 9, 1, fun _ _ => lastDiscontinuityTime⟩,
  ⟨0x2000, 0, 1, 10, 1, fun _ _ => lastDiscontinuitySize⟩,
  ⟨0x2000, 0, 1, 11, 1, fun _ _ => clientServiceStarted⟩,
  ⟨0x2000, 0, 1, 12, 1, fun _ _ => stepPendingSize⟩,
  ⟨0x2000, 0, 1, 13, 1, fun _ _ => stepPendingAt⟩,
  ⟨0x2001, 0, 1, 1, 1, fun _ _ => slewLimit⟩,
  ⟨0x2001, 0, 1, 2, 1, fun _ _ => stepEnable⟩,
  ⟨0x2001, 0, 1, 3, 1, fun _ _ => stepThreshold⟩,
  ⟨0x2001, 0, 1, 4, 1, fun _ _ => stepLeadFrames⟩,
  ⟨0x2001, 0, 1, 5, 1, fun _ _ => timeSet⟩,
  ⟨0x2001, 0, 1, 6, 1, fun _ _ => timeAdjust⟩,
  ⟨0x2002, 0, 1, 1, 1, fun _ _ => utcOffset⟩,
  ⟨0x2002, 0, 1, 2, 1, fun _ _ => utcSource⟩,
  ⟨0x2002, 0, 1, 3, 1, fun _ _ => hostUtcOffset⟩,
  ⟨0x2002, 0, 1, 4, 1, fun _ _ => leapPending⟩,
  ⟨0x2002, 0, 1, 5, 1, fun _ _ => leapTime⟩,
  ⟨0x2002, 0, 1, 6, 1, fun _ _ => hostLeapAnnounce⟩,
  ⟨0x2002, 0, 1, 7, 1, fun _ _ => utcSourceRef⟩,
  ⟨0x2002, 0, 1, 8, 1, fun _ _ => utcValid⟩]

/-- Address families of this file, part 3 (R57, R58). -/
def famsCore3 : List Family := [
  ⟨0x2100, 0, 32, 1, 1, fun n _ => tmrMode n⟩,
  ⟨0x2100, 0, 32, 2, 1, fun n _ => tmrDestination n⟩,
  ⟨0x2100, 0, 32, 3, 1, fun n _ => tmrTarget n⟩,
  ⟨0x2100, 0, 32, 4, 1, fun n _ => tmrPeriod n⟩,
  ⟨0x2100, 0, 32, 5, 1, fun n _ => tmrOffset n⟩,
  ⟨0x2100, 0, 32, 6, 1, fun n _ => tmrFireLimit n⟩,
  ⟨0x2100, 0, 32, 7, 1, fun n _ => tmrWidth n⟩,
  ⟨0x2100, 0, 32, 8, 1, fun n _ => tmrMissPolicy n⟩,
  ⟨0x2100, 0, 32, 9, 1, fun n _ => tmrArm n⟩,
  ⟨0x2100, 0, 32, 10, 1, fun n _ => tmrState n⟩,
  ⟨0x2100, 0, 32, 11, 1, fun n _ => tmrFireCount n⟩,
  ⟨0x2100, 0, 32, 12, 1, fun n _ => tmrLastFire n⟩,
  ⟨0x2100, 0, 32, 13, 1, fun n _ => tmrLastResidual n⟩,
  ⟨0x2100, 0, 32, 14, 1, fun n _ => tmrMissCount n⟩,
  ⟨0x2100, 0, 32, 15, 1, fun n _ => tmrArmAtBoot n⟩,
  ⟨0x2100, 0, 32, 16, 1, fun n _ => tmrNextFire n⟩,
  ⟨0x2200, 0, 8, 1, 1, fun n _ => trgEnable n⟩,
  ⟨0x2200, 0, 8, 2, 1, fun n _ => trgPolarity n⟩,
  ⟨0x2200, 0, 8, 3, 1, fun n _ => trgIdle n⟩,
  ⟨0x2200, 0, 8, 4, 1, fun n _ => trgBoardDelay n⟩,
  ⟨0x2200, 0, 8, 5, 1, fun n _ => trgOwner n⟩,
  ⟨0x1030, 0, 1, 1, 1, fun _ _ => startServiceHold⟩,
  ⟨0x1030, 0, 1, 2, 1, fun _ _ => startServiceHoldActive⟩,
  ⟨0x1030, 0, 1, 3, 1, fun _ _ => startServiceRelease⟩,
  ⟨0x1030, 0, 1, 4, 1, fun _ _ => serviceStartTime⟩]

/-- Address families of this file, part 4 (R57, R58). -/
def famsCore4 : List Family := [
  ⟨0x1030, 0, 1, 5, 1, fun _ _ => bootDuration⟩,
  ⟨0x1030, 0, 1, 6, 1, fun _ _ => firstLockDuration⟩]

/-- Every address family of this file. -/
def famsCore : List Family :=
  famsCore0 ++ famsCore1 ++ famsCore2 ++ famsCore3 ++ famsCore4

end Dict
end Sys2Proof.Machine
end

