-- ==== Sys2Proof/Machine/DictGnss.lean ====
section
/-!
DEFINITION. Dictionary entries (spec tables, read row by row): satellite receiver, bound and audit.
One definition per table row; `n` is the unit number the table adds to the index, `k` the place within a
range of subindices. Fields: index, subindex, type, read level, write level, keep class, default, range.
-/
namespace Sys2Proof.Machine
namespace Dict

/-- 08, R331. R301 -/
def gnssEnable : Entry := ⟨0x4800, 1, .bool, .observer, (some .operator), .s, 0, .span 0 1⟩
/-- 08, R331. 0x00 Off, 0x01 Starting, 0x02 Acquiring, 0x03 Surveying, 0x04 Holding, 0x05 Suspended, 0x06 Fault -/
def gnssState : Entry := ⟨0x4800, 2, .enum8, .observer, none, .v, 0x00, .any⟩
/-- 08, R331. 0x01 L1, 0x02 L5, 0x03 both; StateConflict unless Off -/
def gnssBandEnable : Entry := ⟨0x4800, 3, .enum8, .observer, (some .operator), .s, 0x03, .span 1 3⟩
/-- 08, R331. Bit 0 GPS, 1 Galileo, 2 BeiDou, 3 QZSS; the time system's bit must be set -/
def gnssSystemEnable : Entry := ⟨0x4800, 4, .u8, .observer, (some .operator), .s, 0x0F, .span 0 15⟩
/-- 08, R331. R309, R317 -/
def gnssTimeSystem : Entry := ⟨0x4800, 5, .enum8, .observer, (some .operator), .s, 0x00, .span 0 2⟩
/-- 08, R331. 0x00 system time, 0x01 broadcast UTC -/
def gnssUtcRealisation : Entry := ⟨0x4800, 6, .enum8, .observer, (some .operator), .s, 0x01, .span 0 1⟩
/-- 08, R331. 0x00 estimated, 0x01 broadcast (R308) -/
def gnssIsbMode : Entry := ⟨0x4800, 7, .enum8, .observer, (some .operator), .s, 0x00, .span 0 1⟩
/-- 08, R331. In s, 60 to 86,400 -/
def gnssIsbTau : Entry := ⟨0x4800, 8, .u32, .observer, (some .operator), .s, 3600, .span 60 86400⟩
/-- 08, R331. In 0.1°, 0 to 600 -/
def gnssElevationMask : Entry := ⟨0x4800, 9, .u16, .observer, (some .operator), .s, 100, .span 0 600⟩
/-- 08, R331. In 0.1 dB-Hz, 200 to 450 -/
def gnssCn0Mask : Entry := ⟨0x4800, 10, .u16, .observer, (some .operator), .s, 300, .span 200 450⟩
/-- 08, R331. In s, 1 to 600 -/
def gnssSmoothingTau : Entry := ⟨0x4800, 11, .u16, .observer, (some .operator), .s, 100, .span 1 600⟩
/-- 08, R331. 1 to 12 -/
def gnssMinSats : Entry := ⟨0x4800, 12, .u8, .observer, (some .operator), .s, 4, .span 1 12⟩
/-- 08, R331. Zenith residual in mm, 10 to 500 -/
def gnssTropResidual : Entry := ⟨0x4800, 13, .u16, .observer, (some .operator), .s, 40, .span 10 500⟩
/-- 08, R331. 0x01 leaves Fault (R301) -/
def gnssRelease : Entry := ⟨0x4800, 14, .cmd 1, .observer, (some .operator), .v, 0, .span 1 1⟩
/-- 08, R331. Full GPS week number, counted from 1980-01-06 without rollover, of the release date of the running GNSS … -/
def gnssWeekPivot : Entry := ⟨0x4800, 15, .u16, .observer, none, .v, Config.releaseData (0x4800) (15), .any⟩
/-- 08, R332. In Hz (R294) -/
def gsSampleRate (n : Nat) : Entry := ⟨0x4810 + n, 1, .u32, .observer, (some .operator), .s, 40960000, .stepped 24000000 81920000 1000⟩
/-- 08, R332. In Hz (R294) -/
def gsIfFrequency (n : Nat) : Entry := ⟨0x4810 + n, 2, .i32, .observer, (some .operator), .s, 0, .any⟩
/-- 08, R332. Sample formats table -/
def gsSampleFormat (n : Nat) : Entry := ⟨0x4810 + n, 3, .enum8, .observer, (some .operator), .s, 0x00, .span 0 2⟩
/-- 08, R332. Conjugate samples -/
def gsSpectrumInvert (n : Nat) : Entry := ⟨0x4810 + n, 4, .bool, .observer, (some .operator), .s, 0, .span 0 1⟩
/-- 08, R332. 0x00 Absent, 0x01 Good, 0x02 Fault (R296) -/
def gsClockState (n : Nat) : Entry := ⟨0x4810 + n, 5, .enum8, .observer, none, .v, 0x00, .any⟩
/-- 08, R332. Sample clock against the timescale -/
def gsClockOffset (n : Nat) : Entry := ⟨0x4810 + n, 6, .frac64, .observer, none, .v, 0, .any⟩
/-- 08, R332. J_b in 0.1 dB (R325) -/
def gsJamIndicator (n : Nat) : Entry := ⟨0x4810 + n, 7, .u16, .observer, none, .v, 0xFFFF, .any⟩
/-- 08, R332. 0x00 Clear, 0x01 Warning, 0x02 Jammed -/
def gsJamState (n : Nat) : Entry := ⟨0x4810 + n, 8, .enum8, .observer, none, .v, 0x00, .any⟩
/-- 08, R332. Notches engaged, 0 to 4 -/
def gsNotchActive (n : Nat) : Entry := ⟨0x4810 + n, 9, .u8, .observer, none, .v, 0, .any⟩
/-- 08, R332. Notch centre from band centre in Hz; 0x7FFFFFFF idle -/
def gsNotchCentre (n : Nat) (k : Nat) : Entry := ⟨0x4810 + n, 10 + k, .i32, .observer, none, .v, 0x7FFFFFFF, .any⟩
/-- 08, R332. Signals tracked in the band -/
def gsSignalsTracked (n : Nat) : Entry := ⟨0x4810 + n, 14, .u8, .observer, none, .v, 0, .any⟩
/-- 08, R333. 0 to 10 µs (R315) -/
def gnssCommonDelay : Entry := ⟨0x4820, 1, .span64, .observer, (some .operator), .s, 0, .span 0 655360000⟩
/-- 08, R333. In ps -/
def gnssCommonDelayUnc : Entry := ⟨0x4820, 2, .u32, .observer, (some .operator), .s, 1000, .any⟩
/-- 08, R333. 0 to 10 µs -/
def gnssBandDelayL1 : Entry := ⟨0x4820, 3, .span64, .observer, (some .operator), .s, 0, .span 0 655360000⟩
/-- 08, R333. In ps -/
def gnssBandDelayL1Unc : Entry := ⟨0x4820, 4, .u32, .observer, (some .operator), .s, 1000, .any⟩
/-- 08, R333. 0 to 10 µs -/
def gnssBandDelayL5 : Entry := ⟨0x4820, 5, .span64, .observer, (some .operator), .s, 0, .span 0 655360000⟩
/-- 08, R333. In ps -/
def gnssBandDelayL5Unc : Entry := ⟨0x4820, 6, .u32, .observer, (some .operator), .s, 1000, .any⟩
/-- 08, R333. GPS, Galileo, BeiDou, QZSS; ±100 ns -/
def gnssSystemBias (k : Nat) : Entry := ⟨0x4820, 7 + k, .span64, .observer, (some .operator), .s, 0, .span (-6553600) 6553600⟩
/-- 08, R333. In ps -/
def gnssSystemBiasUnc : Entry := ⟨0x4820, 11, .u32, .observer, (some .operator), .s, 500, .any⟩
/-- 08, R333. d_IF in force -/
def gnssIfDelay : Entry := ⟨0x4820, 12, .span64, .observer, none, .v, 0, .any⟩
/-- 08, R333. e_cal in force -/
def gnssCalTerm : Entry := ⟨0x4820, 13, .ps32, .observer, none, .v, 0xFFFFFFFF, .any⟩
/-- 08, R333. 0x00 survey, 0x01 host -/
def gnssPositionSource : Entry := ⟨0x4821, 1, .enum8, .observer, (some .operator), .s, 0x00, .span 0 1⟩
/-- 08, R333. ECEF X, Y, Z in 0.1 mm; written by the device at survey completion -/
def gnssHeldPosition (k : Nat) : Entry := ⟨0x4821, 2 + k, .i64, .observer, (some .operator), .s, 0, .any⟩
/-- 08, R333. U_pos in mm, 1 to 100,000 -/
def gnssPositionUnc : Entry := ⟨0x4821, 5, .u32, .observer, (some .operator), .s, 1000, .span 1 100000⟩
/-- 08, R333. In s, 600 to 604,800 -/
def gnssSurveyTime : Entry := ⟨0x4821, 6, .u32, .observer, (some .operator), .s, 14400, .span 600 604800⟩
/-- 08, R333. 3D sigma in mm, 10 to 10,000 -/
def gnssSurveyAccuracy : Entry := ⟨0x4821, 7, .u32, .observer, (some .operator), .s, 200, .span 10 10000⟩
/-- 08, R333. 0x01; StateConflict when Off, Starting or Fault -/
def gnssSurveyRestart : Entry := ⟨0x4821, 8, .cmd 1, .observer, (some .operator), .v, 0, .span 1 1⟩
/-- 08, R333. In s -/
def gnssSurveyElapsed : Entry := ⟨0x4821, 9, .u32, .observer, none, .v, 0, .any⟩
/-- 08, R333. In mm -/
def gnssSurveySigma : Entry := ⟨0x4821, 10, .u32, .observer, none, .v, 0, .any⟩
/-- 08, R333. In mm, 1,000 to 100,000 -/
def gnssPositionLimit : Entry := ⟨0x4821, 11, .u32, .observer, (some .operator), .s, 10000, .span 1000 100000⟩
/-- 08, R333. Last position-check deviation in mm -/
def gnssPositionDeviation : Entry := ⟨0x4821, 12, .u32, .observer, none, .v, 0, .any⟩
/-- 08, R333. Survey even when a held position exists -/
def gnssSurveyAtStart : Entry := ⟨0x4821, 13, .bool, .observer, (some .operator), .s, 0, .span 0 1⟩
/-- 08, R334. R316 -/
def gnssAuthPolicy : Entry := ⟨0x4830, 1, .enum8, .observer, (some .operator), .s, 0x01, .span 0 2⟩
/-- 08, R334. 1 to 12 -/
def gnssAuthMinSats : Entry := ⟨0x4830, 2, .u8, .observer, (some .operator), .s, 4, .span 1 12⟩
/-- 08, R334. In ps, 1,000 to 1,000,000 -/
def gnssAuthAgreeLimit : Entry := ⟨0x4830, 3, .u32, .observer, (some .operator), .s, 20000, .span 1000 1000000⟩
/-- 08, R334. In s, 1 to 30 -/
def gnssOsnmaTimeTolerance : Entry := ⟨0x4830, 4, .u16, .observer, (some .operator), .s, 15, .span 1 30⟩
/-- 08, R334. R319 -/
def gnssOsnmaAcceptTest : Entry := ⟨0x4830, 5, .bool, .observer, (some .custodian), .s, 0, .span 0 1⟩
/-- 08, R334. 0x00 Inactive, 0x01 NoKey, 0x02 Bootstrapping, 0x03 Operational, 0x04 Unsupported, 0x05 DontUse, 0x06 … -/
def gnssOsnmaState : Entry := ⟨0x4830, 6, .enum8, .observer, none, .v, 0x00, .any⟩
/-- 08, R334. Satellites with authenticated ADKD0 data -/
def gnssOsnmaAuthSats : Entry := ⟨0x4830, 7, .u8, .observer, none, .v, 0, .any⟩
/-- 08, R334. R320; saturates -/
def gnssOsnmaFailCount : Entry := ⟨0x4830, 8, .u32, .observer, none, .k, 0, .any⟩
/-- 08, R334. U_trust in ms -/
def gnssTrustedTimeUnc : Entry := ⟨0x4830, 9, .u32, .observer, none, .k, 0xFFFFFFFF, .any⟩
/-- 08, R334. TIME96 (R321) -/
def gnssTrustedTimeSet : Entry := ⟨0x4830, 10, .cmd 12, .observer, (some .custodian), .v, 0, .any⟩
/-- 08, R334. Public key in use -/
def gnssOsnmaKeyId : Entry := ⟨0x4830, 11, .u8, .observer, none, .v, 0, .any⟩
/-- 08, R334. TESLA chain in use -/
def gnssOsnmaChainId : Entry := ⟨0x4830, 12, .u8, .observer, none, .v, 0, .any⟩
/-- 08, R334. R323 -/
def gnssInterferenceMode : Entry := ⟨0x4838, 1, .enum8, .observer, (some .operator), .s, 0x03, .span 0 3⟩
/-- 08, R334. In 0.1 dB, 10 to 400; below GnssJamLimit -/
def gnssJamWarn : Entry := ⟨0x4838, 2, .u16, .observer, (some .operator), .s, 60, .span 10 400⟩
/-- 08, R334. In 0.1 dB, 20 to 400 -/
def gnssJamLimit : Entry := ⟨0x4838, 3, .u16, .observer, (some .operator), .s, 120, .span 20 400⟩
/-- 08, R334. In 0.1 dB, 60 to 400 -/
def gnssNotchThreshold : Entry := ⟨0x4838, 4, .u16, .observer, (some .operator), .s, 150, .span 60 400⟩
/-- 08, R334. In 0.1 σ, 30 to 100 -/
def gnssResidualLimit : Entry := ⟨0x4838, 5, .u16, .observer, (some .operator), .s, 50, .span 30 100⟩
/-- 08, R334. In mm, 100 to 10,000 -/
def gnssIonoCheckLimit : Entry := ⟨0x4838, 6, .u32, .observer, (some .operator), .s, 1000, .span 100 10000⟩
/-- 08, R334. In ps, 1,000 to 1,000,000 -/
def gnssIsbLimit : Entry := ⟨0x4838, 7, .u32, .observer, (some .operator), .s, 10000, .span 1000 1000000⟩
/-- 08, R334. In ps, 1,000 to 1,000,000 -/
def gnssClockPhaseLimit : Entry := ⟨0x4838, 8, .u32, .observer, (some .operator), .s, 20000, .span 1000 1000000⟩
/-- 08, R334. In 10^-15, 1,000 to 100,000,000 -/
def gnssClockFreqLimit : Entry := ⟨0x4838, 9, .u32, .observer, (some .operator), .s, 100000, .span 1000 100000000⟩
/-- 08, R334. 0x00 Inactive, 0x01 Pass, 0x02 Withholding -/
def gnssClockCheckState : Entry := ⟨0x4838, 10, .enum8, .observer, none, .v, 0x00, .any⟩
/-- 08, R334. Satellite exclusions; saturates -/
def gnssExcludedCount : Entry := ⟨0x4838, 11, .u32, .observer, none, .v, 0, .any⟩
/-- 08, R334. Withheld epochs; saturates -/
def gnssWithheldCount : Entry := ⟨0x4838, 12, .u32, .observer, none, .k, 0, .any⟩
/-- 08, R335. Epoch of the last record -/
def g0Epoch : Entry := ⟨0x4840, 1, .time96, .observer, none, .v, 0, .any⟩
/-- 08, R335. x -/
def g0Offset : Entry := ⟨0x4840, 2, .span64, .observer, none, .v, 0, .any⟩
/-- 08, R335. σ_b in fs -/
def g0RandomSigma : Entry := ⟨0x4840, 3, .u32, .observer, none, .v, 0xFFFFFFFF, .any⟩
/-- 08, R335. e_G0 -/
def g0SystematicBound : Entry := ⟨0x4840, 4, .ps32, .observer, none, .v, 0xFFFFFFFF, .any⟩
/-- 08, R335. G0Flags layout -/
def g0Flags : Entry := ⟨0x4840, 5, .u16, .observer, none, .v, 0, .any⟩
/-- 08, R335. — -/
def g0SatsUsed : Entry := ⟨0x4840, 6, .u8, .observer, none, .v, 0, .any⟩
/-- 08, R335. — -/
def g0SystemsUsed : Entry := ⟨0x4840, 7, .u8, .observer, none, .v, 0, .any⟩
/-- 08, R335. R310, in s -/
def g0UtcOffset : Entry := ⟨0x4840, 8, .i32, .observer, none, .v, 0, .any⟩
/-- 08, R335. R310 -/
def g0LeapTime : Entry := ⟨0x4840, 9, .time96, .observer, none, .v, 0, .any⟩
/-- 08, R335. 0x00 none, 0x01 insert, 0x02 delete -/
def g0LeapKind : Entry := ⟨0x4840, 10, .enum8, .observer, none, .v, 0x00, .any⟩
/-- 08, R335. β of GPS, Galileo, BeiDou, QZSS -/
def g0SystemBias (k : Nat) : Entry := ⟨0x4840, 11 + k, .span64, .observer, none, .v, 0, .any⟩
/-- 08, R335. R311, R312; saturates -/
def g0LateCount : Entry := ⟨0x4840, 15, .u32, .observer, none, .v, 0, .any⟩
/-- 09, R372. Published timescale bound -/
def boundTimescale : Entry := ⟨0x5000, 1, .ps32, .observer, none, .v, 0xFFFFFFFF, .any⟩
/-- 09, R372. S_ts, rounded up -/
def boundSystematic : Entry := ⟨0x5000, 2, .ps32, .observer, none, .v, 0xFFFFFFFF, .any⟩
/-- 09, R372. U_ts in fs -/
def boundRandom : Entry := ⟨0x5000, 3, .u32, .observer, none, .v, 0xFFFFFFFF, .any⟩
/-- 09, R372. Before the limit of R354 -/
def boundComputed : Entry := ⟨0x5000, 4, .ps32, .observer, none, .v, 0xFFFFFFFF, .any⟩
/-- 09, R372. 0x00 Unbounded, 0x01 Tracking, 0x02 Anchored, 0x03 Holdover, 0x04 VcoHold, 0x05 XoTimebase -/
def boundState : Entry := ⟨0x5000, 5, .enum8, .observer, none, .v, 0x00, .any⟩
/-- 09, R372. 0x00 none; 0x01 to 0x07 as R349 -/
def boundUnboundedCause : Entry := ⟨0x5000, 6, .enum8, .observer, none, .v, 0x01, .any⟩
/-- 09, R372. G in ps/s -/
def boundGrowthRate : Entry := ⟨0x5000, 7, .u32, .observer, none, .v, 0xFFFFFFFF, .any⟩
/-- 09, R372. B_base -/
def boundBase : Entry := ⟨0x5000, 8, .ps32, .observer, none, .v, 0xFFFFFFFF, .any⟩
/-- 09, R372. Frame start at which B_base was frozen -/
def boundBaseTime : Entry := ⟨0x5000, 9, .time96, .observer, none, .v, 0, .any⟩
/-- 09, R372. R354 -/
def boundLimiterActive : Entry := ⟨0x5000, 10, .bool, .observer, none, .v, 0, .any⟩
/-- 09, R372. In ps, 100 to 100,000,000 (R357) -/
def boundAlarmLimit : Entry := ⟨0x5000, 11, .ps32, .observer, (some .operator), .s, 10000, .span 100 100000000⟩
/-- 09, R372. 1.0 × 10^-15 to 1.0 × 10^-6 (R344) -/
def boundGapRate : Entry := ⟨0x5000, 12, .frac64, .observer, (some .operator), .s, 184467441, .span 18447 18446744073709⟩
/-- 09, R372. In ps, 0 to 100,000 (R351) -/
def supplyTerm : Entry := ⟨0x5000, 13, .ps32, .observer, (some .operator), .s, 100, .span 0 100000⟩
/-- 09, R372. In ps, 0 to 100,000 (R352) -/
def regionTerm : Entry := ⟨0x5000, 14, .ps32, .observer, (some .operator), .s, 100, .span 0 100000⟩
/-- 09, R372. R351 -/
def supplyTermActive : Entry := ⟨0x5000, 15, .bool, .observer, none, .v, 0, .any⟩
/-- 09, R372. e_ref, e_meas, e_bo, e_drift, e_srv, e_gap, e_sup -/
def termSystematic (k : Nat) : Entry := ⟨0x5010, 1 + k, .ps32, .observer, none, .v, 0, .any⟩
/-- 09, R372. u_ref, u_cal, u_bo, u_srv in fs -/
def termRandom (k : Nat) : Entry := ⟨0x5010, 8 + k, .u32, .observer, none, .v, 0, .any⟩
/-- 09, R372. 0x00 class 140, 0x01 150, 0x02 160 -/
def clockClassCategory : Entry := ⟨0x5020, 1, .enum8, .observer, (some .operator), .s, 0x00, .span 0 2⟩
/-- 09, R372. 0x00 derived, 0x01 fixed (R362) -/
def clockAccuracyMode : Entry := ⟨0x5020, 2, .enum8, .observer, (some .operator), .s, 0x00, .span 0 1⟩
/-- 09, R372. 0x17 to 0x31 -/
def clockAccuracyFixed : Entry := ⟨0x5020, 3, .u8, .observer, (some .operator), .s, 0x21, .span 23 49⟩
/-- 09, R372. 0x00 default, 0x01 G.8275.1, 0x02 G.8275.2 -/
def todClassProfile : Entry := ⟨0x5020, 4, .enum8, .observer, (some .operator), .s, 0x01, .span 0 2⟩
/-- 09, R372. R364 -/
def boundTlvOrgId : Entry := ⟨0x5020, 5, .octets 3, .observer, (some .custodian), .s, 0x5AB7C4, .any⟩
/-- 09, R372. Bit 0 Sync, 1 Follow_Up, 2 Delay_Resp, 3 Announce -/
def boundTlvMessages : Entry := ⟨0x5020, 6, .u8, .observer, (some .operator), .s, 0x0F, .span 0 15⟩
/-- 09, R372. Class under the default profile -/
def clockClassDefault : Entry := ⟨0x5020, 7, .u8, .observer, none, .v, 248, .any⟩
/-- 09, R372. Class under G.8275.1 and G.8275.2 -/
def clockClassTelecom : Entry := ⟨0x5020, 8, .u8, .observer, none, .v, 248, .any⟩
/-- 09, R372. R362 applied to BoundTimescale -/
def clockAccuracyTimescale : Entry := ⟨0x5020, 9, .u8, .observer, none, .v, 0xFE, .any⟩
/-- 09, R373. Published bound (R358, R359) -/
def outBound (n : Nat) : Entry := ⟨0x5040 + n, 1, .ps32, .observer, none, .v, 0xFFFFFFFF, .any⟩
/-- 09, R373. Published bound (R358, R359) -/
def plsBound (n : Nat) : Entry := ⟨0x5050 + n, 1, .ps32, .observer, none, .v, 0xFFFFFFFF, .any⟩
/-- 09, R373. Published bound (R358, R359) -/
def portBound (n : Nat) : Entry := ⟨0x5058 + n, 1, .ps32, .observer, none, .v, 0xFFFFFFFF, .any⟩
/-- 09, R373. S, rounded up -/
def outBoundSys (n : Nat) : Entry := ⟨0x5040 + n, 2, .ps32, .observer, none, .v, 0xFFFFFFFF, .any⟩
/-- 09, R373. S, rounded up -/
def plsBoundSys (n : Nat) : Entry := ⟨0x5050 + n, 2, .ps32, .observer, none, .v, 0xFFFFFFFF, .any⟩
/-- 09, R373. S, rounded up -/
def portBoundSys (n : Nat) : Entry := ⟨0x5058 + n, 2, .ps32, .observer, none, .v, 0xFFFFFFFF, .any⟩
/-- 09, R373. U in fs -/
def outBoundRand (n : Nat) : Entry := ⟨0x5040 + n, 3, .u32, .observer, none, .v, 0xFFFFFFFF, .any⟩
/-- 09, R373. U in fs -/
def plsBoundRand (n : Nat) : Entry := ⟨0x5050 + n, 3, .u32, .observer, none, .v, 0xFFFFFFFF, .any⟩
/-- 09, R373. U in fs -/
def portBoundRand (n : Nat) : Entry := ⟨0x5058 + n, 3, .u32, .observer, none, .v, 0xFFFFFFFF, .any⟩
/-- 09, R373. OutBoardDelayUnc or PlsBoardDelayUnc, in ps -/
def outBoardDelayUnc (n : Nat) : Entry := ⟨0x5040 + n, 4, .ps32, .observer, (some .operator), .s, 1000, .any⟩
/-- 09, R373. OutBoardDelayUnc or PlsBoardDelayUnc, in ps -/
def plsBoardDelayUnc (n : Nat) : Entry := ⟨0x5050 + n, 4, .ps32, .observer, (some .operator), .s, 1000, .any⟩
/-- 09, R373. Uncertainty of ChBoardDelay (R169), in ps -/
def chBoardDelayUnc (n : Nat) : Entry := ⟨0x5060 + n, 1, .ps32, .observer, (some .operator), .s, 1000, .any⟩
/-- 09, R374. Records are fixed and stored -/
def auditEnable : Entry := ⟨0x5030, 1, .bool, .observer, (some .custodian), .s, 1, .span 0 1⟩
/-- 09, R374. 1 to 90 (R370) -/
def auditArchiveDays : Entry := ⟨0x5030, 2, .u16, .observer, (some .custodian), .s, 30, .span 1 90⟩
/-- 09, R374. In s, 60 to 16,384 (R369) -/
def auditCheckpointInterval : Entry := ⟨0x5030, 3, .u16, .observer, (some .custodian), .s, 3600, .span 60 16384⟩
/-- 09, R374. Sequence of the last record fixed -/
def auditSequence : Entry := ⟨0x5030, 4, .u32, .observer, none, .k, 0, .any⟩
/-- 09, R374. Oldest Sequence in the archive -/
def auditOldest : Entry := ⟨0x5030, 5, .u32, .observer, none, .v, 0, .any⟩
/-- 09, R374. Chaining input in force -/
def auditLastMac : Entry := ⟨0x5030, 6, .octets 12, .observer, none, .k, 0, .any⟩
/-- 09, R374. Generation of the audit key; wraps -/
def auditKeyGeneration : Entry := ⟨0x5030, 7, .u8, .observer, none, .k, 0, .any⟩
/-- 09, R374. R368; saturates -/
def auditLostCount : Entry := ⟨0x5030, 8, .u32, .observer, none, .k, 0, .any⟩
/-- 09, R374. R368; saturates -/
def auditUnkeyedCount : Entry := ⟨0x5030, 9, .u32, .observer, none, .k, 0, .any⟩
/-- 09, R374. Last record stored -/
def auditLastRecord : Entry := ⟨0x5030, 10, .octets 64, .observer, none, .v, 0, .any⟩
/-- 09, R374. Per session (R371) -/
def auditCursor : Entry := ⟨0x5030, 11, .u32, .observer, (some .observer), .v, 0, .any⟩
/-- 09, R374. R371 -/
def auditWindow (k : Nat) : Entry := ⟨0x5031, 1 + k, .octets 64, .observer, none, .v, 0, .any⟩
/-- 08, R336. channel status layout -/
def gnssChannelStatus (k : Nat) : Entry := ⟨0x4900, 1 + k, .u64, .observer, none, .v, 0, .any⟩
/-- 08, R336. 0x00 in service, 0x01 Removed -/
def gnssBankState (k : Nat) : Entry := ⟨0x4901, 1 + k, .enum8, .observer, none, .v, 0x00, .any⟩
/-- 08, R336. 1 to 12 -/
def gnssBankRelease : Entry := ⟨0x4902, 0, .cmd 1, .observer, (some .operator), .v, 0, .span 1 12⟩

/-- Address families of this file, part 0 (R57, R58). -/
def famsGnss0 : List Family := [
  ⟨0x4800, 0, 1, 1, 1, fun _ _ => gnssEnable⟩,
  ⟨0x4800, 0, 1, 2, 1, fun _ _ => gnssState⟩,
  ⟨0x4800, 0, 1, 3, 1, fun _ _ => gnssBandEnable⟩,
  ⟨0x4800, 0, 1, 4, 1, fun _ _ => gnssSystemEnable⟩,
  ⟨0x4800, 0, 1, 5, 1, fun _ _ => gnssTimeSystem⟩,
  ⟨0x4800, 0, 1, 6, 1, fun _ _ => gnssUtcRealisation⟩,
  ⟨0x4800, 0, 1, 7, 1, fun _ _ => gnssIsbMode⟩,
  ⟨0x4800, 0, 1, 8, 1, fun _ _ => gnssIsbTau⟩,
  ⟨0x4800, 0, 1, 9, 1, fun _ _ => gnssElevationMask⟩,
  ⟨0x4800, 0, 1, 10, 1, fun _ _ => gnssCn0Mask⟩,
  ⟨0x4800, 0, 1, 11, 1, fun _ _ => gnssSmoothingTau⟩,
  ⟨0x4800, 0, 1, 12, 1, fun _ _ => gnssMinSats⟩,
  ⟨0x4800, 0, 1, 13, 1, fun _ _ => gnssTropResidual⟩,
  ⟨0x4800, 0, 1, 14, 1, fun _ _ => gnssRelease⟩,
  ⟨0x4800, 0, 1, 15, 1, fun _ _ => gnssWeekPivot⟩,
  ⟨0x4810, 0, 2, 1, 1, fun n _ => gsSampleRate n⟩,
  ⟨0x4810, 0, 2, 2, 1, fun n _ => gsIfFrequency n⟩,
  ⟨0x4810, 0, 2, 3, 1, fun n _ => gsSampleFormat n⟩,
  ⟨0x4810, 0, 2, 4, 1, fun n _ => gsSpectrumInvert n⟩,
  ⟨0x4810, 0, 2, 5, 1, fun n _ => gsClockState n⟩,
  ⟨0x4810, 0, 2, 6, 1, fun n _ => gsClockOffset n⟩,
  ⟨0x4810, 0, 2, 7, 1, fun n _ => gsJamIndicator n⟩,
  ⟨0x4810, 0, 2, 8, 1, fun n _ => gsJamState n⟩,
  ⟨0x4810, 0, 2, 9, 1, fun n _ => gsNotchActive n⟩,
  ⟨0x4810, 0, 2, 10, 4, fun n k => gsNotchCentre n k⟩]

/-- Address families of this file, part 1 (R57, R58). -/
def famsGnss1 : List Family := [
  ⟨0x4810, 0, 2, 14, 1, fun n _ => gsSignalsTracked n⟩,
  ⟨0x4820, 0, 1, 1, 1, fun _ _ => gnssCommonDelay⟩,
  ⟨0x4820, 0, 1, 2, 1, fun _ _ => gnssCommonDelayUnc⟩,
  ⟨0x4820, 0, 1, 3, 1, fun _ _ => gnssBandDelayL1⟩,
  ⟨0x4820, 0, 1, 4, 1, fun _ _ => gnssBandDelayL1Unc⟩,
  ⟨0x4820, 0, 1, 5, 1, fun _ _ => gnssBandDelayL5⟩,
  ⟨0x4820, 0, 1, 6, 1, fun _ _ => gnssBandDelayL5Unc⟩,
  ⟨0x4820, 0, 1, 7, 4, fun _ k => gnssSystemBias k⟩,
  ⟨0x4820, 0, 1, 11, 1, fun _ _ => gnssSystemBiasUnc⟩,
  ⟨0x4820, 0, 1, 12, 1, fun _ _ => gnssIfDelay⟩,
  ⟨0x4820, 0, 1, 13, 1, fun _ _ => gnssCalTerm⟩,
  ⟨0x4821, 0, 1, 1, 1, fun _ _ => gnssPositionSource⟩,
  ⟨0x4821, 0, 1, 2, 3, fun _ k => gnssHeldPosition k⟩,
  ⟨0x4821, 0, 1, 5, 1, fun _ _ => gnssPositionUnc⟩,
  ⟨0x4821, 0, 1, 6, 1, fun _ _ => gnssSurveyTime⟩,
  ⟨0x4821, 0, 1, 7, 1, fun _ _ => gnssSurveyAccuracy⟩,
  ⟨0x4821, 0, 1, 8, 1, fun _ _ => gnssSurveyRestart⟩,
  ⟨0x4821, 0, 1, 9, 1, fun _ _ => gnssSurveyElapsed⟩,
  ⟨0x4821, 0, 1, 10, 1, fun _ _ => gnssSurveySigma⟩,
  ⟨0x4821, 0, 1, 11, 1, fun _ _ => gnssPositionLimit⟩,
  ⟨0x4821, 0, 1, 12, 1, fun _ _ => gnssPositionDeviation⟩,
  ⟨0x4821, 0, 1, 13, 1, fun _ _ => gnssSurveyAtStart⟩,
  ⟨0x4830, 0, 1, 1, 1, fun _ _ => gnssAuthPolicy⟩,
  ⟨0x4830, 0, 1, 2, 1, fun _ _ => gnssAuthMinSats⟩,
  ⟨0x4830, 0, 1, 3, 1, fun _ _ => gnssAuthAgreeLimit⟩]

/-- Address families of this file, part 2 (R57, R58). -/
def famsGnss2 : List Family := [
  ⟨0x4830, 0, 1, 4, 1, fun _ _ => gnssOsnmaTimeTolerance⟩,
  ⟨0x4830, 0, 1, 5, 1, fun _ _ => gnssOsnmaAcceptTest⟩,
  ⟨0x4830, 0, 1, 6, 1, fun _ _ => gnssOsnmaState⟩,
  ⟨0x4830, 0, 1, 7, 1, fun _ _ => gnssOsnmaAuthSats⟩,
  ⟨0x4830, 0, 1, 8, 1, fun _ _ => gnssOsnmaFailCount⟩,
  ⟨0x4830, 0, 1, 9, 1, fun _ _ => gnssTrustedTimeUnc⟩,
  ⟨0x4830, 0, 1, 10, 1, fun _ _ => gnssTrustedTimeSet⟩,
  ⟨0x4830, 0, 1, 11, 1, fun _ _ => gnssOsnmaKeyId⟩,
  ⟨0x4830, 0, 1, 12, 1, fun _ _ => gnssOsnmaChainId⟩,
  ⟨0x4838, 0, 1, 1, 1, fun _ _ => gnssInterferenceMode⟩,
  ⟨0x4838, 0, 1, 2, 1, fun _ _ => gnssJamWarn⟩,
  ⟨0x4838, 0, 1, 3, 1, fun _ _ => gnssJamLimit⟩,
  ⟨0x4838, 0, 1, 4, 1, fun _ _ => gnssNotchThreshold⟩,
  ⟨0x4838, 0, 1, 5, 1, fun _ _ => gnssResidualLimit⟩,
  ⟨0x4838, 0, 1, 6, 1, fun _ _ => gnssIonoCheckLimit⟩,
  ⟨0x4838, 0, 1, 7, 1, fun _ _ => gnssIsbLimit⟩,
  ⟨0x4838, 0, 1, 8, 1, fun _ _ => gnssClockPhaseLimit⟩,
  ⟨0x4838, 0, 1, 9, 1, fun _ _ => gnssClockFreqLimit⟩,
  ⟨0x4838, 0, 1, 10, 1, fun _ _ => gnssClockCheckState⟩,
  ⟨0x4838, 0, 1, 11, 1, fun _ _ => gnssExcludedCount⟩,
  ⟨0x4838, 0, 1, 12, 1, fun _ _ => gnssWithheldCount⟩,
  ⟨0x4840, 0, 1, 1, 1, fun _ _ => g0Epoch⟩,
  ⟨0x4840, 0, 1, 2, 1, fun _ _ => g0Offset⟩,
  ⟨0x4840, 0, 1, 3, 1, fun _ _ => g0RandomSigma⟩,
  ⟨0x4840, 0, 1, 4, 1, fun _ _ => g0SystematicBound⟩]

/-- Address families of this file, part 3 (R57, R58). -/
def famsGnss3 : List Family := [
  ⟨0x4840, 0, 1, 5, 1, fun _ _ => g0Flags⟩,
  ⟨0x4840, 0, 1, 6, 1, fun _ _ => g0SatsUsed⟩,
  ⟨0x4840, 0, 1, 7, 1, fun _ _ => g0SystemsUsed⟩,
  ⟨0x4840, 0, 1, 8, 1, fun _ _ => g0UtcOffset⟩,
  ⟨0x4840, 0, 1, 9, 1, fun _ _ => g0LeapTime⟩,
  ⟨0x4840, 0, 1, 10, 1, fun _ _ => g0LeapKind⟩,
  ⟨0x4840, 0, 1, 11, 4, fun _ k => g0SystemBias k⟩,
  ⟨0x4840, 0, 1, 15, 1, fun _ _ => g0LateCount⟩,
  ⟨0x5000, 0, 1, 1, 1, fun _ _ => boundTimescale⟩,
  ⟨0x5000, 0, 1, 2, 1, fun _ _ => boundSystematic⟩,
  ⟨0x5000, 0, 1, 3, 1, fun _ _ => boundRandom⟩,
  ⟨0x5000, 0, 1, 4, 1, fun _ _ => boundComputed⟩,
  ⟨0x5000, 0, 1, 5, 1, fun _ _ => boundState⟩,
  ⟨0x5000, 0, 1, 6, 1, fun _ _ => boundUnboundedCause⟩,
  ⟨0x5000, 0, 1, 7, 1, fun _ _ => boundGrowthRate⟩,
  ⟨0x5000, 0, 1, 8, 1, fun _ _ => boundBase⟩,
  ⟨0x5000, 0, 1, 9, 1, fun _ _ => boundBaseTime⟩,
  ⟨0x5000, 0, 1, 10, 1, fun _ _ => boundLimiterActive⟩,
  ⟨0x5000, 0, 1, 11, 1, fun _ _ => boundAlarmLimit⟩,
  ⟨0x5000, 0, 1, 12, 1, fun _ _ => boundGapRate⟩,
  ⟨0x5000, 0, 1, 13, 1, fun _ _ => supplyTerm⟩,
  ⟨0x5000, 0, 1, 14, 1, fun _ _ => regionTerm⟩,
  ⟨0x5000, 0, 1, 15, 1, fun _ _ => supplyTermActive⟩,
  ⟨0x5010, 0, 1, 1, 7, fun _ k => termSystematic k⟩,
  ⟨0x5010, 0, 1, 8, 4, fun _ k => termRandom k⟩]

/-- Address families of this file, part 4 (R57, R58). -/
def famsGnss4 : List Family := [
  ⟨0x5020, 0, 1, 1, 1, fun _ _ => clockClassCategory⟩,
  ⟨0x5020, 0, 1, 2, 1, fun _ _ => clockAccuracyMode⟩,
  ⟨0x5020, 0, 1, 3, 1, fun _ _ => clockAccuracyFixed⟩,
  ⟨0x5020, 0, 1, 4, 1, fun _ _ => todClassProfile⟩,
  ⟨0x5020, 0, 1, 5, 1, fun _ _ => boundTlvOrgId⟩,
  ⟨0x5020, 0, 1, 6, 1, fun _ _ => boundTlvMessages⟩,
  ⟨0x5020, 0, 1, 7, 1, fun _ _ => clockClassDefault⟩,
  ⟨0x5020, 0, 1, 8, 1, fun _ _ => clockClassTelecom⟩,
  ⟨0x5020, 0, 1, 9, 1, fun _ _ => clockAccuracyTimescale⟩,
  ⟨0x5040, 0, 16, 1, 1, fun n _ => outBound n⟩,
  ⟨0x5050, 0, 4, 1, 1, fun n _ => plsBound n⟩,
  ⟨0x5058, 0, 6, 1, 1, fun n _ => portBound n⟩,
  ⟨0x5040, 0, 16, 2, 1, fun n _ => outBoundSys n⟩,
  ⟨0x5050, 0, 4, 2, 1, fun n _ => plsBoundSys n⟩,
  ⟨0x5058, 0, 6, 2, 1, fun n _ => portBoundSys n⟩,
  ⟨0x5040, 0, 16, 3, 1, fun n _ => outBoundRand n⟩,
  ⟨0x5050, 0, 4, 3, 1, fun n _ => plsBoundRand n⟩,
  ⟨0x5058, 0, 6, 3, 1, fun n _ => portBoundRand n⟩,
  ⟨0x5040, 0, 16, 4, 1, fun n _ => outBoardDelayUnc n⟩,
  ⟨0x5050, 0, 4, 4, 1, fun n _ => plsBoardDelayUnc n⟩,
  ⟨0x5060, 0, 16, 1, 1, fun n _ => chBoardDelayUnc n⟩,
  ⟨0x5030, 0, 1, 1, 1, fun _ _ => auditEnable⟩,
  ⟨0x5030, 0, 1, 2, 1, fun _ _ => auditArchiveDays⟩,
  ⟨0x5030, 0, 1, 3, 1, fun _ _ => auditCheckpointInterval⟩,
  ⟨0x5030, 0, 1, 4, 1, fun _ _ => auditSequence⟩]

/-- Address families of this file, part 5 (R57, R58). -/
def famsGnss5 : List Family := [
  ⟨0x5030, 0, 1, 5, 1, fun _ _ => auditOldest⟩,
  ⟨0x5030, 0, 1, 6, 1, fun _ _ => auditLastMac⟩,
  ⟨0x5030, 0, 1, 7, 1, fun _ _ => auditKeyGeneration⟩,
  ⟨0x5030, 0, 1, 8, 1, fun _ _ => auditLostCount⟩,
  ⟨0x5030, 0, 1, 9, 1, fun _ _ => auditUnkeyedCount⟩,
  ⟨0x5030, 0, 1, 10, 1, fun _ _ => auditLastRecord⟩,
  ⟨0x5030, 0, 1, 11, 1, fun _ _ => auditCursor⟩,
  ⟨0x5031, 0, 1, 1, 16, fun _ k => auditWindow k⟩,
  ⟨0x4900, 0, 1, 1, 192, fun _ k => gnssChannelStatus k⟩,
  ⟨0x4901, 0, 1, 1, 12, fun _ k => gnssBankState k⟩,
  ⟨0x4902, 0, 1, 0, 1, fun _ _ => gnssBankRelease⟩]

/-- Every address family of this file. -/
def famsGnss : List Family :=
  famsGnss0 ++ famsGnss1 ++ famsGnss2 ++ famsGnss3 ++ famsGnss4 ++ famsGnss5

end Dict
end Sys2Proof.Machine
end

