-- ==== Sys2Proof/Machine/DictKeys.lean ====
section
/-!
DEFINITION. Dictionary entries (spec tables, read row by row): keys, Keeper and cascade.
One definition per table row; `n` is the unit number the table adds to the index, `k` the place within a
range of subindices. Fields: index, subindex, type, read level, write level, keep class, default, range.
-/
namespace Sys2Proof.Machine
namespace Dict

/-- 12, R504. 0x00 Idle, 0x01 InProgress, 0x02 Deferred, 0x03 Failed, 0x04 Paced -/
def keyStoreStatus : Entry := ⟨0x6800, 1, .enum8, .observer, none, .v, 0x00, .any⟩
/-- 12, R504. Generation of the current image -/
def keyStoreGeneration : Entry := ⟨0x6800, 2, .u32, .observer, none, .v, 0, .any⟩
/-- 12, R504. 96 octets (R478) -/
def keyLoad : Entry := ⟨0x6800, 3, .cmd 96, .observer, (some .custodian), .v, 0, .any⟩
/-- 12, R504. U8 index (R479) -/
def keyDelete : Entry := ⟨0x6800, 4, .cmd 1, .observer, (some .custodian), .v, 0, .span 0 63⟩
/-- 12, R504. Commits since manufacture; saturates -/
def keyStoreCommits : Entry := ⟨0x6800, 5, .u32, .observer, none, .s, 0, .any⟩
/-- 12, R504. 0x00 current image used, 0x01 older image used, 0x02 none valid (R484) -/
def keyStoreBootStatus : Entry := ⟨0x6800, 6, .enum8, .observer, none, .v, 0x00, .any⟩
/-- 12, R504. 0x01 (R488) -/
def keyRederiveAll : Entry := ⟨0x6800, 7, .cmd 1, .observer, (some .custodian), .v, 0, .span 1 1⟩
/-- 12, R504. In s, 3,600 to 31,622,400 (R495) -/
def keyWarnTime : Entry := ⟨0x6800, 8, .u32, .observer, (some .custodian), .s, 604800, .span 3600 31622400⟩
/-- 12, R504. Working slot of Kind 0x05 that keys audit records -/
def keyAuditSlot : Entry := ⟨0x6800, 9, .u16, .observer, (some .custodian), .s, 0, .runs [(0, 1023), (65535, 65535)]⟩
/-- 12, R504. Constant -/
def keyDepthLimit : Entry := ⟨0x6800, 10, .u8, .observer, none, .v, 4, .any⟩
/-- 12, R504. Slots in state Valid -/
def workingSlotsValid : Entry := ⟨0x6800, 11, .u16, .observer, none, .v, 0, .any⟩
/-- 12, R504. Slots marked Stale; saturates -/
def keyStaleCount : Entry := ⟨0x6800, 12, .u32, .observer, none, .v, 0, .any⟩
/-- 12, R504. R476; saturates -/
def keyRefusedCount : Entry := ⟨0x6800, 13, .u32, .observer, none, .v, 0, .any⟩
/-- 12, R505. Kind; 0x00 when Empty -/
def keyKind (n : Nat) : Entry := ⟨0x6810 + n, 1, .enum8, .observer, none, .s, 0x00, .any⟩
/-- 12, R505. R476 -/
def keyUsage (n : Nat) : Entry := ⟨0x6810 + n, 2, .u8, .observer, none, .s, 0x00, .any⟩
/-- 12, R505. 0x00 Empty, 0x01 Valid, 0x02 Expired, 0x03 Exhausted, 0x04 Staged -/
def keyState (n : Nat) : Entry := ⟨0x6810 + n, 3, .enum8, .observer, none, .s, 0x00, .any⟩
/-- 12, R505. R496; wraps -/
def keyGeneration (n : Nat) : Entry := ⟨0x6810 + n, 4, .u32, .observer, none, .s, 0, .any⟩
/-- 12, R505. R489 -/
def keyUseCount (n : Nat) : Entry := ⟨0x6810 + n, 5, .u64, .observer, none, .v, 0, .any⟩
/-- 12, R505. 0 unlimited -/
def keyUseLimit (n : Nat) : Entry := ⟨0x6810 + n, 6, .u64, .observer, none, .s, 0, .any⟩
/-- 12, R505. R490 -/
def keyUseCeiling (n : Nat) : Entry := ⟨0x6810 + n, 7, .u64, .observer, none, .s, 0, .any⟩
/-- 12, R505. As in KeyLoad -/
def keyExpiryKind (n : Nat) : Entry := ⟨0x6810 + n, 8, .enum8, .observer, none, .s, 0x00, .any⟩
/-- 12, R505. R493 -/
def keyNotAfter (n : Nat) : Entry := ⟨0x6810 + n, 9, .time96, .observer, none, .s, 0, .any⟩
/-- 12, R505. Frame start at which the key became Valid -/
def keyLoadTime (n : Nat) : Entry := ⟨0x6810 + n, 10, .time96, .observer, none, .s, 0, .any⟩
/-- 12, R505. As in slot status; for Kind 0x06, the first 4 octets of SHA-256 of the material -/
def keyCheck (n : Nat) : Entry := ⟨0x6810 + n, 11, .octets 4, .observer, none, .s, 0, .any⟩
/-- 12, R506. R486 -/
def keySlotSpec (n : Nat) (k : Nat) : Entry := ⟨0x6900 + n, 1 + k, .octets 96, .observer, (some .custodian), .s, keySlotSpecBlank, .any⟩
/-- 12, R506. R487; Generation and UseCount are kept as K values -/
def keySlotStatus (n : Nat) (k : Nat) : Entry := ⟨0x6940 + n, 1 + k, .octets 32, .observer, none, .v, 0, .any⟩
/-- 13, R550. 0x00 single, 0x01 pair (R511); takes effect at the next reset that reaches TIME -/
def keeperMode : Entry := ⟨0x7000, 1, .enum8, .observer, (some .custodian), .s, 0x00, .span 0 1⟩
/-- 13, R550. 0x00 None, 0x01 Active, 0x02 Standby, 0x03 Stood-down -/
def keeperRole : Entry := ⟨0x7000, 2, .enum8, .observer, none, .v, 0, .any⟩
/-- 13, R550. R525, R526 -/
def keeperInnings : Entry := ⟨0x7000, 3, .u32, .observer, none, .k, 0, .any⟩
/-- 13, R550. From the last valid Beat -/
def keeperPeerInnings : Entry := ⟨0x7000, 4, .u32, .observer, none, .v, 0, .any⟩
/-- 13, R550. As KeeperRole; 0xFF none received -/
def keeperPeerRole : Entry := ⟨0x7000, 5, .enum8, .observer, none, .v, 0xFF, .any⟩
/-- 13, R550. KEEP_PREF -/
def keeperPreferred : Entry := ⟨0x7000, 6, .bool, .observer, none, .v, 0, .any⟩
/-- 13, R550. CASC_ID[2:0] -/
def cascadePosition : Entry := ⟨0x7000, 7, .u8, .observer, none, .v, 0, .any⟩
/-- 13, R550. 0x00 Released, 0x01 Asserted, 0x02 Fault -/
def keeperInterlockIn : Entry := ⟨0x7000, 8, .enum8, .observer, none, .v, 0x00, .any⟩
/-- 13, R550. KHOLD driven asserted (R529) -/
def keeperInterlockOut : Entry := ⟨0x7000, 9, .bool, .observer, none, .v, 0, .any⟩
/-- 13, R550. R530 -/
def keeperPeerHolds : Entry := ⟨0x7000, 10, .bool, .observer, none, .v, 0, .any⟩
/-- 13, R550. 2 to 16 -/
def keeperMissLimit : Entry := ⟨0x7000, 11, .u8, .observer, (some .custodian), .s, 4, .span 2 16⟩
/-- 13, R550. R532 -/
def keeperMissedCount : Entry := ⟨0x7000, 12, .u8, .observer, none, .v, 0, .any⟩
/-- 13, R550. In s, 2 to 600 -/
def keeperStartWait : Entry := ⟨0x7000, 13, .u16, .observer, (some .operator), .s, 10, .span 2 600⟩
/-- 13, R550. R542 -/
def keeperRevertive : Entry := ⟨0x7000, 14, .bool, .observer, (some .operator), .s, 1, .span 0 1⟩
/-- 13, R550. In s, 60 to 86,400 -/
def keeperRevertHold : Entry := ⟨0x7000, 15, .u32, .observer, (some .operator), .s, 900, .span 60 86400⟩
/-- 13, R550. In s -/
def keeperRevertRemaining : Entry := ⟨0x7000, 16, .u32, .observer, none, .v, 0, .any⟩
/-- 13, R550. 0x01 (R542); StateConflict without a ready Standby -/
def keeperSwitchover : Entry := ⟨0x7000, 17, .cmd 1, .observer, (some .operator), .v, 0, .span 1 1⟩
/-- 13, R550. 0x01 (R533); StateConflict unless Stood-down -/
def keeperRejoin : Entry := ⟨0x7000, 18, .cmd 1, .observer, (some .operator), .v, 0, .span 1 1⟩
/-- 13, R550. In ps, 10 to 1,000,000 -/
def keeperTrackLimit : Entry := ⟨0x7000, 19, .u32, .observer, (some .operator), .s, 100, .span 10 1000000⟩
/-- 13, R550. Health layout -/
def keeperHealth : Entry := ⟨0x7000, 20, .u32, .observer, none, .v, 0, .any⟩
/-- 13, R550. From the last valid Beat -/
def keeperPeerHealth : Entry := ⟨0x7000, 21, .u32, .observer, none, .v, 0, .any⟩
/-- 13, R550. Own readiness in Standby; the peer's in Active (R538) -/
def keeperStandbyReady : Entry := ⟨0x7000, 22, .bool, .observer, none, .v, 0, .any⟩
/-- 13, R550. R544 -/
def keeperMoscShared : Entry := ⟨0x7000, 23, .bool, .observer, (some .custodian), .s, 1, .span 0 1⟩
/-- 13, R550. 0 to 8 (R545) -/
def keeperAnnounceCount : Entry := ⟨0x7000, 24, .u8, .observer, (some .operator), .s, 3, .span 0 8⟩
/-- 13, R550. Bound of the last valid Beat -/
def keeperPeerBound : Entry := ⟨0x7000, 25, .ps32, .observer, none, .v, 0xFFFFFFFF, .any⟩
/-- 13, R550. R518 -/
def serviceConfigDigest : Entry := ⟨0x7000, 26, .u32, .observer, none, .v, 0, .any⟩
/-- 13, R550. R518 -/
def keyDigest : Entry := ⟨0x7000, 27, .u16, .observer, none, .v, 0, .any⟩
/-- 13, R550. Saturates -/
def keeperTakeoverCount : Entry := ⟨0x7000, 28, .u32, .observer, none, .k, 0, .any⟩
/-- 13, R550. Saturates -/
def keeperHandOverCount : Entry := ⟨0x7000, 29, .u32, .observer, none, .k, 0, .any⟩
/-- 13, R550. Frame start of the last change -/
def keeperLastRoleChange : Entry := ⟨0x7000, 30, .time96, .observer, none, .k, 0, .any⟩
/-- 13, R550. 0x00 Idle, 0x01 Requested, 0x02 Committed -/
def keeperHandOverState : Entry := ⟨0x7000, 31, .enum8, .observer, none, .v, 0x00, .any⟩
/-- 13, R550. 0x00 None, 0x01 Bulk, 0x02 Synced, 0x03 Lost -/
def replicationState : Entry := ⟨0x7001, 1, .enum8, .observer, none, .v, 0x00, .any⟩
/-- 13, R550. Next slot of the bulk copy -/
def replicationBulkSlot : Entry := ⟨0x7001, 2, .u32, .observer, none, .v, 0, .any⟩
/-- 13, R550. Saturates -/
def replicationFramesApplied : Entry := ⟨0x7001, 3, .u32, .observer, none, .v, 0, .any⟩
/-- 13, R550. R540; saturates -/
def replicationFramesDiscarded : Entry := ⟨0x7001, 4, .u32, .observer, none, .k, 0, .any⟩
/-- 13, R550. ReplAck value -/
def replicationLastFrame : Entry := ⟨0x7001, 5, .u32, .observer, none, .v, 0xFFFFFFFF, .any⟩
/-- 13, R551. 0x0000 to 0x003F stored key; 0x8000 + m working slot m; 0xFFFF none; Kind 0x07 -/
def skLinkKey : Entry := ⟨0x7020, 1, .u16, .observer, (some .custodian), .s, 0xFFFF, .runs [(0, 63), (32768, 33791), (65535, 65535)]⟩
/-- 13, R551. As SkLinkKey (R515) -/
def skLinkKeyPrevious : Entry := ⟨0x7020, 2, .u16, .observer, (some .custodian), .s, 0xFFFF, .runs [(0, 63), (32768, 33791), (65535, 65535)]⟩
/-- 13, R551. R515 -/
def skLinkPreviousUntil : Entry := ⟨0x7020, 3, .time96, .observer, (some .custodian), .s, 0, .any⟩
/-- 13, R551. R515, R516 -/
def skAuthRequired : Entry := ⟨0x7020, 4, .bool, .observer, (some .custodian), .s, 1, .span 0 1⟩
/-- 13, R551. R512; 0xFF none -/
def k0Port : Entry := ⟨0x7020, 5, .u8, .observer, none, .v, 0xFF, .any⟩
/-- 13, R551. Port states table -/
def skEnable (n : Nat) : Entry := ⟨0x7010 + n, 1, .bool, .observer, (some .operator), .s, 0, .span 0 1⟩
/-- 13, R551. 0x00 Disabled, 0x01 Calibrating, 0x02 Training, 0x03 Up, 0x04 Faulty, 0x05 Removed -/
def skState (n : Nat) : Entry := ⟨0x7010 + n, 2, .enum8, .observer, none, .v, 0x00, .any⟩
/-- 13, R551. 0x00 none, 0x01 Calibrated, 0x02 FactoryOnly -/
def skCalStatus (n : Nat) : Entry := ⟨0x7010 + n, 3, .enum8, .observer, none, .v, 0x00, .any⟩
/-- 13, R551. Calibrated transmit delay to SKTX -/
def skTxDelay (n : Nat) : Entry := ⟨0x7010 + n, 4, .span64, .observer, none, .v, 0, .any⟩
/-- 13, R551. Calibrated receive delay from SKRX -/
def skRxDelay (n : Nat) : Entry := ⟨0x7010 + n, 5, .span64, .observer, none, .v, 0, .any⟩
/-- 13, R551. A of R522, ±100 ns -/
def skMediumAsymmetry (n : Nat) : Entry := ⟨0x7010 + n, 6, .span64, .observer, (some .operator), .s, 0, .span (-6553600) 6553600⟩
/-- 13, R551. In ps, 0 to 100,000 -/
def skMediumAsymmetryUnc (n : Nat) : Entry := ⟨0x7010 + n, 7, .ps32, .observer, (some .operator), .s, 1000, .span 0 100000⟩
/-- 13, R551. e_kend in ps (R521) -/
def skEndTerm (n : Nat) : Entry := ⟨0x7010 + n, 8, .ps32, .observer, none, .v, 40, .any⟩
/-- 13, R551. Last x -/
def skOffset (n : Nat) : Entry := ⟨0x7010 + n, 9, .span64, .observer, none, .v, 0, .any⟩
/-- 13, R551. Last d -/
def skMeanDelay (n : Nat) : Entry := ⟨0x7010 + n, 10, .span64, .observer, none, .v, 0, .any⟩
/-- 13, R551. From the last valid Beat -/
def skPeerPosition (n : Nat) : Entry := ⟨0x7010 + n, 11, .u8, .observer, none, .v, 0xFF, .any⟩
/-- 13, R551. Saturates -/
def skBeatsMissed (n : Nat) : Entry := ⟨0x7010 + n, 12, .u32, .observer, none, .k, 0, .any⟩
/-- 13, R551. Saturates -/
def skAuthFailCount (n : Nat) : Entry := ⟨0x7010 + n, 13, .u32, .observer, none, .v, 0, .any⟩
/-- 13, R551. Saturates -/
def skCrcErrorCount (n : Nat) : Entry := ⟨0x7010 + n, 14, .u32, .observer, none, .v, 0, .any⟩
/-- 13, R551. 0x00 none, 0x01 unannounced discontinuity (R547), 0x02 delay above 100 µs (R513) -/
def skFaultCause (n : Nat) : Entry := ⟨0x7010 + n, 15, .enum8, .observer, none, .v, 0x00, .any⟩
/-- 13, R551. 0x01 (port states table) -/
def skFaultClear (n : Nat) : Entry := ⟨0x7010 + n, 16, .cmd 1, .observer, (some .operator), .v, 0, .span 1 1⟩
/-- 13, R551. 0x01 releases a Removed port (R54) -/
def skRelease (n : Nat) : Entry := ⟨0x7010 + n, 17, .cmd 1, .observer, (some .operator), .v, 0, .span 1 1⟩
/-- 13, R551. R521, R387 -/
def skCalPending (n : Nat) : Entry := ⟨0x7010 + n, 18, .bool, .observer, none, .v, 0, .any⟩

/-- Address families of this file, part 0 (R57, R58). -/
def famsKeys0 : List Family := [
  ⟨0x6800, 0, 1, 1, 1, fun _ _ => keyStoreStatus⟩,
  ⟨0x6800, 0, 1, 2, 1, fun _ _ => keyStoreGeneration⟩,
  ⟨0x6800, 0, 1, 3, 1, fun _ _ => keyLoad⟩,
  ⟨0x6800, 0, 1, 4, 1, fun _ _ => keyDelete⟩,
  ⟨0x6800, 0, 1, 5, 1, fun _ _ => keyStoreCommits⟩,
  ⟨0x6800, 0, 1, 6, 1, fun _ _ => keyStoreBootStatus⟩,
  ⟨0x6800, 0, 1, 7, 1, fun _ _ => keyRederiveAll⟩,
  ⟨0x6800, 0, 1, 8, 1, fun _ _ => keyWarnTime⟩,
  ⟨0x6800, 0, 1, 9, 1, fun _ _ => keyAuditSlot⟩,
  ⟨0x6800, 0, 1, 10, 1, fun _ _ => keyDepthLimit⟩,
  ⟨0x6800, 0, 1, 11, 1, fun _ _ => workingSlotsValid⟩,
  ⟨0x6800, 0, 1, 12, 1, fun _ _ => keyStaleCount⟩,
  ⟨0x6800, 0, 1, 13, 1, fun _ _ => keyRefusedCount⟩,
  ⟨0x6810, 0, 64, 1, 1, fun n _ => keyKind n⟩,
  ⟨0x6810, 0, 64, 2, 1, fun n _ => keyUsage n⟩,
  ⟨0x6810, 0, 64, 3, 1, fun n _ => keyState n⟩,
  ⟨0x6810, 0, 64, 4, 1, fun n _ => keyGeneration n⟩,
  ⟨0x6810, 0, 64, 5, 1, fun n _ => keyUseCount n⟩,
  ⟨0x6810, 0, 64, 6, 1, fun n _ => keyUseLimit n⟩,
  ⟨0x6810, 0, 64, 7, 1, fun n _ => keyUseCeiling n⟩,
  ⟨0x6810, 0, 64, 8, 1, fun n _ => keyExpiryKind n⟩,
  ⟨0x6810, 0, 64, 9, 1, fun n _ => keyNotAfter n⟩,
  ⟨0x6810, 0, 64, 10, 1, fun n _ => keyLoadTime n⟩,
  ⟨0x6810, 0, 64, 11, 1, fun n _ => keyCheck n⟩,
  ⟨0x6900, 0, 8, 1, 128, fun n k => keySlotSpec n k⟩]

/-- Address families of this file, part 1 (R57, R58). -/
def famsKeys1 : List Family := [
  ⟨0x6940, 0, 8, 1, 128, fun n k => keySlotStatus n k⟩,
  ⟨0x7000, 0, 1, 1, 1, fun _ _ => keeperMode⟩,
  ⟨0x7000, 0, 1, 2, 1, fun _ _ => keeperRole⟩,
  ⟨0x7000, 0, 1, 3, 1, fun _ _ => keeperInnings⟩,
  ⟨0x7000, 0, 1, 4, 1, fun _ _ => keeperPeerInnings⟩,
  ⟨0x7000, 0, 1, 5, 1, fun _ _ => keeperPeerRole⟩,
  ⟨0x7000, 0, 1, 6, 1, fun _ _ => keeperPreferred⟩,
  ⟨0x7000, 0, 1, 7, 1, fun _ _ => cascadePosition⟩,
  ⟨0x7000, 0, 1, 8, 1, fun _ _ => keeperInterlockIn⟩,
  ⟨0x7000, 0, 1, 9, 1, fun _ _ => keeperInterlockOut⟩,
  ⟨0x7000, 0, 1, 10, 1, fun _ _ => keeperPeerHolds⟩,
  ⟨0x7000, 0, 1, 11, 1, fun _ _ => keeperMissLimit⟩,
  ⟨0x7000, 0, 1, 12, 1, fun _ _ => keeperMissedCount⟩,
  ⟨0x7000, 0, 1, 13, 1, fun _ _ => keeperStartWait⟩,
  ⟨0x7000, 0, 1, 14, 1, fun _ _ => keeperRevertive⟩,
  ⟨0x7000, 0, 1, 15, 1, fun _ _ => keeperRevertHold⟩,
  ⟨0x7000, 0, 1, 16, 1, fun _ _ => keeperRevertRemaining⟩,
  ⟨0x7000, 0, 1, 17, 1, fun _ _ => keeperSwitchover⟩,
  ⟨0x7000, 0, 1, 18, 1, fun _ _ => keeperRejoin⟩,
  ⟨0x7000, 0, 1, 19, 1, fun _ _ => keeperTrackLimit⟩,
  ⟨0x7000, 0, 1, 20, 1, fun _ _ => keeperHealth⟩,
  ⟨0x7000, 0, 1, 21, 1, fun _ _ => keeperPeerHealth⟩,
  ⟨0x7000, 0, 1, 22, 1, fun _ _ => keeperStandbyReady⟩,
  ⟨0x7000, 0, 1, 23, 1, fun _ _ => keeperMoscShared⟩,
  ⟨0x7000, 0, 1, 24, 1, fun _ _ => keeperAnnounceCount⟩]

/-- Address families of this file, part 2 (R57, R58). -/
def famsKeys2 : List Family := [
  ⟨0x7000, 0, 1, 25, 1, fun _ _ => keeperPeerBound⟩,
  ⟨0x7000, 0, 1, 26, 1, fun _ _ => serviceConfigDigest⟩,
  ⟨0x7000, 0, 1, 27, 1, fun _ _ => keyDigest⟩,
  ⟨0x7000, 0, 1, 28, 1, fun _ _ => keeperTakeoverCount⟩,
  ⟨0x7000, 0, 1, 29, 1, fun _ _ => keeperHandOverCount⟩,
  ⟨0x7000, 0, 1, 30, 1, fun _ _ => keeperLastRoleChange⟩,
  ⟨0x7000, 0, 1, 31, 1, fun _ _ => keeperHandOverState⟩,
  ⟨0x7001, 0, 1, 1, 1, fun _ _ => replicationState⟩,
  ⟨0x7001, 0, 1, 2, 1, fun _ _ => replicationBulkSlot⟩,
  ⟨0x7001, 0, 1, 3, 1, fun _ _ => replicationFramesApplied⟩,
  ⟨0x7001, 0, 1, 4, 1, fun _ _ => replicationFramesDiscarded⟩,
  ⟨0x7001, 0, 1, 5, 1, fun _ _ => replicationLastFrame⟩,
  ⟨0x7020, 0, 1, 1, 1, fun _ _ => skLinkKey⟩,
  ⟨0x7020, 0, 1, 2, 1, fun _ _ => skLinkKeyPrevious⟩,
  ⟨0x7020, 0, 1, 3, 1, fun _ _ => skLinkPreviousUntil⟩,
  ⟨0x7020, 0, 1, 4, 1, fun _ _ => skAuthRequired⟩,
  ⟨0x7020, 0, 1, 5, 1, fun _ _ => k0Port⟩,
  ⟨0x7010, 0, 3, 1, 1, fun n _ => skEnable n⟩,
  ⟨0x7010, 0, 3, 2, 1, fun n _ => skState n⟩,
  ⟨0x7010, 0, 3, 3, 1, fun n _ => skCalStatus n⟩,
  ⟨0x7010, 0, 3, 4, 1, fun n _ => skTxDelay n⟩,
  ⟨0x7010, 0, 3, 5, 1, fun n _ => skRxDelay n⟩,
  ⟨0x7010, 0, 3, 6, 1, fun n _ => skMediumAsymmetry n⟩,
  ⟨0x7010, 0, 3, 7, 1, fun n _ => skMediumAsymmetryUnc n⟩,
  ⟨0x7010, 0, 3, 8, 1, fun n _ => skEndTerm n⟩]

/-- Address families of this file, part 3 (R57, R58). -/
def famsKeys3 : List Family := [
  ⟨0x7010, 0, 3, 9, 1, fun n _ => skOffset n⟩,
  ⟨0x7010, 0, 3, 10, 1, fun n _ => skMeanDelay n⟩,
  ⟨0x7010, 0, 3, 11, 1, fun n _ => skPeerPosition n⟩,
  ⟨0x7010, 0, 3, 12, 1, fun n _ => skBeatsMissed n⟩,
  ⟨0x7010, 0, 3, 13, 1, fun n _ => skAuthFailCount n⟩,
  ⟨0x7010, 0, 3, 14, 1, fun n _ => skCrcErrorCount n⟩,
  ⟨0x7010, 0, 3, 15, 1, fun n _ => skFaultCause n⟩,
  ⟨0x7010, 0, 3, 16, 1, fun n _ => skFaultClear n⟩,
  ⟨0x7010, 0, 3, 17, 1, fun n _ => skRelease n⟩,
  ⟨0x7010, 0, 3, 18, 1, fun n _ => skCalPending n⟩]

/-- Every address family of this file. -/
def famsKeys : List Family :=
  famsKeys0 ++ famsKeys1 ++ famsKeys2 ++ famsKeys3

end Dict
end Sys2Proof.Machine
end

