-- ==== Sys2Proof/Machine/DictMeasure.lean ====
section
/-!
DEFINITION. Dictionary entries (spec tables, read row by row): measurement and references.
One definition per table row; `n` is the unit number the table adds to the index, `k` the place within a
range of subindices. Fields: index, subindex, type, read level, write level, keep class, default, range.
-/
namespace Sys2Proof.Machine

/-- Factory value of a general channel's path for an input (R166, R176), by the subindex that shows it. -/
def factoryPath (channel source k : Nat) : Nat := Config.deviceData (0x2410 + channel) (k + 256 * source)

namespace Dict

/-- 04, R175. Swap period in ms; constant -/
def calPeriod : Entry := ⟨0x2400, 1, .u32, .observer, none, .v, 4000, .any⟩
/-- 04, R175. Hits per collection; constant -/
def calHits : Entry := ⟨0x2400, 2, .u32, .observer, none, .v, 4194304, .any⟩
/-- 04, R175. In fs, 1,000 to 20,000 -/
def twinAgreeMeanLimit : Entry := ⟨0x2400, 3, .u32, .observer, (some .operator), .s, 3000, .span 1000 20000⟩
/-- 04, R175. In fs, 5,000 to 100,000 -/
def twinAgreeMaxLimit : Entry := ⟨0x2400, 4, .u32, .observer, (some .operator), .s, 20000, .span 5000 100000⟩
/-- 04, R175. Tap delay coefficient αT in 10^-6 per °C -/
def tapTempCoeff : Entry := ⟨0x2400, 5, .i32, .observer, none, .v, Config.deviceData (0x2400) (5), .any⟩
/-- 04, R175. Tap delay coefficient αV in 10^-6 per mV -/
def tapVoltCoeff : Entry := ⟨0x2400, 6, .i32, .observer, none, .v, Config.deviceData (0x2400) (6), .any⟩
/-- 04, R175. General channels not Removed -/
def channelsInService : Entry := ⟨0x2400, 7, .u8, .observer, none, .v, 16, .any⟩
/-- 04, R175. Link channels not Removed -/
def linkChannelsInService : Entry := ⟨0x2400, 8, .u8, .observer, none, .v, 3, .any⟩
/-- 04, R176. Channel source codes (R142, R143) -/
def chSource (n : Nat) : Entry := ⟨0x2410 + n, 1, .enum8, .observer, (some .operator), .s, (if n < 12 then n + 1 else 0), .runs [(0, 12), (16, 19), (32, 49)]⟩
/-- 04, R176. 0x00 rising, 0x01 falling -/
def chEdge (n : Nat) : Entry := ⟨0x2410 + n, 2, .enum8, .observer, (some .operator), .s, 0x00, .span 0 1⟩
/-- 04, R176. 1 to 16,777,216 (R152, R153) -/
def chPrescale (n : Nat) : Entry := ⟨0x2410 + n, 3, .u32, .observer, (some .operator), .s, 1, .span 1 16777216⟩
/-- 04, R176. 0x00 open, 0x01 fixed, 0x02 tracking (R148) -/
def chWinMode (n : Nat) : Entry := ⟨0x2410 + n, 4, .enum8, .observer, (some .operator), .s, 0x00, .span 0 2⟩
/-- 04, R176. Window period; 1 µs to 1 s -/
def chPeriod (n : Nat) : Entry := ⟨0x2410 + n, 5, .span64, .observer, (some .operator), .s, 65536000000000, .span 65536000 65536000000000⟩
/-- 04, R176. Offset of fixed windows (R149) -/
def chWinOffset (n : Nat) : Entry := ⟨0x2410 + n, 6, .span64, .observer, (some .operator), .s, 0, .any⟩
/-- 04, R176. Half-width in ns (R149) -/
def chWinHalf (n : Nat) : Entry := ⟨0x2410 + n, 7, .u32, .observer, (some .operator), .s, 500, .any⟩
/-- 04, R176. 1 to 255 (R151) -/
def chMissLimit (n : Nat) : Entry := ⟨0x2410 + n, 8, .u8, .observer, (some .operator), .s, 4, .span 1 255⟩
/-- 04, R176. Board delay to the ball, 0 to 100 ns -/
def chBoardDelay (n : Nat) : Entry := ⟨0x2410 + n, 9, .span64, .observer, (some .operator), .s, 0, .span 0 6553600⟩
/-- 04, R176. 0x00 Starting, 0x01 Idle, 0x02 Measuring, 0x03 Degraded, 0x04 Removed -/
def chState (n : Nat) : Entry := ⟨0x2410 + n, 10, .enum8, .observer, none, .v, 0x00, .any⟩
/-- 04, R176. Line in service, 0 or 1 -/
def chActiveLine (n : Nat) : Entry := ⟨0x2410 + n, 11, .u8, .observer, none, .v, 0, .any⟩
/-- 04, R176. Last stamp delivered -/
def chLastStamp (n : Nat) : Entry := ⟨0x2410 + n, 12, .time96, .observer, none, .v, 0, .any⟩
/-- 04, R176. Stamps delivered; saturates -/
def chStampCount (n : Nat) : Entry := ⟨0x2410 + n, 13, .u32, .observer, none, .v, 0, .any⟩
/-- 04, R176. R150; saturates -/
def chStrayCount (n : Nat) : Entry := ⟨0x2410 + n, 14, .u32, .observer, none, .v, 0, .any⟩
/-- 04, R176. R150; saturates -/
def chMissCount (n : Nat) : Entry := ⟨0x2410 + n, 15, .u32, .observer, none, .v, 0, .any⟩
/-- 04, R176. R153; saturates -/
def chOverflowCount (n : Nat) : Entry := ⟨0x2410 + n, 16, .u32, .observer, none, .v, 0, .any⟩
/-- 04, R176. Calibrations passed; saturates -/
def chCalCount (n : Nat) : Entry := ⟨0x2410 + n, 17, .u32, .observer, none, .v, 0, .any⟩
/-- 04, R176. Calibrations failed; saturates -/
def chCalFailCount (n : Nat) : Entry := ⟨0x2410 + n, 18, .u32, .observer, none, .k, 0, .any⟩
/-- 04, R176. 0x00 pass; 0x01 to 0x06 as R157; 0x07 Restarted -/
def chLastCalStatus (n : Nat) : Entry := ⟨0x2410 + n, 19, .enum8, .observer, none, .v, 0x00, .any⟩
/-- 04, R176. u_cal in fs -/
def chCalResidual (n : Nat) : Entry := ⟨0x2410 + n, 20, .u32, .observer, none, .v, 195, .any⟩
/-- 04, R176. e_tv in fs (R167). Reads 40,000 while the channel is Starting or Removed. For an Idle channel it is R167 … -/
def chTvResidual (n : Nat) : Entry := ⟨0x2410 + n, 21, .u32, .observer, none, .v, 40000, .any⟩
/-- 04, R176. R151 -/
def chWindowSearch (n : Nat) : Entry := ⟨0x2410 + n, 22, .bool, .observer, none, .v, 0, .any⟩
/-- 04, R176. Last twin mean difference in fs -/
def chTwinMeanDiff (n : Nat) : Entry := ⟨0x2410 + n, 23, .i32, .observer, none, .v, 0, .any⟩
/-- 04, R176. D_path in force -/
def chPathDelay (n : Nat) : Entry := ⟨0x2410 + n, 24, .span64, .observer, none, .v, 0, .any⟩
/-- 04, R176. 0x01 releases a Removed channel (R54) -/
def chRelease (n : Nat) : Entry := ⟨0x2410 + n, 25, .cmd 1, .observer, (some .operator), .v, 0, .span 1 1⟩
/-- 04, R176. Strays per second before source 19 -/
def chStrayLimit (n : Nat) : Entry := ⟨0x2410 + n, 26, .u32, .observer, (some .operator), .s, 100, .any⟩
/-- 04, R176. Source in force (R143, R144) -/
def chAssigned (n : Nat) : Entry := ⟨0x2410 + n, 27, .enum8, .observer, none, .v, (if n < 12 then n + 1 else 0), .any⟩
/-- 04, R176. D0 -/
def chPathDelay0 (n : Nat) : Entry := ⟨0x2410 + n, 28, .span64, .observer, none, .v, factoryPath n (if n < 12 then n + 1 else 0) 28, .any⟩
/-- 04, R176. cP in fs/°C -/
def chPathCoeffPad (n : Nat) : Entry := ⟨0x2410 + n, 29, .i32, .observer, none, .v, factoryPath n (if n < 12 then n + 1 else 0) 29, .any⟩
/-- 04, R176. cC in fs/°C -/
def chPathCoeffCentre (n : Nat) : Entry := ⟨0x2410 + n, 30, .i32, .observer, none, .v, factoryPath n (if n < 12 then n + 1 else 0) 30, .any⟩
/-- 04, R176. Capture stamps written; wraps -/
def chCaptureSeq (n : Nat) : Entry := ⟨0x2410 + n, 31, .u32, .observer, none, .v, 0, .any⟩
/-- 04, R178. WEST, EAST, CENTRE, NORTH, SOUTH, CORE in 0.001 °C -/
def regionTemp (k : Nat) : Entry := ⟨0x2440, 1 + k, .i32, .observer, none, .v, 0, .any⟩
/-- 04, R178. Four sensors per region in the order of 0x2440, in 0.001 °C -/
def sensorTemp (k : Nat) : Entry := ⟨0x2441, 1 + k, .i32, .observer, none, .v, 0, .any⟩
/-- 04, R178. Supply watched by the region's monitor, in µV: WEST and EAST report VDDA_TDC at their PCTs and link … -/
def regionVoltage (k : Nat) : Entry := ⟨0x2442, 1 + k, .u32, .observer, none, .v, 0, .any⟩
/-- 04, R178. Pairs 1 to 11 of R164: first minus second, in 0.001 °C -/
def pairDifference (k : Nat) : Entry := ⟨0x2443, 1 + k, .i32, .observer, none, .v, 0, .any⟩
/-- 04, R178. Bit p − 1 set while pair p is out of limit -/
def pairOutOfLimit : Entry := ⟨0x2444, 0, .u16, .observer, none, .v, 0, .any⟩
/-- 04, R178. R163; saturates -/
def sensorExcludedCount : Entry := ⟨0x2445, 0, .u32, .observer, none, .v, 0, .any⟩
/-- 04, R178. Crystal frequency in Hz, 25,000,000 to 54,000,000 -/
def xoNominalFrequency : Entry := ⟨0x2450, 1, .u32, .observer, (some .custodian), .s, 50000000, .span 25000000 54000000⟩
/-- 04, R178. y_m -/
def xoMeasuredOffset : Entry := ⟨0x2450, 2, .frac64, .observer, none, .v, 0, .any⟩
/-- 04, R178. y0 -/
def xoModelOffset : Entry := ⟨0x2450, 3, .frac64, .observer, none, .k, 0, .any⟩
/-- 04, R178. A in force, per day -/
def xoAgeingRate : Entry := ⟨0x2450, 4, .frac64, .observer, none, .k, 0, .any⟩
/-- 04, R178. b, per °C -/
def xoTempCoeff : Entry := ⟨0x2450, 5, .frac64, .observer, none, .k, 0, .any⟩
/-- 04, R178. 0x00 host, 0x01 learned -/
def xoAgeingSource : Entry := ⟨0x2450, 6, .enum8, .observer, (some .operator), .s, 0x01, .span 0 1⟩
/-- 04, R178. Host ageing rate per day, ±1 × 10^-6 -/
def xoAgeingAdjust : Entry := ⟨0x2450, 7, .frac64, .observer, (some .operator), .s, 0, .span (-18446744073709) 18446744073709⟩
/-- 04, R178. In 10^-9, 10 to 10,000 (R174) -/
def xoModelLimit : Entry := ⟨0x2450, 8, .u32, .observer, (some .operator), .s, 100, .span 10 10000⟩
/-- 04, R178. R172, R174 -/
def xoModelLearning : Entry := ⟨0x2450, 9, .bool, .observer, none, .v, 0, .any⟩
/-- 05, R215. R200 -/
def watershedRevertive : Entry := ⟨0x3000, 1, .bool, .observer, (some .operator), .s, 1, .span 0 1⟩
/-- 05, R215. 0x00 priority, 0x01 quality, 0x02 bound (R198) -/
def watershedRankMode : Entry := ⟨0x3000, 2, .enum8, .observer, (some .operator), .s, 0x01, .span 0 2⟩
/-- 05, R215. Reference ID 0 to 17; 0xFF none -/
def watershedForcedRef : Entry := ⟨0x3000, 3, .u8, .observer, (some .operator), .s, 0xFF, .runs [(0, 17), (255, 255)]⟩
/-- 05, R215. Constant -/
def handoverFrames : Entry := ⟨0x3000, 4, .u16, .observer, none, .v, 16, .any⟩
/-- 05, R215. ID in use; 0xFF none -/
def selectedRef : Entry := ⟨0x3000, 5, .u8, .observer, none, .v, 0xFF, .any⟩
/-- 05, R215. 0x00 Idle, 0x01 Handover -/
def switchState : Entry := ⟨0x3000, 6, .enum8, .observer, none, .v, 0x00, .any⟩
/-- 05, R215. Target of the open window -/
def switchTarget : Entry := ⟨0x3000, 7, .u8, .observer, none, .v, 0xFF, .any⟩
/-- 05, R215. Previous Selected; 0xFF none -/
def switchFrom : Entry := ⟨0x3000, 8, .u8, .observer, none, .v, 0xFF, .any⟩
/-- 05, R215. Start of the last window -/
def switchStartTime : Entry := ⟨0x3000, 9, .time96, .observer, none, .v, 0, .any⟩
/-- 05, R215. Switches started; saturates -/
def switchCount : Entry := ⟨0x3000, 10, .u32, .observer, none, .k, 0, .any⟩
/-- 05, R215. R205; saturates -/
def switchAbandonCount : Entry := ⟨0x3000, 11, .u32, .observer, none, .k, 0, .any⟩
/-- 05, R215. B in force -/
def buildOut : Entry := ⟨0x3000, 12, .span64, .observer, none, .v, 0, .any⟩
/-- 05, R215. u_bo in fs -/
def buildOutUncertainty : Entry := ⟨0x3000, 13, .u32, .observer, none, .v, 0, .any⟩
/-- 05, R215. Bit n set while reference n is eligible -/
def eligibleMask : Entry := ⟨0x3000, 14, .u32, .observer, none, .v, 0, .any⟩
/-- 05, R215. 1 to 14 (R193) -/
def refQcMinimum : Entry := ⟨0x3000, 15, .u8, .observer, (some .operator), .s, 6, .span 1 14⟩
/-- 05, R215. R212, R214 -/
def driftCoverageSelected : Entry := ⟨0x3000, 16, .enum8, .observer, none, .v, 0x00, .any⟩
/-- 05, R215. 0x00 none, 0x01 forced reference selected, 0x02 refused -/
def watershedCmdStatus : Entry := ⟨0x3000, 17, .enum8, .observer, none, .v, 0x00, .any⟩
/-- 05, R215. 0x01 sets 0x3000:0A, 0x3000:0B and every RefFailCount to 0 at the next S0 -/
def watershedStatsClear : Entry := ⟨0x3000, 18, .cmd 1, .observer, (some .operator), .v, 0, .span 1 1⟩
/-- 05, R216. Enables monitoring and selection -/
def refEnable (n : Nat) : Entry := ⟨0x3010 + n, 1, .bool, .observer, (some .operator), .s, 0, .span 0 1⟩
/-- 05, R216. 0 monitor only; 1 to 255. Defaults: G0 1, K0 2, NREF0 10, NREF1 11, REFINn 20 + n, SyncE Pm 40 + m -/
def refPriority (n : Nat) : Entry := ⟨0x3010 + n, 2, .u8, .observer, (some .operator), .s, (if n < 8 then 20 + n else if n < 14 then 40 + (n - 8) else if n = 14 then 10 else if n = 15 then 11 else if n = 16 then 1 else 2), .span 0 255⟩
/-- 05, R216. REFIN: 0x00 frequency, 0x01 pulse, 0x02 pulse with ToD -/
def refMode (n : Nat) : Entry := ⟨0x3010 + n, 3, .enum8, .observer, (some .operator), .s, 0x00, .span 0 2⟩
/-- 05, R216. REFIN frequency in Hz, 1,000 to 800,000,000 -/
def refNominalFrequency (n : Nat) : Entry := ⟨0x3010 + n, 4, .u32, .observer, (some .operator), .s, 10000000, .span 1000 800000000⟩
/-- 05, R216. REFIN pulse rate in Hz, a divisor of 1,000 -/
def refPulseRate (n : Nat) : Entry := ⟨0x3010 + n, 5, .u16, .observer, (some .operator), .s, 1, .divisorOf 1000⟩
/-- 05, R216. 0x00 to 0x03 TODI0 to TODI3; 0xFF none (R185) -/
def refTodInput (n : Nat) : Entry := ⟨0x3010 + n, 6, .enum8, .observer, (some .operator), .s, 0xFF, .runs [(0, 3), (255, 255)]⟩
/-- 05, R216. R182; ±10 µs -/
def refDelayCorrection (n : Nat) : Entry := ⟨0x3010 + n, 7, .span64, .observer, (some .operator), .s, 0, .span (-655360000) 655360000⟩
/-- 05, R216. REFIN quality code, 1 to 6 -/
def refQcFixed (n : Nat) : Entry := ⟨0x3010 + n, 8, .u8, .observer, (some .operator), .s, 4, .span 1 6⟩
/-- 05, R216. In s, 0 to 3,600 -/
def refWaitToRestore (n : Nat) : Entry := ⟨0x3010 + n, 9, .u16, .observer, (some .operator), .s, 300, .span 0 3600⟩
/-- 05, R216. In s, 1 to 3,600 -/
def refQualifyTime (n : Nat) : Entry := ⟨0x3010 + n, 10, .u16, .observer, (some .operator), .s, 10, .span 1 3600⟩
/-- 05, R216. In ns, 1 to 1,000,000 -/
def refPhaseStepThreshold (n : Nat) : Entry := ⟨0x3010 + n, 11, .u32, .observer, (some .operator), .s, 100, .span 1 1000000⟩
/-- 05, R216. In 10^-12, 100 to 100,000,000 -/
def refFreqLimit (n : Nat) : Entry := ⟨0x3010 + n, 12, .u32, .observer, (some .operator), .s, 1000000, .span 100 100000000⟩
/-- 05, R216. 1 to 16, unit per kind (Activity table) -/
def refLossPeriods (n : Nat) : Entry := ⟨0x3010 + n, 13, .u8, .observer, (some .operator), .s, 2, .span 1 16⟩
/-- 05, R216. 1 to 16 -/
def refTodMisses (n : Nat) : Entry := ⟨0x3010 + n, 14, .u8, .observer, (some .operator), .s, 2, .span 1 16⟩
/-- 05, R216. NREF, G0, K0 only; false for other kinds -/
def refRequireAuth (n : Nat) : Entry := ⟨0x3010 + n, 15, .bool, .observer, (some .operator), .s, (if 14 ≤ n then 1 else 0), .span 0 1⟩
/-- 05, R216. 0x00 retain, 0x01 resolve (R206); read-only at 0x00 for SyncE; a REFIN retains while RefMode is 0x00 -/
def refBuildOutMode (n : Nat) : Entry := ⟨0x3010 + n, 16, .enum8, .observer, (some .operator), .s, (if 8 ≤ n ∧ n ≤ 13 then 0 else 1), .span 0 1⟩
/-- 05, R216. Independence group; 0 alone -/
def refGroup (n : Nat) : Entry := ⟨0x3010 + n, 17, .u8, .observer, (some .operator), .s, 0, .any⟩
/-- 05, R216. Host exclusion -/
def refExclude (n : Nat) : Entry := ⟨0x3010 + n, 18, .bool, .observer, (some .operator), .s, 0, .span 0 1⟩
/-- 05, R216. In ms, 10 to 1,000,000. Defaults: REFIN frequency and SyncE 1,000; REFIN pulse 8,000; NREF 16,000; G0 … -/
def refFilterTau (n : Nat) : Entry := ⟨0x3010 + n, 19, .u32, .observer, (some .operator), .s, (if n < 14 then 1000 else if n < 16 then 16000 else if n = 16 then 4000 else 62), .span 10 1000000⟩
/-- 05, R216. REFIN and SyncE: integrator's bound of the source -/
def refUpstreamBound (n : Nat) : Entry := ⟨0x3010 + n, 20, .ps32, .observer, (some .operator), .s, 0xFFFFFFFF, .any⟩
/-- 05, R216. 0x00 Absent, 0x01 Failed, 0x02 Waiting, 0x03 Qualified, 0x04 Selected, 0x05 Excluded -/
def refState (n : Nat) : Entry := ⟨0x3010 + n, 21, .enum8, .observer, none, .v, 0x00, .any⟩
/-- 05, R216. 0x00 none; 0x01 to 0x06 as R189; 0x08 host exclusion; 0x09 quality -/
def refFailCause (n : Nat) : Entry := ⟨0x3010 + n, 22, .enum8, .observer, none, .v, 0x00, .any⟩
/-- 05, R216. Timescale value at the last change of RefState -/
def refStateSince (n : Nat) : Entry := ⟨0x3010 + n, 23, .time96, .observer, none, .v, 0, .any⟩
/-- 05, R216. R195, in s -/
def refWtrRemaining (n : Nat) : Entry := ⟨0x3010 + n, 24, .u16, .observer, none, .k, 0, .any⟩
/-- 05, R216. x̂ -/
def refOffset (n : Nat) : Entry := ⟨0x3010 + n, 25, .span64, .observer, none, .v, 0, .any⟩
/-- 05, R216. ŷ -/
def refFrequency (n : Nat) : Entry := ⟨0x3010 + n, 26, .frac64, .observer, none, .v, 0, .any⟩
/-- 05, R216. R193 -/
def refQc (n : Nat) : Entry := ⟨0x3010 + n, 27, .u8, .observer, none, .v, 15, .any⟩
/-- 05, R216. Raw quality value -/
def refQlRaw (n : Nat) : Entry := ⟨0x3010 + n, 28, .u16, .observer, none, .v, 0, .any⟩
/-- 05, R216. R187 -/
def refInputBound (n : Nat) : Entry := ⟨0x3010 + n, 29, .ps32, .observer, none, .v, 0xFFFFFFFF, .any⟩
/-- 05, R216. u_r in fs -/
def refInputRandom (n : Nat) : Entry := ⟨0x3010 + n, 30, .u32, .observer, none, .v, 0xFFFFFFFF, .any⟩
/-- 05, R216. Time of the last measurement used -/
def refLastMeasurement (n : Nat) : Entry := ⟨0x3010 + n, 31, .time96, .observer, none, .v, 0, .any⟩
/-- 05, R216. Entries to Failed; saturates -/
def refFailCount (n : Nat) : Entry := ⟨0x3010 + n, 32, .u32, .observer, none, .k, 0, .any⟩
/-- 05, R216. R190 -/
def refLastStepSize (n : Nat) : Entry := ⟨0x3010 + n, 33, .span64, .observer, none, .k, 0, .any⟩
/-- 05, R217. In ps, 1,000 to 1,000,000 -/
def driftPhaseLimit1 : Entry := ⟨0x3001, 1, .u32, .observer, (some .operator), .s, 50000, .span 1000 1000000⟩
/-- 05, R217. In ps, 500 to 1,000,000 -/
def driftPhaseLimit64 : Entry := ⟨0x3001, 2, .u32, .observer, (some .operator), .s, 20000, .span 500 1000000⟩
/-- 05, R217. In ps, 200 to 1,000,000 -/
def driftPhaseLimit1024 : Entry := ⟨0x3001, 3, .u32, .observer, (some .operator), .s, 10000, .span 200 1000000⟩
/-- 05, R217. In 10^-15, 1,000 to 4,000,000,000 -/
def driftFreqLimit1 : Entry := ⟨0x3001, 4, .u32, .observer, (some .operator), .s, 20000000, .span 1000 4000000000⟩
/-- 05, R217. In 10^-15, 100 to 4,000,000,000 -/
def driftFreqLimit64 : Entry := ⟨0x3001, 5, .u32, .observer, (some .operator), .s, 500000, .span 100 4000000000⟩
/-- 05, R217. In 10^-15, 10 to 4,000,000,000 -/
def driftFreqLimit1024 : Entry := ⟨0x3001, 6, .u32, .observer, (some .operator), .s, 20000, .span 10 4000000000⟩
/-- 05, R217. In ps, 1,000 to 10,000,000 -/
def driftCumLimit : Entry := ⟨0x3001, 7, .u32, .observer, (some .operator), .s, 50000, .span 1000 10000000⟩
/-- 05, R217. In ps, 0 to 100,000 -/
def driftGuard : Entry := ⟨0x3001, 8, .u32, .observer, (some .operator), .s, 1000, .span 0 100000⟩
/-- 05, R217. P_1, P_64, P_1024 in ps -/
def driftPhaseStat (n : Nat) (k : Nat) : Entry := ⟨0x3040 + n, 1 + k, .u32, .observer, none, .v, 0, .any⟩
/-- 05, R217. Y_1, Y_64, Y_1024 -/
def driftFreqStat (n : Nat) (k : Nat) : Entry := ⟨0x3040 + n, 4 + k, .frac64, .observer, none, .v, 0, .any⟩
/-- 05, R217. C_r -/
def driftCumulative (n : Nat) : Entry := ⟨0x3040 + n, 7, .span64, .observer, none, .v, 0, .any⟩
/-- 05, R217. e_drift -/
def driftTerm (n : Nat) : Entry := ⟨0x3040 + n, 8, .ps32, .observer, none, .v, 0, .any⟩
/-- 05, R217. 0x00 None, 0x01 Single, 0x02 Ensemble -/
def driftCoverage (n : Nat) : Entry := ⟨0x3040 + n, 9, .enum8, .observer, none, .v, 0x00, .any⟩
/-- 05, R217. Bit n for reference n; bit 31 for the oscillator prediction -/
def driftComparatorMask (n : Nat) : Entry := ⟨0x3040 + n, 10, .u32, .observer, none, .v, 0, .any⟩
/-- 05, R217. R213 -/
def driftSuspect (n : Nat) : Entry := ⟨0x3040 + n, 11, .bool, .observer, none, .v, 0, .any⟩
/-- 05, R217. Start of the D_base period -/
def driftBaselineTime (n : Nat) : Entry := ⟨0x3040 + n, 12, .time96, .observer, none, .v, 0, .any⟩
/-- 04, R177. bin-width table of the line in service -/
def chBinTable (n : Nat) (k : Nat) : Entry := ⟨0x2500 + n, 1 + k, .octets 128, .observer, none, .v, 0, .any⟩
/-- 04, R177. capture ring -/
def chCaptureSlot (n : Nat) (k : Nat) : Entry := ⟨0x2600 + n, 1 + k, .ct64, .observer, none, .v, 0, .any⟩
/-- 04, R176. 0x00 Starting, 0x01 Idle, 0x02 Measuring, 0x03 Degraded, 0x04 Removed -/
def linkChState (n : Nat) : Entry := ⟨0x2430 + n, 10, .enum8, .observer, none, .v, 0x00, .any⟩
/-- 04, R176. Line in service, 0 or 1 -/
def linkChActiveLine (n : Nat) : Entry := ⟨0x2430 + n, 11, .u8, .observer, none, .v, 0, .any⟩
/-- 04, R176. Last stamp delivered -/
def linkChLastStamp (n : Nat) : Entry := ⟨0x2430 + n, 12, .time96, .observer, none, .v, 0, .any⟩
/-- 04, R176. Stamps delivered; saturates -/
def linkChStampCount (n : Nat) : Entry := ⟨0x2430 + n, 13, .u32, .observer, none, .v, 0, .any⟩
/-- 04, R176. R150; saturates -/
def linkChStrayCount (n : Nat) : Entry := ⟨0x2430 + n, 14, .u32, .observer, none, .v, 0, .any⟩
/-- 04, R176. R150; saturates -/
def linkChMissCount (n : Nat) : Entry := ⟨0x2430 + n, 15, .u32, .observer, none, .v, 0, .any⟩
/-- 04, R176. R153; saturates -/
def linkChOverflowCount (n : Nat) : Entry := ⟨0x2430 + n, 16, .u32, .observer, none, .v, 0, .any⟩
/-- 04, R176. Calibrations passed; saturates -/
def linkChCalCount (n : Nat) : Entry := ⟨0x2430 + n, 17, .u32, .observer, none, .v, 0, .any⟩
/-- 04, R176. Calibrations failed; saturates -/
def linkChCalFailCount (n : Nat) : Entry := ⟨0x2430 + n, 18, .u32, .observer, none, .k, 0, .any⟩
/-- 04, R176. 0x00 pass; 0x01 to 0x06 as R157; 0x07 Restarted -/
def linkChLastCalStatus (n : Nat) : Entry := ⟨0x2430 + n, 19, .enum8, .observer, none, .v, 0x00, .any⟩
/-- 04, R176. u_cal in fs -/
def linkChCalResidual (n : Nat) : Entry := ⟨0x2430 + n, 20, .u32, .observer, none, .v, 195, .any⟩
/-- 04, R176. e_tv in fs (R167). Reads 40,000 while the channel is Starting or Removed. For an Idle channel it is R167 … -/
def linkChTvResidual (n : Nat) : Entry := ⟨0x2430 + n, 21, .u32, .observer, none, .v, 40000, .any⟩
/-- 04, R176. Last twin mean difference in fs -/
def linkChTwinMeanDiff (n : Nat) : Entry := ⟨0x2430 + n, 23, .i32, .observer, none, .v, 0, .any⟩
/-- 04, R176. D_path in force -/
def linkChPathDelay (n : Nat) : Entry := ⟨0x2430 + n, 24, .span64, .observer, none, .v, 0, .any⟩
/-- 04, R176. 0x01 releases a Removed channel (R54) -/
def linkChRelease (n : Nat) : Entry := ⟨0x2430 + n, 25, .cmd 1, .observer, (some .operator), .v, 0, .span 1 1⟩
/-- 04, R176. D0 -/
def linkChPathDelay0 (n : Nat) : Entry := ⟨0x2430 + n, 28, .span64, .observer, none, .v, Config.deviceData (0x2430 + n) (28), .any⟩
/-- 04, R176. cP in fs/°C -/
def linkChPathCoeffPad (n : Nat) : Entry := ⟨0x2430 + n, 29, .i32, .observer, none, .v, Config.deviceData (0x2430 + n) (29), .any⟩
/-- 04, R176. cC in fs/°C -/
def linkChPathCoeffCentre (n : Nat) : Entry := ⟨0x2430 + n, 30, .i32, .observer, none, .v, Config.deviceData (0x2430 + n) (30), .any⟩

/-- Address families of this file, part 0 (R57, R58). -/
def famsMeasure0 : List Family := [
  ⟨0x2400, 0, 1, 1, 1, fun _ _ => calPeriod⟩,
  ⟨0x2400, 0, 1, 2, 1, fun _ _ => calHits⟩,
  ⟨0x2400, 0, 1, 3, 1, fun _ _ => twinAgreeMeanLimit⟩,
  ⟨0x2400, 0, 1, 4, 1, fun _ _ => twinAgreeMaxLimit⟩,
  ⟨0x2400, 0, 1, 5, 1, fun _ _ => tapTempCoeff⟩,
  ⟨0x2400, 0, 1, 6, 1, fun _ _ => tapVoltCoeff⟩,
  ⟨0x2400, 0, 1, 7, 1, fun _ _ => channelsInService⟩,
  ⟨0x2400, 0, 1, 8, 1, fun _ _ => linkChannelsInService⟩,
  ⟨0x2410, 0, 16, 1, 1, fun n _ => chSource n⟩,
  ⟨0x2410, 0, 16, 2, 1, fun n _ => chEdge n⟩,
  ⟨0x2410, 0, 16, 3, 1, fun n _ => chPrescale n⟩,
  ⟨0x2410, 0, 16, 4, 1, fun n _ => chWinMode n⟩,
  ⟨0x2410, 0, 16, 5, 1, fun n _ => chPeriod n⟩,
  ⟨0x2410, 0, 16, 6, 1, fun n _ => chWinOffset n⟩,
  ⟨0x2410, 0, 16, 7, 1, fun n _ => chWinHalf n⟩,
  ⟨0x2410, 0, 16, 8, 1, fun n _ => chMissLimit n⟩,
  ⟨0x2410, 0, 16, 9, 1, fun n _ => chBoardDelay n⟩,
  ⟨0x2410, 0, 16, 10, 1, fun n _ => chState n⟩,
  ⟨0x2410, 0, 16, 11, 1, fun n _ => chActiveLine n⟩,
  ⟨0x2410, 0, 16, 12, 1, fun n _ => chLastStamp n⟩,
  ⟨0x2410, 0, 16, 13, 1, fun n _ => chStampCount n⟩,
  ⟨0x2410, 0, 16, 14, 1, fun n _ => chStrayCount n⟩,
  ⟨0x2410, 0, 16, 15, 1, fun n _ => chMissCount n⟩,
  ⟨0x2410, 0, 16, 16, 1, fun n _ => chOverflowCount n⟩,
  ⟨0x2410, 0, 16, 17, 1, fun n _ => chCalCount n⟩]

/-- Address families of this file, part 1 (R57, R58). -/
def famsMeasure1 : List Family := [
  ⟨0x2410, 0, 16, 18, 1, fun n _ => chCalFailCount n⟩,
  ⟨0x2410, 0, 16, 19, 1, fun n _ => chLastCalStatus n⟩,
  ⟨0x2410, 0, 16, 20, 1, fun n _ => chCalResidual n⟩,
  ⟨0x2410, 0, 16, 21, 1, fun n _ => chTvResidual n⟩,
  ⟨0x2410, 0, 16, 22, 1, fun n _ => chWindowSearch n⟩,
  ⟨0x2410, 0, 16, 23, 1, fun n _ => chTwinMeanDiff n⟩,
  ⟨0x2410, 0, 16, 24, 1, fun n _ => chPathDelay n⟩,
  ⟨0x2410, 0, 16, 25, 1, fun n _ => chRelease n⟩,
  ⟨0x2410, 0, 16, 26, 1, fun n _ => chStrayLimit n⟩,
  ⟨0x2410, 0, 16, 27, 1, fun n _ => chAssigned n⟩,
  ⟨0x2410, 0, 16, 28, 1, fun n _ => chPathDelay0 n⟩,
  ⟨0x2410, 0, 16, 29, 1, fun n _ => chPathCoeffPad n⟩,
  ⟨0x2410, 0, 16, 30, 1, fun n _ => chPathCoeffCentre n⟩,
  ⟨0x2410, 0, 16, 31, 1, fun n _ => chCaptureSeq n⟩,
  ⟨0x2440, 0, 1, 1, 6, fun _ k => regionTemp k⟩,
  ⟨0x2441, 0, 1, 1, 24, fun _ k => sensorTemp k⟩,
  ⟨0x2442, 0, 1, 1, 6, fun _ k => regionVoltage k⟩,
  ⟨0x2443, 0, 1, 1, 11, fun _ k => pairDifference k⟩,
  ⟨0x2444, 0, 1, 0, 1, fun _ _ => pairOutOfLimit⟩,
  ⟨0x2445, 0, 1, 0, 1, fun _ _ => sensorExcludedCount⟩,
  ⟨0x2450, 0, 1, 1, 1, fun _ _ => xoNominalFrequency⟩,
  ⟨0x2450, 0, 1, 2, 1, fun _ _ => xoMeasuredOffset⟩,
  ⟨0x2450, 0, 1, 3, 1, fun _ _ => xoModelOffset⟩,
  ⟨0x2450, 0, 1, 4, 1, fun _ _ => xoAgeingRate⟩,
  ⟨0x2450, 0, 1, 5, 1, fun _ _ => xoTempCoeff⟩]

/-- Address families of this file, part 2 (R57, R58). -/
def famsMeasure2 : List Family := [
  ⟨0x2450, 0, 1, 6, 1, fun _ _ => xoAgeingSource⟩,
  ⟨0x2450, 0, 1, 7, 1, fun _ _ => xoAgeingAdjust⟩,
  ⟨0x2450, 0, 1, 8, 1, fun _ _ => xoModelLimit⟩,
  ⟨0x2450, 0, 1, 9, 1, fun _ _ => xoModelLearning⟩,
  ⟨0x3000, 0, 1, 1, 1, fun _ _ => watershedRevertive⟩,
  ⟨0x3000, 0, 1, 2, 1, fun _ _ => watershedRankMode⟩,
  ⟨0x3000, 0, 1, 3, 1, fun _ _ => watershedForcedRef⟩,
  ⟨0x3000, 0, 1, 4, 1, fun _ _ => handoverFrames⟩,
  ⟨0x3000, 0, 1, 5, 1, fun _ _ => selectedRef⟩,
  ⟨0x3000, 0, 1, 6, 1, fun _ _ => switchState⟩,
  ⟨0x3000, 0, 1, 7, 1, fun _ _ => switchTarget⟩,
  ⟨0x3000, 0, 1, 8, 1, fun _ _ => switchFrom⟩,
  ⟨0x3000, 0, 1, 9, 1, fun _ _ => switchStartTime⟩,
  ⟨0x3000, 0, 1, 10, 1, fun _ _ => switchCount⟩,
  ⟨0x3000, 0, 1, 11, 1, fun _ _ => switchAbandonCount⟩,
  ⟨0x3000, 0, 1, 12, 1, fun _ _ => buildOut⟩,
  ⟨0x3000, 0, 1, 13, 1, fun _ _ => buildOutUncertainty⟩,
  ⟨0x3000, 0, 1, 14, 1, fun _ _ => eligibleMask⟩,
  ⟨0x3000, 0, 1, 15, 1, fun _ _ => refQcMinimum⟩,
  ⟨0x3000, 0, 1, 16, 1, fun _ _ => driftCoverageSelected⟩,
  ⟨0x3000, 0, 1, 17, 1, fun _ _ => watershedCmdStatus⟩,
  ⟨0x3000, 0, 1, 18, 1, fun _ _ => watershedStatsClear⟩,
  ⟨0x3010, 0, 18, 1, 1, fun n _ => refEnable n⟩,
  ⟨0x3010, 0, 18, 2, 1, fun n _ => refPriority n⟩,
  ⟨0x3010, 0, 18, 3, 1, fun n _ => refMode n⟩]

/-- Address families of this file, part 3 (R57, R58). -/
def famsMeasure3 : List Family := [
  ⟨0x3010, 0, 18, 4, 1, fun n _ => refNominalFrequency n⟩,
  ⟨0x3010, 0, 18, 5, 1, fun n _ => refPulseRate n⟩,
  ⟨0x3010, 0, 18, 6, 1, fun n _ => refTodInput n⟩,
  ⟨0x3010, 0, 18, 7, 1, fun n _ => refDelayCorrection n⟩,
  ⟨0x3010, 0, 18, 8, 1, fun n _ => refQcFixed n⟩,
  ⟨0x3010, 0, 18, 9, 1, fun n _ => refWaitToRestore n⟩,
  ⟨0x3010, 0, 18, 10, 1, fun n _ => refQualifyTime n⟩,
  ⟨0x3010, 0, 18, 11, 1, fun n _ => refPhaseStepThreshold n⟩,
  ⟨0x3010, 0, 18, 12, 1, fun n _ => refFreqLimit n⟩,
  ⟨0x3010, 0, 18, 13, 1, fun n _ => refLossPeriods n⟩,
  ⟨0x3010, 0, 18, 14, 1, fun n _ => refTodMisses n⟩,
  ⟨0x3010, 0, 18, 15, 1, fun n _ => refRequireAuth n⟩,
  ⟨0x3010, 0, 18, 16, 1, fun n _ => refBuildOutMode n⟩,
  ⟨0x3010, 0, 18, 17, 1, fun n _ => refGroup n⟩,
  ⟨0x3010, 0, 18, 18, 1, fun n _ => refExclude n⟩,
  ⟨0x3010, 0, 18, 19, 1, fun n _ => refFilterTau n⟩,
  ⟨0x3010, 0, 18, 20, 1, fun n _ => refUpstreamBound n⟩,
  ⟨0x3010, 0, 18, 21, 1, fun n _ => refState n⟩,
  ⟨0x3010, 0, 18, 22, 1, fun n _ => refFailCause n⟩,
  ⟨0x3010, 0, 18, 23, 1, fun n _ => refStateSince n⟩,
  ⟨0x3010, 0, 18, 24, 1, fun n _ => refWtrRemaining n⟩,
  ⟨0x3010, 0, 18, 25, 1, fun n _ => refOffset n⟩,
  ⟨0x3010, 0, 18, 26, 1, fun n _ => refFrequency n⟩,
  ⟨0x3010, 0, 18, 27, 1, fun n _ => refQc n⟩,
  ⟨0x3010, 0, 18, 28, 1, fun n _ => refQlRaw n⟩]

/-- Address families of this file, part 4 (R57, R58). -/
def famsMeasure4 : List Family := [
  ⟨0x3010, 0, 18, 29, 1, fun n _ => refInputBound n⟩,
  ⟨0x3010, 0, 18, 30, 1, fun n _ => refInputRandom n⟩,
  ⟨0x3010, 0, 18, 31, 1, fun n _ => refLastMeasurement n⟩,
  ⟨0x3010, 0, 18, 32, 1, fun n _ => refFailCount n⟩,
  ⟨0x3010, 0, 18, 33, 1, fun n _ => refLastStepSize n⟩,
  ⟨0x3001, 0, 1, 1, 1, fun _ _ => driftPhaseLimit1⟩,
  ⟨0x3001, 0, 1, 2, 1, fun _ _ => driftPhaseLimit64⟩,
  ⟨0x3001, 0, 1, 3, 1, fun _ _ => driftPhaseLimit1024⟩,
  ⟨0x3001, 0, 1, 4, 1, fun _ _ => driftFreqLimit1⟩,
  ⟨0x3001, 0, 1, 5, 1, fun _ _ => driftFreqLimit64⟩,
  ⟨0x3001, 0, 1, 6, 1, fun _ _ => driftFreqLimit1024⟩,
  ⟨0x3001, 0, 1, 7, 1, fun _ _ => driftCumLimit⟩,
  ⟨0x3001, 0, 1, 8, 1, fun _ _ => driftGuard⟩,
  ⟨0x3040, 0, 18, 1, 3, fun n k => driftPhaseStat n k⟩,
  ⟨0x3040, 0, 18, 4, 3, fun n k => driftFreqStat n k⟩,
  ⟨0x3040, 0, 18, 7, 1, fun n _ => driftCumulative n⟩,
  ⟨0x3040, 0, 18, 8, 1, fun n _ => driftTerm n⟩,
  ⟨0x3040, 0, 18, 9, 1, fun n _ => driftCoverage n⟩,
  ⟨0x3040, 0, 18, 10, 1, fun n _ => driftComparatorMask n⟩,
  ⟨0x3040, 0, 18, 11, 1, fun n _ => driftSuspect n⟩,
  ⟨0x3040, 0, 18, 12, 1, fun n _ => driftBaselineTime n⟩,
  ⟨0x2500, 0, 16, 1, 8, fun n k => chBinTable n k⟩,
  ⟨0x2600, 0, 16, 1, 64, fun n k => chCaptureSlot n k⟩,
  ⟨0x2430, 0, 3, 10, 1, fun n _ => linkChState n⟩,
  ⟨0x2430, 0, 3, 11, 1, fun n _ => linkChActiveLine n⟩]

/-- Address families of this file, part 5 (R57, R58). -/
def famsMeasure5 : List Family := [
  ⟨0x2430, 0, 3, 12, 1, fun n _ => linkChLastStamp n⟩,
  ⟨0x2430, 0, 3, 13, 1, fun n _ => linkChStampCount n⟩,
  ⟨0x2430, 0, 3, 14, 1, fun n _ => linkChStrayCount n⟩,
  ⟨0x2430, 0, 3, 15, 1, fun n _ => linkChMissCount n⟩,
  ⟨0x2430, 0, 3, 16, 1, fun n _ => linkChOverflowCount n⟩,
  ⟨0x2430, 0, 3, 17, 1, fun n _ => linkChCalCount n⟩,
  ⟨0x2430, 0, 3, 18, 1, fun n _ => linkChCalFailCount n⟩,
  ⟨0x2430, 0, 3, 19, 1, fun n _ => linkChLastCalStatus n⟩,
  ⟨0x2430, 0, 3, 20, 1, fun n _ => linkChCalResidual n⟩,
  ⟨0x2430, 0, 3, 21, 1, fun n _ => linkChTvResidual n⟩,
  ⟨0x2430, 0, 3, 23, 1, fun n _ => linkChTwinMeanDiff n⟩,
  ⟨0x2430, 0, 3, 24, 1, fun n _ => linkChPathDelay n⟩,
  ⟨0x2430, 0, 3, 25, 1, fun n _ => linkChRelease n⟩,
  ⟨0x2430, 0, 3, 28, 1, fun n _ => linkChPathDelay0 n⟩,
  ⟨0x2430, 0, 3, 29, 1, fun n _ => linkChPathCoeffPad n⟩,
  ⟨0x2430, 0, 3, 30, 1, fun n _ => linkChPathCoeffCentre n⟩]

/-- Every address family of this file. -/
def famsMeasure : List Family :=
  famsMeasure0 ++ famsMeasure1 ++ famsMeasure2 ++ famsMeasure3 ++ famsMeasure4 ++ famsMeasure5

end Dict
end Sys2Proof.Machine
end

