-- ==== Sys2Proof/Machine/DictPorts.lean ====
section
/-!
DEFINITION. Dictionary entries (spec tables, read row by row): ports and protocol engine.
One definition per table row; `n` is the unit number the table adds to the index, `k` the place within a
range of subindices. Fields: index, subindex, type, read level, write level, keep class, default, range.
-/
namespace Sys2Proof.Machine

/-- The EUI-64 of a MAC address, 0xFFFE between its halves, with the instance number in its last octet (R467; PRESUMED, log
entry 3). -/
def instanceEui (mac n : Nat) : Nat := mac / 2 ^ 24 % 2 ^ 24 * 2 ^ 40 + 0xFFFE * 2 ^ 24 + mac % 2 ^ 24 / 256 * 256 + n

namespace Dict

/-- 10, R416. Ports not Removed -/
def portsInService : Entry := ⟨0x5800, 1, .u8, .observer, none, .v, 6, .any⟩
/-- 10, R416. 0x00 Starting, 0x01 Measuring, 0x02 Degraded, 0x03 Failed -/
def pctStateWest : Entry := ⟨0x5800, 2, .enum8, .observer, none, .v, 0x00, .any⟩
/-- 10, R416. As PctStateWest -/
def pctStateEast : Entry := ⟨0x5800, 3, .enum8, .observer, none, .v, 0x00, .any⟩
/-- 10, R416. In ps, 20 to 1,000 (R385) -/
def portCalFactoryLimit : Entry := ⟨0x5800, 4, .ps32, .observer, (some .operator), .s, 200, .span 20 1000⟩
/-- 10, R416. U8 mask: bit q port q, bit 6 MGT; at the next S0 -/
def portCountersClear : Entry := ⟨0x5800, 5, .cmd 1, .observer, (some .operator), .v, 0, .span 0 127⟩
/-- 10, R416. 1,024 to 65,535; not QopUdpPort -/
def excUdpPort : Entry := ⟨0x5800, 6, .u16, .observer, (some .custodian), .s, 7441, .span 1024 65535⟩
/-- 10, R416. U16 host UDP port (R407) -/
def excBind : Entry := ⟨0x5800, 7, .cmd 2, .observer, (some .operator), .v, 0, .any⟩
/-- 10, R416. IPv4 as ::ffff:a.b.c.d -/
def excBoundAddress : Entry := ⟨0x5800, 8, .octets 16, .observer, none, .v, 0, .any⟩
/-- 10, R416. 0 when unbound -/
def excBoundPort : Entry := ⟨0x5800, 9, .u16, .observer, none, .v, 0, .any⟩
/-- 10, R416. In octets, 576 to 9,000 -/
def excMaxDatagram : Entry := ⟨0x5800, 10, .u16, .observer, (some .operator), .s, 1500, .span 576 9000⟩
/-- 10, R416. [31:16] Ethertype, [15:0] UDP destination port; 0 in a field matches any; 0 in both unused -/
def excFilter (k : Nat) : Entry := ⟨0x5801, 1 + k, .u32, .observer, (some .operator), .s, 0, .any⟩
/-- 10, R416. 0x00 1000BASE-X, 0x01 SGMII -/
def mgtMode : Entry := ⟨0x5860, 1, .enum8, .observer, (some .custodian), .s, 0x00, .span 0 1⟩
/-- 10, R416. Assigned at manufacture -/
def mgtMacAddress : Entry := ⟨0x5860, 2, .octets 6, .observer, (some .custodian), .s, Config.deviceData (0x5860) (2), .any⟩
/-- 10, R416. R414 -/
def mgtLinkUp : Entry := ⟨0x5860, 3, .bool, .observer, none, .v, 0, .any⟩
/-- 10, R416. R414 -/
def mgtMdioEnable : Entry := ⟨0x5860, 4, .bool, .observer, (some .custodian), .s, 0, .span 0 1⟩
/-- 10, R416. 0 to 31 -/
def mgtPhyAddress : Entry := ⟨0x5860, 5, .u8, .observer, (some .custodian), .s, 0, .span 0 31⟩
/-- 10, R416. Saturates -/
def mgtRxFrames : Entry := ⟨0x5860, 6, .u64, .observer, none, .v, 0, .any⟩
/-- 10, R416. Saturates -/
def mgtTxFrames : Entry := ⟨0x5860, 7, .u64, .observer, none, .v, 0, .any⟩
/-- 10, R416. Saturates -/
def mgtRxErrors : Entry := ⟨0x5860, 8, .u64, .observer, none, .v, 0, .any⟩
/-- 10, R417. Port states table -/
def portEnable (n : Nat) : Entry := ⟨0x5810 + n, 1, .bool, .observer, (some .operator), .s, 0, .span 0 1⟩
/-- 10, R417. R379 -/
def portMode (n : Nat) : Entry := ⟨0x5810 + n, 2, .enum8, .observer, (some .operator), .s, (if n < 2 then 1 else 2), .span 1 3⟩
/-- 10, R417. R379 -/
def portFec (n : Nat) : Entry := ⟨0x5810 + n, 3, .enum8, .observer, (some .operator), .s, (if n < 2 then 1 else 2), .span 0 3⟩
/-- 10, R417. Source address of device frames -/
def portMacAddress (n : Nat) : Entry := ⟨0x5810 + n, 4, .octets 6, .observer, (some .custodian), .s, Config.deviceData (0x5810 + n) (4), .any⟩
/-- 10, R417. Untagged length with FCS, 64 to 9,216 -/
def portMaxFrame (n : Nat) : Entry := ⟨0x5810 + n, 5, .u16, .observer, (some .operator), .s, 1518, .span 64 9216⟩
/-- 10, R417. R402 -/
def portTagMode (n : Nat) : Entry := ⟨0x5810 + n, 6, .enum8, .observer, (some .operator), .s, 0x00, .span 0 3⟩
/-- 10, R417. 1 to 4,094 -/
def portSVid (n : Nat) : Entry := ⟨0x5810 + n, 7, .u16, .observer, (some .operator), .s, 1, .span 1 4094⟩
/-- 10, R417. 1 to 4,094 -/
def portCVid (n : Nat) : Entry := ⟨0x5810 + n, 8, .u16, .observer, (some .operator), .s, 1, .span 1 4094⟩
/-- 10, R417. 0 to 7 (R396, R402) -/
def portPcp (n : Nat) : Entry := ⟨0x5810 + n, 9, .u8, .observer, (some .operator), .s, 7, .span 0 7⟩
/-- 10, R417. R403 -/
def portAcceptUntagged (n : Nat) : Entry := ⟨0x5810 + n, 10, .bool, .observer, (some .operator), .s, 1, .span 0 1⟩
/-- 10, R417. 0x00 honour, 0x01 ignore -/
def portPauseMode (n : Nat) : Entry := ⟨0x5810 + n, 11, .enum8, .observer, (some .operator), .s, 0x00, .span 0 1⟩
/-- 10, R417. 0 to 1 µs (R391) -/
def portTxExtDelay (n : Nat) : Entry := ⟨0x5810 + n, 12, .span64, .observer, (some .operator), .s, 0, .span 0 65536000⟩
/-- 10, R417. 0 to 1 µs -/
def portRxExtDelay (n : Nat) : Entry := ⟨0x5810 + n, 13, .span64, .observer, (some .operator), .s, 0, .span 0 65536000⟩
/-- 10, R417. In ps -/
def portTxExtDelayUnc (n : Nat) : Entry := ⟨0x5810 + n, 14, .ps32, .observer, (some .operator), .s, 0, .any⟩
/-- 10, R417. In ps -/
def portRxExtDelayUnc (n : Nat) : Entry := ⟨0x5810 + n, 15, .ps32, .observer, (some .operator), .s, 0, .any⟩
/-- 10, R417. ±1 µs (R392) -/
def portAsymmetry (n : Nat) : Entry := ⟨0x5810 + n, 16, .span64, .observer, (some .operator), .s, 0, .span (-65536000) 65536000⟩
/-- 10, R417. In ps -/
def portAsymmetryUnc (n : Nat) : Entry := ⟨0x5810 + n, 17, .ps32, .observer, (some .operator), .s, 0, .any⟩
/-- 10, R417. In 0.001 °C, 1,000 to 40,000 -/
def portRecalAlarmDelta (n : Nat) : Entry := ⟨0x5810 + n, 18, .u32, .observer, (some .operator), .s, 20000, .span 1000 40000⟩
/-- 10, R417. 0x01 (R390) -/
def portRecalibrate (n : Nat) : Entry := ⟨0x5810 + n, 19, .cmd 1, .observer, (some .operator), .v, 0, .span 1 1⟩
/-- 10, R417. R404 -/
def portOversizeToHost (n : Nat) : Entry := ⟨0x5810 + n, 20, .bool, .observer, (some .operator), .s, 0, .span 0 1⟩
/-- 10, R417. Frames/s, 0 to 1,000,000 -/
def portExcRateLimit (n : Nat) : Entry := ⟨0x5810 + n, 21, .u32, .observer, (some .operator), .s, 10000, .span 0 1000000⟩
/-- 10, R417. 0 to 3 on P0, P1; 0 elsewhere -/
def portSyncELane (n : Nat) : Entry := ⟨0x5810 + n, 22, .u8, .observer, (some .operator), .s, 0, .span 0 3⟩
/-- 10, R417. In ms, 0 to 1,000 -/
def portUpHold (n : Nat) : Entry := ⟨0x5810 + n, 23, .u16, .observer, (some .operator), .s, 10, .span 0 1000⟩
/-- 10, R417. In ms, 0 to 1,000 -/
def portDownHold (n : Nat) : Entry := ⟨0x5810 + n, 24, .u16, .observer, (some .operator), .s, 0, .span 0 1000⟩
/-- 10, R417. 0x01 releases a Removed port (R54) -/
def portRelease (n : Nat) : Entry := ⟨0x5810 + n, 25, .cmd 1, .observer, (some .operator), .v, 0, .span 1 1⟩
/-- 10, R417. R411 -/
def esmcEnable (n : Nat) : Entry := ⟨0x5810 + n, 26, .bool, .observer, (some .operator), .s, 1, .span 0 1⟩
/-- 10, R417. R412 -/
def esmcExtended (n : Nat) : Entry := ⟨0x5810 + n, 27, .bool, .observer, (some .operator), .s, 1, .span 0 1⟩
/-- 10, R417. 0x00 derived, 0x01 fixed -/
def esmcTxMode (n : Nat) : Entry := ⟨0x5810 + n, 28, .enum8, .observer, (some .operator), .s, 0x00, .span 0 1⟩
/-- 10, R417. SSM [15:8], enhanced SSM [7:0] -/
def esmcTxFixedQl (n : Nat) : Entry := ⟨0x5810 + n, 29, .u16, .observer, (some .operator), .s, 0x0FFF, .any⟩
/-- 10, R417. As EsmcTxFixedQl -/
def esmcHoldoverQl (n : Nat) : Entry := ⟨0x5810 + n, 30, .u16, .observer, (some .operator), .s, 0x04FF, .any⟩
/-- 10, R418. 0x00 Disabled, 0x01 Calibrating, 0x02 Training, 0x03 Up, 0x04 Removed -/
def portState (n : Nat) : Entry := ⟨0x5820 + n, 1, .enum8, .observer, none, .v, 0x00, .any⟩
/-- 10, R418. 0x00 none, 0x01 Calibrated, 0x02 FactoryOnly -/
def portCalStatus (n : Nat) : Entry := ⟨0x5820 + n, 2, .enum8, .observer, none, .v, 0x00, .any⟩
/-- 10, R418. 0x00 none; 0x01 to 0x04 as R385 -/
def portCalLastFail (n : Nat) : Entry := ⟨0x5820 + n, 3, .enum8, .observer, none, .v, 0x00, .any⟩
/-- 10, R418. End of the last calibration -/
def portCalTime (n : Nat) : Entry := ⟨0x5820 + n, 4, .time96, .observer, none, .v, 0, .any⟩
/-- 10, R418. T_cal in 0.001 °C -/
def portCalTemp (n : Nat) : Entry := ⟨0x5820 + n, 5, .i32, .observer, none, .v, 0, .any⟩
/-- 10, R418. D_tx,cal of lanes 0 to 3 -/
def portTxDelay (n : Nat) (k : Nat) : Entry := ⟨0x5820 + n, 6 + k, .span64, .observer, none, .v, 0, .any⟩
/-- 10, R418. D_rx,cal of lanes 0 to 3 -/
def portRxDelay (n : Nat) (k : Nat) : Entry := ⟨0x5820 + n, 10 + k, .span64, .observer, none, .v, 0, .any⟩
/-- 10, R418. k_tx in fs/°C -/
def portTxTempCoeff (n : Nat) : Entry := ⟨0x5820 + n, 14, .i32, .observer, none, .v, Config.deviceData (0x5820 + n) (14), .any⟩
/-- 10, R418. k_rx in fs/°C -/
def portRxTempCoeff (n : Nat) : Entry := ⟨0x5820 + n, 15, .i32, .observer, none, .v, Config.deviceData (0x5820 + n) (15), .any⟩
/-- 10, R418. Largest spread in fs -/
def portCalSpread (n : Nat) : Entry := ⟨0x5820 + n, 16, .u32, .observer, none, .v, 0, .any⟩
/-- 10, R418. e_pcal -/
def portTermCal (n : Nat) : Entry := ⟨0x5820 + n, 17, .ps32, .observer, none, .v, 0xFFFFFFFF, .any⟩
/-- 10, R418. e_ptd -/
def portTermTemp (n : Nat) : Entry := ⟨0x5820 + n, 18, .ps32, .observer, none, .v, 0xFFFFFFFF, .any⟩
/-- 10, R418. e_pext -/
def portTermExt (n : Nat) : Entry := ⟨0x5820 + n, 19, .ps32, .observer, none, .v, 0, .any⟩
/-- 10, R418. u_pts in fs -/
def portStampRandom (n : Nat) : Entry := ⟨0x5820 + n, 20, .u32, .observer, none, .v, 2000, .any⟩
/-- 10, R418. In ns (R393) -/
def portCommitLead (n : Nat) : Entry := ⟨0x5820 + n, 21, .u32, .observer, none, .v, 0, .any⟩
/-- 10, R418. Free entries -/
def stampQueueFree (n : Nat) : Entry := ⟨0x5820 + n, 22, .u16, .observer, none, .v, 512, .any⟩
/-- 10, R418. R411 -/
def esmcTxQl (n : Nat) : Entry := ⟨0x5820 + n, 23, .u16, .observer, none, .v, 0x0FFF, .any⟩
/-- 10, R418. 0x00 none, 0x01 receiving, 0x02 TimedOut -/
def esmcRxState (n : Nat) : Entry := ⟨0x5820 + n, 24, .enum8, .observer, none, .v, 0x00, .any⟩
/-- 10, R418. Last entry to Up -/
def portUpSince (n : Nat) : Entry := ⟨0x5820 + n, 25, .time96, .observer, none, .v, 0, .any⟩
/-- 10, R418. R387 -/
def portCalPending (n : Nat) : Entry := ⟨0x5820 + n, 26, .bool, .observer, none, .v, 0, .any⟩
/-- 10, R419. Frames received without error -/
def rxFrames (n : Nat) : Entry := ⟨0x5830 + n, 1, .u64, .observer, none, .v, 0, .any⟩
/-- 10, R419. Frames received without error -/
def rxOctets (n : Nat) : Entry := ⟨0x5830 + n, 2, .u64, .observer, none, .v, 0, .any⟩
/-- 10, R419. Frames sent -/
def txFrames (n : Nat) : Entry := ⟨0x5830 + n, 3, .u64, .observer, none, .v, 0, .any⟩
/-- 10, R419. Frames sent -/
def txOctets (n : Nat) : Entry := ⟨0x5830 + n, 4, .u64, .observer, none, .v, 0, .any⟩
/-- 10, R419. R405 -/
def rxFcsErrors (n : Nat) : Entry := ⟨0x5830 + n, 5, .u64, .observer, none, .v, 0, .any⟩
/-- 10, R419. R404 -/
def rxOversize (n : Nat) : Entry := ⟨0x5830 + n, 6, .u64, .observer, none, .v, 0, .any⟩
/-- 10, R419. R405 -/
def rxUndersize (n : Nat) : Entry := ⟨0x5830 + n, 7, .u64, .observer, none, .v, 0, .any⟩
/-- 10, R419. R403 -/
def rxTagDrops (n : Nat) : Entry := ⟨0x5830 + n, 8, .u64, .observer, none, .v, 0, .any⟩
/-- 10, R419. R396 -/
def rxPauseFrames (n : Nat) : Entry := ⟨0x5830 + n, 9, .u64, .observer, none, .v, 0, .any⟩
/-- 10, R419. R396 -/
def rxPfcFrames (n : Nat) : Entry := ⟨0x5830 + n, 10, .u64, .observer, none, .v, 0, .any⟩
/-- 10, R419. ns during which commits were stopped -/
def pausedTime (n : Nat) : Entry := ⟨0x5830 + n, 11, .u64, .observer, none, .v, 0, .any⟩
/-- 10, R419. Codewords or blocks -/
def fecCorrected (n : Nat) : Entry := ⟨0x5830 + n, 12, .u64, .observer, none, .v, 0, .any⟩
/-- 10, R419. Codewords or blocks -/
def fecUncorrected (n : Nat) : Entry := ⟨0x5830 + n, 13, .u64, .observer, none, .v, 0, .any⟩
/-- 10, R419. Invalid 66-bit blocks -/
def pcsBlockErrors (n : Nat) : Entry := ⟨0x5830 + n, 14, .u64, .observer, none, .v, 0, .any⟩
/-- 10, R419. Entries to hi_ber -/
def hiBerEpisodes (n : Nat) : Entry := ⟨0x5830 + n, 15, .u64, .observer, none, .v, 0, .any⟩
/-- 10, R419. R394, R395 -/
def oneStepFrames (n : Nat) : Entry := ⟨0x5830 + n, 16, .u64, .observer, none, .v, 0, .any⟩
/-- 10, R419. R394, R395 -/
def oneStepStomped (n : Nat) : Entry := ⟨0x5830 + n, 17, .u64, .observer, none, .v, 0, .any⟩
/-- 10, R419. R398, R399 -/
def stampsQueued (n : Nat) : Entry := ⟨0x5830 + n, 18, .u64, .observer, none, .v, 0, .any⟩
/-- 10, R419. R398, R399 -/
def stampHolds (n : Nat) : Entry := ⟨0x5830 + n, 19, .u64, .observer, none, .v, 0, .any⟩
/-- 10, R419. R400 -/
def stampsLost (n : Nat) : Entry := ⟨0x5830 + n, 20, .u64, .observer, none, .v, 0, .any⟩
/-- 10, R419. R400 -/
def lossMarkers (n : Nat) : Entry := ⟨0x5830 + n, 21, .u64, .observer, none, .v, 0, .any⟩
/-- 10, R419. R406 to R408 -/
def excToHost (n : Nat) : Entry := ⟨0x5830 + n, 22, .u64, .observer, none, .v, 0, .any⟩
/-- 10, R419. R406 to R408 -/
def excFromHost (n : Nat) : Entry := ⟨0x5830 + n, 23, .u64, .observer, none, .v, 0, .any⟩
/-- 10, R419. R406 to R408 -/
def excDropped (n : Nat) : Entry := ⟨0x5830 + n, 24, .u64, .observer, none, .v, 0, .any⟩
/-- 10, R419. ESMC PDUs -/
def esmcRx (n : Nat) : Entry := ⟨0x5830 + n, 25, .u64, .observer, none, .v, 0, .any⟩
/-- 10, R419. ESMC PDUs -/
def esmcTx (n : Nat) : Entry := ⟨0x5830 + n, 26, .u64, .observer, none, .v, 0, .any⟩
/-- 10, R419. Port states table -/
def linkDownCount (n : Nat) : Entry := ⟨0x5830 + n, 27, .u64, .observer, none, .v, 0, .any⟩
/-- 11, R466. Messages/s at the point in force -/
def protoPipelineCapacity : Entry := ⟨0x6000, 1, .u32, .observer, none, .v, 64000000, .any⟩
/-- 11, R466. — -/
def hmacLanesInService : Entry := ⟨0x6000, 2, .u8, .observer, none, .v, 32, .any⟩
/-- 11, R466. — -/
def aesLanesInService : Entry := ⟨0x6000, 3, .u8, .observer, none, .v, 16, .any⟩
/-- 11, R466. Bit n set while HMAC lane n serves -/
def hmacLaneMask : Entry := ⟨0x6000, 4, .u32, .observer, none, .v, 0xFFFFFFFF, .any⟩
/-- 11, R466. Bit n set while AES lane n serves -/
def aesLaneMask : Entry := ⟨0x6000, 5, .u16, .observer, none, .v, 0xFFFF, .any⟩
/-- 11, R466. U8: 0x00 to 0x1F HMAC lane, 0x80 to 0x8F AES lane (R54) -/
def cryptoLaneRelease : Entry := ⟨0x6000, 6, .cmd 1, .observer, (some .operator), .v, 0, .runs [(0, 31), (128, 143)]⟩
/-- 11, R466. In %, 50 to 100 (R462) -/
def protoGrantLoadLimit : Entry := ⟨0x6000, 7, .u8, .observer, (some .operator), .s, 100, .span 50 100⟩
/-- 11, R466. 1 to 16 (R460) -/
def protoQueueFrames : Entry := ⟨0x6000, 8, .u8, .observer, (some .operator), .s, 4, .span 1 16⟩
/-- 11, R466. Messages in the last second -/
def protoLoadLastSecond : Entry := ⟨0x6000, 9, .u32, .observer, none, .v, 0, .any⟩
/-- 11, R466. R460; saturates -/
def protoShedCount : Entry := ⟨0x6000, 10, .u64, .observer, none, .v, 0, .any⟩
/-- 11, R466. R464; saturates -/
def keyStaleDrops : Entry := ⟨0x6000, 11, .u32, .observer, none, .v, 0, .any⟩
/-- 11, R466. Valid records -/
def clientCount : Entry := ⟨0x6000, 12, .u32, .observer, none, .v, 0, .any⟩
/-- 11, R466. Records in the stash -/
def clientStashCount : Entry := ⟨0x6000, 13, .u16, .observer, none, .v, 0, .any⟩
/-- 11, R466. R441; saturates -/
def clientInsertFailCount : Entry := ⟨0x6000, 14, .u32, .observer, none, .v, 0, .any⟩
/-- 11, R466. 24 octets: instance, port, transport, 5 reserved, Address; frees the record -/
def clientDelete : Entry := ⟨0x6000, 15, .cmd 24, .observer, (some .operator), .v, 0, .any⟩
/-- 11, R466. Per session; slot 0 to 1,056,767, stash from 1,048,576 -/
def clientCursor : Entry := ⟨0x6000, 16, .u32, .observer, (some .observer), .v, 0, .span 0 1056767⟩
/-- 11, R466. 0x01 clears every saturating count of 0x6000 to 0x6310 at the next S0 -/
def protoCountersClear : Entry := ⟨0x6000, 17, .cmd 1, .observer, (some .operator), .v, 0, .span 1 1⟩
/-- 11, R466. Record in slot ClientCursor + w − 1; zeros when empty -/
def clientWindow (k : Nat) : Entry := ⟨0x6001, 1 + k, .octets 64, .observer, none, .v, 0, .any⟩
/-- 11, R467. All zero: no IPv4 service -/
def svcIpv4Address (n : Nat) : Entry := ⟨0x6040 + n, 1, .octets 4, .observer, (some .custodian), .s, 0, .any⟩
/-- 11, R467. All zero: no IPv6 service -/
def svcIpv6Address (n : Nat) : Entry := ⟨0x6040 + n, 2, .octets 16, .observer, (some .custodian), .s, 0, .any⟩
/-- 11, R467. 1 to 255 -/
def svcHopLimit (n : Nat) : Entry := ⟨0x6040 + n, 3, .u8, .observer, (some .operator), .s, 64, .span 1 255⟩
/-- 11, R467. 0 to 63 -/
def svcDscp (n : Nat) : Entry := ⟨0x6040 + n, 4, .u8, .observer, (some .operator), .s, 46, .span 0 63⟩
/-- 11, R467. — -/
def instEnable (n : Nat) : Entry := ⟨0x6010 + n, 1, .bool, .observer, (some .operator), .s, 0, .span 0 1⟩
/-- 11, R467. R424 -/
def instProfile (n : Nat) : Entry := ⟨0x6010 + n, 2, .enum8, .observer, (some .operator), .s, 0x00, .span 0 2⟩
/-- 11, R467. R424 -/
def instDomain (n : Nat) : Entry := ⟨0x6010 + n, 3, .u8, .observer, (some .operator), .s, 0, .span 0 127⟩
/-- 11, R467. Bits 0 to 5 for P0 to P5 -/
def instPortMask (n : Nat) : Entry := ⟨0x6010 + n, 4, .u8, .observer, (some .operator), .s, 0x00, .span 0 63⟩
/-- 11, R467. 0x00 L2, 0x01 UDP/IPv4, 0x02 UDP/IPv6 -/
def instTransport (n : Nat) : Entry := ⟨0x6010 + n, 5, .enum8, .observer, (some .operator), .s, 0x01, .span 0 2⟩
/-- 11, R467. 0x00 multicast, 0x01 unicast -/
def instMode (n : Nat) : Entry := ⟨0x6010 + n, 6, .enum8, .observer, (some .operator), .s, 0x00, .span 0 1⟩
/-- 11, R467. 0x00 one-step, 0x01 two-step -/
def instStepMode (n : Nat) : Entry := ⟨0x6010 + n, 7, .enum8, .observer, (some .operator), .s, 0x00, .span 0 1⟩
/-- 11, R467. clockIdentity -/
def instClockIdentity (n : Nat) : Entry := ⟨0x6010 + n, 8, .octets 8, .observer, (some .custodian), .s, instanceEui (Config.deviceData (0x5860) (2)) n, .any⟩
/-- 11, R467. — -/
def instPriority1 (n : Nat) : Entry := ⟨0x6010 + n, 9, .u8, .observer, (some .operator), .s, 128, .any⟩
/-- 11, R467. — -/
def instPriority2 (n : Nat) : Entry := ⟨0x6010 + n, 10, .u8, .observer, (some .operator), .s, 128, .any⟩
/-- 11, R467. Multicast rate; fastest unicast grant -/
def instLogSync (n : Nat) : Entry := ⟨0x6010 + n, 11, .i32, .observer, (some .operator), .s, 0, .span (-7) 1⟩
/-- 11, R467. As InstLogSync -/
def instLogDelayResp (n : Nat) : Entry := ⟨0x6010 + n, 12, .i32, .observer, (some .operator), .s, 0, .span (-7) 5⟩
/-- 11, R467. R435 -/
def instLogAnnounce (n : Nat) : Entry := ⟨0x6010 + n, 13, .i32, .observer, (some .operator), .s, 1, .span (-3) 4⟩
/-- 11, R467. In s, 10 to 3,600 -/
def instGrantMin (n : Nat) : Entry := ⟨0x6010 + n, 14, .u16, .observer, (some .operator), .s, 60, .span 10 3600⟩
/-- 11, R467. In s, InstGrantMin to 3,600 -/
def instGrantMax (n : Nat) : Entry := ⟨0x6010 + n, 15, .u16, .observer, (some .operator), .s, 1000, .span 10 3600⟩
/-- 11, R467. R445 -/
def instAuthMode (n : Nat) : Entry := ⟨0x6010 + n, 16, .enum8, .observer, (some .operator), .s, 0x00, .span 0 2⟩
/-- 11, R467. SA 0 to 31; 0xFF none -/
def instSa (n : Nat) : Entry := ⟨0x6010 + n, 17, .u8, .observer, (some .operator), .s, 0xFF, .runs [(0, 31), (255, 255)]⟩
/-- 11, R467. 0x00 01-1B-19-00-00-00, 0x01 01-80-C2-00-00-0E -/
def instL2Address (n : Nat) : Entry := ⟨0x6010 + n, 18, .enum8, .observer, (some .operator), .s, 0x00, .span 0 1⟩
/-- 11, R467. Per s per port (R437) -/
def instMcastDelayReqLimit (n : Nat) : Entry := ⟨0x6010 + n, 19, .u32, .observer, (some .operator), .s, 1024, .any⟩
/-- 11, R467. 0x00 Disabled, 0x01 Serving, 0x02 Silent (R421) -/
def instState (n : Nat) : Entry := ⟨0x6020 + n, 1, .enum8, .observer, none, .v, 0x00, .any⟩
/-- 11, R467. Records of the instance -/
def instClients (n : Nat) : Entry := ⟨0x6020 + n, 2, .u32, .observer, none, .v, 0, .any⟩
/-- 11, R467. R432 -/
def instSyncSeqBase (n : Nat) : Entry := ⟨0x6020 + n, 3, .u16, .observer, none, .k, 0, .any⟩
/-- 11, R467. R432 -/
def instAnnounceSeqBase (n : Nat) : Entry := ⟨0x6020 + n, 4, .u16, .observer, none, .k, 0, .any⟩
/-- 11, R467. Counts; saturate -/
def instSyncSent (n : Nat) : Entry := ⟨0x6020 + n, 5, .u64, .observer, none, .v, 0, .any⟩
/-- 11, R467. Counts; saturate -/
def instAnnounceSent (n : Nat) : Entry := ⟨0x6020 + n, 6, .u64, .observer, none, .v, 0, .any⟩
/-- 11, R467. Counts; saturate -/
def instDelayReqRx (n : Nat) : Entry := ⟨0x6020 + n, 7, .u64, .observer, none, .v, 0, .any⟩
/-- 11, R467. Counts; saturate -/
def instDelayRespSent (n : Nat) : Entry := ⟨0x6020 + n, 8, .u64, .observer, none, .v, 0, .any⟩
/-- 11, R467. Counts; saturate -/
def instSignallingRx (n : Nat) : Entry := ⟨0x6020 + n, 9, .u64, .observer, none, .v, 0, .any⟩
/-- 11, R467. Counts; saturate -/
def instGrantsRefused (n : Nat) : Entry := ⟨0x6020 + n, 10, .u64, .observer, none, .v, 0, .any⟩
/-- 11, R467. Counts; saturate -/
def instAuthFailRx (n : Nat) : Entry := ⟨0x6020 + n, 11, .u64, .observer, none, .v, 0, .any⟩
/-- 11, R467. Counts; saturate -/
def instDelayReqDropped (n : Nat) : Entry := ⟨0x6020 + n, 12, .u64, .observer, none, .v, 0, .any⟩
/-- 11, R467. Counts; saturate -/
def instSyncSkipped (n : Nat) : Entry := ⟨0x6020 + n, 13, .u64, .observer, none, .v, 0, .any⟩
/-- 11, R468. — -/
def saEnable (n : Nat) : Entry := ⟨0x6100 + n, 1, .bool, .observer, (some .custodian), .s, 0, .span 0 1⟩
/-- 11, R468. Unique among enabled SAs -/
def saSpp (n : Nat) : Entry := ⟨0x6100 + n, 2, .u8, .observer, (some .custodian), .s, n, .any⟩
/-- 11, R468. keyID sent -/
def saKeyIdCurrent (n : Nat) : Entry := ⟨0x6100 + n, 3, .u32, .observer, (some .custodian), .s, 0, .any⟩
/-- 11, R468. Working slot 0 to 1,023; 0xFFFF none -/
def saSlotCurrent (n : Nat) : Entry := ⟨0x6100 + n, 4, .u16, .observer, (some .custodian), .s, 0xFFFF, .runs [(0, 1023), (65535, 65535)]⟩
/-- 11, R468. R444 -/
def saKeyIdPrevious (n : Nat) : Entry := ⟨0x6100 + n, 5, .u32, .observer, (some .custodian), .s, 0, .any⟩
/-- 11, R468. As SaSlotCurrent -/
def saSlotPrevious (n : Nat) : Entry := ⟨0x6100 + n, 6, .u16, .observer, (some .custodian), .s, 0xFFFF, .runs [(0, 1023), (65535, 65535)]⟩
/-- 11, R468. R444 -/
def saPreviousUntil (n : Nat) : Entry := ⟨0x6100 + n, 7, .time96, .observer, (some .custodian), .s, 0, .any⟩
/-- 11, R468. R443 -/
def saMaskCorrection (n : Nat) : Entry := ⟨0x6100 + n, 8, .bool, .observer, (some .custodian), .s, 0, .span 0 1⟩
/-- 11, R468. Saturates -/
def saVerifyFail (n : Nat) : Entry := ⟨0x6100 + n, 9, .u32, .observer, none, .v, 0, .any⟩
/-- 11, R468. — -/
def nrefEnable (n : Nat) : Entry := ⟨0x6200 + n, 1, .bool, .observer, (some .operator), .s, 0, .span 0 1⟩
/-- 11, R468. As InstProfile; unicast only -/
def nrefProfile (n : Nat) : Entry := ⟨0x6200 + n, 2, .enum8, .observer, (some .operator), .s, 0x02, .runs [(0, 0), (2, 2)]⟩
/-- 11, R468. 0 to 5 -/
def nrefPort (n : Nat) : Entry := ⟨0x6200 + n, 3, .u8, .observer, (some .operator), .s, 0, .span 0 5⟩
/-- 11, R468. As InstTransport -/
def nrefTransport (n : Nat) : Entry := ⟨0x6200 + n, 4, .enum8, .observer, (some .operator), .s, 0x01, .span 0 2⟩
/-- 11, R468. Per profile (R424) -/
def nrefDomain (n : Nat) : Entry := ⟨0x6200 + n, 5, .u8, .observer, (some .operator), .s, 44, .span 0 127⟩
/-- 11, R468. IPv4 as ::ffff:a.b.c.d; L2: MAC and 10 zero octets -/
def nrefMasterAddress (n : Nat) : Entry := ⟨0x6200 + n, 6, .octets 16, .observer, (some .operator), .s, 0, .any⟩
/-- 11, R468. Source address -/
def nrefLocalAddress (n : Nat) : Entry := ⟨0x6200 + n, 7, .octets 16, .observer, (some .operator), .s, 0, .any⟩
/-- 11, R468. Destination MAC -/
def nrefNextHopMac (n : Nat) : Entry := ⟨0x6200 + n, 8, .octets 6, .observer, (some .operator), .s, 0, .any⟩
/-- 11, R468. Requested -/
def nrefLogSync (n : Nat) : Entry := ⟨0x6200 + n, 9, .i32, .observer, (some .operator), .s, 4294967292, .span (-7) 1⟩
/-- 11, R468. Requested -/
def nrefLogDelayReq (n : Nat) : Entry := ⟨0x6200 + n, 10, .i32, .observer, (some .operator), .s, 4294967292, .span (-7) 5⟩
/-- 11, R468. Requested -/
def nrefLogAnnounce (n : Nat) : Entry := ⟨0x6200 + n, 11, .i32, .observer, (some .operator), .s, 0, .span (-3) 4⟩
/-- 11, R468. In s, 60 to 1,000 -/
def nrefGrantDuration (n : Nat) : Entry := ⟨0x6200 + n, 12, .u16, .observer, (some .operator), .s, 300, .span 60 1000⟩
/-- 11, R468. SA; 0xFF none -/
def nrefSa (n : Nat) : Entry := ⟨0x6200 + n, 13, .u8, .observer, (some .operator), .s, 0xFF, .runs [(0, 31), (255, 255)]⟩
/-- 11, R468. R448 -/
def nrefBoundSource (n : Nat) : Entry := ⟨0x6200 + n, 14, .enum8, .observer, (some .operator), .s, 0x00, .span 0 2⟩
/-- 11, R468. R448 -/
def nrefUpstreamBoundFixed (n : Nat) : Entry := ⟨0x6200 + n, 15, .ps32, .observer, (some .operator), .s, 0xFFFFFFFF, .any⟩
/-- 11, R468. 0x00 Disabled, 0x01 Negotiating, 0x02 Receiving, 0x03 Fault -/
def nrefState (n : Nat) : Entry := ⟨0x6200 + n, 16, .enum8, .observer, none, .v, 0x00, .any⟩
/-- 11, R468. Last x -/
def nrefOffset (n : Nat) : Entry := ⟨0x6200 + n, 17, .span64, .observer, none, .v, 0, .any⟩
/-- 11, R468. Last d -/
def nrefMeanPathDelay (n : Nat) : Entry := ⟨0x6200 + n, 18, .span64, .observer, none, .v, 0, .any⟩
/-- 11, R468. e_up -/
def nrefUpstreamBound (n : Nat) : Entry := ⟨0x6200 + n, 19, .ps32, .observer, none, .v, 0xFFFFFFFF, .any⟩
/-- 11, R468. clockClass of the Announce in force -/
def nrefUpstreamClass (n : Nat) : Entry := ⟨0x6200 + n, 20, .u8, .observer, none, .v, 255, .any⟩
/-- 11, R468. Saturates -/
def nrefExchanges (n : Nat) : Entry := ⟨0x6200 + n, 21, .u64, .observer, none, .v, 0, .any⟩
/-- 11, R469. — -/
def ntpEnable : Entry := ⟨0x6300, 1, .bool, .observer, (some .operator), .s, 0, .span 0 1⟩
/-- 11, R469. Bits 0 to 5 -/
def ntpPortMask : Entry := ⟨0x6300, 2, .u8, .observer, (some .operator), .s, 0x00, .span 0 63⟩
/-- 11, R469. R450 -/
def ntpAllowPlain : Entry := ⟨0x6300, 3, .bool, .observer, (some .operator), .s, 1, .span 0 1⟩
/-- 11, R469. 1 to 15 -/
def ntpStratum : Entry := ⟨0x6300, 4, .u8, .observer, (some .operator), .s, 1, .span 1 15⟩
/-- 11, R469. 0 to 17 -/
def ntpMinPoll : Entry := ⟨0x6300, 5, .i32, .observer, (some .operator), .s, 4, .span 0 17⟩
/-- 11, R469. NtpMinPoll to 17 -/
def ntpMaxPoll : Entry := ⟨0x6300, 6, .i32, .observer, (some .operator), .s, 17, .span 0 17⟩
/-- 11, R469. Tokens/s, 1 to 1,024 -/
def ntpRateLimit : Entry := ⟨0x6300, 7, .u16, .observer, (some .operator), .s, 16, .span 1 1024⟩
/-- 11, R469. 1 to 4,096 -/
def ntpRateBurst : Entry := ⟨0x6300, 8, .u16, .observer, (some .operator), .s, 32, .span 1 4096⟩
/-- 11, R469. R452 -/
def ntpKissEnable : Entry := ⟨0x6300, 9, .bool, .observer, (some .operator), .s, 1, .span 0 1⟩
/-- 11, R469. Requires NtsSlotCurrent other than 0xFFFF -/
def ntsEnable : Entry := ⟨0x6300, 10, .bool, .observer, (some .operator), .s, 0, .span 0 1⟩
/-- 11, R469. KeyId of new cookies -/
def ntsKeyIdCurrent : Entry := ⟨0x6300, 11, .u16, .observer, (some .custodian), .s, 0, .any⟩
/-- 11, R469. Working slot of a cookie key -/
def ntsSlotCurrent : Entry := ⟨0x6300, 12, .u16, .observer, (some .custodian), .s, 0xFFFF, .runs [(0, 1023), (65535, 65535)]⟩
/-- 11, R469. Still accepted -/
def ntsKeyIdPrevious : Entry := ⟨0x6300, 13, .u16, .observer, (some .custodian), .s, 0, .any⟩
/-- 11, R469. 0xFFFF none -/
def ntsSlotPrevious : Entry := ⟨0x6300, 14, .u16, .observer, (some .custodian), .s, 0xFFFF, .runs [(0, 1023), (65535, 65535)]⟩
/-- 11, R469. Constant (R454) -/
def ntsMaxCookies : Entry := ⟨0x6300, 15, .u8, .observer, none, .v, 2, .any⟩
/-- 11, R470. Plain and NTS -/
def ntpRequests : Entry := ⟨0x6310, 1, .u64, .observer, none, .v, 0, .any⟩
/-- 11, R470. Plain and NTS -/
def ntpResponses : Entry := ⟨0x6310, 2, .u64, .observer, none, .v, 0, .any⟩
/-- 11, R470. R452 -/
def ntpRateDrops : Entry := ⟨0x6310, 3, .u64, .observer, none, .v, 0, .any⟩
/-- 11, R470. R452 -/
def ntpKissSent : Entry := ⟨0x6310, 4, .u64, .observer, none, .v, 0, .any⟩
/-- 11, R470. R450 -/
def ntpPlainRefused : Entry := ⟨0x6310, 5, .u64, .observer, none, .v, 0, .any⟩
/-- 11, R470. R454, R455 -/
def ntsRequests : Entry := ⟨0x6310, 6, .u64, .observer, none, .v, 0, .any⟩
/-- 11, R470. R454, R455 -/
def ntsNakSent : Entry := ⟨0x6310, 7, .u64, .observer, none, .v, 0, .any⟩
/-- 11, R470. R454, R455 -/
def ntsAuthFail : Entry := ⟨0x6310, 8, .u64, .observer, none, .v, 0, .any⟩
/-- 11, R470. R454 -/
def ntsCookiesIssued : Entry := ⟨0x6310, 9, .u64, .observer, none, .v, 0, .any⟩
/-- 11, R470. Class 4 drops (R460) -/
def ntpShed : Entry := ⟨0x6310, 10, .u64, .observer, none, .v, 0, .any⟩
/-- 11, R470. R454 step 1 -/
def ntpMalformed : Entry := ⟨0x6310, 11, .u64, .observer, none, .v, 0, .any⟩

/-- Address families of this file, part 0 (R57, R58). -/
def famsPorts0 : List Family := [
  ⟨0x5800, 0, 1, 1, 1, fun _ _ => portsInService⟩,
  ⟨0x5800, 0, 1, 2, 1, fun _ _ => pctStateWest⟩,
  ⟨0x5800, 0, 1, 3, 1, fun _ _ => pctStateEast⟩,
  ⟨0x5800, 0, 1, 4, 1, fun _ _ => portCalFactoryLimit⟩,
  ⟨0x5800, 0, 1, 5, 1, fun _ _ => portCountersClear⟩,
  ⟨0x5800, 0, 1, 6, 1, fun _ _ => excUdpPort⟩,
  ⟨0x5800, 0, 1, 7, 1, fun _ _ => excBind⟩,
  ⟨0x5800, 0, 1, 8, 1, fun _ _ => excBoundAddress⟩,
  ⟨0x5800, 0, 1, 9, 1, fun _ _ => excBoundPort⟩,
  ⟨0x5800, 0, 1, 10, 1, fun _ _ => excMaxDatagram⟩,
  ⟨0x5801, 0, 1, 1, 8, fun _ k => excFilter k⟩,
  ⟨0x5860, 0, 1, 1, 1, fun _ _ => mgtMode⟩,
  ⟨0x5860, 0, 1, 2, 1, fun _ _ => mgtMacAddress⟩,
  ⟨0x5860, 0, 1, 3, 1, fun _ _ => mgtLinkUp⟩,
  ⟨0x5860, 0, 1, 4, 1, fun _ _ => mgtMdioEnable⟩,
  ⟨0x5860, 0, 1, 5, 1, fun _ _ => mgtPhyAddress⟩,
  ⟨0x5860, 0, 1, 6, 1, fun _ _ => mgtRxFrames⟩,
  ⟨0x5860, 0, 1, 7, 1, fun _ _ => mgtTxFrames⟩,
  ⟨0x5860, 0, 1, 8, 1, fun _ _ => mgtRxErrors⟩,
  ⟨0x5810, 0, 6, 1, 1, fun n _ => portEnable n⟩,
  ⟨0x5810, 0, 6, 2, 1, fun n _ => portMode n⟩,
  ⟨0x5810, 0, 6, 3, 1, fun n _ => portFec n⟩,
  ⟨0x5810, 0, 6, 4, 1, fun n _ => portMacAddress n⟩,
  ⟨0x5810, 0, 6, 5, 1, fun n _ => portMaxFrame n⟩,
  ⟨0x5810, 0, 6, 6, 1, fun n _ => portTagMode n⟩]

/-- Address families of this file, part 1 (R57, R58). -/
def famsPorts1 : List Family := [
  ⟨0x5810, 0, 6, 7, 1, fun n _ => portSVid n⟩,
  ⟨0x5810, 0, 6, 8, 1, fun n _ => portCVid n⟩,
  ⟨0x5810, 0, 6, 9, 1, fun n _ => portPcp n⟩,
  ⟨0x5810, 0, 6, 10, 1, fun n _ => portAcceptUntagged n⟩,
  ⟨0x5810, 0, 6, 11, 1, fun n _ => portPauseMode n⟩,
  ⟨0x5810, 0, 6, 12, 1, fun n _ => portTxExtDelay n⟩,
  ⟨0x5810, 0, 6, 13, 1, fun n _ => portRxExtDelay n⟩,
  ⟨0x5810, 0, 6, 14, 1, fun n _ => portTxExtDelayUnc n⟩,
  ⟨0x5810, 0, 6, 15, 1, fun n _ => portRxExtDelayUnc n⟩,
  ⟨0x5810, 0, 6, 16, 1, fun n _ => portAsymmetry n⟩,
  ⟨0x5810, 0, 6, 17, 1, fun n _ => portAsymmetryUnc n⟩,
  ⟨0x5810, 0, 6, 18, 1, fun n _ => portRecalAlarmDelta n⟩,
  ⟨0x5810, 0, 6, 19, 1, fun n _ => portRecalibrate n⟩,
  ⟨0x5810, 0, 6, 20, 1, fun n _ => portOversizeToHost n⟩,
  ⟨0x5810, 0, 6, 21, 1, fun n _ => portExcRateLimit n⟩,
  ⟨0x5810, 0, 6, 22, 1, fun n _ => portSyncELane n⟩,
  ⟨0x5810, 0, 6, 23, 1, fun n _ => portUpHold n⟩,
  ⟨0x5810, 0, 6, 24, 1, fun n _ => portDownHold n⟩,
  ⟨0x5810, 0, 6, 25, 1, fun n _ => portRelease n⟩,
  ⟨0x5810, 0, 6, 26, 1, fun n _ => esmcEnable n⟩,
  ⟨0x5810, 0, 6, 27, 1, fun n _ => esmcExtended n⟩,
  ⟨0x5810, 0, 6, 28, 1, fun n _ => esmcTxMode n⟩,
  ⟨0x5810, 0, 6, 29, 1, fun n _ => esmcTxFixedQl n⟩,
  ⟨0x5810, 0, 6, 30, 1, fun n _ => esmcHoldoverQl n⟩,
  ⟨0x5820, 0, 6, 1, 1, fun n _ => portState n⟩]

/-- Address families of this file, part 2 (R57, R58). -/
def famsPorts2 : List Family := [
  ⟨0x5820, 0, 6, 2, 1, fun n _ => portCalStatus n⟩,
  ⟨0x5820, 0, 6, 3, 1, fun n _ => portCalLastFail n⟩,
  ⟨0x5820, 0, 6, 4, 1, fun n _ => portCalTime n⟩,
  ⟨0x5820, 0, 6, 5, 1, fun n _ => portCalTemp n⟩,
  ⟨0x5820, 0, 6, 6, 4, fun n k => portTxDelay n k⟩,
  ⟨0x5820, 0, 6, 10, 4, fun n k => portRxDelay n k⟩,
  ⟨0x5820, 0, 6, 14, 1, fun n _ => portTxTempCoeff n⟩,
  ⟨0x5820, 0, 6, 15, 1, fun n _ => portRxTempCoeff n⟩,
  ⟨0x5820, 0, 6, 16, 1, fun n _ => portCalSpread n⟩,
  ⟨0x5820, 0, 6, 17, 1, fun n _ => portTermCal n⟩,
  ⟨0x5820, 0, 6, 18, 1, fun n _ => portTermTemp n⟩,
  ⟨0x5820, 0, 6, 19, 1, fun n _ => portTermExt n⟩,
  ⟨0x5820, 0, 6, 20, 1, fun n _ => portStampRandom n⟩,
  ⟨0x5820, 0, 6, 21, 1, fun n _ => portCommitLead n⟩,
  ⟨0x5820, 0, 6, 22, 1, fun n _ => stampQueueFree n⟩,
  ⟨0x5820, 0, 6, 23, 1, fun n _ => esmcTxQl n⟩,
  ⟨0x5820, 0, 6, 24, 1, fun n _ => esmcRxState n⟩,
  ⟨0x5820, 0, 6, 25, 1, fun n _ => portUpSince n⟩,
  ⟨0x5820, 0, 6, 26, 1, fun n _ => portCalPending n⟩,
  ⟨0x5830, 0, 6, 1, 1, fun n _ => rxFrames n⟩,
  ⟨0x5830, 0, 6, 2, 1, fun n _ => rxOctets n⟩,
  ⟨0x5830, 0, 6, 3, 1, fun n _ => txFrames n⟩,
  ⟨0x5830, 0, 6, 4, 1, fun n _ => txOctets n⟩,
  ⟨0x5830, 0, 6, 5, 1, fun n _ => rxFcsErrors n⟩,
  ⟨0x5830, 0, 6, 6, 1, fun n _ => rxOversize n⟩]

/-- Address families of this file, part 3 (R57, R58). -/
def famsPorts3 : List Family := [
  ⟨0x5830, 0, 6, 7, 1, fun n _ => rxUndersize n⟩,
  ⟨0x5830, 0, 6, 8, 1, fun n _ => rxTagDrops n⟩,
  ⟨0x5830, 0, 6, 9, 1, fun n _ => rxPauseFrames n⟩,
  ⟨0x5830, 0, 6, 10, 1, fun n _ => rxPfcFrames n⟩,
  ⟨0x5830, 0, 6, 11, 1, fun n _ => pausedTime n⟩,
  ⟨0x5830, 0, 6, 12, 1, fun n _ => fecCorrected n⟩,
  ⟨0x5830, 0, 6, 13, 1, fun n _ => fecUncorrected n⟩,
  ⟨0x5830, 0, 6, 14, 1, fun n _ => pcsBlockErrors n⟩,
  ⟨0x5830, 0, 6, 15, 1, fun n _ => hiBerEpisodes n⟩,
  ⟨0x5830, 0, 6, 16, 1, fun n _ => oneStepFrames n⟩,
  ⟨0x5830, 0, 6, 17, 1, fun n _ => oneStepStomped n⟩,
  ⟨0x5830, 0, 6, 18, 1, fun n _ => stampsQueued n⟩,
  ⟨0x5830, 0, 6, 19, 1, fun n _ => stampHolds n⟩,
  ⟨0x5830, 0, 6, 20, 1, fun n _ => stampsLost n⟩,
  ⟨0x5830, 0, 6, 21, 1, fun n _ => lossMarkers n⟩,
  ⟨0x5830, 0, 6, 22, 1, fun n _ => excToHost n⟩,
  ⟨0x5830, 0, 6, 23, 1, fun n _ => excFromHost n⟩,
  ⟨0x5830, 0, 6, 24, 1, fun n _ => excDropped n⟩,
  ⟨0x5830, 0, 6, 25, 1, fun n _ => esmcRx n⟩,
  ⟨0x5830, 0, 6, 26, 1, fun n _ => esmcTx n⟩,
  ⟨0x5830, 0, 6, 27, 1, fun n _ => linkDownCount n⟩,
  ⟨0x6000, 0, 1, 1, 1, fun _ _ => protoPipelineCapacity⟩,
  ⟨0x6000, 0, 1, 2, 1, fun _ _ => hmacLanesInService⟩,
  ⟨0x6000, 0, 1, 3, 1, fun _ _ => aesLanesInService⟩,
  ⟨0x6000, 0, 1, 4, 1, fun _ _ => hmacLaneMask⟩]

/-- Address families of this file, part 4 (R57, R58). -/
def famsPorts4 : List Family := [
  ⟨0x6000, 0, 1, 5, 1, fun _ _ => aesLaneMask⟩,
  ⟨0x6000, 0, 1, 6, 1, fun _ _ => cryptoLaneRelease⟩,
  ⟨0x6000, 0, 1, 7, 1, fun _ _ => protoGrantLoadLimit⟩,
  ⟨0x6000, 0, 1, 8, 1, fun _ _ => protoQueueFrames⟩,
  ⟨0x6000, 0, 1, 9, 1, fun _ _ => protoLoadLastSecond⟩,
  ⟨0x6000, 0, 1, 10, 1, fun _ _ => protoShedCount⟩,
  ⟨0x6000, 0, 1, 11, 1, fun _ _ => keyStaleDrops⟩,
  ⟨0x6000, 0, 1, 12, 1, fun _ _ => clientCount⟩,
  ⟨0x6000, 0, 1, 13, 1, fun _ _ => clientStashCount⟩,
  ⟨0x6000, 0, 1, 14, 1, fun _ _ => clientInsertFailCount⟩,
  ⟨0x6000, 0, 1, 15, 1, fun _ _ => clientDelete⟩,
  ⟨0x6000, 0, 1, 16, 1, fun _ _ => clientCursor⟩,
  ⟨0x6000, 0, 1, 17, 1, fun _ _ => protoCountersClear⟩,
  ⟨0x6001, 0, 1, 1, 16, fun _ k => clientWindow k⟩,
  ⟨0x6040, 0, 6, 1, 1, fun n _ => svcIpv4Address n⟩,
  ⟨0x6040, 0, 6, 2, 1, fun n _ => svcIpv6Address n⟩,
  ⟨0x6040, 0, 6, 3, 1, fun n _ => svcHopLimit n⟩,
  ⟨0x6040, 0, 6, 4, 1, fun n _ => svcDscp n⟩,
  ⟨0x6010, 0, 8, 1, 1, fun n _ => instEnable n⟩,
  ⟨0x6010, 0, 8, 2, 1, fun n _ => instProfile n⟩,
  ⟨0x6010, 0, 8, 3, 1, fun n _ => instDomain n⟩,
  ⟨0x6010, 0, 8, 4, 1, fun n _ => instPortMask n⟩,
  ⟨0x6010, 0, 8, 5, 1, fun n _ => instTransport n⟩,
  ⟨0x6010, 0, 8, 6, 1, fun n _ => instMode n⟩,
  ⟨0x6010, 0, 8, 7, 1, fun n _ => instStepMode n⟩]

/-- Address families of this file, part 5 (R57, R58). -/
def famsPorts5 : List Family := [
  ⟨0x6010, 0, 8, 8, 1, fun n _ => instClockIdentity n⟩,
  ⟨0x6010, 0, 8, 9, 1, fun n _ => instPriority1 n⟩,
  ⟨0x6010, 0, 8, 10, 1, fun n _ => instPriority2 n⟩,
  ⟨0x6010, 0, 8, 11, 1, fun n _ => instLogSync n⟩,
  ⟨0x6010, 0, 8, 12, 1, fun n _ => instLogDelayResp n⟩,
  ⟨0x6010, 0, 8, 13, 1, fun n _ => instLogAnnounce n⟩,
  ⟨0x6010, 0, 8, 14, 1, fun n _ => instGrantMin n⟩,
  ⟨0x6010, 0, 8, 15, 1, fun n _ => instGrantMax n⟩,
  ⟨0x6010, 0, 8, 16, 1, fun n _ => instAuthMode n⟩,
  ⟨0x6010, 0, 8, 17, 1, fun n _ => instSa n⟩,
  ⟨0x6010, 0, 8, 18, 1, fun n _ => instL2Address n⟩,
  ⟨0x6010, 0, 8, 19, 1, fun n _ => instMcastDelayReqLimit n⟩,
  ⟨0x6020, 0, 8, 1, 1, fun n _ => instState n⟩,
  ⟨0x6020, 0, 8, 2, 1, fun n _ => instClients n⟩,
  ⟨0x6020, 0, 8, 3, 1, fun n _ => instSyncSeqBase n⟩,
  ⟨0x6020, 0, 8, 4, 1, fun n _ => instAnnounceSeqBase n⟩,
  ⟨0x6020, 0, 8, 5, 1, fun n _ => instSyncSent n⟩,
  ⟨0x6020, 0, 8, 6, 1, fun n _ => instAnnounceSent n⟩,
  ⟨0x6020, 0, 8, 7, 1, fun n _ => instDelayReqRx n⟩,
  ⟨0x6020, 0, 8, 8, 1, fun n _ => instDelayRespSent n⟩,
  ⟨0x6020, 0, 8, 9, 1, fun n _ => instSignallingRx n⟩,
  ⟨0x6020, 0, 8, 10, 1, fun n _ => instGrantsRefused n⟩,
  ⟨0x6020, 0, 8, 11, 1, fun n _ => instAuthFailRx n⟩,
  ⟨0x6020, 0, 8, 12, 1, fun n _ => instDelayReqDropped n⟩,
  ⟨0x6020, 0, 8, 13, 1, fun n _ => instSyncSkipped n⟩]

/-- Address families of this file, part 6 (R57, R58). -/
def famsPorts6 : List Family := [
  ⟨0x6100, 0, 32, 1, 1, fun n _ => saEnable n⟩,
  ⟨0x6100, 0, 32, 2, 1, fun n _ => saSpp n⟩,
  ⟨0x6100, 0, 32, 3, 1, fun n _ => saKeyIdCurrent n⟩,
  ⟨0x6100, 0, 32, 4, 1, fun n _ => saSlotCurrent n⟩,
  ⟨0x6100, 0, 32, 5, 1, fun n _ => saKeyIdPrevious n⟩,
  ⟨0x6100, 0, 32, 6, 1, fun n _ => saSlotPrevious n⟩,
  ⟨0x6100, 0, 32, 7, 1, fun n _ => saPreviousUntil n⟩,
  ⟨0x6100, 0, 32, 8, 1, fun n _ => saMaskCorrection n⟩,
  ⟨0x6100, 0, 32, 9, 1, fun n _ => saVerifyFail n⟩,
  ⟨0x6200, 0, 2, 1, 1, fun n _ => nrefEnable n⟩,
  ⟨0x6200, 0, 2, 2, 1, fun n _ => nrefProfile n⟩,
  ⟨0x6200, 0, 2, 3, 1, fun n _ => nrefPort n⟩,
  ⟨0x6200, 0, 2, 4, 1, fun n _ => nrefTransport n⟩,
  ⟨0x6200, 0, 2, 5, 1, fun n _ => nrefDomain n⟩,
  ⟨0x6200, 0, 2, 6, 1, fun n _ => nrefMasterAddress n⟩,
  ⟨0x6200, 0, 2, 7, 1, fun n _ => nrefLocalAddress n⟩,
  ⟨0x6200, 0, 2, 8, 1, fun n _ => nrefNextHopMac n⟩,
  ⟨0x6200, 0, 2, 9, 1, fun n _ => nrefLogSync n⟩,
  ⟨0x6200, 0, 2, 10, 1, fun n _ => nrefLogDelayReq n⟩,
  ⟨0x6200, 0, 2, 11, 1, fun n _ => nrefLogAnnounce n⟩,
  ⟨0x6200, 0, 2, 12, 1, fun n _ => nrefGrantDuration n⟩,
  ⟨0x6200, 0, 2, 13, 1, fun n _ => nrefSa n⟩,
  ⟨0x6200, 0, 2, 14, 1, fun n _ => nrefBoundSource n⟩,
  ⟨0x6200, 0, 2, 15, 1, fun n _ => nrefUpstreamBoundFixed n⟩,
  ⟨0x6200, 0, 2, 16, 1, fun n _ => nrefState n⟩]

/-- Address families of this file, part 7 (R57, R58). -/
def famsPorts7 : List Family := [
  ⟨0x6200, 0, 2, 17, 1, fun n _ => nrefOffset n⟩,
  ⟨0x6200, 0, 2, 18, 1, fun n _ => nrefMeanPathDelay n⟩,
  ⟨0x6200, 0, 2, 19, 1, fun n _ => nrefUpstreamBound n⟩,
  ⟨0x6200, 0, 2, 20, 1, fun n _ => nrefUpstreamClass n⟩,
  ⟨0x6200, 0, 2, 21, 1, fun n _ => nrefExchanges n⟩,
  ⟨0x6300, 0, 1, 1, 1, fun _ _ => ntpEnable⟩,
  ⟨0x6300, 0, 1, 2, 1, fun _ _ => ntpPortMask⟩,
  ⟨0x6300, 0, 1, 3, 1, fun _ _ => ntpAllowPlain⟩,
  ⟨0x6300, 0, 1, 4, 1, fun _ _ => ntpStratum⟩,
  ⟨0x6300, 0, 1, 5, 1, fun _ _ => ntpMinPoll⟩,
  ⟨0x6300, 0, 1, 6, 1, fun _ _ => ntpMaxPoll⟩,
  ⟨0x6300, 0, 1, 7, 1, fun _ _ => ntpRateLimit⟩,
  ⟨0x6300, 0, 1, 8, 1, fun _ _ => ntpRateBurst⟩,
  ⟨0x6300, 0, 1, 9, 1, fun _ _ => ntpKissEnable⟩,
  ⟨0x6300, 0, 1, 10, 1, fun _ _ => ntsEnable⟩,
  ⟨0x6300, 0, 1, 11, 1, fun _ _ => ntsKeyIdCurrent⟩,
  ⟨0x6300, 0, 1, 12, 1, fun _ _ => ntsSlotCurrent⟩,
  ⟨0x6300, 0, 1, 13, 1, fun _ _ => ntsKeyIdPrevious⟩,
  ⟨0x6300, 0, 1, 14, 1, fun _ _ => ntsSlotPrevious⟩,
  ⟨0x6300, 0, 1, 15, 1, fun _ _ => ntsMaxCookies⟩,
  ⟨0x6310, 0, 1, 1, 1, fun _ _ => ntpRequests⟩,
  ⟨0x6310, 0, 1, 2, 1, fun _ _ => ntpResponses⟩,
  ⟨0x6310, 0, 1, 3, 1, fun _ _ => ntpRateDrops⟩,
  ⟨0x6310, 0, 1, 4, 1, fun _ _ => ntpKissSent⟩,
  ⟨0x6310, 0, 1, 5, 1, fun _ _ => ntpPlainRefused⟩]

/-- Address families of this file, part 8 (R57, R58). -/
def famsPorts8 : List Family := [
  ⟨0x6310, 0, 1, 6, 1, fun _ _ => ntsRequests⟩,
  ⟨0x6310, 0, 1, 7, 1, fun _ _ => ntsNakSent⟩,
  ⟨0x6310, 0, 1, 8, 1, fun _ _ => ntsAuthFail⟩,
  ⟨0x6310, 0, 1, 9, 1, fun _ _ => ntsCookiesIssued⟩,
  ⟨0x6310, 0, 1, 10, 1, fun _ _ => ntpShed⟩,
  ⟨0x6310, 0, 1, 11, 1, fun _ _ => ntpMalformed⟩]

/-- Every address family of this file. -/
def famsPorts : List Family :=
  famsPorts0 ++ famsPorts1 ++ famsPorts2 ++ famsPorts3 ++ famsPorts4 ++ famsPorts5 ++ famsPorts6 ++ famsPorts7 ++ famsPorts8

end Dict
end Sys2Proof.Machine
end

