-- ==== Sys2Proof/Machine/DictPower.lean ====
section
/-!
DEFINITION. Dictionary entries (spec tables, read row by row): power, memory and bus.
One definition per table row; `n` is the unit number the table adds to the index, `k` the place within a
range of subindices. Fields: index, subindex, type, read level, write level, keep class, default, range.
-/
namespace Sys2Proof.Machine
namespace Dict

/-- 14, R593. 0x00 fixed, 0x01 load-following (R558) -/
def opMode : Entry := ⟨0x7800, 1, .enum8, .observer, (some .operator), .s, 0x01, .span 0 1⟩
/-- 14, R593. 0x00 to 0x02, OP0 to OP2 -/
def opTarget : Entry := ⟨0x7800, 2, .enum8, .observer, (some .operator), .s, 0x02, .span 0 2⟩
/-- 14, R593. Point in force -/
def opActive : Entry := ⟨0x7800, 3, .enum8, .observer, none, .v, 0x00, .any⟩
/-- 14, R593. In %, 5 to 100 -/
def opHeadroom : Entry := ⟨0x7800, 4, .u8, .observer, (some .operator), .s, 25, .span 5 100⟩
/-- 14, R593. Steps taken; saturates -/
def opChangeCount : Entry := ⟨0x7800, 5, .u32, .observer, none, .v, 0, .any⟩
/-- 14, R593. R559; saturates -/
def opSettleFailCount : Entry := ⟨0x7800, 6, .u32, .observer, none, .k, 0, .any⟩
/-- 14, R593. 0x00 Run, 0x01 Warm hold -/
def lowPowerState : Entry := ⟨0x7800, 7, .enum8, .observer, none, .v, 0x00, .any⟩
/-- 14, R593. 0x00 Run, 0x01 Warm hold, 0x02 Deep hold (R589) -/
def powerStateRequest : Entry := ⟨0x7800, 8, .cmd 1, .observer, (some .operator), .v, 0, .span 0 2⟩
/-- 14, R593. 0 none; R20 applies -/
def deepHoldWakeTime : Entry := ⟨0x7800, 9, .ct64, .observer, (some .operator), .k, 0, .any⟩
/-- 14, R593. Saturates -/
def powerWakeCount : Entry := ⟨0x7800, 10, .u32, .observer, none, .k, 0, .any⟩
/-- 14, R593. In 0.001 °C, 85,000 to 120,000 (R582) -/
def tjWarn : Entry := ⟨0x7800, 11, .i32, .observer, (some .operator), .s, 115000, .span 85000 120000⟩
/-- 14, R593. R582 -/
def thermalThrottle : Entry := ⟨0x7800, 12, .bool, .observer, none, .v, 0, .any⟩
/-- 14, R593. 0x00 400 kHz, 0x01 1 MHz -/
def pmbClock : Entry := ⟨0x7801, 1, .enum8, .observer, (some .custodian), .s, 0x00, .span 0 1⟩
/-- 14, R593. 7-bit address, 0x08 to 0x77 -/
def pmbAddrCrypt : Entry := ⟨0x7801, 2, .u8, .observer, (some .custodian), .s, 0x40, .span 8 119⟩
/-- 14, R593. 0 to 31; 0xFF no PAGE -/
def pmbPageCrypt : Entry := ⟨0x7801, 3, .u8, .observer, (some .custodian), .s, 0xFF, .runs [(0, 31), (255, 255)]⟩
/-- 14, R593. As PmbAddrCrypt -/
def pmbAddrProto : Entry := ⟨0x7801, 4, .u8, .observer, (some .custodian), .s, 0x41, .span 8 119⟩
/-- 14, R593. As PmbPageCrypt -/
def pmbPageProto : Entry := ⟨0x7801, 5, .u8, .observer, (some .custodian), .s, 0xFF, .runs [(0, 31), (255, 255)]⟩
/-- 14, R593. R562 -/
def pmbPec : Entry := ⟨0x7801, 6, .bool, .observer, (some .custodian), .s, 1, .span 0 1⟩
/-- 14, R593. Saturates -/
def pmbFaultCount : Entry := ⟨0x7801, 7, .u32, .observer, none, .k, 0, .any⟩
/-- 14, R593. In mW, 20,000 to 60,000 (R581) -/
def powerBudget : Entry := ⟨0x7810, 1, .u32, .observer, (some .custodian), .s, 46000, .span 20000 60000⟩
/-- 14, R593. In mW, 10,000 to 60,000 -/
def passBasePower : Entry := ⟨0x7810, 2, .u32, .observer, (some .custodian), .s, 32800, .span 10000 60000⟩
/-- 14, R593. Bit n set while kind n is held -/
def passGranted : Entry := ⟨0x7810, 3, .u8, .observer, none, .v, 0, .any⟩
/-- 14, R593. Bit n set while kind n waits -/
def passWaiting : Entry := ⟨0x7810, 4, .u8, .observer, none, .v, 0, .any⟩
/-- 14, R593. PowerBudget less base and held costs, in mW -/
def passHeadroom : Entry := ⟨0x7810, 5, .u32, .observer, none, .v, 0, .any⟩
/-- 14, R593. Saturates -/
def passRecallCount : Entry := ⟨0x7810, 6, .u32, .observer, none, .k, 0, .any⟩
/-- 14, R593. In mW, 0 to 20,000 (R579) -/
def passCost (k : Nat) : Entry := ⟨0x7811, 1 + k, .u32, .observer, (some .custodian), .s, (List.getD [400, 5000, 7000, 500, 3500] k 0), .span 0 20000⟩
/-- 14, R594. Nominal in force, in µV (R575). For fixed rails, the value of R555. For VDD_CRYPT and VDD_PROTO, 650,000 … -/
def railNominal (n : Nat) : Entry := ⟨0x7820 + n, 1, .u32, .observer, none, .v, (List.getD [800000, 750000, 650000, 650000, 1200000, 900000, 900000, 500000, 1800000, 3300000, 800000] n 0), .any⟩
/-- 14, R594. Latched in S0, in µV -/
def railVoltage (n : Nat) : Entry := ⟨0x7820 + n, 2, .u32, .observer, none, .v, 0, .any⟩
/-- 14, R594. Lowest since reset or SupplyStatsClear, in µV -/
def railMinimum (n : Nat) : Entry := ⟨0x7820 + n, 3, .u32, .observer, none, .v, 0xFFFFFFFF, .any⟩
/-- 14, R594. 0x00 Normal, 0x01 Warning, 0x02 Masked -/
def railState (n : Nat) : Entry := ⟨0x7820 + n, 4, .enum8, .observer, none, .v, 0x00, .any⟩
/-- 14, R594. Episodes on the rail; saturates -/
def railWarnCount (n : Nat) : Entry := ⟨0x7820 + n, 5, .u32, .observer, none, .k, 0, .any⟩
/-- 14, R594. R576 -/
def supplyEpisodeActive : Entry := ⟨0x7830, 1, .bool, .observer, none, .v, 0, .any⟩
/-- 14, R594. Saturates -/
def supplyEpisodeCount : Entry := ⟨0x7830, 2, .u32, .observer, none, .k, 0, .any⟩
/-- 14, R594. Start of the last episode -/
def supplyEpisodeStart : Entry := ⟨0x7830, 3, .time96, .observer, none, .k, 0, .any⟩
/-- 14, R594. In ns; saturates -/
def supplyEpisodeDuration : Entry := ⟨0x7830, 4, .u32, .observer, none, .k, 0, .any⟩
/-- 14, R594. Bit r for each rail of the last episode -/
def supplyEpisodeRails : Entry := ⟨0x7830, 5, .u16, .observer, none, .k, 0, .any⟩
/-- 14, R594. 0x01 resets every RailMinimum at the next S0 -/
def supplyStatsClear : Entry := ⟨0x7830, 6, .cmd 1, .observer, (some .operator), .v, 0, .span 1 1⟩
/-- 14, R595. 0x00 ROSC, 0x01 SPLL -/
def sysClockSource : Entry := ⟨0x7840, 1, .enum8, .observer, none, .v, 0x00, .any⟩
/-- 14, R595. 0x00 Off, 0x01 Locking, 0x02 Locked -/
def spllState : Entry := ⟨0x7840, 2, .enum8, .observer, none, .v, 0x00, .any⟩
/-- 14, R595. 0x00 Off, 0x01 Starting, 0x02 Qualifying, 0x03 Qualified, 0x04 Failed -/
def xoState : Entry := ⟨0x7840, 3, .enum8, .observer, none, .v, 0x00, .any⟩
/-- 14, R595. ROSC estimate of R565, in Hz -/
def xoRoscEstimate : Entry := ⟨0x7840, 4, .u32, .observer, none, .v, 0, .any⟩
/-- 14, R595. 0x00 Absent, 0x01 Qualifying, 0x02 Qualified, 0x03 Tripped -/
def moscState : Entry := ⟨0x7840, 5, .enum8, .observer, none, .v, 0x00, .any⟩
/-- 14, R595. In 10^-9, 100 to 100,000 (R569) -/
def moscFreqLimit : Entry := ⟨0x7840, 6, .u32, .observer, (some .custodian), .s, 10000, .span 100 100000⟩
/-- 14, R595. In s, 1 to 3,600 -/
def moscQualifyTime : Entry := ⟨0x7840, 7, .u16, .observer, (some .operator), .s, 10, .span 1 3600⟩
/-- 14, R595. 0x00 automatic, 0x01 command (R571) -/
def moscReturnMode : Entry := ⟨0x7840, 8, .enum8, .observer, (some .operator), .s, 0x00, .span 0 1⟩
/-- 14, R595. 0x01; StateConflict unless APLL0 runs from XO and MOSC is Qualified -/
def moscReturn : Entry := ⟨0x7840, 9, .cmd 1, .observer, (some .operator), .v, 0, .span 1 1⟩
/-- 14, R595. Saturates -/
def moscTripCount : Entry := ⟨0x7840, 10, .u32, .observer, none, .k, 0, .any⟩
/-- 14, R595. 0x00 none, 0x01 activity, 0x02 frequency, 0x03 lock detector -/
def moscLastTripCause : Entry := ⟨0x7840, 11, .enum8, .observer, none, .k, 0x00, .any⟩
/-- 14, R595. Measured against TCLK or XO, in kHz -/
def roscFrequency : Entry := ⟨0x7840, 12, .u32, .observer, none, .v, 0, .any⟩
/-- 14, R595. R563 -/
def clockGatingEnable : Entry := ⟨0x7840, 13, .bool, .observer, (some .custodian), .s, 1, .span 0 1⟩
/-- 14, R595. R574; saturates -/
def forcedSwitchCount : Entry := ⟨0x7840, 14, .u32, .observer, none, .k, 0, .any⟩
/-- 14, R595. 0x00 CTRL, 0x01 MEM, 0x02 CRYPT, 0x03 PROTO, 0x04 GNSS processor, 0x05 APLL0 reference, 0x06 coarse … -/
def forcedSwitchLastMux : Entry := ⟨0x7840, 15, .enum8, .observer, none, .v, 0xFF, .any⟩
/-- 14, R595. In ms, 100 to 10,000 -/
def watchdogTimeout : Entry := ⟨0x7850, 1, .u16, .observer, (some .custodian), .s, 1000, .span 100 10000⟩
/-- 14, R595. Bits 0 to 8: TIME, SYNTH, GNSS, NET, CRYPT, PROTO, MEM, CTRL, AON -/
def lastResetDomains : Entry := ⟨0x7850, 2, .u16, .observer, none, .v, 0, .any⟩
/-- 14, R595. Coarse counter when the read is served -/
def coarseTime : Entry := ⟨0x7850, 3, .time96, .observer, none, .k, 0, .any⟩
/-- 14, R595. In ns; all ones invalid (R587) -/
def coarseUncertainty : Entry := ⟨0x7850, 4, .u64, .observer, none, .k, 0xFFFFFFFFFFFFFFFF, .any⟩
/-- 14, R595. 0x00 none, 0x01 XO, 0x02 ROSC -/
def coarseClock : Entry := ⟨0x7850, 5, .enum8, .observer, none, .k, 0x00, .any⟩
/-- 15, R625. Total: 0x00 2 GiB, 0x01 4 GiB, 0x02 8 GiB, 0x03 16 GiB; takes effect at the next reset that reaches MEM -/
def dramInstalled : Entry := ⟨0x7C00, 1, .enum8, .observer, (some .custodian), .s, 0x00, .span 0 3⟩
/-- 15, R625. 0x00 6,400, 0x01 7,500, 0x02 8,533 MT/s -/
def dramDataRate : Entry := ⟨0x7C00, 2, .enum8, .observer, (some .custodian), .s, 0x02, .span 0 2⟩
/-- 15, R625. 0x00 Off, 0x01 Training, 0x02 Ready, 0x03 SelfRefresh, 0x04 Failed -/
def dramState : Entry := ⟨0x7C00, 3, .enum8, .observer, none, .v, 0x00, .any⟩
/-- 15, R625. Usable octets (R604) -/
def dramUsable : Entry := ⟨0x7C00, 4, .u64, .observer, none, .v, 0, .any⟩
/-- 15, R625. 0x00 Idle, 0x01 Filling, 0x02 Done -/
def fillState : Entry := ⟨0x7C00, 5, .enum8, .observer, none, .v, 0x00, .any⟩
/-- 15, R625. Duration of the last fill in µs -/
def fillTime : Entry := ⟨0x7C00, 6, .u32, .observer, none, .v, 0, .any⟩
/-- 15, R625. R612 -/
def scrubEnable : Entry := ⟨0x7C00, 7, .bool, .observer, (some .custodian), .s, 1, .span 0 1⟩
/-- 15, R625. 0x00 Off, 0x01 Running, 0x02 Paused -/
def scrubState : Entry := ⟨0x7C00, 8, .enum8, .observer, none, .v, 0x00, .any⟩
/-- 15, R625. 0x01 sets every saturating count of 0x7C10 to 0x7C13, 0x7C40 and 0x7C50 to 0x7C55 to 0 at the next S0, … -/
def memCountersClear : Entry := ⟨0x7C00, 9, .cmd 1, .observer, (some .operator), .v, 0, .span 1 1⟩
/-- 15, R625. 0x00 to 0x03 for T0 to T3 -/
def memTestTarget : Entry := ⟨0x7C30, 1, .enum8, .observer, (some .custodian), .v, 0x00, .span 0 3⟩
/-- 15, R625. Line index -/
def memTestLine : Entry := ⟨0x7C30, 2, .u64, .observer, (some .custodian), .v, 0, .any⟩
/-- 15, R625. R615, R616 -/
def memTestData : Entry := ⟨0x7C30, 3, .octets 64, .observer, (some .custodian), .v, 0, .any⟩
/-- 15, R625. R615 -/
def memTestMode : Entry := ⟨0x7C30, 4, .enum8, .observer, (some .custodian), .v, 0x00, .span 0 2⟩
/-- 15, R625. One octet per word -/
def memTestInnerXor : Entry := ⟨0x7C30, 5, .octets 8, .observer, (some .custodian), .v, 0, .any⟩
/-- 15, R625. SRAM uses the first 4 octets -/
def memTestOuterXor : Entry := ⟨0x7C30, 6, .octets 8, .observer, (some .custodian), .v, 0, .any⟩
/-- 15, R625. 0x01 (R615) -/
def memTestWrite : Entry := ⟨0x7C30, 7, .cmd 1, .observer, (some .custodian), .v, 0, .span 1 1⟩
/-- 15, R625. 0x01 (R616) -/
def memTestRead : Entry := ⟨0x7C30, 8, .cmd 1, .observer, (some .custodian), .v, 0, .span 1 1⟩
/-- 15, R625. Raw inner check bits -/
def memTestInnerCheck : Entry := ⟨0x7C30, 9, .octets 8, .observer, none, .v, 0, .any⟩
/-- 15, R625. Raw outer check symbols -/
def memTestOuterCheck : Entry := ⟨0x7C30, 10, .octets 8, .observer, none, .v, 0, .any⟩
/-- 15, R625. Matrix clock in kHz -/
def busClock : Entry := ⟨0x7C40, 1, .u32, .observer, none, .v, 200000, .any⟩
/-- 15, R625. R618; saturates -/
def busViolationCount : Entry := ⟨0x7C40, 2, .u32, .observer, none, .v, 0, .any⟩
/-- 15, R625. Layout below -/
def busLastViolation : Entry := ⟨0x7C40, 3, .u64, .observer, none, .v, 0, .any⟩
/-- 15, R625. R624; saturates -/
def busOrphanCount : Entry := ⟨0x7C40, 4, .u32, .observer, none, .k, 0, .any⟩
/-- 15, R626. R611; always 0 for T2 and T3; saturates -/
def memInnerCorrected (n : Nat) : Entry := ⟨0x7C10 + n, 1, .u64, .observer, none, .v, 0, .any⟩
/-- 15, R626. Saturates -/
def memOuterCorrected (n : Nat) : Entry := ⟨0x7C10 + n, 2, .u64, .observer, none, .v, 0, .any⟩
/-- 15, R626. R609; saturates -/
def memUncorrectable (n : Nat) : Entry := ⟨0x7C10 + n, 3, .u64, .observer, none, .v, 0, .any⟩
/-- 15, R626. Line index -/
def memLastErrorAddress (n : Nat) : Entry := ⟨0x7C10 + n, 4, .u64, .observer, none, .v, 0, .any⟩
/-- 15, R626. 0x00 to 0x05 for M0 to M5, 0x10 scrubber; 0xFF none -/
def memLastErrorRequester (n : Nat) : Entry := ⟨0x7C10 + n, 5, .enum8, .observer, none, .v, 0xFF, .any⟩
/-- 15, R626. Last completed lap in ms -/
def scrubLapTime (n : Nat) : Entry := ⟨0x7C10 + n, 6, .u32, .observer, none, .v, 0, .any⟩
/-- 15, R626. In ms, 1,000 to 3,600,000; T0 and T1 10,000, T2 and T3 60,000 -/
def scrubLapLimit (n : Nat) : Entry := ⟨0x7C10 + n, 7, .u32, .observer, (some .operator), .s, (List.getD [10000, 10000, 60000, 60000] n 0), .span 1000 3600000⟩
/-- 15, R626. Lines per frame, 16 to 16,384; T0 256, T1 64, T2 and T3 4,096 -/
def scrubFloorLines (n : Nat) : Entry := ⟨0x7C10 + n, 8, .u16, .observer, (some .operator), .s, (List.getD [256, 64, 4096, 4096] n 0), .span 16 16384⟩
/-- 15, R626. Next line -/
def scrubPosition (n : Nat) : Entry := ⟨0x7C10 + n, 9, .u64, .observer, none, .v, 0, .any⟩
/-- 15, R626. Saturates -/
def scrubLapCount (n : Nat) : Entry := ⟨0x7C10 + n, 10, .u32, .observer, none, .v, 0, .any⟩
/-- 15, R626. R614; saturates -/
def scrubUncorrected (n : Nat) : Entry := ⟨0x7C10 + n, 11, .u32, .observer, none, .v, 0, .any⟩
/-- 15, R626. 0x00 Running, 0x01 Draining, 0x02 Held in reset -/
def busPortState (n : Nat) : Entry := ⟨0x7C50 + n, 1, .enum8, .observer, none, .v, 0x00, .any⟩
/-- 15, R626. Transactions outstanding -/
def busOutstanding (n : Nat) : Entry := ⟨0x7C50 + n, 2, .u16, .observer, none, .v, 0, .any⟩
/-- 15, R626. Largest since reset or clear -/
def busOutstandingPeak (n : Nat) : Entry := ⟨0x7C50 + n, 3, .u16, .observer, none, .v, 0, .any⟩
/-- 15, R626. In ns (R623) -/
def busLastDrainTime (n : Nat) : Entry := ⟨0x7C50 + n, 4, .u32, .observer, none, .v, 0, .any⟩
/-- 15, R626. DataError responses received; saturates -/
def busDataErrors (n : Nat) : Entry := ⟨0x7C50 + n, 5, .u32, .observer, none, .v, 0, .any⟩
/-- 15, R626. Longest grant wait in ns (R620) -/
def busGrantWaitMax (n : Nat) : Entry := ⟨0x7C50 + n, 6, .u32, .observer, none, .v, 0, .any⟩

/-- Address families of this file, part 0 (R57, R58). -/
def famsPower0 : List Family := [
  ⟨0x7800, 0, 1, 1, 1, fun _ _ => opMode⟩,
  ⟨0x7800, 0, 1, 2, 1, fun _ _ => opTarget⟩,
  ⟨0x7800, 0, 1, 3, 1, fun _ _ => opActive⟩,
  ⟨0x7800, 0, 1, 4, 1, fun _ _ => opHeadroom⟩,
  ⟨0x7800, 0, 1, 5, 1, fun _ _ => opChangeCount⟩,
  ⟨0x7800, 0, 1, 6, 1, fun _ _ => opSettleFailCount⟩,
  ⟨0x7800, 0, 1, 7, 1, fun _ _ => lowPowerState⟩,
  ⟨0x7800, 0, 1, 8, 1, fun _ _ => powerStateRequest⟩,
  ⟨0x7800, 0, 1, 9, 1, fun _ _ => deepHoldWakeTime⟩,
  ⟨0x7800, 0, 1, 10, 1, fun _ _ => powerWakeCount⟩,
  ⟨0x7800, 0, 1, 11, 1, fun _ _ => tjWarn⟩,
  ⟨0x7800, 0, 1, 12, 1, fun _ _ => thermalThrottle⟩,
  ⟨0x7801, 0, 1, 1, 1, fun _ _ => pmbClock⟩,
  ⟨0x7801, 0, 1, 2, 1, fun _ _ => pmbAddrCrypt⟩,
  ⟨0x7801, 0, 1, 3, 1, fun _ _ => pmbPageCrypt⟩,
  ⟨0x7801, 0, 1, 4, 1, fun _ _ => pmbAddrProto⟩,
  ⟨0x7801, 0, 1, 5, 1, fun _ _ => pmbPageProto⟩,
  ⟨0x7801, 0, 1, 6, 1, fun _ _ => pmbPec⟩,
  ⟨0x7801, 0, 1, 7, 1, fun _ _ => pmbFaultCount⟩,
  ⟨0x7810, 0, 1, 1, 1, fun _ _ => powerBudget⟩,
  ⟨0x7810, 0, 1, 2, 1, fun _ _ => passBasePower⟩,
  ⟨0x7810, 0, 1, 3, 1, fun _ _ => passGranted⟩,
  ⟨0x7810, 0, 1, 4, 1, fun _ _ => passWaiting⟩,
  ⟨0x7810, 0, 1, 5, 1, fun _ _ => passHeadroom⟩,
  ⟨0x7810, 0, 1, 6, 1, fun _ _ => passRecallCount⟩]

/-- Address families of this file, part 1 (R57, R58). -/
def famsPower1 : List Family := [
  ⟨0x7811, 0, 1, 1, 5, fun _ k => passCost k⟩,
  ⟨0x7820, 0, 11, 1, 1, fun n _ => railNominal n⟩,
  ⟨0x7820, 0, 11, 2, 1, fun n _ => railVoltage n⟩,
  ⟨0x7820, 0, 11, 3, 1, fun n _ => railMinimum n⟩,
  ⟨0x7820, 0, 11, 4, 1, fun n _ => railState n⟩,
  ⟨0x7820, 0, 11, 5, 1, fun n _ => railWarnCount n⟩,
  ⟨0x7830, 0, 1, 1, 1, fun _ _ => supplyEpisodeActive⟩,
  ⟨0x7830, 0, 1, 2, 1, fun _ _ => supplyEpisodeCount⟩,
  ⟨0x7830, 0, 1, 3, 1, fun _ _ => supplyEpisodeStart⟩,
  ⟨0x7830, 0, 1, 4, 1, fun _ _ => supplyEpisodeDuration⟩,
  ⟨0x7830, 0, 1, 5, 1, fun _ _ => supplyEpisodeRails⟩,
  ⟨0x7830, 0, 1, 6, 1, fun _ _ => supplyStatsClear⟩,
  ⟨0x7840, 0, 1, 1, 1, fun _ _ => sysClockSource⟩,
  ⟨0x7840, 0, 1, 2, 1, fun _ _ => spllState⟩,
  ⟨0x7840, 0, 1, 3, 1, fun _ _ => xoState⟩,
  ⟨0x7840, 0, 1, 4, 1, fun _ _ => xoRoscEstimate⟩,
  ⟨0x7840, 0, 1, 5, 1, fun _ _ => moscState⟩,
  ⟨0x7840, 0, 1, 6, 1, fun _ _ => moscFreqLimit⟩,
  ⟨0x7840, 0, 1, 7, 1, fun _ _ => moscQualifyTime⟩,
  ⟨0x7840, 0, 1, 8, 1, fun _ _ => moscReturnMode⟩,
  ⟨0x7840, 0, 1, 9, 1, fun _ _ => moscReturn⟩,
  ⟨0x7840, 0, 1, 10, 1, fun _ _ => moscTripCount⟩,
  ⟨0x7840, 0, 1, 11, 1, fun _ _ => moscLastTripCause⟩,
  ⟨0x7840, 0, 1, 12, 1, fun _ _ => roscFrequency⟩,
  ⟨0x7840, 0, 1, 13, 1, fun _ _ => clockGatingEnable⟩]

/-- Address families of this file, part 2 (R57, R58). -/
def famsPower2 : List Family := [
  ⟨0x7840, 0, 1, 14, 1, fun _ _ => forcedSwitchCount⟩,
  ⟨0x7840, 0, 1, 15, 1, fun _ _ => forcedSwitchLastMux⟩,
  ⟨0x7850, 0, 1, 1, 1, fun _ _ => watchdogTimeout⟩,
  ⟨0x7850, 0, 1, 2, 1, fun _ _ => lastResetDomains⟩,
  ⟨0x7850, 0, 1, 3, 1, fun _ _ => coarseTime⟩,
  ⟨0x7850, 0, 1, 4, 1, fun _ _ => coarseUncertainty⟩,
  ⟨0x7850, 0, 1, 5, 1, fun _ _ => coarseClock⟩,
  ⟨0x7C00, 0, 1, 1, 1, fun _ _ => dramInstalled⟩,
  ⟨0x7C00, 0, 1, 2, 1, fun _ _ => dramDataRate⟩,
  ⟨0x7C00, 0, 1, 3, 1, fun _ _ => dramState⟩,
  ⟨0x7C00, 0, 1, 4, 1, fun _ _ => dramUsable⟩,
  ⟨0x7C00, 0, 1, 5, 1, fun _ _ => fillState⟩,
  ⟨0x7C00, 0, 1, 6, 1, fun _ _ => fillTime⟩,
  ⟨0x7C00, 0, 1, 7, 1, fun _ _ => scrubEnable⟩,
  ⟨0x7C00, 0, 1, 8, 1, fun _ _ => scrubState⟩,
  ⟨0x7C00, 0, 1, 9, 1, fun _ _ => memCountersClear⟩,
  ⟨0x7C30, 0, 1, 1, 1, fun _ _ => memTestTarget⟩,
  ⟨0x7C30, 0, 1, 2, 1, fun _ _ => memTestLine⟩,
  ⟨0x7C30, 0, 1, 3, 1, fun _ _ => memTestData⟩,
  ⟨0x7C30, 0, 1, 4, 1, fun _ _ => memTestMode⟩,
  ⟨0x7C30, 0, 1, 5, 1, fun _ _ => memTestInnerXor⟩,
  ⟨0x7C30, 0, 1, 6, 1, fun _ _ => memTestOuterXor⟩,
  ⟨0x7C30, 0, 1, 7, 1, fun _ _ => memTestWrite⟩,
  ⟨0x7C30, 0, 1, 8, 1, fun _ _ => memTestRead⟩,
  ⟨0x7C30, 0, 1, 9, 1, fun _ _ => memTestInnerCheck⟩]

/-- Address families of this file, part 3 (R57, R58). -/
def famsPower3 : List Family := [
  ⟨0x7C30, 0, 1, 10, 1, fun _ _ => memTestOuterCheck⟩,
  ⟨0x7C40, 0, 1, 1, 1, fun _ _ => busClock⟩,
  ⟨0x7C40, 0, 1, 2, 1, fun _ _ => busViolationCount⟩,
  ⟨0x7C40, 0, 1, 3, 1, fun _ _ => busLastViolation⟩,
  ⟨0x7C40, 0, 1, 4, 1, fun _ _ => busOrphanCount⟩,
  ⟨0x7C10, 0, 4, 1, 1, fun n _ => memInnerCorrected n⟩,
  ⟨0x7C10, 0, 4, 2, 1, fun n _ => memOuterCorrected n⟩,
  ⟨0x7C10, 0, 4, 3, 1, fun n _ => memUncorrectable n⟩,
  ⟨0x7C10, 0, 4, 4, 1, fun n _ => memLastErrorAddress n⟩,
  ⟨0x7C10, 0, 4, 5, 1, fun n _ => memLastErrorRequester n⟩,
  ⟨0x7C10, 0, 4, 6, 1, fun n _ => scrubLapTime n⟩,
  ⟨0x7C10, 0, 4, 7, 1, fun n _ => scrubLapLimit n⟩,
  ⟨0x7C10, 0, 4, 8, 1, fun n _ => scrubFloorLines n⟩,
  ⟨0x7C10, 0, 4, 9, 1, fun n _ => scrubPosition n⟩,
  ⟨0x7C10, 0, 4, 10, 1, fun n _ => scrubLapCount n⟩,
  ⟨0x7C10, 0, 4, 11, 1, fun n _ => scrubUncorrected n⟩,
  ⟨0x7C50, 0, 6, 1, 1, fun n _ => busPortState n⟩,
  ⟨0x7C50, 0, 6, 2, 1, fun n _ => busOutstanding n⟩,
  ⟨0x7C50, 0, 6, 3, 1, fun n _ => busOutstandingPeak n⟩,
  ⟨0x7C50, 0, 6, 4, 1, fun n _ => busLastDrainTime n⟩,
  ⟨0x7C50, 0, 6, 5, 1, fun n _ => busDataErrors n⟩,
  ⟨0x7C50, 0, 6, 6, 1, fun n _ => busGrantWaitMax n⟩]

/-- Every address family of this file. -/
def famsPower : List Family :=
  famsPower0 ++ famsPower1 ++ famsPower2 ++ famsPower3

end Dict
end Sys2Proof.Machine
end

