-- ==== Sys2Proof/Machine/DictReferee.lean ====
section
/-!
DEFINITION. Dictionary entries (spec tables, read row by row): Referee, self-test and counters.
One definition per table row; `n` is the unit number the table adds to the index, `k` the place within a
range of subindices. Fields: index, subindex, type, read level, write level, keep class, default, range.
-/
namespace Sys2Proof.Machine
namespace Dict

/-- 16, R652. Sequence of the last raising (R645) -/
def refereeSequence : Entry := ⟨0x8000, 1, .u32, .observer, none, .k, 0, .any⟩
/-- 16, R652. Raisings; saturates -/
def refereeEventCount : Entry := ⟨0x8000, 2, .u32, .observer, none, .k, 0, .any⟩
/-- 16, R652. Consequent raisings; saturates -/
def refereeConsequentCount : Entry := ⟨0x8000, 3, .u32, .observer, none, .k, 0, .any⟩
/-- 16, R652. Mask of EVT_N0; bit n as in R85 -/
def evtPending0 : Entry := ⟨0x8000, 4, .octets 16, .observer, none, .k, 0, .any⟩
/-- 16, R652. Mask of EVT_N1 -/
def evtPending1 : Entry := ⟨0x8000, 5, .octets 16, .observer, none, .k, 0, .any⟩
/-- 16, R652. 17 octets: pin U8 (0x00, 0x01 or 0x02 for both), mask OCTETS(16) (R649) -/
def evtAcknowledge : Entry := ⟨0x8000, 6, .cmd 17, .observer, (some .operator), .v, 0, .any⟩
/-- 16, R652. Bit set while the domain is isolated -/
def isolatedDomains : Entry := ⟨0x8000, 7, .u16, .observer, none, .v, 0, .any⟩
/-- 16, R652. R638 -/
def latchedDomains : Entry := ⟨0x8000, 8, .u16, .observer, none, .k, 0, .any⟩
/-- 16, R652. U8 domain bit, 1 to 6 (R638) -/
def domainRelease : Entry := ⟨0x8000, 9, .cmd 1, .observer, (some .operator), .v, 0, .span 1 6⟩
/-- 16, R652. In ms, 100 to 60,000 -/
def domainRestartDelay : Entry := ⟨0x8000, 10, .u16, .observer, (some .operator), .s, 1000, .span 100 60000⟩
/-- 16, R652. 0x01 performs EvtClear for every source at the next S0 -/
def refereeClearAll : Entry := ⟨0x8000, 11, .cmd 1, .observer, (some .operator), .v, 0, .span 1 1⟩
/-- 16, R652. 5 octets (R650) -/
def faultInject : Entry := ⟨0x8000, 12, .cmd 5, .observer, (some .custodian), .v, 0, .any⟩
/-- 16, R652. Saturates -/
def faultInjectCount : Entry := ⟨0x8000, 13, .u32, .observer, none, .v, 0, .any⟩
/-- 16, R652. Rail fault episodes; saturates -/
def railFaultCount : Entry := ⟨0x8000, 14, .u32, .observer, none, .k, 0, .any⟩
/-- 16, R652. Constant (R633) -/
def sweepPeriodFrames : Entry := ⟨0x8000, 15, .u8, .observer, none, .v, 16, .any⟩
/-- 16, R652. SYNTH, GNSS, NET, CRYPT, PROTO, MEM; saturates -/
def domainIsolationCount (k : Nat) : Entry := ⟨0x8001, 1 + k, .u32, .observer, none, .k, 0, .any⟩
/-- 16, R653. R634, R635 -/
def evtSeverity (n : Nat) : Entry := ⟨0x8100 + n, 1, .enum8, .observer, (some .operator), .s, (List.getD severityTable n 0), .span 0 4⟩
/-- 16, R653. Bit 0 EVT_N0, bit 1 EVT_N1; defaults 0x00 Note, 0x01 Alert, 0x03 Isolate and above -/
def evtRoute (n : Nat) : Entry := ⟨0x8100 + n, 2, .u8, .observer, (some .operator), .s, (List.getD [0, 1, 3, 3, 3] (List.getD severityTable n 0) 0), .span 0 3⟩
/-- 16, R653. Raisings; saturates -/
def evtCount (n : Nat) : Entry := ⟨0x8100 + n, 3, .u32, .observer, none, .k, 0, .any⟩
/-- 16, R653. R642; saturates -/
def evtConsequentCount (n : Nat) : Entry := ⟨0x8100 + n, 4, .u32, .observer, none, .k, 0, .any⟩
/-- 16, R653. R645 -/
def evtFirstTime (n : Nat) : Entry := ⟨0x8100 + n, 5, .time96, .observer, none, .k, 0, .any⟩
/-- 16, R653. R645 -/
def evtFirstSequence (n : Nat) : Entry := ⟨0x8100 + n, 6, .u32, .observer, none, .k, 0, .any⟩
/-- 16, R653. R645 -/
def evtFirstDetail (n : Nat) : Entry := ⟨0x8100 + n, 7, .octets 8, .observer, none, .k, 0, .any⟩
/-- 16, R653. Latest raising -/
def evtLastTime (n : Nat) : Entry := ⟨0x8100 + n, 8, .time96, .observer, none, .k, 0, .any⟩
/-- 16, R653. R646; saturates -/
def evtHistoryLost (n : Nat) : Entry := ⟨0x8100 + n, 9, .u32, .observer, none, .k, 0, .any⟩
/-- 16, R653. 0x00 Quiet, 0x01 Fault, 0x02 RailFault, 0x03 Masked -/
def evtRailState (n : Nat) : Entry := ⟨0x8100 + n, 10, .enum8, .observer, none, .v, 0x00, .any⟩
/-- 16, R653. 0x01 clears :03 to :09 and the history at the next S0 -/
def evtClear (n : Nat) : Entry := ⟨0x8100 + n, 11, .cmd 1, .observer, (some .operator), .v, 0, .span 1 1⟩
/-- 16, R653. R646; :01 newest -/
def evtHistory (n : Nat) (k : Nat) : Entry := ⟨0x8200 + n, 1 + k, .octets 32, .observer, none, .k, 0, .any⟩
/-- 17, R673. Seconds with CTRL powered (R673) -/
def lifeSeconds : Entry := ⟨0x8840, 1, .u64, .observer, none, .s, 0, .any⟩
/-- 17, R673. Starts (R668) -/
def lifeBootCount : Entry := ⟨0x8840, 2, .u32, .observer, none, .s, 0, .any⟩
/-- 17, R673. Shutdowns whose record was written -/
def lifeOrderlyShutdowns : Entry := ⟨0x8840, 3, .u32, .observer, none, .s, 0, .any⟩
/-- 17, R673. Supply episodes (R576) -/
def lifeSupplyEpisodes : Entry := ⟨0x8840, 4, .u32, .observer, none, .s, 0, .any⟩
/-- 17, R673. Switches started by Watershed -/
def lifeSwitches : Entry := ⟨0x8840, 5, .u32, .observer, none, .s, 0, .any⟩
/-- 17, R673. Entries to Holdover -/
def lifeHoldovers : Entry := ⟨0x8840, 6, .u32, .observer, none, .s, 0, .any⟩
/-- 17, R673. Seconds in Holdover -/
def lifeHoldoverSeconds : Entry := ⟨0x8840, 7, .u32, .observer, none, .s, 0, .any⟩
/-- 17, R673. Takeovers under R532 -/
def lifeTakeovers : Entry := ⟨0x8840, 8, .u32, .observer, none, .s, 0, .any⟩
/-- 17, R673. MOSC monitor trips (R570) -/
def lifeMoscTrips : Entry := ⟨0x8840, 9, .u32, .observer, none, .s, 0, .any⟩
/-- 17, R673. Largest T_max, in 0.001 °C -/
def lifeMaxTemp : Entry := ⟨0x8840, 10, .i32, .observer, none, .s, 4294694146, .any⟩
/-- 17, R673. Smallest T_max, in 0.001 °C -/
def lifeMinTemp : Entry := ⟨0x8840, 11, .i32, .observer, none, .s, 200000, .any⟩
/-- 17, R673. Last lifetime commit -/
def lifeCommitTime : Entry := ⟨0x8840, 12, .time96, .observer, none, .s, 0, .any⟩
/-- 17, R673. In s, 600 to 86,400 -/
def lifeCommitInterval : Entry := ⟨0x8840, 13, .u32, .observer, (some .custodian), .s, 3600, .span 600 86400⟩
/-- 17, R673. Resets by LastResetCause 0x00 to 0x04 -/
def lifeResetCount (k : Nat) : Entry := ⟨0x8841, 1 + k, .u32, .observer, none, .s, 0, .any⟩
/-- 17, R673. Raisings neither consequent nor injected, by severity Note to Safe stop -/
def lifeFaultCount (k : Nat) : Entry := ⟨0x8842, 1 + k, .u32, .observer, none, .s, 0, .any⟩
/-- 17, R673. Bin b for T_max from −55 + 10b °C; bin 17 from +115 °C -/
def lifeTempSeconds (k : Nat) : Entry := ⟨0x8843, 1 + k, .u32, .observer, none, .s, 0, .any⟩
/-- 17, R673. Episodes under 10 µs, under 100 µs, under 1 ms, under 10 ms, under 100 ms, and 100 ms or longer -/
def lifeEpisodeDuration (k : Nat) : Entry := ⟨0x8844, 1 + k, .u32, .observer, none, .s, 0, .any⟩
/-- 17, R677. 0x01 (R676) -/
def pcSnapshot : Entry := ⟨0x8880, 1, .cmd 1, .observer, (some .operator), .v, 0, .span 1 1⟩
/-- 17, R677. 0x01 sets every PcCount to 0 -/
def pcClearAll : Entry := ⟨0x8880, 2, .cmd 1, .observer, (some .operator), .v, 0, .span 1 1⟩
/-- 17, R677. Event code; 0x0000 none -/
def pcEvent (n : Nat) : Entry := ⟨0x8900 + n, 1, .u16, .observer, (some .operator), .s, 0x0000, .any⟩
/-- 17, R677. 0x00 off, 0x01 edge, 0x02 level, 0x03 bandwidth -/
def pcMode (n : Nat) : Entry := ⟨0x8900 + n, 2, .enum8, .observer, (some .operator), .s, 0x00, .span 0 3⟩
/-- 17, R677. Per event code -/
def pcUnit (n : Nat) : Entry := ⟨0x8900 + n, 3, .u8, .observer, (some .operator), .s, 0, .any⟩
/-- 17, R677. Frames, 0 to 65,535 -/
def pcWindow (n : Nat) : Entry := ⟨0x8900 + n, 4, .u16, .observer, (some .operator), .s, 4096, .span 0 65535⟩
/-- 17, R677. Current window; saturates -/
def pcCount (n : Nat) : Entry := ⟨0x8900 + n, 5, .u64, .observer, none, .v, 0, .any⟩
/-- 17, R677. Last closed window -/
def pcLastWindow (n : Nat) : Entry := ⟨0x8900 + n, 6, .u64, .observer, none, .v, 0, .any⟩
/-- 17, R677. Bandwidth mode, in bit/s; 0 in other modes -/
def pcRate (n : Nat) : Entry := ⟨0x8900 + n, 7, .u64, .observer, none, .v, 0, .any⟩
/-- 17, R677. Frame start of the last close -/
def pcWindowEnd (n : Nat) : Entry := ⟨0x8900 + n, 8, .time96, .observer, none, .v, 0, .any⟩
/-- 17, R677. R676 -/
def pcSnapshotValue (n : Nat) : Entry := ⟨0x8900 + n, 9, .u64, .observer, none, .v, 0, .any⟩
/-- 17, R677. 0x01 sets PcCount to 0 -/
def pcClear (n : Nat) : Entry := ⟨0x8900 + n, 10, .cmd 1, .observer, (some .operator), .v, 0, .span 1 1⟩
/-- 17, R678. 0x00 quick when a record matches, 0x01 always full -/
def startupBistPolicy : Entry := ⟨0x8800, 1, .enum8, .observer, (some .operator), .s, 0x00, .span 0 1⟩
/-- 17, R678. R660, R664 -/
def shutdownDramTest : Entry := ⟨0x8800, 2, .bool, .observer, (some .operator), .s, 1, .span 0 1⟩
/-- 17, R678. 0x00 no test, 0x01 quick, 0x02 full -/
def lastStartKind : Entry := ⟨0x8800, 3, .enum8, .observer, none, .v, 0x00, .any⟩
/-- 17, R678. In µs -/
def lastStartTestTime : Entry := ⟨0x8800, 4, .u32, .observer, none, .v, 0, .any⟩
/-- 17, R678. 0x00 matched, 0x01 none, 0x02 CRC failed, 0x03 BootCount differs, 0x04 firmware differs, 0x05 policy full -/
def shutdownRecordStatus : Entry := ⟨0x8800, 5, .enum8, .observer, none, .v, 0x01, .any⟩
/-- 17, R678. 0x00 Idle; 0x01 to 0x04 as R659 -/
def shutdownState : Entry := ⟨0x8800, 6, .enum8, .observer, none, .v, 0x00, .any⟩
/-- 17, R678. Units failed in the last shutdown or start -/
def selfTestFailed : Entry := ⟨0x8800, 7, .octets 32, .observer, none, .v, 0, .any⟩
/-- 17, R678. Units not tested at the last shutdown and not tested since -/
def selfTestNotRun : Entry := ⟨0x8800, 8, .octets 32, .observer, none, .v, 0, .any⟩
/-- 17, R678. Bit u for flagged unit u of 0x00 to 0x04; bit 5 for 0xA3; bit 6 for 0xA4 -/
def selfTestPrivilegedFlags : Entry := ⟨0x8800, 9, .u8, .observer, none, .v, 0, .any⟩
/-- 17, R678. Record read at the last start -/
def shutdownRecord : Entry := ⟨0x8800, 10, .octets 1024, .observer, none, .v, 0, .any⟩

/-- Address families of this file, part 0 (R57, R58). -/
def famsReferee0 : List Family := [
  ⟨0x8000, 0, 1, 1, 1, fun _ _ => refereeSequence⟩,
  ⟨0x8000, 0, 1, 2, 1, fun _ _ => refereeEventCount⟩,
  ⟨0x8000, 0, 1, 3, 1, fun _ _ => refereeConsequentCount⟩,
  ⟨0x8000, 0, 1, 4, 1, fun _ _ => evtPending0⟩,
  ⟨0x8000, 0, 1, 5, 1, fun _ _ => evtPending1⟩,
  ⟨0x8000, 0, 1, 6, 1, fun _ _ => evtAcknowledge⟩,
  ⟨0x8000, 0, 1, 7, 1, fun _ _ => isolatedDomains⟩,
  ⟨0x8000, 0, 1, 8, 1, fun _ _ => latchedDomains⟩,
  ⟨0x8000, 0, 1, 9, 1, fun _ _ => domainRelease⟩,
  ⟨0x8000, 0, 1, 10, 1, fun _ _ => domainRestartDelay⟩,
  ⟨0x8000, 0, 1, 11, 1, fun _ _ => refereeClearAll⟩,
  ⟨0x8000, 0, 1, 12, 1, fun _ _ => faultInject⟩,
  ⟨0x8000, 0, 1, 13, 1, fun _ _ => faultInjectCount⟩,
  ⟨0x8000, 0, 1, 14, 1, fun _ _ => railFaultCount⟩,
  ⟨0x8000, 0, 1, 15, 1, fun _ _ => sweepPeriodFrames⟩,
  ⟨0x8001, 0, 1, 1, 6, fun _ k => domainIsolationCount k⟩,
  ⟨0x8100, 0, 128, 1, 1, fun n _ => evtSeverity n⟩,
  ⟨0x8100, 0, 128, 2, 1, fun n _ => evtRoute n⟩,
  ⟨0x8100, 0, 128, 3, 1, fun n _ => evtCount n⟩,
  ⟨0x8100, 0, 128, 4, 1, fun n _ => evtConsequentCount n⟩,
  ⟨0x8100, 0, 128, 5, 1, fun n _ => evtFirstTime n⟩,
  ⟨0x8100, 0, 128, 6, 1, fun n _ => evtFirstSequence n⟩,
  ⟨0x8100, 0, 128, 7, 1, fun n _ => evtFirstDetail n⟩,
  ⟨0x8100, 0, 128, 8, 1, fun n _ => evtLastTime n⟩,
  ⟨0x8100, 0, 128, 9, 1, fun n _ => evtHistoryLost n⟩]

/-- Address families of this file, part 1 (R57, R58). -/
def famsReferee1 : List Family := [
  ⟨0x8100, 0, 128, 10, 1, fun n _ => evtRailState n⟩,
  ⟨0x8100, 0, 128, 11, 1, fun n _ => evtClear n⟩,
  ⟨0x8200, 0, 128, 1, 32, fun n k => evtHistory n k⟩,
  ⟨0x8840, 0, 1, 1, 1, fun _ _ => lifeSeconds⟩,
  ⟨0x8840, 0, 1, 2, 1, fun _ _ => lifeBootCount⟩,
  ⟨0x8840, 0, 1, 3, 1, fun _ _ => lifeOrderlyShutdowns⟩,
  ⟨0x8840, 0, 1, 4, 1, fun _ _ => lifeSupplyEpisodes⟩,
  ⟨0x8840, 0, 1, 5, 1, fun _ _ => lifeSwitches⟩,
  ⟨0x8840, 0, 1, 6, 1, fun _ _ => lifeHoldovers⟩,
  ⟨0x8840, 0, 1, 7, 1, fun _ _ => lifeHoldoverSeconds⟩,
  ⟨0x8840, 0, 1, 8, 1, fun _ _ => lifeTakeovers⟩,
  ⟨0x8840, 0, 1, 9, 1, fun _ _ => lifeMoscTrips⟩,
  ⟨0x8840, 0, 1, 10, 1, fun _ _ => lifeMaxTemp⟩,
  ⟨0x8840, 0, 1, 11, 1, fun _ _ => lifeMinTemp⟩,
  ⟨0x8840, 0, 1, 12, 1, fun _ _ => lifeCommitTime⟩,
  ⟨0x8840, 0, 1, 13, 1, fun _ _ => lifeCommitInterval⟩,
  ⟨0x8841, 0, 1, 1, 5, fun _ k => lifeResetCount k⟩,
  ⟨0x8842, 0, 1, 1, 5, fun _ k => lifeFaultCount k⟩,
  ⟨0x8843, 0, 1, 1, 18, fun _ k => lifeTempSeconds k⟩,
  ⟨0x8844, 0, 1, 1, 6, fun _ k => lifeEpisodeDuration k⟩,
  ⟨0x8880, 0, 1, 1, 1, fun _ _ => pcSnapshot⟩,
  ⟨0x8880, 0, 1, 2, 1, fun _ _ => pcClearAll⟩,
  ⟨0x8900, 0, 64, 1, 1, fun n _ => pcEvent n⟩,
  ⟨0x8900, 0, 64, 2, 1, fun n _ => pcMode n⟩,
  ⟨0x8900, 0, 64, 3, 1, fun n _ => pcUnit n⟩]

/-- Address families of this file, part 2 (R57, R58). -/
def famsReferee2 : List Family := [
  ⟨0x8900, 0, 64, 4, 1, fun n _ => pcWindow n⟩,
  ⟨0x8900, 0, 64, 5, 1, fun n _ => pcCount n⟩,
  ⟨0x8900, 0, 64, 6, 1, fun n _ => pcLastWindow n⟩,
  ⟨0x8900, 0, 64, 7, 1, fun n _ => pcRate n⟩,
  ⟨0x8900, 0, 64, 8, 1, fun n _ => pcWindowEnd n⟩,
  ⟨0x8900, 0, 64, 9, 1, fun n _ => pcSnapshotValue n⟩,
  ⟨0x8900, 0, 64, 10, 1, fun n _ => pcClear n⟩,
  ⟨0x8800, 0, 1, 1, 1, fun _ _ => startupBistPolicy⟩,
  ⟨0x8800, 0, 1, 2, 1, fun _ _ => shutdownDramTest⟩,
  ⟨0x8800, 0, 1, 3, 1, fun _ _ => lastStartKind⟩,
  ⟨0x8800, 0, 1, 4, 1, fun _ _ => lastStartTestTime⟩,
  ⟨0x8800, 0, 1, 5, 1, fun _ _ => shutdownRecordStatus⟩,
  ⟨0x8800, 0, 1, 6, 1, fun _ _ => shutdownState⟩,
  ⟨0x8800, 0, 1, 7, 1, fun _ _ => selfTestFailed⟩,
  ⟨0x8800, 0, 1, 8, 1, fun _ _ => selfTestNotRun⟩,
  ⟨0x8800, 0, 1, 9, 1, fun _ _ => selfTestPrivilegedFlags⟩,
  ⟨0x8800, 0, 1, 10, 1, fun _ _ => shutdownRecord⟩]

/-- Every address family of this file. -/
def famsReferee : List Family :=
  famsReferee0 ++ famsReferee1 ++ famsReferee2

end Dict
end Sys2Proof.Machine
end

