-- ==== Sys2Proof/Machine/DictServo.lean ====
section
/-!
DEFINITION. Dictionary entries (spec tables, read row by row): servo, synthesis and outputs.
One definition per table row; `n` is the unit number the table adds to the index, `k` the place within a
range of subindices. Fields: index, subindex, type, read level, write level, keep class, default, range.
-/
namespace Sys2Proof.Machine
namespace Dict

/-- 06, R248. Stage in force, 0 to 6 -/
def servoStage : Entry := ⟨0x3400, 1, .u8, .observer, none, .v, 0, .any⟩
/-- 06, R248. B_eff in µHz -/
def servoBandwidth : Entry := ⟨0x3400, 2, .u32, .observer, none, .v, 0, .any⟩
/-- 06, R248. ζ in 0.001, 500 to 2,000 -/
def servoDamping : Entry := ⟨0x3400, 3, .u16, .observer, (some .operator), .s, 1000, .span 500 2000⟩
/-- 06, R248. In ns, 1 to 100,000 -/
def servoLockPhase : Entry := ⟨0x3400, 4, .u32, .observer, (some .operator), .s, 20, .span 1 100000⟩
/-- 06, R248. In ns, 10 to 1,000,000; above ServoLockPhase -/
def servoUnlockPhase : Entry := ⟨0x3400, 5, .u32, .observer, (some .operator), .s, 1000, .span 10 1000000⟩
/-- 06, R248. 1 to 6 -/
def servoLockedStage : Entry := ⟨0x3400, 6, .u8, .observer, (some .operator), .s, 2, .span 1 6⟩
/-- 06, R248. ServoLockedStage to 6 -/
def servoFinalStage : Entry := ⟨0x3400, 7, .u8, .observer, (some .operator), .s, 6, .span 1 6⟩
/-- 06, R248. 0 to ServoFinalStage -/
def servoReacquireStage : Entry := ⟨0x3400, 8, .u8, .observer, (some .operator), .s, 2, .span 0 6⟩
/-- 06, R248. In ns, 100 to 1,000,000,000 (R230) -/
def servoSetThreshold : Entry := ⟨0x3400, 9, .u32, .observer, (some .operator), .s, 1000, .span 100 1000000000⟩
/-- 06, R248. x_f of the last S3 -/
def servoPhaseError : Entry := ⟨0x3400, 10, .span64, .observer, none, .v, 0, .any⟩
/-- 06, R248. R227 -/
def servoPhaseMean : Entry := ⟨0x3400, 11, .span64, .observer, none, .v, 0, .any⟩
/-- 06, R248. R227, in fs -/
def servoPhaseRms : Entry := ⟨0x3400, 12, .u32, .observer, none, .v, 0xFFFFFFFF, .any⟩
/-- 06, R248. R_tot -/
def servoRateCorrection : Entry := ⟨0x3400, 13, .frac64, .observer, none, .v, 0, .any⟩
/-- 06, R248. y_int -/
def servoIntegrator : Entry := ⟨0x3400, 14, .frac64, .observer, none, .v, 0, .any⟩
/-- 06, R248. R223, R226 -/
def servoClampActive : Entry := ⟨0x3400, 15, .bool, .observer, none, .v, 0, .any⟩
/-- 06, R248. 0x00 idle, 0x01 steer, 0x02 rate trim -/
def servoMode : Entry := ⟨0x3400, 16, .enum8, .observer, none, .v, 0x00, .any⟩
/-- 06, R248. In ms -/
def servoDwellRemaining : Entry := ⟨0x3400, 17, .u32, .observer, none, .v, 0, .any⟩
/-- 06, R248. Saturates -/
def servoUnlockCount : Entry := ⟨0x3400, 18, .u32, .observer, none, .k, 0, .any⟩
/-- 06, R248. APLL0 source: 0x00 MOSC, 0x01 VCO hold, 0x02 XO -/
def timebaseSource : Entry := ⟨0x3400, 19, .enum8, .observer, none, .v, 0x00, .any⟩
/-- 06, R248. Stages 0 to 6 in µHz, 100 to 10,000,000, each at most the one before -/
def servoStageBandwidth (k : Nat) : Entry := ⟨0x3401, 1 + k, .u32, .observer, (some .operator), .s, (List.getD [1000000, 300000, 100000, 30000, 10000, 3000, 1000] k 0), .span 100 10000000⟩
/-- 06, R249. 0x00 unsteered, 0x01 SPI DAC, 0x02 serial template (R233) -/
def steerMode : Entry := ⟨0x3410, 1, .enum8, .observer, (some .operator), .s, 0x00, .span 0 2⟩
/-- 06, R249. Per LSB in 10^-18; not 0; sign sets polarity -/
def steerGain : Entry := ⟨0x3410, 2, .i32, .observer, (some .operator), .s, 1000, .nonzero⟩
/-- 06, R249. Below SteerCodeMax -/
def steerCodeMin : Entry := ⟨0x3410, 3, .u32, .observer, (some .operator), .s, 0, .any⟩
/-- 06, R249. Below 2^SteerSpiCodeBits -/
def steerCodeMax : Entry := ⟨0x3410, 4, .u32, .observer, (some .operator), .s, 65535, .any⟩
/-- 06, R249. Code for zero command -/
def steerCodeCentre : Entry := ⟨0x3410, 5, .u32, .observer, (some .operator), .s, 32768, .any⟩
/-- 06, R249. R231 -/
def steerDefault : Entry := ⟨0x3410, 6, .frac64, .observer, (some .operator), .s, 0, .any⟩
/-- 06, R249. Power of two, 1 to 4,096 -/
def steerUpdateFrames : Entry := ⟨0x3410, 7, .u16, .observer, (some .operator), .s, 1, .powerOfTwo 4096⟩
/-- 06, R249. In Hz, 1,000,000 to 25,000,000 -/
def steerSpiClock : Entry := ⟨0x3410, 8, .u32, .observer, (some .operator), .s, 10000000, .span 1000000 25000000⟩
/-- 06, R249. 16 to 32 -/
def steerSpiWordBits : Entry := ⟨0x3410, 9, .u8, .observer, (some .operator), .s, 24, .span 16 32⟩
/-- 06, R249. Code position; code fits in the word -/
def steerSpiCodeShift : Entry := ⟨0x3410, 10, .u8, .observer, (some .operator), .s, 0, .any⟩
/-- 06, R249. 8 to 24 -/
def steerSpiCodeBits : Entry := ⟨0x3410, 11, .u8, .observer, (some .operator), .s, 16, .span 8 24⟩
/-- 06, R249. Constant bits of the word -/
def steerSpiPrefix : Entry := ⟨0x3410, 12, .u32, .observer, (some .operator), .s, 0, .any⟩
/-- 06, R249. SPI mode 0x00 to 0x03 -/
def steerSpiMode : Entry := ⟨0x3410, 13, .enum8, .observer, (some .operator), .s, 0x00, .span 0 3⟩
/-- 06, R249. R234 -/
def steerDither : Entry := ⟨0x3410, 14, .bool, .observer, (some .operator), .s, 1, .span 0 1⟩
/-- 06, R249. Code last sent -/
def steerCode : Entry := ⟨0x3410, 15, .u32, .observer, none, .v, 0, .any⟩
/-- 06, R249. R232 -/
def steerPermitted : Entry := ⟨0x3410, 16, .bool, .observer, none, .v, 0, .any⟩
/-- 06, R249. R238; saturates -/
def steerFailCount : Entry := ⟨0x3410, 17, .u32, .observer, none, .k, 0, .any⟩
/-- 06, R249. 0x00 Released, 0x01 Driving, 0x02 Fault -/
def steerState : Entry := ⟨0x3410, 18, .enum8, .observer, none, .v, 0x00, .any⟩
/-- 06, R249. Magnitude limit of R_tot sent, up to 2.5 × 10^-4 -/
def steerCommandLimit : Entry := ⟨0x3410, 19, .frac64, .observer, (some .operator), .s, 18446744073710, .span 0 4611686018427387⟩
/-- 06, R249. Saturation episodes; saturates -/
def steerSaturationCount : Entry := ⟨0x3410, 20, .u32, .observer, none, .v, 0, .any⟩
/-- 06, R249. 1,200 to 921,600 -/
def steerBaud : Entry := ⟨0x3411, 1, .u32, .observer, (some .operator), .s, 9600, .span 1200 921600⟩
/-- 06, R249. R236 -/
def steerTemplate : Entry := ⟨0x3411, 2, .octets 64, .observer, (some .operator), .s, 0x7E * 2 ^ 504, .any⟩
/-- 06, R249. n, 6 to 18 -/
def steerTplScale : Entry := ⟨0x3411, 3, .u8, .observer, (some .operator), .s, 12, .span 6 18⟩
/-- 06, R249. All zero: no reply expected -/
def steerReplyPrefix : Entry := ⟨0x3411, 4, .octets 8, .observer, (some .operator), .s, 0, .any⟩
/-- 06, R249. In ms, 1 to 1,000 -/
def steerReplyTimeout : Entry := ⟨0x3411, 5, .u16, .observer, (some .operator), .s, 100, .span 1 1000⟩
/-- 06, R249. 1 to 16 -/
def steerFailLimit : Entry := ⟨0x3411, 6, .u8, .observer, (some .operator), .s, 3, .span 1 16⟩
/-- 06, R249. Octets in the last message -/
def steerTplLength : Entry := ⟨0x3411, 7, .u8, .observer, none, .v, 0, .any⟩
/-- 06, R249. First octets of the last reply -/
def steerLastReply : Entry := ⟨0x3411, 8, .octets 16, .observer, none, .v, 0, .any⟩
/-- 06, R250. 0x00 None, 0x01 Partial, 0x02 Full -/
def oscModelState : Entry := ⟨0x3420, 1, .enum8, .observer, none, .k, 0x00, .any⟩
/-- 06, R250. Seconds of blocks in the window -/
def oscLearnedTime : Entry := ⟨0x3420, 2, .u32, .observer, none, .k, 0, .any⟩
/-- 06, R250. y0 -/
def oscModelOffset : Entry := ⟨0x3420, 3, .frac64, .observer, none, .k, 0, .any⟩
/-- 06, R250. A, per day -/
def oscModelDrift : Entry := ⟨0x3420, 4, .frac64, .observer, none, .k, 0, .any⟩
/-- 06, R250. c, per °C -/
def oscModelTempCoeff : Entry := ⟨0x3420, 5, .frac64, .observer, none, .k, 0, .any⟩
/-- 06, R250. T0 in 0.001 °C -/
def oscModelRefTemp : Entry := ⟨0x3420, 6, .i32, .observer, none, .k, 0, .any⟩
/-- 06, R250. t0 -/
def oscModelEpoch : Entry := ⟨0x3420, 7, .time96, .observer, none, .k, 0, .any⟩
/-- 06, R250. σ̂_y0 -/
def oscSigmaOffset : Entry := ⟨0x3420, 8, .frac64, .observer, none, .k, 0, .any⟩
/-- 06, R250. σ̂_A, per day -/
def oscSigmaDrift : Entry := ⟨0x3420, 9, .frac64, .observer, none, .k, 0, .any⟩
/-- 06, R250. σ̂_c, per °C -/
def oscSigmaTempCoeff : Entry := ⟨0x3420, 10, .frac64, .observer, none, .k, 0, .any⟩
/-- 06, R250. In s, 3,600 to 604,800 -/
def oscLearnTime : Entry := ⟨0x3420, 11, .u32, .observer, (some .operator), .s, 86400, .span 3600 604800⟩
/-- 06, R250. In s, OscLearnTime to 604,800 -/
def oscLearnWindow : Entry := ⟨0x3420, 12, .u32, .observer, (some .operator), .s, 604800, .span 3600 604800⟩
/-- 06, R250. Integrator's ageing limit per day -/
def oscAgeingMax : Entry := ⟨0x3420, 13, .frac64, .observer, (some .operator), .s, 1844674407, .any⟩
/-- 06, R250. Integrator's limit per °C -/
def oscTempCoeffMax : Entry := ⟨0x3420, 14, .frac64, .observer, (some .operator), .s, 1844674407, .any⟩
/-- 06, R250. Flicker floor of the oscillator -/
def oscNoiseFloor : Entry := ⟨0x3420, 15, .frac64, .observer, (some .operator), .s, 184467441, .any⟩
/-- 06, R250. Lower limit of U_y -/
def oscFreqFloor : Entry := ⟨0x3420, 16, .frac64, .observer, (some .operator), .s, 1844674, .any⟩
/-- 06, R250. 0x00 none, 0x01 die mean, 0x02 host -/
def oscTempSource : Entry := ⟨0x3420, 17, .enum8, .observer, (some .operator), .s, 0x01, .span 0 2⟩
/-- 06, R250. In 0.001 °C; stale after 10 s -/
def oscHostTemp : Entry := ⟨0x3420, 18, .i32, .observer, (some .operator), .v, 0, .any⟩
/-- 06, R250. 0x01 restarts learning (R242) -/
def oscModelReset : Entry := ⟨0x3420, 19, .cmd 1, .observer, (some .operator), .v, 0, .span 1 1⟩
/-- 06, R250. 3 to 20 (R242) -/
def oscModelLimit : Entry := ⟨0x3420, 20, .u8, .observer, (some .operator), .s, 6, .span 3 20⟩
/-- 06, R250. In 0.001 °C, 0 to 100,000 -/
def oscTempExcursion : Entry := ⟨0x3420, 21, .u32, .observer, (some .operator), .s, 5000, .span 0 100000⟩
/-- 06, R250. 0x00 none, 0x01 no reference, 0x02 VCO hold -/
def holdoverCause : Entry := ⟨0x3430, 1, .enum8, .observer, none, .v, 0x00, .any⟩
/-- 06, R250. Frame start of entry -/
def holdoverStart : Entry := ⟨0x3430, 2, .time96, .observer, none, .v, 0, .any⟩
/-- 06, R250. e_hold -/
def holdoverGrowth : Entry := ⟨0x3430, 3, .ps32, .observer, none, .v, 0, .any⟩
/-- 06, R250. u_hold -/
def holdoverRandom : Entry := ⟨0x3430, 4, .ps32, .observer, none, .v, 0, .any⟩
/-- 06, R250. In ps, 1,000 to 100,000,000 -/
def holdoverBoundLimit : Entry := ⟨0x3430, 5, .ps32, .observer, (some .operator), .s, 1000000, .span 1000 100000000⟩
/-- 06, R250. R245 -/
def holdoverInSpec : Entry := ⟨0x3430, 6, .bool, .observer, none, .v, 1, .any⟩
/-- 06, R250. In s, 16 to 3,600 -/
def holdoverAnchor : Entry := ⟨0x3430, 7, .u16, .observer, (some .operator), .s, 300, .span 16 3600⟩
/-- 06, R250. In s, 0 to 60 -/
def holdoverGuard : Entry := ⟨0x3430, 8, .u16, .observer, (some .operator), .s, 2, .span 0 60⟩
/-- 06, R250. Entries to Holdover; saturates -/
def holdoverCount : Entry := ⟨0x3430, 9, .u32, .observer, none, .k, 0, .any⟩
/-- 06, R250. Seconds in Holdover; saturates -/
def holdoverTotalSeconds : Entry := ⟨0x3430, 10, .u32, .observer, none, .k, 0, .any⟩
/-- 07, R286. In Hz (R254) -/
def moscNominalFrequency : Entry := ⟨0x4000, 1, .u32, .observer, (some .custodian), .s, 10000000, .quotientOf 10000000000 50 2000⟩
/-- 07, R286. 0x00 Off, 0x01 Locking, 0x02 Locked, 0x03 VCO hold -/
def apll0State : Entry := ⟨0x4000, 2, .enum8, .observer, none, .v, 0x00, .any⟩
/-- 07, R286. 0x00 none, 0x01 MOSC, 0x02 XO -/
def apll0Source : Entry := ⟨0x4000, 3, .enum8, .observer, none, .v, 0x00, .any⟩
/-- 07, R286. N0: integer in [63:32], fraction in [31:0] -/
def apll0Feedback : Entry := ⟨0x4000, 4, .u64, .observer, none, .v, 0, .any⟩
/-- 07, R286. In µA, 100 to 3,200 in steps of 100 -/
def apll0CpCurrent : Entry := ⟨0x4000, 5, .u16, .observer, (some .custodian), .s, 800, .stepped 100 3200 100⟩
/-- 07, R286. Entries to Locked; saturates -/
def apll0LockCount : Entry := ⟨0x4000, 6, .u32, .observer, none, .k, 0, .any⟩
/-- 07, R286. Entries to VCO hold; saturates -/
def apll0HoldCount : Entry := ⟨0x4000, 7, .u32, .observer, none, .k, 0, .any⟩
/-- 07, R286. Seconds in VCO hold; saturates -/
def apll0HoldSeconds : Entry := ⟨0x4000, 8, .u32, .observer, none, .k, 0, .any⟩
/-- 07, R286. R270 -/
def outputsPermitted : Entry := ⟨0x4000, 9, .bool, .observer, none, .v, 0, .any⟩
/-- 07, R286. R259 -/
def apllEnable (n : Nat) : Entry := ⟨0x4010 + n, 1, .bool, .observer, (some .operator), .s, 0, .span 0 1⟩
/-- 07, R286. k: 0x00 ×1, 0x01 ×2, 0x02 ×0.5 -/
def apllRefScale (n : Nat) : Entry := ⟨0x4010 + n, 2, .enum8, .observer, (some .operator), .s, 0x00, .span 0 2⟩
/-- 07, R286. M, 1 to 1,023 -/
def apllRefDivider (n : Nat) : Entry := ⟨0x4010 + n, 3, .u16, .observer, (some .operator), .s, 1, .span 1 1023⟩
/-- 07, R286. N, 16 to 8,191 -/
def apllFeedback (n : Nat) : Entry := ⟨0x4010 + n, 4, .u16, .observer, (some .operator), .s, 1000, .span 16 8191⟩
/-- 07, R286. 0x00 100 kHz, 0x01 200 kHz, 0x02 400 kHz, 0x03 800 kHz -/
def apllBandwidth (n : Nat) : Entry := ⟨0x4010 + n, 5, .enum8, .observer, (some .operator), .s, 0x02, .span 0 3⟩
/-- 07, R286. 0x00 Off, 0x01 Calibrating, 0x02 Locking, 0x03 Locked, 0x04 Hold, 0x05 Removed -/
def apllState (n : Nat) : Entry := ⟨0x4010 + n, 6, .enum8, .observer, none, .v, 0x00, .any⟩
/-- 07, R286. f_VCO of the plan in force, in mHz -/
def apllVcoFrequency (n : Nat) : Entry := ⟨0x4010 + n, 7, .u64, .observer, none, .v, 0, .any⟩
/-- 07, R286. f_PFD in mHz -/
def apllPfdFrequency (n : Nat) : Entry := ⟨0x4010 + n, 8, .u64, .observer, none, .v, 0, .any⟩
/-- 07, R286. R261; saturates -/
def apllLockLossCount (n : Nat) : Entry := ⟨0x4010 + n, 9, .u32, .observer, none, .k, 0, .any⟩
/-- 07, R286. 0x01 releases a Removed APLL (R54) -/
def apllRelease (n : Nat) : Entry := ⟨0x4010 + n, 10, .cmd 1, .observer, (some .operator), .v, 0, .span 1 1⟩
/-- 07, R287. Enables the output -/
def outEnable (n : Nat) : Entry := ⟨0x4100 + n, 1, .bool, .observer, (some .operator), .s, 0, .span 0 1⟩
/-- 07, R287. 1 to 3; defaults: CKO0 to CKO5 1, CKO6 to CKO10 2, CKO11 to CKO15 3 -/
def outApll (n : Nat) : Entry := ⟨0x4100 + n, 2, .u8, .observer, (some .operator), .s, (if n < 6 then 1 else if n < 11 then 2 else 3), .span 1 3⟩
/-- 07, R287. D (R260) -/
def outDivider (n : Nat) : Entry := ⟨0x4100 + n, 3, .u16, .observer, (some .operator), .s, 64, .span 8 65535⟩
/-- 07, R287. Format table -/
def outFormat (n : Nat) : Entry := ⟨0x4100 + n, 4, .enum8, .observer, (some .operator), .s, 0x01, .span 1 5⟩
/-- 07, R287. In mV, within the format's range -/
def outSwing (n : Nat) : Entry := ⟨0x4100 + n, 5, .u16, .observer, (some .operator), .s, 350, .any⟩
/-- 07, R287. Offset of the grid, ±P_out / 2 -/
def outPhaseOffset (n : Nat) : Entry := ⟨0x4100 + n, 6, .span64, .observer, (some .operator), .s, 0, .any⟩
/-- 07, R287. 0 to 100 ns -/
def outBoardDelay (n : Nat) : Entry := ⟨0x4100 + n, 7, .span64, .observer, (some .operator), .s, 0, .span 0 6553600⟩
/-- 07, R287. R267 -/
def outTrack (n : Nat) : Entry := ⟨0x4100 + n, 8, .bool, .observer, (some .operator), .s, 1, .span 0 1⟩
/-- 07, R287. In ps per frame, 1 to 100 -/
def outTrackStep (n : Nat) : Entry := ⟨0x4100 + n, 9, .u16, .observer, (some .operator), .s, 4, .span 1 100⟩
/-- 07, R287. 0x00 _P low and _N high, 0x01 high impedance -/
def outMuteMode (n : Nat) : Entry := ⟨0x4100 + n, 10, .enum8, .observer, (some .operator), .s, 0x00, .span 0 1⟩
/-- 07, R287. 0x00 run, 0x01 mute (R272) -/
def outHoldAction (n : Nat) : Entry := ⟨0x4100 + n, 11, .enum8, .observer, (some .operator), .s, 0x00, .span 0 1⟩
/-- 07, R287. 0x00 realign, 0x01 track -/
def outStepAction (n : Nat) : Entry := ⟨0x4100 + n, 12, .enum8, .observer, (some .operator), .s, 0x00, .span 0 1⟩
/-- 07, R287. 0x01 realigns at the next frame start -/
def outRealign (n : Nat) : Entry := ⟨0x4100 + n, 13, .cmd 1, .observer, (some .operator), .v, 0, .span 1 1⟩
/-- 07, R287. 0x00 Disabled, 0x01 Waiting, 0x02 Running, 0x03 Holding, 0x04 Muted, 0x05 Removed -/
def outState (n : Nat) : Entry := ⟨0x4100 + n, 14, .enum8, .observer, none, .v, 0x00, .any⟩
/-- 07, R287. f_out in mHz -/
def outFrequency (n : Nat) : Entry := ⟨0x4100 + n, 15, .u64, .observer, none, .v, 0, .any⟩
/-- 07, R287. A in s (R263) -/
def outAlignPeriod (n : Nat) : Entry := ⟨0x4100 + n, 16, .u8, .observer, none, .v, 0, .any⟩
/-- 07, R287. c -/
def outCoarseSteps (n : Nat) : Entry := ⟨0x4100 + n, 17, .u16, .observer, none, .v, 0, .any⟩
/-- 07, R287. f in ps -/
def outFineDelay (n : Nat) : Entry := ⟨0x4100 + n, 18, .u16, .observer, none, .v, 256, .any⟩
/-- 07, R287. In fs -/
def outAlignResidual (n : Nat) : Entry := ⟨0x4100 + n, 19, .i32, .observer, none, .v, 0, .any⟩
/-- 07, R287. R267 -/
def outTrackLag (n : Nat) : Entry := ⟨0x4100 + n, 20, .span64, .observer, none, .v, 0, .any⟩
/-- 07, R287. Saturates -/
def outRealignCount (n : Nat) : Entry := ⟨0x4100 + n, 21, .u32, .observer, none, .k, 0, .any⟩
/-- 07, R287. 0x01 releases a Removed output (R54) -/
def outRelease (n : Nat) : Entry := ⟨0x4100 + n, 22, .cmd 1, .observer, (some .operator), .v, 0, .span 1 1⟩
/-- 07, R288. Enables the driver -/
def plsEnable (n : Nat) : Entry := ⟨0x4200 + n, 1, .bool, .observer, (some .operator), .s, 0, .span 0 1⟩
/-- 07, R288. 0x00 active high, 0x01 active low -/
def plsPolarity (n : Nat) : Entry := ⟨0x4200 + n, 2, .enum8, .observer, (some .operator), .s, 0x00, .span 0 1⟩
/-- 07, R288. 0x00 driven inactive, 0x01 high impedance -/
def plsIdle (n : Nat) : Entry := ⟨0x4200 + n, 3, .enum8, .observer, (some .operator), .s, 0x00, .span 0 1⟩
/-- 07, R288. In ns (R275) -/
def plsWidth (n : Nat) : Entry := ⟨0x4200 + n, 4, .u32, .observer, (some .operator), .s, 100000, .any⟩
/-- 07, R288. 0 to 100 ns -/
def plsBoardDelay (n : Nat) : Entry := ⟨0x4200 + n, 5, .span64, .observer, (some .operator), .s, 0, .span 0 6553600⟩
/-- 07, R288. 0x00 timescale, 0x01 follow -/
def plsMode (n : Nat) : Entry := ⟨0x4200 + n, 6, .enum8, .observer, (some .operator), .s, 0x00, .span 0 1⟩
/-- 07, R288. Reference ID 0 to 7; 0xFF none (R277) -/
def plsFollowRef (n : Nat) : Entry := ⟨0x4200 + n, 7, .u8, .observer, (some .operator), .s, 0xFF, .runs [(0, 7), (255, 255)]⟩
/-- 07, R288. ±1 ms -/
def plsFollowOffset (n : Nat) : Entry := ⟨0x4200 + n, 8, .span64, .observer, (some .operator), .s, 0, .span (-65536000000) 65536000000⟩
/-- 07, R288. In ps, 1 to 1,000,000 -/
def plsFollowStepMax (n : Nat) : Entry := ⟨0x4200 + n, 9, .u32, .observer, (some .operator), .s, 1000, .span 1 1000000⟩
/-- 07, R288. 0x00 Inactive, 0x01 Following, 0x02 Holding -/
def plsFollowState (n : Nat) : Entry := ⟨0x4200 + n, 10, .enum8, .observer, none, .v, 0x00, .any⟩
/-- 07, R288. F of the last pulse -/
def plsFollowApplied (n : Nat) : Entry := ⟨0x4200 + n, 11, .span64, .observer, none, .v, 0, .any⟩
/-- 07, R288. Timer driving the output; 0xFF none -/
def plsOwner (n : Nat) : Entry := ⟨0x4200 + n, 12, .u8, .observer, none, .v, 0xFF, .any⟩
/-- 07, R288. Pulses emitted; saturates -/
def plsCount (n : Nat) : Entry := ⟨0x4200 + n, 13, .u32, .observer, none, .v, 0, .any⟩
/-- 07, R288. R279; saturates -/
def plsSuppressCount (n : Nat) : Entry := ⟨0x4200 + n, 14, .u32, .observer, none, .v, 0, .any⟩
/-- 07, R288. 0x01 releases a Removed output (R54) -/
def plsRelease (n : Nat) : Entry := ⟨0x4200 + n, 15, .cmd 1, .observer, (some .operator), .v, 0, .span 1 1⟩
/-- 07, R289. Enables TODOm -/
def todEnable (n : Nat) : Entry := ⟨0x4210 + n, 1, .bool, .observer, (some .operator), .s, 0, .span 0 1⟩
/-- 07, R289. 0x00 to 0x03, PLS0 to PLS3 -/
def todPulse (n : Nat) : Entry := ⟨0x4210 + n, 2, .enum8, .observer, (some .operator), .s, n, .span 0 3⟩
/-- 07, R289. 9,600 to 921,600 -/
def todBaud (n : Nat) : Entry := ⟨0x4210 + n, 3, .u32, .observer, (some .operator), .s, 115200, .span 9600 921600⟩
/-- 07, R289. In ms (R281) -/
def todLead (n : Nat) : Entry := ⟨0x4210 + n, 4, .u32, .observer, (some .operator), .s, 500, .any⟩
/-- 07, R289. 0x00 Disabled, 0x01 Waiting, 0x02 Sending -/
def todState (n : Nat) : Entry := ⟨0x4210 + n, 5, .enum8, .observer, none, .v, 0x00, .any⟩
/-- 07, R289. Sequence of the last message -/
def todSequence (n : Nat) : Entry := ⟨0x4210 + n, 6, .u16, .observer, none, .v, 0, .any⟩
/-- 07, R289. Saturates -/
def todSentCount (n : Nat) : Entry := ⟨0x4210 + n, 7, .u32, .observer, none, .v, 0, .any⟩
/-- 07, R289. Messages not sent under R271; saturates -/
def todSkipCount (n : Nat) : Entry := ⟨0x4210 + n, 8, .u32, .observer, none, .v, 0, .any⟩
/-- 07, R289. 9,600 to 921,600 -/
def todInBaud (n : Nat) : Entry := ⟨0x4220 + n, 1, .u32, .observer, (some .operator), .s, 115200, .span 9600 921600⟩
/-- 07, R289. Saturates -/
def todInGoodCount (n : Nat) : Entry := ⟨0x4220 + n, 2, .u32, .observer, none, .v, 0, .any⟩
/-- 07, R289. R284; saturates -/
def todInErrorCount (n : Nat) : Entry := ⟨0x4220 + n, 3, .u32, .observer, none, .v, 0, .any⟩
/-- 07, R289. Last accepted message -/
def todInLast (n : Nat) : Entry := ⟨0x4220 + n, 4, .octets 48, .observer, none, .v, 0, .any⟩

/-- Address families of this file, part 0 (R57, R58). -/
def famsServo0 : List Family := [
  ⟨0x3400, 0, 1, 1, 1, fun _ _ => servoStage⟩,
  ⟨0x3400, 0, 1, 2, 1, fun _ _ => servoBandwidth⟩,
  ⟨0x3400, 0, 1, 3, 1, fun _ _ => servoDamping⟩,
  ⟨0x3400, 0, 1, 4, 1, fun _ _ => servoLockPhase⟩,
  ⟨0x3400, 0, 1, 5, 1, fun _ _ => servoUnlockPhase⟩,
  ⟨0x3400, 0, 1, 6, 1, fun _ _ => servoLockedStage⟩,
  ⟨0x3400, 0, 1, 7, 1, fun _ _ => servoFinalStage⟩,
  ⟨0x3400, 0, 1, 8, 1, fun _ _ => servoReacquireStage⟩,
  ⟨0x3400, 0, 1, 9, 1, fun _ _ => servoSetThreshold⟩,
  ⟨0x3400, 0, 1, 10, 1, fun _ _ => servoPhaseError⟩,
  ⟨0x3400, 0, 1, 11, 1, fun _ _ => servoPhaseMean⟩,
  ⟨0x3400, 0, 1, 12, 1, fun _ _ => servoPhaseRms⟩,
  ⟨0x3400, 0, 1, 13, 1, fun _ _ => servoRateCorrection⟩,
  ⟨0x3400, 0, 1, 14, 1, fun _ _ => servoIntegrator⟩,
  ⟨0x3400, 0, 1, 15, 1, fun _ _ => servoClampActive⟩,
  ⟨0x3400, 0, 1, 16, 1, fun _ _ => servoMode⟩,
  ⟨0x3400, 0, 1, 17, 1, fun _ _ => servoDwellRemaining⟩,
  ⟨0x3400, 0, 1, 18, 1, fun _ _ => servoUnlockCount⟩,
  ⟨0x3400, 0, 1, 19, 1, fun _ _ => timebaseSource⟩,
  ⟨0x3401, 0, 1, 1, 7, fun _ k => servoStageBandwidth k⟩,
  ⟨0x3410, 0, 1, 1, 1, fun _ _ => steerMode⟩,
  ⟨0x3410, 0, 1, 2, 1, fun _ _ => steerGain⟩,
  ⟨0x3410, 0, 1, 3, 1, fun _ _ => steerCodeMin⟩,
  ⟨0x3410, 0, 1, 4, 1, fun _ _ => steerCodeMax⟩,
  ⟨0x3410, 0, 1, 5, 1, fun _ _ => steerCodeCentre⟩]

/-- Address families of this file, part 1 (R57, R58). -/
def famsServo1 : List Family := [
  ⟨0x3410, 0, 1, 6, 1, fun _ _ => steerDefault⟩,
  ⟨0x3410, 0, 1, 7, 1, fun _ _ => steerUpdateFrames⟩,
  ⟨0x3410, 0, 1, 8, 1, fun _ _ => steerSpiClock⟩,
  ⟨0x3410, 0, 1, 9, 1, fun _ _ => steerSpiWordBits⟩,
  ⟨0x3410, 0, 1, 10, 1, fun _ _ => steerSpiCodeShift⟩,
  ⟨0x3410, 0, 1, 11, 1, fun _ _ => steerSpiCodeBits⟩,
  ⟨0x3410, 0, 1, 12, 1, fun _ _ => steerSpiPrefix⟩,
  ⟨0x3410, 0, 1, 13, 1, fun _ _ => steerSpiMode⟩,
  ⟨0x3410, 0, 1, 14, 1, fun _ _ => steerDither⟩,
  ⟨0x3410, 0, 1, 15, 1, fun _ _ => steerCode⟩,
  ⟨0x3410, 0, 1, 16, 1, fun _ _ => steerPermitted⟩,
  ⟨0x3410, 0, 1, 17, 1, fun _ _ => steerFailCount⟩,
  ⟨0x3410, 0, 1, 18, 1, fun _ _ => steerState⟩,
  ⟨0x3410, 0, 1, 19, 1, fun _ _ => steerCommandLimit⟩,
  ⟨0x3410, 0, 1, 20, 1, fun _ _ => steerSaturationCount⟩,
  ⟨0x3411, 0, 1, 1, 1, fun _ _ => steerBaud⟩,
  ⟨0x3411, 0, 1, 2, 1, fun _ _ => steerTemplate⟩,
  ⟨0x3411, 0, 1, 3, 1, fun _ _ => steerTplScale⟩,
  ⟨0x3411, 0, 1, 4, 1, fun _ _ => steerReplyPrefix⟩,
  ⟨0x3411, 0, 1, 5, 1, fun _ _ => steerReplyTimeout⟩,
  ⟨0x3411, 0, 1, 6, 1, fun _ _ => steerFailLimit⟩,
  ⟨0x3411, 0, 1, 7, 1, fun _ _ => steerTplLength⟩,
  ⟨0x3411, 0, 1, 8, 1, fun _ _ => steerLastReply⟩,
  ⟨0x3420, 0, 1, 1, 1, fun _ _ => oscModelState⟩,
  ⟨0x3420, 0, 1, 2, 1, fun _ _ => oscLearnedTime⟩]

/-- Address families of this file, part 2 (R57, R58). -/
def famsServo2 : List Family := [
  ⟨0x3420, 0, 1, 3, 1, fun _ _ => oscModelOffset⟩,
  ⟨0x3420, 0, 1, 4, 1, fun _ _ => oscModelDrift⟩,
  ⟨0x3420, 0, 1, 5, 1, fun _ _ => oscModelTempCoeff⟩,
  ⟨0x3420, 0, 1, 6, 1, fun _ _ => oscModelRefTemp⟩,
  ⟨0x3420, 0, 1, 7, 1, fun _ _ => oscModelEpoch⟩,
  ⟨0x3420, 0, 1, 8, 1, fun _ _ => oscSigmaOffset⟩,
  ⟨0x3420, 0, 1, 9, 1, fun _ _ => oscSigmaDrift⟩,
  ⟨0x3420, 0, 1, 10, 1, fun _ _ => oscSigmaTempCoeff⟩,
  ⟨0x3420, 0, 1, 11, 1, fun _ _ => oscLearnTime⟩,
  ⟨0x3420, 0, 1, 12, 1, fun _ _ => oscLearnWindow⟩,
  ⟨0x3420, 0, 1, 13, 1, fun _ _ => oscAgeingMax⟩,
  ⟨0x3420, 0, 1, 14, 1, fun _ _ => oscTempCoeffMax⟩,
  ⟨0x3420, 0, 1, 15, 1, fun _ _ => oscNoiseFloor⟩,
  ⟨0x3420, 0, 1, 16, 1, fun _ _ => oscFreqFloor⟩,
  ⟨0x3420, 0, 1, 17, 1, fun _ _ => oscTempSource⟩,
  ⟨0x3420, 0, 1, 18, 1, fun _ _ => oscHostTemp⟩,
  ⟨0x3420, 0, 1, 19, 1, fun _ _ => oscModelReset⟩,
  ⟨0x3420, 0, 1, 20, 1, fun _ _ => oscModelLimit⟩,
  ⟨0x3420, 0, 1, 21, 1, fun _ _ => oscTempExcursion⟩,
  ⟨0x3430, 0, 1, 1, 1, fun _ _ => holdoverCause⟩,
  ⟨0x3430, 0, 1, 2, 1, fun _ _ => holdoverStart⟩,
  ⟨0x3430, 0, 1, 3, 1, fun _ _ => holdoverGrowth⟩,
  ⟨0x3430, 0, 1, 4, 1, fun _ _ => holdoverRandom⟩,
  ⟨0x3430, 0, 1, 5, 1, fun _ _ => holdoverBoundLimit⟩,
  ⟨0x3430, 0, 1, 6, 1, fun _ _ => holdoverInSpec⟩]

/-- Address families of this file, part 3 (R57, R58). -/
def famsServo3 : List Family := [
  ⟨0x3430, 0, 1, 7, 1, fun _ _ => holdoverAnchor⟩,
  ⟨0x3430, 0, 1, 8, 1, fun _ _ => holdoverGuard⟩,
  ⟨0x3430, 0, 1, 9, 1, fun _ _ => holdoverCount⟩,
  ⟨0x3430, 0, 1, 10, 1, fun _ _ => holdoverTotalSeconds⟩,
  ⟨0x4000, 0, 1, 1, 1, fun _ _ => moscNominalFrequency⟩,
  ⟨0x4000, 0, 1, 2, 1, fun _ _ => apll0State⟩,
  ⟨0x4000, 0, 1, 3, 1, fun _ _ => apll0Source⟩,
  ⟨0x4000, 0, 1, 4, 1, fun _ _ => apll0Feedback⟩,
  ⟨0x4000, 0, 1, 5, 1, fun _ _ => apll0CpCurrent⟩,
  ⟨0x4000, 0, 1, 6, 1, fun _ _ => apll0LockCount⟩,
  ⟨0x4000, 0, 1, 7, 1, fun _ _ => apll0HoldCount⟩,
  ⟨0x4000, 0, 1, 8, 1, fun _ _ => apll0HoldSeconds⟩,
  ⟨0x4000, 0, 1, 9, 1, fun _ _ => outputsPermitted⟩,
  ⟨0x4010, 1, 4, 1, 1, fun n _ => apllEnable n⟩,
  ⟨0x4010, 1, 4, 2, 1, fun n _ => apllRefScale n⟩,
  ⟨0x4010, 1, 4, 3, 1, fun n _ => apllRefDivider n⟩,
  ⟨0x4010, 1, 4, 4, 1, fun n _ => apllFeedback n⟩,
  ⟨0x4010, 1, 4, 5, 1, fun n _ => apllBandwidth n⟩,
  ⟨0x4010, 1, 4, 6, 1, fun n _ => apllState n⟩,
  ⟨0x4010, 1, 4, 7, 1, fun n _ => apllVcoFrequency n⟩,
  ⟨0x4010, 1, 4, 8, 1, fun n _ => apllPfdFrequency n⟩,
  ⟨0x4010, 1, 4, 9, 1, fun n _ => apllLockLossCount n⟩,
  ⟨0x4010, 1, 4, 10, 1, fun n _ => apllRelease n⟩,
  ⟨0x4100, 0, 16, 1, 1, fun n _ => outEnable n⟩,
  ⟨0x4100, 0, 16, 2, 1, fun n _ => outApll n⟩]

/-- Address families of this file, part 4 (R57, R58). -/
def famsServo4 : List Family := [
  ⟨0x4100, 0, 16, 3, 1, fun n _ => outDivider n⟩,
  ⟨0x4100, 0, 16, 4, 1, fun n _ => outFormat n⟩,
  ⟨0x4100, 0, 16, 5, 1, fun n _ => outSwing n⟩,
  ⟨0x4100, 0, 16, 6, 1, fun n _ => outPhaseOffset n⟩,
  ⟨0x4100, 0, 16, 7, 1, fun n _ => outBoardDelay n⟩,
  ⟨0x4100, 0, 16, 8, 1, fun n _ => outTrack n⟩,
  ⟨0x4100, 0, 16, 9, 1, fun n _ => outTrackStep n⟩,
  ⟨0x4100, 0, 16, 10, 1, fun n _ => outMuteMode n⟩,
  ⟨0x4100, 0, 16, 11, 1, fun n _ => outHoldAction n⟩,
  ⟨0x4100, 0, 16, 12, 1, fun n _ => outStepAction n⟩,
  ⟨0x4100, 0, 16, 13, 1, fun n _ => outRealign n⟩,
  ⟨0x4100, 0, 16, 14, 1, fun n _ => outState n⟩,
  ⟨0x4100, 0, 16, 15, 1, fun n _ => outFrequency n⟩,
  ⟨0x4100, 0, 16, 16, 1, fun n _ => outAlignPeriod n⟩,
  ⟨0x4100, 0, 16, 17, 1, fun n _ => outCoarseSteps n⟩,
  ⟨0x4100, 0, 16, 18, 1, fun n _ => outFineDelay n⟩,
  ⟨0x4100, 0, 16, 19, 1, fun n _ => outAlignResidual n⟩,
  ⟨0x4100, 0, 16, 20, 1, fun n _ => outTrackLag n⟩,
  ⟨0x4100, 0, 16, 21, 1, fun n _ => outRealignCount n⟩,
  ⟨0x4100, 0, 16, 22, 1, fun n _ => outRelease n⟩,
  ⟨0x4200, 0, 4, 1, 1, fun n _ => plsEnable n⟩,
  ⟨0x4200, 0, 4, 2, 1, fun n _ => plsPolarity n⟩,
  ⟨0x4200, 0, 4, 3, 1, fun n _ => plsIdle n⟩,
  ⟨0x4200, 0, 4, 4, 1, fun n _ => plsWidth n⟩,
  ⟨0x4200, 0, 4, 5, 1, fun n _ => plsBoardDelay n⟩]

/-- Address families of this file, part 5 (R57, R58). -/
def famsServo5 : List Family := [
  ⟨0x4200, 0, 4, 6, 1, fun n _ => plsMode n⟩,
  ⟨0x4200, 0, 4, 7, 1, fun n _ => plsFollowRef n⟩,
  ⟨0x4200, 0, 4, 8, 1, fun n _ => plsFollowOffset n⟩,
  ⟨0x4200, 0, 4, 9, 1, fun n _ => plsFollowStepMax n⟩,
  ⟨0x4200, 0, 4, 10, 1, fun n _ => plsFollowState n⟩,
  ⟨0x4200, 0, 4, 11, 1, fun n _ => plsFollowApplied n⟩,
  ⟨0x4200, 0, 4, 12, 1, fun n _ => plsOwner n⟩,
  ⟨0x4200, 0, 4, 13, 1, fun n _ => plsCount n⟩,
  ⟨0x4200, 0, 4, 14, 1, fun n _ => plsSuppressCount n⟩,
  ⟨0x4200, 0, 4, 15, 1, fun n _ => plsRelease n⟩,
  ⟨0x4210, 0, 2, 1, 1, fun n _ => todEnable n⟩,
  ⟨0x4210, 0, 2, 2, 1, fun n _ => todPulse n⟩,
  ⟨0x4210, 0, 2, 3, 1, fun n _ => todBaud n⟩,
  ⟨0x4210, 0, 2, 4, 1, fun n _ => todLead n⟩,
  ⟨0x4210, 0, 2, 5, 1, fun n _ => todState n⟩,
  ⟨0x4210, 0, 2, 6, 1, fun n _ => todSequence n⟩,
  ⟨0x4210, 0, 2, 7, 1, fun n _ => todSentCount n⟩,
  ⟨0x4210, 0, 2, 8, 1, fun n _ => todSkipCount n⟩,
  ⟨0x4220, 0, 4, 1, 1, fun n _ => todInBaud n⟩,
  ⟨0x4220, 0, 4, 2, 1, fun n _ => todInGoodCount n⟩,
  ⟨0x4220, 0, 4, 3, 1, fun n _ => todInErrorCount n⟩,
  ⟨0x4220, 0, 4, 4, 1, fun n _ => todInLast n⟩]

/-- Every address family of this file. -/
def famsServo : List Family :=
  famsServo0 ++ famsServo1 ++ famsServo2 ++ famsServo3 ++ famsServo4 ++ famsServo5

end Dict
end Sys2Proof.Machine
end

