-- ==== Sys2Proof/Machine/Hidden.lean ====
section
/-!
DEFINITION. Internal registers: state the spec gives the device that no dictionary entry shows.

They live in the same register file as the dictionary, at indices from 0x10000 on, which no 16-bit address of a host
reaches (R58). Each has a width, a keep class and a reset value like an entry. Every reset value here is the model's
(DESIGN CHOICE, log entry 8): the spec describes the state in its rules and gives it no default column.
-/
namespace Sys2Proof.Machine
namespace Hid

/-- An internal register: group, unit and slot make its place. -/
def reg (group unit slot : Nat) (ty : Ty) (keep : Keep) (dflt : Nat) : Entry :=
  ⟨0x10000 + group * 0x1000 + unit, slot, ty, .observer, none, keep, dflt, .any⟩

/-- Place in the start sequence (R556, R606, R666, R668, R680): 0 held in reset, 1 powering, 2 tested, 3 filled, 4 counted, 5 in service, 6 Deep hold, 7 shut down. -/
def bootPhase : Entry := reg 0 0 0 (.u8) .v 0

/-- Domains at power-good, bits as LastResetDomains (R556). -/
def poweredDomains : Entry := reg 0 0 1 (.u16) .v 0

/-- Frame count at the first frame of time service (R685, R689). -/
def serviceFrame : Entry := reg 0 0 2 (.u64) .v 0

/-- Locked has been entered since the hold was imposed (R685). -/
def everLocked : Entry := reg 0 0 3 (.bool) .v 0

/-- An accepted DeviceReset waits for its Response to leave (R97). -/
def resetRequest : Entry := reg 0 0 4 (.u8) .v 0

/-- Frame of the acceptance of DeviceReset (R97). -/
def resetFrame : Entry := reg 0 0 9 (.u64) .v 0

/-- CT64 units into that frame (R97). -/
def resetOffset : Entry := reg 0 0 10 (.u64) .v 0

/-- Host SPI frames that leave before the Response to DeviceReset has left (R97). -/
def resetAhead : Entry := reg 0 0 11 (.u8) .v 0

/-- StartServiceRelease accepted; the hold ends at the next frame start (R685). -/
def releaseRequest : Entry := reg 0 0 5 (.bool) .v 0

/-- The duplicate counters have disagreed since the last reset of both (R105). -/
def dupMismatch : Entry := reg 1 0 0 (.bool) .v 0

/-- A clamp acted in the last frame (R104). -/
def clampEpisode : Entry := reg 1 0 1 (.bool) .v 0

/-- The slew backlog is above 3,600 s (R108). -/
def backlogEpisode : Entry := reg 1 0 2 (.bool) .v 0

/-- Differing UTC offset being reported (R116). -/
def utcCandidate : Entry := reg 1 0 3 (.i32) .v 0

/-- Reference reporting it (R116). -/
def utcCandidateRef : Entry := reg 1 0 4 (.u8) .v 255

/-- Consecutive frames in which it was reported (R116). -/
def utcCandidateFrames : Entry := reg 1 0 5 (.u32) .v 0

/-- Slots aborted in the frame being run, bit per slot (R44). -/
def abortedSlots : Entry := reg 1 0 6 (.u8) .v 0

/-- A set has applied and Locked has not been entered since (R113). -/
def setApplied : Entry := reg 1 0 7 (.bool) .v 0

/-- Frame count at which the last step or set applied (R112). -/
def jumpFrame : Entry := reg 1 0 8 (.u64) .v 0

/-- Targets counted since the arm, fired or missed (R121, R124). -/
def tmrTargets (n : Nat) : Entry := reg 1 n 9 (.u64) .v 0

/-- A pulse of TRGm is in progress (R127). -/
def trgHigh (n : Nat) : Entry := reg 7 n 17 (.bool) .v 0

/-- A pulse of PLSp is in progress (R275). -/
def plsHigh (n : Nat) : Entry := reg 7 n 18 (.bool) .v 0

/-- Instant of the trailing edge of the TRGm pulse in progress, plus one (R127). -/
def trgEnd (n : Nat) : Entry := reg 7 n 19 (.octets 12) .v 0

/-- Instant of the trailing edge of the PLSp pulse in progress, plus one (R271, R275). -/
def plsEnd (n : Nat) : Entry := reg 7 n 20 (.octets 12) .v 0

/-- What the pin of an output drives, by its code in OUTPUT_ACTIVITY_LOSS, coded as PinLevel.code: 2 undriven (R132, R266, R271). -/
def pinLevel (n : Nat) : Entry := reg 7 n 21 (.u8) .v 2

/-- Instant of the first grid edge after the last realignment of CKOn (R264, R266). -/
def outStart (n : Nat) : Entry := reg 7 n 22 (.octets 12) .v 0

/-- Instant of the start bit of the message that TODOm is sending, plus one; 0 none (R271, R281). -/
def todBegin (n : Nat) : Entry := reg 7 n 23 (.octets 16) .v 0

/-- Octets of that message that have started (R271). -/
def todNext (n : Nat) : Entry := reg 7 n 24 (.u8) .v 0

/-- The pair has read Quiet since its last raising (R630). -/
def evtArmed (n : Nat) : Entry := reg 2 n 0 (.bool) .k 1

/-- Fault injection in force on the source: mode (R650). -/
def injectMode (n : Nat) : Entry := reg 2 n 1 (.u8) .v 0

/-- Injections of the source still to make (R650). -/
def injectLeft (n : Nat) : Entry := reg 2 n 2 (.u8) .v 0

/-- Unit of the injection (R650). -/
def injectUnit (n : Nat) : Entry := reg 2 n 3 (.u8) .v 0

/-- Options bit Act of the injection (R650). -/
def injectAct (n : Nat) : Entry := reg 2 n 4 (.bool) .v 0

/-- Age of the device, in CT64 units, at the last isolation of the domain (R638). -/
def isolatedAt (n : Nat) : Entry := reg 2 n 5 (.u64) .k 0

/-- Age of the device at the isolation before that (R638). -/
def isolatedAt2 (n : Nat) : Entry := reg 2 n 6 (.u64) .k 0

/-- Isolations of the domain since its window began, up to 2 (R638). -/
def isolations (n : Nat) : Entry := reg 2 n 7 (.u8) .k 0

/-- Frame count at which the isolated domain is powered again (R638). -/
def restartDue (n : Nat) : Entry := reg 2 n 8 (.u64) .v 0

/-- A safe stop waits for the next S3, or holds (R640). -/
def safeStop : Entry := reg 2 0 9 (.bool) .v 0

/-- The Hand-over action has asked for a hand-over (R639). -/
def handOverWanted : Entry := reg 2 0 10 (.bool) .v 0

/-- TRGm is removed (R52). -/
def trgRemoved (n : Nat) : Entry := reg 2 n 11 (.bool) .v 0

/-- TODOm is removed (R52). -/
def todRemoved (n : Nat) : Entry := reg 2 n 12 (.bool) .v 0

/-- PLSp is removed (R52). -/
def plsRemoved (n : Nat) : Entry := reg 2 n 13 (.bool) .v 0

/-- Sources whose Hand-over action waits for the hand-over: bit n for source n (R639). -/
def handOverSource : Entry := reg 2 0 14 (.octets 16) .v 0

/-- Age of the device when EVT_Np was last driven low, in CT64 units (R648). -/
def evtLowAt (p : Nat) : Entry := reg 2 p 15 (.u64) .v 0

/-- A hand-over has been taken in the sample in hand (R641). -/
def sampleHandOver : Entry := reg 2 0 16 (.bool) .v 0

/-- Age of the device until which the pairs of a domain powered again read Masked (R631). -/
def unmaskAt (n : Nat) : Entry := reg 2 n 17 (.u64) .v 0

/-- Amount that the slew engine planned for the frame that runs, in 2^-56 ns (R107). -/
def slewDue : Entry := reg 1 0 24 (.i64) .v 0

/-- The same for the next frame (R107). -/
def slewDueNext : Entry := reg 1 0 25 (.i64) .v 0

/-- IncrementActive computed for the next frame (R103). -/
def incNext : Entry := reg 1 0 12 (.u64) .v 0xCCCCCCCCCCCCCD

/-- SlewIncrement computed for the next frame (R107). -/
def slewIncNext : Entry := reg 1 0 13 (.i64) .v 0

/-- RateTrim for the next frame (R103). -/
def trimNext : Entry := reg 1 0 14 (.frac64) .v 0

/-- Cycles of the frame that add one further unit (R107). -/
def slewExtra : Entry := reg 1 0 15 (.u64) .v 0

/-- The same for the next frame (R107). -/
def slewExtraNext : Entry := reg 1 0 16 (.u64) .v 0

/-- The slewed amount of the frame is negative (R107). -/
def slewBack : Entry := reg 1 0 17 (.bool) .v 0

/-- The same for the next frame (R107). -/
def slewBackNext : Entry := reg 1 0 18 (.bool) .v 0

/-- The servo's rate trim was clamped in this frame (R104). -/
def trimClamped : Entry := reg 1 0 19 (.bool) .v 0

/-- UTC offset that reference n reports, plus 2^31 + 1; 0 none (R115). -/
def utcReport (n : Nat) : Entry := reg 1 n 20 (.u64) .v 0

/-- Leap kind that reference n reports (R117). -/
def utcLeapKind (n : Nat) : Entry := reg 1 n 21 (.u8) .v 0

/-- Leap time that reference n reports (R117). -/
def utcLeapTime (n : Nat) : Entry := reg 1 n 22 (.time96) .v 0

/-- HostUtcOffset or UtcSource was written, or loaded at boot, since the host's offset was last taken (R115, R119). -/
def hostUtcFresh : Entry := reg 1 0 23 (.bool) .k 0

/-- NV work waiting for the NvWrite pass, bit per holder: 0 configuration, 1 keys, 2 audit checkpoint, 3 lifetime, 4 boot count, 5 shutdown, 6 Deep hold (R579). -/
def nvWanted : Entry := reg 14 0 0 (.u16) .v 0

/-- The shutdown asks for the Bist pass (R664). -/
def bistWanted : Entry := reg 14 0 1 (.bool) .v 0

/-- The scrubber asks for its pass (R612). -/
def scrubWanted : Entry := reg 14 0 2 (.bool) .v 0

/-- No pass is granted: an episode is in force or ended less than 8 frames ago (R578). -/
def supplyHold : Entry := reg 14 0 3 (.bool) .v 0

/-- Frame count at the end of the last supply episode (R578). -/
def episodeEndFrame : Entry := reg 14 0 4 (.u64) .v 0

/-- Frames for which e_sup is still added (R351, R578). -/
def supplyTermFrames : Entry := reg 14 0 5 (.u8) .v 0

/-- Rails now beyond a warning level (R576). -/
def railsBelow : Entry := reg 14 0 6 (.u16) .v 0

/-- Consecutive frames with every region below TjWarn − 5 °C (R582). -/
def coolFrames : Entry := reg 14 0 7 (.u32) .v 0

/-- Operating point whose voltage is commanded (R559, R560). -/
def opCommanded : Entry := reg 14 0 8 (.u8) .v 0

/-- Frame count of that command (R559). -/
def opCommandFrame : Entry := reg 14 0 9 (.u64) .v 0

/-- Consecutive frames in which a point met the load condition (R558). -/
def opDownFrames (p : Nat) : Entry := reg 14 p 10 (.u32) .v 0

/-- MoscReturn accepted; the return starts at the next frame start (R571). -/
def moscReturnWanted : Entry := reg 14 0 11 (.bool) .v 0

/-- Frame count at which MOSC became Qualified (R571). -/
def moscQualifiedFrame : Entry := reg 14 0 12 (.u64) .v 0

/-- Frame count, plus 1, at which XO was last started in time service (R565, R566). -/
def xoStartMark : Entry := reg 14 0 13 (.u64) .v 0

/-- Frame count, plus 1, at which XO failed in time service (R566). -/
def xoFailMark : Entry := reg 14 0 26 (.u64) .v 0

/-- Frame count, plus 1, at which SPLL began to lock in time service (R567). -/
def spllMark : Entry := reg 14 0 27 (.u64) .v 0

/-- Frame count, plus 1, of the last break of MOSC's qualification in time service (R569). -/
def moscBreak : Entry := reg 14 0 28 (.u64) .v 0

/-- Age of the device at the fall of SHDN_REQ_N, in CT64 units (R660). -/
def shutdownAge : Entry := reg 14 0 30 (.u64) .v 0

/-- Age of the device at the start of the last supply episode, in CT64 units (R578). -/
def episodeMark : Entry := reg 14 0 29 (.u64) .v 0

/-- A Deep hold request waits for its commits (R589, R591). -/
def deepHoldWanted : Entry := reg 14 0 14 (.bool) .v 0

/-- A Warm hold request waits for the next frame start (R589). -/
def warmHoldWanted : Entry := reg 14 0 15 (.bool) .v 0

/-- Coarse counter in CT64 units since the epoch (R587). -/
def coarse : Entry := reg 14 0 16 (.octets 16) .k 0

/-- Age of the device, in CT64 units, at its last load or change of clock (R587). -/
def coarseFrame : Entry := reg 14 0 17 (.u64) .k 0

/-- y_XO in force at its last load (R587). -/
def coarseRate : Entry := reg 14 0 18 (.frac64) .k 0

/-- Instant of the reset's release or of the wake, in µs of the boot clock (R689). -/
def bootMark : Entry := reg 14 0 19 (.u64) .v 0

/-- SHDN_REQ_N has fallen since the last reset (R586). -/
def shutdownPin : Entry := reg 14 0 20 (.bool) .v 0

/-- RESET_N is low (R583). -/
def resetPinLow : Entry := reg 14 0 21 (.bool) .v 0

/-- Frames for which the XO model has learned (R172, R569, R587). -/
def xoLearnFrames : Entry := reg 4 0 0 (.u64) .k 0

/-- Bin-width table of phase k of line n (channel × 2 + line), 64 counts (R157, R177). -/
def binTable (n k : Nat) : Entry := reg 4 (n * 8 + k) 1 (.octets 128) .v 0

/-- T_cal of the line's table in 0.001 °C (R147). -/
def tableTemp (n : Nat) : Entry := reg 4 n 2 (.i32) .v 0

/-- V_cal of the line's table in µV (R147). -/
def tableVolt (n : Nat) : Entry := reg 4 n 3 (.u32) .v 0

/-- Frame count at the end of the table's collection (R167). -/
def tableFrame (n : Nat) : Entry := reg 4 n 4 (.u64) .v 0

/-- The line's calibration under way: 0 collecting, 1 histogram checks passed, 2 failed (R157, R162). -/
def lineResult (n : Nat) : Entry := reg 4 n 5 (.u8) .v 0

/-- The line's collection was restarted (R160). -/
def lineRestarted (n : Nat) : Entry := reg 4 n 6 (.bool) .v 0

/-- Common stamps of the channel's overlap (R158). -/
def twinCount (n : Nat) : Entry := reg 4 n 7 (.u32) .v 0

/-- Sum of their differences in fs (R158). -/
def twinSum (n : Nat) : Entry := reg 4 n 8 (.i64) .v 0

/-- Largest difference in fs (R158). -/
def twinMax (n : Nat) : Entry := reg 4 n 9 (.u64) .v 0

/-- Twin check of the overlap: 0 undecided, 1 passed, 2 failed (R158). -/
def twinState (n : Nat) : Entry := reg 4 n 10 (.u8) .v 0

/-- Calibrations failed in a row (R161). -/
def calFailRun (n : Nat) : Entry := reg 4 n 11 (.u8) .v 0

/-- Centre of the tracking window (R148), in CT64 units. -/
def winCentre (n : Nat) : Entry := reg 4 n 12 (.octets 16) .v 0

/-- Centre of the last window that accepted an edge, plus one (R150). -/
def winTaken (n : Nat) : Entry := reg 4 n 13 (.octets 16) .v 0

/-- Consecutive misses (R151). -/
def missRun (n : Nat) : Entry := reg 4 n 14 (.u16) .v 0

/-- Prescaler count (R152). -/
def prescaleCount (n : Nat) : Entry := reg 4 n 15 (.u32) .v 0

/-- The next accepted edge clears the prescaler (R152). -/
def prescaleArmed (n : Nat) : Entry := reg 4 n 16 (.bool) .v 1

/-- Instant of the line's last stop, for the dead time (R146). -/
def lastStop (n : Nat) : Entry := reg 4 n 17 (.octets 16) .v 0

/-- Edges accepted with stamps in the frame (R153). -/
def frameEdges (n : Nat) : Entry := reg 4 n 18 (.u16) .v 0

/-- Source 20 was raised in this frame (R153). -/
def overflowed (n : Nat) : Entry := reg 4 n 19 (.bool) .v 0

/-- Strays in this TAI second (R154). -/
def secondStrays (n : Nat) : Entry := reg 4 n 20 (.u32) .v 0

/-- Source 19 was raised in this second (R154). -/
def strayRaised (n : Nat) : Entry := reg 4 n 21 (.bool) .v 0

/-- The next stamp follows a reassignment (R145). -/
def movedMark (n : Nat) : Entry := reg 4 n 22 (.bool) .v 0

/-- The region's temperature is valid in this frame (R163). -/
def regionValid (n : Nat) : Entry := reg 4 n 23 (.bool) .v 1

/-- Consecutive frames of the pair at or below 24.0 °C (R165). -/
def pairCalm (n : Nat) : Entry := reg 4 n 24 (.u8) .v 0

/-- t0 of the XO model (R172). -/
def xoModelTime : Entry := reg 4 0 25 (.time96) .v 0

/-- T0 of the XO model in 0.001 °C (R172). -/
def xoModelTemp : Entry := reg 4 0 26 (.i32) .v 0

/-- Consecutive seconds outside XoModelLimit (R174). -/
def xoBadSeconds : Entry := reg 4 0 27 (.u16) .v 0

/-- Consecutive seconds within limits (R174). -/
def xoGoodSeconds : Entry := reg 4 0 28 (.u16) .v 64

/-- The XO model fault is in force (R174). -/
def xoFaultActive : Entry := reg 4 0 29 (.bool) .v 0

/-- Seconds in the open daily mean (R172). -/
def xoDayCount : Entry := reg 4 0 30 (.u32) .v 0

/-- Day of the open daily mean of y_m, plus one; 0 none open (R172). -/
def xoDay : Entry := reg 4 0 31 (.u32) .v 0

/-- TAI second of the last XO stamp, plus one (R171). -/
def xoSeen : Entry := reg 4 0 32 (.u64) .v 0

/-- Sum of T_C over the frames read, for CENTRE (0) and EAST (1) in 0.001 °C (R147). -/
def tempSum (r : Nat) : Entry := reg 4 r 33 (.i64) .v 0

/-- Sum of V_C over the frames read, for CENTRE and EAST in µV (R147). -/
def voltSum (r : Nat) : Entry := reg 4 r 34 (.u64) .v 0

/-- Frames read since the sums began (R147). -/
def readCount : Entry := reg 4 0 35 (.u64) .v 0

/-- tempSum of the line's region when its collection started (R147). -/
def tempBase (n : Nat) : Entry := reg 4 n 36 (.i64) .v 0

/-- voltSum of the line's region when its collection started (R147). -/
def voltBase (n : Nat) : Entry := reg 4 n 37 (.u64) .v 0

/-- readCount when the line's collection started (R147). -/
def readBase (n : Nat) : Entry := reg 4 n 38 (.u64) .v 0

/-- Frame count at which the line's collection started (R157). -/
def lineStart (n : Nat) : Entry := reg 4 n 39 (.u64) .v 0

/-- Edges accepted with stamps in the frame before (R153). -/
def prevEdges (n : Nat) : Entry := reg 4 n 40 (.u16) .v 0

/-- Source 20 was raised for the frame before (R153). -/
def prevOverflow (n : Nat) : Entry := reg 4 n 41 (.bool) .v 0

/-- TAI second whose strays are counted, plus one (R154). -/
def straySecond (n : Nat) : Entry := reg 4 n 42 (.u64) .v 0

/-- Centre of the last fixed window that closed with a miss, plus one (R150). -/
def winMissed (n : Nat) : Entry := reg 4 n 43 (.octets 16) .v 0

/-- Frame start of the channel's last swap (R159). -/
def swapAt (n : Nat) : Entry := reg 4 n 44 (.octets 12) .v 0

/-- The channel has left service and its source has not moved yet (R144). -/
def vacate (n : Nat) : Entry := reg 4 n 45 (.bool) .v 0

/-- Origin of the grid of reference n, an instant plus one; 0 not set (R183). -/
def refOrigin (n : Nat) : Entry := reg 5 n 0 (.octets 16) .v 0

/-- Measurements since the filter of reference n was restarted, up to 2 (R186, R187). -/
def refCount (n : Nat) : Entry := reg 5 n 1 (.u8) .v 0

/-- Time of the last measurement used by the filter (R186). -/
def refLast (n : Nat) : Entry := reg 5 n 2 (.octets 16) .v 0

/-- Time of the last activity of reference n, plus one; 0 none (R189). -/
def refSeen (n : Nat) : Entry := reg 5 n 3 (.octets 16) .v 0

/-- Time of its last unauthenticated measurement or Sync, plus one; 0 none (R189). -/
def refUnauth (n : Nat) : Entry := reg 5 n 4 (.octets 16) .v 0

/-- Granted Sync interval of NREF reference n in CT64 units (R189, R445). -/
def refPeriod (n : Nat) : Entry := reg 5 n 5 (.u64) .v 65536000000000

/-- Consecutive frames of K0 without a transfer result (R189). -/
def refNoResult (n : Nat) : Entry := reg 5 n 6 (.u16) .v 0

/-- A measurement arrived in this frame. -/
def refGot (n : Nat) : Entry := reg 5 n 7 (.bool) .v 0

/-- A measurement of this frame failed the phase-step test (R189). -/
def refStepNow (n : Nat) : Entry := reg 5 n 8 (.bool) .v 0

/-- The filter restarts at the next measurement (R190). -/
def refAwait (n : Nat) : Entry := reg 5 n 9 (.bool) .v 0

/-- Frame count at the last entry to Waiting, plus one (R189). -/
def refWaitFrame (n : Nat) : Entry := reg 5 n 10 (.u64) .v 0

/-- Time at which the Waiting timer expires (R195). -/
def refDeadline (n : Nat) : Entry := reg 5 n 11 (.octets 16) .v 0

/-- The reference reached Qualified while the open window was open (R197). -/
def refInWindow (n : Nat) : Entry := reg 5 n 12 (.bool) .v 0

/-- Consecutive seconds without a valid ToD companion (R189). -/
def refMissSeconds (n : Nat) : Entry := reg 5 n 13 (.u16) .v 0

/-- A valid companion was used in this second (R189). -/
def refTodGood (n : Nat) : Entry := reg 5 n 14 (.bool) .v 0

/-- The last measured offset was 0.5 s or more (R189). -/
def refBigX (n : Nat) : Entry := reg 5 n 15 (.bool) .v 0

/-- Time at which the reference last became Selected (R211). -/
def refSelectedAt (n : Nat) : Entry := reg 5 n 16 (.octets 16) .v 0

/-- Random term that came with the last measurement, in fs (R187). -/
def refUpRandom (n : Nat) : Entry := reg 5 n 17 (.u64) .v 0

/-- Drift limit crossed in this frame: window plus one; 0 none (R213). -/
def refDriftFail (n : Nat) : Entry := reg 5 n 18 (.u8) .v 0

/-- Statistic that crossed it, coded as R722. -/
def refDriftStat (n : Nat) : Entry := reg 5 n 19 (.u8) .v 0

/-- Value of that statistic (R722). -/
def refDriftValue (n : Nat) : Entry := reg 5 n 20 (.i32) .v 0

/-- Activity of the reference was seen in this frame, whether or not its filter took the measurement (R189). -/
def refHeard (n : Nat) : Entry := reg 5 n 51 (.bool) .v 0

/-- Time of the reference's last measurement that was authenticated, plus one; 0 none (R189). -/
def refAuthSeen (n : Nat) : Entry := reg 5 n 52 (.octets 16) .v 0

/-- Time of its last measurement discarded as unauthenticated, plus one; 0 none (R189). -/
def refBadSeen (n : Nat) : Entry := reg 5 n 53 (.octets 16) .v 0

/-- The pending step or set removes the build-out, as the recovery decision requested it (R230). -/
def recovering : Entry := reg 5 0 54 (.bool) .v 0

/-- The K0 port's link is up (R189, R512). -/
def k0Up : Entry := reg 5 0 21 (.bool) .v 0

/-- The basis of the open window is the old reference (R203, R204). -/
def basisOld : Entry := reg 5 0 22 (.bool) .v 0

/-- A handover window closed in this frame (R221, R230). -/
def windowClosed : Entry := reg 5 0 23 (.bool) .v 0

/-- B moves in this frame (R206, R223). -/
def resolving : Entry := reg 5 0 24 (.bool) .v 0

/-- A phase is followed (R202, R223). -/
def followValid : Entry := reg 5 0 25 (.bool) .v 0

/-- Loss of Selection found in this S2: 0 none, 1 loss, 5 after an abandon (R200, R205). -/
def lossReason : Entry := reg 5 0 26 (.u8) .v 0

/-- Consecutive frames above ServoUnlockPhase (R221). -/
def unlockFrames : Entry := reg 6 0 0 (.u8) .v 0

/-- Frames of the dwell still to run (R228). -/
def dwellFrames : Entry := reg 6 0 1 (.u32) .v 0

/-- A set was applied at this frame start (R221). -/
def setAppliedNow : Entry := reg 6 0 2 (.bool) .v 0

/-- Command MOSC last received (R224). -/
def uHeld : Entry := reg 6 0 3 (.frac64) .v 0

/-- The rate trim was clamped in the last frame (R226). -/
def trimSaturated : Entry := reg 6 0 4 (.bool) .v 0

/-- S3 was aborted: growth of one frame is owed (R45). -/
def holdoverKept : Entry := reg 6 0 5 (.bool) .v 0

/-- Frame count at the last write of OscHostTemp, plus one (R239). -/
def hostTempFrame : Entry := reg 6 0 6 (.u64) .v 0

/-- Consecutive blocks outside OscModelLimit (R242). -/
def oscBadBlocks : Entry := reg 6 0 7 (.u8) .v 0

/-- An episode of saturation is in force (R226). -/
def saturated : Entry := reg 6 0 8 (.bool) .v 0

/-- A reply is expected (R238). -/
def steerReplyDue : Entry := reg 6 0 9 (.bool) .v 0

/-- Consecutive good replies in Fault (R238). -/
def steerGood : Entry := reg 6 0 10 (.u8) .v 0

/-- Consecutive failures (R238). -/
def steerBad : Entry := reg 6 0 11 (.u8) .v 0

/-- c is fitted in the present window (R241); kept with the model. -/
def permanentC : Entry := reg 6 0 12 (.bool) .k 0

/-- Rate trim is forced by a steering fault or by APLL0 running from XO (R225). -/
def trimForced : Entry := reg 6 0 15 (.bool) .v 0

/-- Standard deviation of the oscillator's block residuals (R242); kept with the model. -/
def blockSigma : Entry := reg 6 0 16 (.frac64) .k 0

/-- The stage whose gains the loop uses in this frame (R228). -/
def gainStage : Entry := reg 6 0 17 (.u8) .v 0

/-- Frame count at the last oscillator fit, plus one (R240). -/
def fitAt : Entry := reg 6 0 18 (.u64) .v 0

/-- Frames since entry to Holdover (R244). -/
def holdFrames : Entry := reg 6 0 13 (.u64) .v 0

/-- HoldoverInSpec was false in the last frame (R245). -/
def holdoverOut : Entry := reg 6 0 14 (.bool) .v 0

/-- Time at which the last valid message of TODIn completed, plus one; 0 none (R184, R284). -/
def todAt (n : Nat) : Entry := reg 5 n 27 (.octets 16) .v 0

/-- Time the message names (R183, R282). -/
def todPulse (n : Nat) : Entry := reg 5 n 28 (.time96) .v 0

/-- Its quantisation field in fs (R183, R282). -/
def todQuantisation (n : Nat) : Entry := reg 5 n 29 (.i32) .v 0

/-- K0 carries the unit's own time back and is no comparator (R536). -/
def k0Own : Entry := reg 5 0 30 (.bool) .v 0

/-- MoscNominalFrequency taken at the last reset that reached TIME (R254). -/
def moscFreq : Entry := reg 5 0 31 (.u32) .v 10000000

/-- XoNominalFrequency of the coming configuration, until it is applied (R94, R255, R565). -/
def xoFreq : Entry := reg 5 0 55 (.u32) .v 50000000

/-- APLL0 is Locking from VCO hold (R257). -/
def apll0FromHold : Entry := reg 5 0 32 (.bool) .v 0

/-- The last relock failed; the next qualification is awaited (R257). -/
def apll0Wait : Entry := reg 5 0 33 (.bool) .v 0

/-- Frame count at the last entry to VCO hold. -/
def apll0HoldFrame : Entry := reg 5 0 34 (.u64) .v 0

/-- APLL0 has entered VCO hold since the last S5 (R258, R347). -/
def apll0Held : Entry := reg 5 0 50 (.bool) .v 0

/-- The VCO hold is the one frame of a return to MOSC (R257, R571). -/
def apll0Returning : Entry := reg 5 0 35 (.bool) .v 0

/-- Frames of VCO hold in the open second (R286). -/
def apll0HoldTicks : Entry := reg 5 0 36 (.u32) .v 0

/-- The APLL is Locking after a calibration, not from Hold or a lock loss (R261). -/
def apllFromCal (n : Nat) : Entry := reg 7 n 0 (.bool) .v 0

/-- The APLL is Locking from Hold (R272). -/
def apllFromHold (n : Nat) : Entry := reg 7 n 1 (.bool) .v 0

/-- Frame count at the last entry to Hold, plus one (R274). -/
def apllHoldFrame (n : Nat) : Entry := reg 7 n 2 (.u64) .v 0

/-- The output realigns at the next frame start at which it can (R265). -/
def outRealign (n : Nat) : Entry := reg 7 n 3 (.bool) .v 0

/-- The episode of source 61 is in force (R269). -/
def outLagged (n : Nat) : Entry := reg 7 n 4 (.bool) .v 0

/-- OutPhaseOffset that the demand already holds (R267). -/
def outOffsetSeen (n : Nat) : Entry := reg 7 n 5 (.span64) .v 0

/-- OutBoardDelay that the demand already holds (R267). -/
def outBoardSeen (n : Nat) : Entry := reg 7 n 6 (.span64) .v 0

/-- The episode of source 62 kind 0x01 is in force (R278). -/
def plsFollowEpisode (n : Nat) : Entry := reg 7 n 7 (.bool) .v 0

/-- F last frozen for the pulse output (R277). -/
def plsF (n : Nat) : Entry := reg 7 n 8 (.span64) .v 0

/-- F has been frozen since the output entered follow mode (R277). -/
def plsSeen (n : Nat) : Entry := reg 7 n 9 (.bool) .v 0

/-- The pulse that the rendered message names: four times its target, plus its output (R279). -/
def todTarget (n : Nat) : Entry := reg 7 n 10 (.octets 16) .v 0

/-- DiscontinuityCount when the message was rendered, plus one (R282). -/
def todDiscAt (n : Nat) : Entry := reg 7 n 11 (.u64) .v 0

/-- Instant of the start bit of the rendered message, plus one; 0 none (R281). -/
def todReady (n : Nat) : Entry := reg 7 n 13 (.octets 16) .v 0

/-- The rendered message (R282). -/
def todMessage (n : Nat) : Entry := reg 7 n 14 (.octets 48) .v 0

/-- DiscontinuityCount in the previous message sent, plus one; 0 none sent (R282). -/
def todDisc (n : Nat) : Entry := reg 7 n 15 (.u64) .v 0

/-- y_MT: MOSC against TCLK while APLL0 runs from XO, mean of 64 frames (R267, R569). -/
def moscOffset : Entry := reg 7 0 16 (.frac64) .v 0

/-- TODIn searches for Sync (R284). -/
def todSearch (n : Nat) : Entry := reg 5 n 37 (.bool) .v 1

/-- OutputsPermitted has been true since the last reset (R535). -/
def everPermitted : Entry := reg 5 0 47 (.bool) .v 0

/-- QOP access keys, by index, exhausted in this frame (R499). -/
def keyEnds : Entry := reg 12 0 40 (.u8) .v 0

/-- Instant of the last leap, in CT64 units plus one; 0 none (R118, R451). -/
def leapAt : Entry := reg 5 0 48 (.octets 16) .v 0

/-- UtcOffset before the last leap (R118, R451). -/
def leapOffset : Entry := reg 5 0 49 (.i32) .v 0

/-- Device states entered since the last S5, a bit per code (R347, R349). -/
def boundEntered : Entry := reg 9 0 0 (.u8) .v 0

/-- A handover window has closed since the last S5 (R347). -/
def boundWindow : Entry := reg 9 0 1 (.bool) .v 0

/-- Cause 0x01 of R349 holds. -/
def boundCause1 : Entry := reg 9 0 2 (.bool) .v 1

/-- Cause 0x04 of R349 holds. -/
def boundWake : Entry := reg 9 0 3 (.bool) .v 0

/-- Systematic terms that were unbounded in the last S5, a bit per term (R345). -/
def termInfinite : Entry := reg 9 0 4 (.u8) .v 0

/-- Time of the last measurement used (R344). -/
def termTime : Entry := reg 9 0 5 (.octets 16) .v 0

/-- Frames outside windows since the last entry to Acquire (R343). -/
def acquireSeen : Entry := reg 9 0 6 (.u32) .v 0

/-- The episode of source 81 is in force (R357). -/
def boundAlarm : Entry := reg 9 0 7 (.bool) .v 0

/-- Consecutive frames at or below 90 % of BoundAlarmLimit (R357). -/
def boundCalm : Entry := reg 9 0 8 (.u8) .v 0

/-- The former Active's last bound, at a takeover (R356). -/
def takeoverBound : Entry := reg 9 0 9 (.u32) .v 0

/-- e_ref + e_meas as published (R366). -/
def pubRef : Entry := reg 9 0 10 (.u32) .v 0

/-- e_bo + e_drift as published (R366). -/
def pubBuild : Entry := reg 9 0 11 (.u32) .v 0

/-- e_srv + e_gap as published (R366). -/
def pubServo : Entry := reg 9 0 12 (.u32) .v 0

/-- The TermHold of R366 as published. -/
def pubHold : Entry := reg 9 0 13 (.u32) .v 0

/-- e_sup as published (R366). -/
def pubEnv : Entry := reg 9 0 14 (.u32) .v 0

/-- e_rgn applied to ports, a bit per port, bit 6 any output, bit 7 R168 on the measuring channel (R364, R366). -/
def pubRegion : Entry := reg 9 0 15 (.u8) .v 0

/-- The second being recorded, plus one; 0 none (R366). -/
def auditSecond : Entry := reg 9 0 16 (.u64) .v 0

/-- Flags [7:3] of the open record (R366). -/
def auditFlags : Entry := reg 9 0 17 (.u8) .v 0

/-- Smallest bound published in the second. -/
def auditMin : Entry := reg 9 0 18 (.u32) .v 0xFFFFFFFF

/-- Largest bound published in the second. -/
def auditMax : Entry := reg 9 0 19 (.u32) .v 0

/-- TermRef to RandomRss in the first frame that published BoundMax. -/
def auditTerms (n : Nat) : Entry := reg 9 n 20 (.u32) .v 0

/-- Largest bound carried by a message in the second. -/
def auditEgress : Entry := reg 9 0 21 (.u32) .v 0

/-- DiscontinuityCount at the second's start. -/
def auditDisc : Entry := reg 9 0 22 (.u32) .v 0

/-- Sequence of the last stored keyed record (R366, R367). -/
def auditKeyed : Entry := reg 9 0 23 (.u32) .k 0

/-- KeyGeneration of the last stored keyed record. -/
def auditKeyedGen : Entry := reg 9 0 24 (.u8) .k 0

/-- The next record is a restart record (R369). -/
def auditRestart : Entry := reg 9 0 25 (.bool) .k 0

/-- Seconds since the last checkpoint (R369). -/
def auditClock : Entry := reg 9 0 26 (.u16) .v 0

/-- Frame count at the last change of GsClockState (R296, R301). -/
def gsSince (n : Nat) : Entry := reg 8 n 0 (.u64) .v 0

/-- Frame count at the last condition of R296, plus one. -/
def gsBadAt (n : Nat) : Entry := reg 8 n 1 (.u64) .v 0

/-- Milliseconds of samples counted by the band's clock (R295). -/
def gsIndex (n : Nat) : Entry := reg 8 n 2 (.u64) .v 0

/-- Last stamp of the sample clock, plus one. -/
def gsLast (n : Nat) : Entry := reg 8 n 3 (.octets 16) .v 0

/-- Count at the open second's first stamp (R296). -/
def gsMarkIndex (n : Nat) : Entry := reg 8 n 4 (.u64) .v 0

/-- That stamp, plus one. -/
def gsMarkTime (n : Nat) : Entry := reg 8 n 5 (.octets 16) .v 0

/-- GnssRelease was accepted (R301). -/
def gnssReleaseWanted : Entry := reg 8 0 6 (.bool) .v 0

/-- GnssSurveyRestart was accepted (R301). -/
def gnssRestartWanted : Entry := reg 8 0 7 (.bool) .v 0

/-- A solution was formed since the last evaluation (R301). -/
def gnssSolved : Entry := reg 8 0 8 (.bool) .v 0

/-- Last position check: 0 none, 1 passed, 2 failed (R314). -/
def gnssPosResult : Entry := reg 8 0 9 (.u8) .v 0

/-- Consecutive checks passed in Suspended (R301). -/
def gnssPosRun : Entry := reg 8 0 10 (.u8) .v 0

/-- Seconds without a signal tracked (R301). -/
def gnssQuietSeconds : Entry := reg 8 0 11 (.u8) .v 0

/-- The survey has completed (R303). -/
def surveyDone : Entry := reg 8 0 12 (.bool) .v 0

/-- Consecutive epochs withheld by the clock checks (R330). -/
def clockBad : Entry := reg 8 0 13 (.u32) .v 0

/-- Consecutive epochs that passed them (R330). -/
def clockGood : Entry := reg 8 0 14 (.u32) .v 0

/-- Kind of the broadcast leap last reported (R310). -/
def leapSeen : Entry := reg 8 0 15 (.u8) .v 0

/-- Public keys that an OSNMA message has revoked, by identifier (R319). -/
def revokedKeys : Entry := reg 8 0 26 (.u64) .v 0

/-- TESLA chains that an OSNMA message has revoked, by identifier (R319). -/
def revokedChains : Entry := reg 8 0 27 (.u64) .v 0

/-- Its LeapTime in TAI seconds (R310). -/
def leapSeenAt : Entry := reg 8 0 23 (.u64) .v 0

/-- The start that entry to Acquiring found (R300): 0 cold, 1 warm, 2 hot. -/
def gnssStart : Entry := reg 8 0 24 (.u8) .v 0

/-- Frame count plus one at which the 64 s of the next position check began (R314). -/
def posCheckFrom : Entry := reg 8 0 25 (.u64) .v 0

/-- Consecutive seconds at or above GnssJamLimit (R326). -/
def jamHigh (n : Nat) : Entry := reg 8 n 16 (.u8) .v 0

/-- Consecutive seconds below GnssJamWarn less 1 dB (R326). -/
def jamLow (n : Nat) : Entry := reg 8 n 17 (.u8) .v 0

/-- Seconds counted into the learned reference (R325). -/
def jamSeconds (n : Nat) : Entry := reg 8 n 18 (.u32) .v 0

/-- NMA status last received: 0 none, 1 test, 2 operational, 3 don't use (R319). -/
def osnmaStatus : Entry := reg 8 0 19 (.u8) .v 0

/-- The chain needs a function that is not supported (R318). -/
def osnmaBad : Entry := reg 8 0 20 (.bool) .v 0

/-- The episode of source 76 is in force (R322). -/
def osnmaTimeLost : Entry := reg 8 0 21 (.bool) .v 0

/-- GnssOsnmaAuthSats was non-zero (R320). -/
def osnmaHad : Entry := reg 8 0 22 (.bool) .v 0

/-- U_trust in ns (R321). -/
def trustNs : Entry := reg 16 0 0 (.u64) .k 0

/-- U_trust has been set since the K state was lost (R321). -/
def trustKnown : Entry := reg 16 0 1 (.bool) .k 0

/-- Navigation data kept: bit 0 almanac, 1 ephemerides, 2 ionospheric and UTC parameters (R300). -/
def gnssKept : Entry := reg 16 0 2 (.u8) .k 0

/-- TAI second of the last epoch with current ephemerides (R300). -/
def ephemerisAt : Entry := reg 16 0 10 (.u64) .k 0

/-- Frame count at the last close of a handover window, plus one (R329). -/
def windowClosedAt : Entry := reg 5 0 38 (.u64) .v 0

/-- Frame count at which APLL0 last left VCO hold, plus one (R329). -/
def vcoLeftAt : Entry := reg 5 0 39 (.u64) .v 0

/-- Frame count at the last key store commit's completion, plus one (R483). -/
def keyDone : Entry := reg 16 0 3 (.u64) .v 0

/-- Image position of the current bank (R480). -/
def keyPosition : Entry := reg 16 0 4 (.u8) .k 0

/-- A key store commit was lost in a reset (R482). -/
def keyLost : Entry := reg 16 0 5 (.bool) .k 0

/-- KeyRederiveAll was accepted (R488). -/
def rederiveWanted : Entry := reg 16 0 6 (.bool) .v 0

/-- SessionId that bound the exception path; 0 none (R407). -/
def excSession : Entry := reg 16 0 7 (.u16) .v 0

/-- The reference's last measurement was authenticated (R321, R364). -/
def refAuth (n : Nat) : Entry := reg 5 n 40 (.bool) .v 0

/-- The reference last Selected (R321). -/
def lastRef : Entry := reg 5 0 41 (.u8) .v 0xFF

/-- Signal and every lock of the port are present and hi_ber is not (R390). -/
def portLocked (n : Nat) : Entry := reg 10 n 0 (.bool) .v 0

/-- Instant of the last change of that, plus one (R390). -/
def portLockAt (n : Nat) : Entry := reg 10 n 1 (.octets 16) .v 0

/-- The port is in hi_ber (R419). -/
def portHiBer (n : Nat) : Entry := reg 10 n 3 (.bool) .v 0

/-- Calibrations that failed since entry to Calibrating (R386). -/
def portCalTry (n : Nat) : Entry := reg 10 n 4 (.u8) .v 0

/-- Instant at which the calibration under way began, plus one (R385). -/
def portCalAt (n : Nat) : Entry := reg 10 n 2 (.octets 16) .v 0

/-- Source 87 was raised since the last calibration (R389). -/
def portAged (n : Nat) : Entry := reg 10 n 5 (.bool) .v 0

/-- PortMode and PortFec in force, plus one (R390). -/
def portConfig (n : Nat) : Entry := reg 10 n 6 (.u16) .v 0

/-- Instant to which commits of priority k are stopped (R396). -/
def pauseUntil (n k : Nat) : Entry := reg 10 (n * 8 + k) 7 (.octets 16) .v 0

/-- Instant at which the unbroken stop began, plus one (R397). -/
def pauseSince (n : Nat) : Entry := reg 10 n 8 (.octets 16) .v 0

/-- Instant to which PausedTime has been counted, plus one. -/
def pauseMark (n : Nat) : Entry := reg 10 n 9 (.octets 16) .v 0

/-- Source 91 was raised in this stop (R397). -/
def pauseLong (n : Nat) : Entry := reg 10 n 10 (.bool) .v 0

/-- Second, plus one, of the last raising of a source raised at most once per second: place n. -/
def raisedSecond (n : Nat) : Entry := reg 10 n 11 (.u64) .v 0

/-- Second, plus one, of the counts below (R408). -/
def excSecond (n : Nat) : Entry := reg 10 n 12 (.u64) .v 0

/-- Frames sent to the host in that second. -/
def excSent (n : Nat) : Entry := reg 10 n 13 (.u32) .v 0

/-- Frames accepted from the host in that second. -/
def excTaken (n : Nat) : Entry := reg 10 n 14 (.u32) .v 0

/-- Instant of the last valid ESMC PDU or of entry to Up, plus one (R410). -/
def esmcAt (n : Nat) : Entry := reg 10 n 15 (.octets 16) .v 0

/-- QL received, plus one, that takes effect in the next frame (R410). -/
def esmcNext (n : Nat) : Entry := reg 10 n 16 (.u32) .v 0

/-- The port transmits a QL (R411). -/
def esmcSending (n : Nat) : Entry := reg 10 n 17 (.bool) .v 0

/-- Second, plus one, of the last information PDU (R412). -/
def esmcSecond (n : Nat) : Entry := reg 10 n 18 (.u64) .v 0

/-- Line n of the PCTs (PCT × 2 + line, WEST 0): 0 collecting, 1 passed, 2 failed. -/
def pctResult (n : Nat) : Entry := reg 10 n 19 (.u8) .v 0

/-- Frame count at which a PCT line's collection began (R157). -/
def pctStart (n : Nat) : Entry := reg 10 n 27 (.u64) .v 0

/-- Calibrations of the PCT that failed in a row. -/
def pctFailRun (n : Nat) : Entry := reg 10 n 20 (.u8) .v 0

/-- The PCT has left Measuring and source 86 was raised (R386). -/
def pctLeft (n : Nat) : Entry := reg 10 n 21 (.bool) .v 0

/-- Frame count, plus one, of the budget counters below (R459). -/
def protoFrame : Entry := reg 11 0 0 (.u64) .v 0

/-- Pipeline messages admitted in the frame (R459). -/
def protoMsgs : Entry := reg 11 0 1 (.u32) .v 0

/-- HMAC blocks admitted in the frame (R459). -/
def protoHmac : Entry := reg 11 0 2 (.u32) .v 0

/-- AES blocks admitted in the frame (R459). -/
def protoAes : Entry := reg 11 0 3 (.u32) .v 0

/-- Second, plus one, of the count below (R466). -/
def protoSecond : Entry := reg 11 0 4 (.u64) .v 0

/-- Messages of that second (R466). -/
def protoSecondMsgs : Entry := reg 11 0 5 (.u32) .v 0

/-- Global frame after which an interval must start for its message to be sent, plus one (R434, R685). -/
def serveFrom : Entry := reg 5 0 42 (.u64) .v 0

/-- Second, plus one, of the count below: instance n, port k (R437). -/
def mcastSecond (n k : Nat) : Entry := reg 11 (n * 8 + k) 6 (.u64) .v 0

/-- Multicast Delay_Req answered in that second (R437). -/
def mcastCount (n k : Nat) : Entry := reg 11 (n * 8 + k) 7 (.u32) .v 0

/-- Announce interval, plus one, already authenticated for instance n and port k (R456). -/
def announceMade (n k : Nat) : Entry := reg 11 (n * 8 + k) 8 (.u64) .v 0

/-- Interval in force until syncFrom; 0x7F none (R432). -/
def syncOld (n : Nat) : Entry := reg 11 n 9 (.i32) .k 127

/-- Its base. -/
def syncOldBase (n : Nat) : Entry := reg 11 n 10 (.u16) .k 0

/-- Global frame from which the new Sync interval is in force (R432, R433). -/
def syncFrom (n : Nat) : Entry := reg 11 n 11 (.u64) .k 0

/-- InstLogSync in force, to see its change; 0x7F none yet (R432). -/
def syncLog (n : Nat) : Entry := reg 11 n 12 (.i32) .k 127

/-- As syncOld, for Announce. -/
def announceOld (n : Nat) : Entry := reg 11 n 13 (.i32) .k 127

/-- Its base. -/
def announceOldBase (n : Nat) : Entry := reg 11 n 14 (.u16) .k 0

/-- As syncFrom, for Announce. -/
def announceFrom (n : Nat) : Entry := reg 11 n 15 (.u64) .k 0

/-- As syncLog, for Announce. -/
def announceLog (n : Nat) : Entry := reg 11 n 16 (.i32) .k 127

/-- clockAccuracy of the Announce in force (R448). -/
def nrefAccuracy (n : Nat) : Entry := reg 5 n 43 (.u8) .v 254

/-- Client-record changes made in the frame of protoFrame (R539). -/
def clientChanges : Entry := reg 11 0 17 (.u32) .v 0

/-- Sequence of the last valid packet since entry to Training, plus one (R515). -/
def skSequence (n : Nat) : Entry := reg 10 n 22 (.u64) .v 0

/-- Sequence of the last packet sent (R514). -/
def skSent (n : Nat) : Entry := reg 10 n 23 (.u32) .v 0

/-- Consecutive valid Beats (R520). -/
def skValidRun (n : Nat) : Entry := reg 10 n 24 (.u16) .v 0

/-- Consecutive missed Beats (R520). -/
def skMissRun (n : Nat) : Entry := reg 10 n 25 (.u16) .v 0

/-- Calibrations that failed since entry to Calibrating (R521). -/
def skCalTry (n : Nat) : Entry := reg 10 n 26 (.u8) .v 0

/-- Instant of the hand-over under way; 0 none (R542). -/
def handOverAt : Entry := reg 13 0 0 (.octets 16) .v 0

/-- Frame count at which it was requested (R542). -/
def handOverFrame : Entry := reg 13 0 1 (.u64) .v 0

/-- This unit was Active when the hand-over was requested (R542). -/
def handOverActive : Entry := reg 13 0 2 (.bool) .v 0

/-- A valid Beat has been consumed on port 2 since the reset (R532, R533). -/
def peerSeen : Entry := reg 13 0 3 (.bool) .v 0

/-- An episode of source 114 (0) or 116 (1) is in force (R532). -/
def pathEpisode (n : Nat) : Entry := reg 13 n 4 (.bool) .v 0

/-- Consecutive frames of contention (R531). -/
def contention : Entry := reg 13 0 5 (.u8) .v 0

/-- Consecutive frames with an Active peer of higher innings (R533). -/
def higherBeats : Entry := reg 13 0 6 (.u16) .v 0

/-- Frames for which the preferred peer has been a ready Standby (R542). -/
def readyFrames : Entry := reg 13 0 7 (.u64) .v 0

/-- Frame count, plus one, of the last completed S6 (R529). -/
def lastKeeperFrame : Entry := reg 13 0 8 (.u64) .v 0

/-- Address announcements still to make (R545). -/
def announceLeft : Entry := reg 13 0 9 (.u8) .v 0

/-- Frame count at which the next is due (R545). -/
def announceDue : Entry := reg 13 0 10 (.u64) .v 0

/-- FrameStart of the last Beat consumed on the K0 port, plus one (R547). -/
def k0Start : Entry := reg 13 0 11 (.octets 12) .v 0

/-- Frame count at which it was consumed. -/
def k0Frame : Entry := reg 13 0 12 (.u64) .v 0

/-- Its Discontinuity (R547). -/
def k0Disc : Entry := reg 13 0 13 (.u32) .v 0

/-- Step that it announced (R547, R548). -/
def k0StepSize : Entry := reg 13 0 14 (.span64) .v 0

/-- Frame start of that step. -/
def k0StepAt : Entry := reg 13 0 15 (.ct64) .v 0

/-- Announced step that K0 takes at the next transfer (R188, R548). -/
def k0Shift : Entry := reg 13 0 16 (.span64) .v 0

/-- K0Port changed; the next transfer re-bases K0 (R188, R512). -/
def k0Moved : Entry := reg 13 0 17 (.bool) .v 0

/-- StepPendingAt of the last step adopted, plus one (R548). -/
def adoptedAt : Entry := reg 13 0 18 (.u64) .v 0

/-- Consecutive Beats with ReplicationSynced clear while Lost (R541). -/
def replClear : Entry := reg 13 0 19 (.u8) .v 0

/-- A bulk copy has been started for this Standby (R541). -/
def replStarted : Entry := reg 13 0 20 (.bool) .v 0

/-- Innings plus one that port 0 (n = 0) or 2 (n = 1) last reported with role Active or None (R512). -/
def k0Heard (n : Nat) : Entry := reg 13 n 21 (.u64) .v 0

/-- Why a hand-over is wanted: 2 commanded, 3 revert (R542, R722). -/
def handOverCause : Entry := reg 13 0 22 (.u8) .v 0

/-- Frame count at which the last bulk copy ended (R541). -/
def replEnd : Entry := reg 13 0 23 (.u64) .v 0

/-- An item could not be read: Last is withheld in this frame (R610). -/
def replWithheld : Entry := reg 13 0 24 (.bool) .v 0

/-- Frame count at the last wrap of scrubber n (R614). -/
def lapFrame (n : Nat) : Entry := reg 15 n 0 (.u64) .v 0

/-- Test accesses accepted for the next S0: bit 0 write, 1 read (R615, R616). -/
def memTest : Entry := reg 15 0 1 (.u8) .v 0

/-- Trainings of DRAM channel n that failed (R608). -/
def trainFails (n : Nat) : Entry := reg 15 n 2 (.u8) .v 0

/-- Value of the source that counter n last accounted (R674). -/
def pcSeen (n : Nat) : Entry := reg 9 n 27 (.u64) .v 0

/-- Frames that the sequencer ran in the open window of counter n (R675). -/
def pcFrames (n : Nat) : Entry := reg 9 n 28 (.u64) .v 0

/-- Frames run since reset, for the level samples (R674). -/
def frameCount : Entry := reg 9 0 29 (.u64) .v 0

/-- Messages of class n admitted (R460, R674). -/
def classAdmitted (n : Nat) : Entry := reg 11 n 18 (.u64) .v 0

/-- Messages of class n shed (R460, R674). -/
def classShed (n : Nat) : Entry := reg 11 n 19 (.u64) .v 0

/-- Client lookups resolved in the stash (R440, R674). -/
def stashHits : Entry := reg 15 0 3 (.u64) .v 0

/-- Time for which master n has waited for grants, in ns (R618, R674). -/
def grantWait (n : Nat) : Entry := reg 15 n 4 (.u64) .v 0

/-- Instant at which SHDN_REQ_N fell, plus one (R665). -/
def shutdownAt : Entry := reg 14 0 22 (.octets 16) .v 0

/-- SupplyEpisodeCount at the start of the tests (R661). -/
def shutEpisodes : Entry := reg 14 0 23 (.u32) .v 0

/-- Seconds since the last lifetime commit (R671). -/
def lifeClock : Entry := reg 16 0 8 (.u32) .v 0

/-- LifeBootCount has been raised in this start (R668). -/
def bootCounted : Entry := reg 0 0 6 (.bool) .v 0

/-- The reset of this start cleared the retention bank: power-on or supply (R94, R584). -/
def bootFresh : Entry := reg 0 0 7 (.bool) .v 1

/-- This start is a wake from Deep hold (R588, R349). -/
def bootWake : Entry := reg 0 0 8 (.bool) .v 0

/-- A configuration commit was lost in a reset (R91). -/
def storeLost : Entry := reg 16 0 9 (.bool) .k 0

/-- PowerStateRequest 0x00 was accepted; Warm hold ends at the next frame start (R589). -/
def runWanted : Entry := reg 14 0 24 (.bool) .v 0

/-- Frames of the open second of UptimeSeconds (R96). -/
def uptimeFrames : Entry := reg 12 0 0 (.u16) .v 0

/-- Frame count, plus one, of the boundary at which the operating point last moved (R31). -/
def opStepFrame : Entry := reg 14 0 25 (.u64) .v 0

/-- Group and slot (group × 256 + slot) of the internal registers of keep class K. -/
def kept : List Nat := [279, 512, 517, 518, 519, 1548, 1552, 3600, 3601, 3602, 1024, 2327, 2328, 2329, 4096, 4097, 4098, 4100, 4101, 4105, 4106, 2825, 2826, 2827,
  2828, 2829, 2830, 2831, 2832]

end Hid
end Sys2Proof.Machine
end

