-- ==== Sys2Proof/Machine/Dict.lean ====
section
/-!
DEFINITION. The object dictionary as a whole: finding an entry by its address (R57, R58), and the power domain that
owns an entry (R30, R719).
-/
namespace Sys2Proof.Machine

/-- The families of the chapter that owns an index (R58). -/
def Dict.famsAt (index : Nat) : List Family :=
  if index < 0x2400 then Dict.famsCore
  else if index < 0x3400 then Dict.famsMeasure
  else if index < 0x4800 then Dict.famsServo
  else if index < 0x5800 then Dict.famsGnss
  else if index < 0x6800 then Dict.famsPorts
  else if index < 0x7800 then Dict.famsKeys
  else if index < 0x8000 then Dict.famsPower
  else Dict.famsReferee

/-- The entry at an address, if the dictionary defines one (R58). -/
def Dict.find (index sub : Nat) : Option Entry :=
  (Dict.famsAt index).findSome? fun f => f.find? index sub

/-- Power domains, numbered as LastResetDomains numbers them (R595). -/
inductive Domain where
  | time | synth | gnss | net | crypt | proto | mem | ctrl | aon
  deriving DecidableEq, Repr

/-- The bit of a domain in LastResetDomains, IsolatedDomains and LatchedDomains (R595, R652). -/
def Domain.bit : Domain → Nat
  | .time => 0 | .synth => 1 | .gnss => 2 | .net => 3 | .crypt => 4 | .proto => 5 | .mem => 6 | .ctrl => 7 | .aon => 8

/-- The domain of a bit number (R595). -/
def Domain.ofBit : Nat → Domain
  | 0 => .time | 1 => .synth | 2 => .gnss | 3 => .net | 4 => .crypt | 5 => .proto | 6 => .mem | 7 => .ctrl | _ => .aon

/-- The domain of the block that owns a register, by index and subindex (R30, R719; the places the two rules leave to
the reader are log entry 9). -/
def Dict.domainOf (index sub : Nat) : Domain :=
  if index = 0x1010 then (if sub = 6 then .ctrl else .time)
  else if index < 0x1020 then .ctrl
  else if index < 0x1030 then .ctrl
  else if index < 0x1400 then .time
  else if index < 0x1800 then .ctrl
  else if 0x2200 ≤ index ∧ index < 0x2210 then .synth
  else if 0x2430 ≤ index ∧ index < 0x2440 then .net
  else if index < 0x4010 then .time
  else if 0x4220 ≤ index ∧ index < 0x4230 then .time
  else if index < 0x4400 then .synth
  else if index < 0x4C00 then .gnss
  else if index < 0x5400 then .time
  else if index < 0x5C00 then .net
  else if index = 0x6000 ∧ 2 ≤ sub ∧ sub ≤ 5 then .crypt
  else if index = 0x6000 ∧ 12 ≤ sub ∧ sub ≤ 14 then .mem
  else if index < 0x6800 then .proto
  else if index < 0x7000 then .ctrl
  else if 0x7010 ≤ index ∧ index < 0x7020 then .net
  else if index < 0x7800 then .time
  else if index < 0x7C00 then .aon
  else if index = 0x7C40 then .ctrl
  else if 0x7C50 ≤ index ∧ index < 0x7C60 then .ctrl
  else if index < 0x8000 then .mem
  else if index < 0x8800 then .aon
  else if index < 0x8880 then .ctrl
  else if index < 0x9000 then .time
  else if index < 0x10000 then .ctrl
  else hiddenDomain (index / 0x1000 - 0x10)
where
  /-- The domain of a group of internal registers. -/
  hiddenDomain : Nat → Domain
    | 0 => .time | 1 => .time | 2 => .aon | 3 => .ctrl | 4 => .time | 5 => .time | 6 => .time | 7 => .synth
    | 8 => .gnss | 9 => .time | 10 => .net | 11 => .proto | 12 => .ctrl | 13 => .time | 14 => .aon | 15 => .mem
    | 16 => .ctrl | _ => .aon

end Sys2Proof.Machine
end

