-- ==== Sys2Proof/Machine/Ops.lean ====
section
/-!
DEFINITION. The named operations every chapter uses: register access, numbers and times, posting a raising, clearing
counters, octet strings. Nothing else in the model touches `regs` or `rats`.
-/
namespace Sys2Proof.Machine

/-! ### Sparse maps -/

/-- The value listed at a key, if any. -/
def Sparse.find {α : Type} (l : List (Nat × α)) (k : Nat) : Option α :=
  match l with
  | [] => none
  | (a, v) :: t => if a = k then some v else Sparse.find t k

/-- The list with the value at a key replaced or inserted, keys staying in rising order. -/
def Sparse.put {α : Type} (l : List (Nat × α)) (k : Nat) (v : α) : List (Nat × α) :=
  match l with
  | [] => [(k, v)]
  | (a, w) :: t =>
    if a = k then (k, v) :: t else if k < a then (k, v) :: (a, w) :: t else (a, w) :: Sparse.put t k v

/-- The list without a key. -/
def Sparse.drop {α : Type} (l : List (Nat × α)) (k : Nat) : List (Nat × α) :=
  match l with
  | [] => []
  | (a, w) :: t => if a = k then Sparse.drop t k else (a, w) :: Sparse.drop t k

/-- Keys strictly rising. -/
def Sparse.rising {α : Type} : List (Nat × α) → Bool
  | [] => true
  | [_] => true
  | (a, _) :: (b, w) :: t => decide (a < b) && Sparse.rising ((b, w) :: t)

/-- A number into a list that rises by a rank, before the first of greater rank. -/
def insertByRank (rank : Nat → Nat) (x : Nat) : List Nat → List Nat
  | [] => [x]
  | a :: t => if rank a < rank x then a :: insertByRank rank x t else x :: a :: t

/-- A list in order of rank. -/
def sortByRank (rank : Nat → Nat) (l : List Nat) : List Nat := l.foldr (insertByRank rank) []

/-! ### Registers -/

namespace Dev

/-- The raw value of a register: as listed, else its reset value (R10). -/
def get (d : Dev) (e : Entry) : Nat :=
  match Sparse.find d.regs e.addr with
  | some v => v
  | none => e.reset

/-- A register takes a raw value, cut to its width; a register at its reset value is not listed. -/
def set (d : Dev) (e : Entry) (v : Nat) : Dev :=
  let w := v % e.modulus
  { d with regs := if w = e.reset then Sparse.drop d.regs e.addr else Sparse.put d.regs e.addr w }

/-- A register read as its type reads it (R11). -/
def getI (d : Dev) (e : Entry) : Int := e.toInt (d.get e)

/-- A register takes an integer, saturating at the ends of its type. -/
def setI (d : Dev) (e : Entry) (i : Int) : Dev := d.set e (e.ofInt i)

/-- A BOOL register read (R11). -/
def is (d : Dev) (e : Entry) : Bool := d.get e != 0

/-- A BOOL register written (R11). -/
def setB (d : Dev) (e : Entry) (b : Bool) : Dev := d.set e (if b then 1 else 0)

/-- A counter that saturates at all ones, plus `n`. -/
def add (d : Dev) (e : Entry) (n : Nat) : Dev := d.set e (min (d.get e + n) (e.modulus - 1))

/-- A counter that saturates, plus one. -/
def inc (d : Dev) (e : Entry) : Dev := d.add e 1

/-- A register returned to its reset value. -/
def clear (d : Dev) (e : Entry) : Dev := d.set e e.reset

/-- Several registers returned to their reset values. -/
def clearAll (d : Dev) (es : List Entry) : Dev := es.foldl clear d

/-- Several registers take one value. -/
def setAll (d : Dev) (es : List Entry) (v : Nat) : Dev := es.foldl (fun d e => d.set e v) d

/-- An exact internal quantity; zero where nothing has been kept. -/
def q (d : Dev) (k : Nat) : Rat := (Sparse.find d.rats k).getD 0

/-- An exact internal quantity takes a value; zero is not listed. -/
def setQ (d : Dev) (k : Nat) (v : Rat) : Dev :=
  { d with rats := if v = 0 then Sparse.drop d.rats k else Sparse.put d.rats k v }

/-- Exact internal quantities whose keys satisfy a test return to zero. -/
def dropQ (d : Dev) (p : Nat → Bool) : Dev := { d with rats := d.rats.filter fun kv => !p kv.1 }

/-- An output of the step is recorded. -/
def out (d : Dev) (x : Emit) : Dev := { d with emit := d.emit ++ [x] }

/-! ### Time -/

/-- The instant of the command in hand, in CT64 units since the epoch. -/
def now (d : Dev) : Nat := d.view.now

/-- Number of the frame within its second (R32). -/
def frame (d : Dev) : Nat := d.view.frameStart % secondUnits / frameUnits

/-- The second in which the frame lies. -/
def second (d : Dev) : Nat := d.view.frameStart / secondUnits

/-- The global frame number: 4,096 for each second of the timescale, plus the frame number (R32, R430). -/
def globalFrame (d : Dev) : Nat := d.second * framesPerSecond + d.frame

/-- Frames that have started since a frame count. -/
def framesSince (d : Dev) (f : Nat) : Nat := d.view.frames - f

/-- Age of the device in CT64 units: frames that have run, and the part of this one. Steps and sets do not move it. -/
def age (d : Dev) : Nat := d.view.frames * frameUnits + (d.now - d.view.frameStart)

/-- XoNominalFrequency in force: before time service, that of the configuration to come (R94). -/
def xoNominal (d : Dev) : Nat := if d.get Hid.bootPhase = 5 then d.get Dict.xoNominalFrequency else d.get Hid.xoFreq

/-- A free value of a class (DESIGN CHOICE, log entry 4). -/
def freeNat (d : Dev) (cls : Nat) : Nat := Config.freeValue cls d.free

end Dev

/-- A time in CT64 units since the epoch as a TIME96 value (R17, R18). -/
def toTime96 (u : Nat) : Nat := u / secondUnits * 2 ^ 48 + u % secondUnits

/-- A TIME96 value as CT64 units since the epoch (R17, R18). -/
def ofTime96 (v : Nat) : Nat := v / 2 ^ 48 * secondUnits + v % 2 ^ 48

/-- A time in CT64 units since the epoch as a CT64 value (R18). -/
def toCt64 (u : Nat) : Nat := u % 2 ^ 64

/-- The signed difference of two CT64 values (R19). -/
def ctDiff (a b : Nat) : Int :=
  let d : Nat := (a + 2 ^ 64 - b % 2 ^ 64) % 2 ^ 64
  if d < 2 ^ 63 then (d : Int) else (d : Int) - 2 ^ 64

/-- The instant that a CT64 value names, nearest to a given instant (R19). -/
def ofCt64 (near ct : Nat) : Nat := ((near : Int) + ctDiff ct (toCt64 near)).toNat

/-- Whether a CT64 target lies strictly inside the window of R20. -/
def inWindow (now ct : Nat) : Bool := ctDiff ct (toCt64 now) != -(2 ^ 63)

/-- Rounding to the nearest integer, halves upward (DESIGN CHOICE, log entry 11). -/
def roundNear (x : Rat) : Int := (x + 1 / 2).floor

/-- Rounding toward zero. -/
def roundZero (x : Rat) : Int := if x < 0 then -((-x).floor) else x.floor

/-- Rounding up. -/
def roundUp (x : Rat) : Int := -((-x).floor)

/-- Limiting to a range. -/
def clampRat (lo hi x : Rat) : Rat := max lo (min hi x)

/-- Limiting to a range. -/
def clampInt (lo hi x : Int) : Int := max lo (min hi x)

/-- The magnitude of a rational. -/
def absRat (x : Rat) : Rat := if x < 0 then -x else x

/-- CT64 units as nanoseconds. -/
def unitsToNs (u : Int) : Rat := (u : Rat) / 65536

/-- Nanoseconds as CT64 units, to the nearest. -/
def nsToUnits (x : Rat) : Int := roundNear (x * 65536)

/-- A FRAC64 value as a fraction. -/
def ofFrac64 (i : Int) : Rat := (i : Rat) / 2 ^ 64

/-- A fraction as a FRAC64 value, to the nearest. -/
def toFrac64 (x : Rat) : Int := roundNear (x * 2 ^ 64)

/-- The PS32 code of unbounded (R22). -/
abbrev unbounded : Nat := 0xFFFFFFFF

/-- A bound in picoseconds as PS32: rounded up, and unbounded above 4,294,967,294 ps (R22; the rounding is log
entry 11). -/
def toPs32 (x : Rat) : Nat :=
  let p := roundUp x
  if p < 0 then 0 else if 4294967294 < p then unbounded else p.toNat

/-- Octets of a number, most significant first (R12). -/
def octetsOf (n v : Nat) : List Nat := (List.range n).map fun i => v / 256 ^ (n - 1 - i) % 256

/-- The number that octets spell, most significant first (R12). -/
def ofOctets (l : List Nat) : Nat := l.foldl (fun a o => a * 256 + o % 256) 0

/-- Capture fields packed from octet 0 into 8 octets: each a width and a value; a field that does not fit is left out
and the rest reads zero (R645). -/
def packDetail (fields : List (Nat × Nat)) : Nat :=
  let os := fields.foldl (fun acc f => if acc.length + f.1 ≤ 8 then acc ++ octetsOf f.1 f.2 else acc) []
  ofOctets (os ++ List.replicate (8 - os.length) 0)

/-- A 16-bit field read as I16 (R11). -/
def signed16 (v : Nat) : Int := if v % 65536 < 32768 then ((v % 65536 : Nat) : Int) else ((v % 65536 : Nat) : Int) - 65536

/-- A reported UTC offset as `Hid.utcReport` keeps it: 0 stands for none (R115). -/
def utcCode (offset : Int) : Nat := (offset + (2 ^ 31 + 1)).toNat

/-- Bit `i` of a number. -/
def bit (v i : Nat) : Bool := v / 2 ^ i % 2 == 1

/-- A number with bit `i` set. -/
def setBit (v i : Nat) : Nat := if bit v i then v else v + 2 ^ i

/-- A number with bit `i` clear. -/
def clearBit (v i : Nat) : Nat := if bit v i then v - 2 ^ i else v

namespace Dev

/-- A checker presents its pair at Fault with a capture (R628); Referee confirms it in PAIR_FAULT (DESIGN CHOICE, log entry 12). -/
def post (d : Dev) (source : Nat) (fields : List (Nat × Nat)) : Dev :=
  { d with posted := d.posted ++ [⟨source, packDetail fields, false, false, true⟩] }

/-- A checker presents its pair at Fault once per episode: the flag is the episode's register. -/
def postOnce (d : Dev) (flag : Entry) (active : Bool) (source : Nat) (fields : List (Nat × Nat)) : Dev :=
  if active && !d.is flag then (d.setB flag true).post source fields
  else d.setB flag active

/-- The device state (R4, R96). -/
def state (d : Dev) : Nat := d.get Dict.deviceState

/-- The life-cycle state (R5, R96). -/
def lifeCycle (d : Dev) : Nat := d.get Dict.lifeCycleState

/-- Every register whose address satisfies a test returns to its reset value. -/
def resetWhere (d : Dev) (p : Nat → Nat → Bool) : Dev :=
  { d with regs := d.regs.filter fun kv => !p (kv.1 / 256) (kv.1 % 256) }

/-- The keep class of a register address; an internal register's class is listed with it (R8). -/
def keepAt (index sub : Nat) : Keep :=
  match Dict.find index sub with
  | some e => e.keep
  | none => if Hid.kept.contains ((index / 0x1000 - 0x10) * 256 + sub) then .k else .v

/-- The domain is powered and out of reset. -/
def powered (d : Dev) (x : Domain) : Bool := bit (d.get Hid.poweredDomains) x.bit

/-- The domain is held isolated (R638). -/
def isolated (d : Dev) (x : Domain) : Bool := bit (d.get Dict.isolatedDomains) x.bit

end Dev

/-- `n` steps of a function of the index and the state, from index 0 up. -/
def forUnits {α : Type} (n : Nat) (f : Nat → α → α) (a : α) : α := (List.range n).foldl (fun x i => f i x) a

end Sys2Proof.Machine
end

