-- ==== Sys2Proof/Machine/Crypto.lean ====
section
/-!
DEFINITION. The published algorithms that the spec names: the CRC-32 of IEEE 802.3 (R82, R281), SHA-256 and HMAC-SHA-256 (R63, R367,
R443, R514), the SP 800-108 counter-mode KDF (R70, R485), and AES-SIV-CMAC-256 of RFC 5297 (R453, R454) (DEDUCED, log entry 5).
Octet strings are lists of octets; keys, tags and digests are numbers, most significant octet first.
-/
namespace Sys2Proof.Machine

/-! ### CRC-32 -/

/-- One bit of the CRC-32 register, in the reflected form. -/
def crcBit (c : Nat) : Nat := if c % 2 = 1 then c / 2 ^^^ 0xEDB88320 else c / 2

/-- The CRC-32 of an octet string. -/
def crc32 (l : List Nat) : Nat := l.foldl (fun c o => forUnits 8 (fun _ c => crcBit c) (c ^^^ o % 256)) 0xFFFFFFFF ^^^ 0xFFFFFFFF

/-! ### SHA-256, HMAC and the KDF -/

/-- A 32-bit word rotated right. -/
def rotateRight (n x : Nat) : Nat := (x / 2 ^ n + x * 2 ^ (32 - n)) % 2 ^ 32

/-- The round constants of SHA-256. -/
def shaConstants : List Nat :=
  [0x428A2F98, 0x71374491, 0xB5C0FBCF, 0xE9B5DBA5, 0x3956C25B, 0x59F111F1, 0x923F82A4, 0xAB1C5ED5] ++
  [0xD807AA98, 0x12835B01, 0x243185BE, 0x550C7DC3, 0x72BE5D74, 0x80DEB1FE, 0x9BDC06A7, 0xC19BF174] ++
  [0xE49B69C1, 0xEFBE4786, 0x0FC19DC6, 0x240CA1CC, 0x2DE92C6F, 0x4A7484AA, 0x5CB0A9DC, 0x76F988DA] ++
  [0x983E5152, 0xA831C66D, 0xB00327C8, 0xBF597FC7, 0xC6E00BF3, 0xD5A79147, 0x06CA6351, 0x14292967] ++
  [0x27B70A85, 0x2E1B2138, 0x4D2C6DFC, 0x53380D13, 0x650A7354, 0x766A0ABB, 0x81C2C92E, 0x92722C85] ++
  [0xA2BFE8A1, 0xA81A664B, 0xC24B8B70, 0xC76C51A3, 0xD192E819, 0xD6990624, 0xF40E3585, 0x106AA070] ++
  [0x19A4C116, 0x1E376C08, 0x2748774C, 0x34B0BCB5, 0x391C0CB3, 0x4ED8AA4A, 0x5B9CCA4F, 0x682E6FF3] ++
  [0x748F82EE, 0x78A5636F, 0x84C87814, 0x8CC70208, 0x90BEFFFA, 0xA4506CEB, 0xBEF9A3F7, 0xC67178F2]

/-- The initial hash value of SHA-256. -/
def shaInitial : List Nat := [0x6A09E667, 0xBB67AE85, 0x3C6EF372, 0xA54FF53A, 0x510E527F, 0x9B05688C, 0x1F83D9AB, 0x5BE0CD19]

/-- The next word of a message schedule, kept last word first. -/
def shaExpand (r : List Nat) : List Nat :=
  let x := r.getD 1 0
  let y := r.getD 14 0
  let a := rotateRight 17 x ^^^ rotateRight 19 x ^^^ x / 2 ^ 10
  let b := rotateRight 7 y ^^^ rotateRight 18 y ^^^ y / 2 ^ 3
  (a + r.getD 6 0 + b + r.getD 15 0) % 2 ^ 32 :: r

/-- One round: the working variables a to h as a list, a constant and a schedule word. -/
def shaRound (v : List Nat) (k w : Nat) : List Nat :=
  match v with
  | [a, b, c, d, e, f, g, h] =>
    let s1 := rotateRight 6 e ^^^ rotateRight 11 e ^^^ rotateRight 25 e
    let choice := e &&& f ^^^ (2 ^ 32 - 1 - e) &&& g
    let t1 := h + s1 + choice + k + w
    let s0 := rotateRight 2 a ^^^ rotateRight 13 a ^^^ rotateRight 22 a
    let majority := a &&& b ^^^ a &&& c ^^^ b &&& c
    [(t1 + s0 + majority) % 2 ^ 32, a, b, c, (d + t1) % 2 ^ 32, e, f, g]
  | _ => v

/-- One block of 64 octets. -/
def shaBlock (h block : List Nat) : List Nat :=
  let words := (List.range 16).map fun i => ofOctets ((block.drop (4 * i)).take 4)
  let schedule := (forUnits 48 (fun _ r => shaExpand r) words.reverse).reverse
  let v := (shaConstants.zip schedule).foldl (fun v p => shaRound v p.1 p.2) h
  (h.zip v).map fun p => (p.1 + p.2) % 2 ^ 32

/-- SHA-256 of an octet string, as a 256-bit number. -/
def sha256 (l : List Nat) : Nat :=
  let padded := l ++ [0x80] ++ List.replicate ((119 - l.length % 64) % 64) 0 ++ octetsOf 8 (8 * l.length)
  let h := (List.range (padded.length / 64)).foldl (fun h i => shaBlock h ((padded.drop (64 * i)).take 64)) shaInitial
  h.foldl (fun a w => a * 2 ^ 32 + w) 0

/-- HMAC-SHA-256 of an octet string under a key of 32 octets, as a 256-bit number. -/
def hmacSha256 (key : Nat) (l : List Nat) : Nat :=
  let k := octetsOf 32 key
  let inner := k.map (· ^^^ 0x36) ++ List.replicate 32 0x36
  let outer := k.map (· ^^^ 0x5C) ++ List.replicate 32 0x5C
  sha256 (outer ++ octetsOf 32 (sha256 (inner ++ l)))

/-- The SP 800-108 counter-mode KDF with HMAC-SHA-256 and a 32-bit counter: label, one octet 0x00, context and the 32-bit length in
bits, a multiple of 256 (R70, R485). -/
def kdf (key : Nat) (label context : List Nat) (bits : Nat) : Nat :=
  (List.range (bits / 256)).foldl (fun a i =>
    a * 2 ^ 256 + hmacSha256 key (octetsOf 4 (i + 1) ++ label ++ [0x00] ++ context ++ octetsOf 4 bits)) 0

/-! ### AES-128 and AES-SIV-CMAC-256 -/

/-- The S-box of AES. -/
def aesBox : List Nat :=
  [0x63, 0x7C, 0x77, 0x7B, 0xF2, 0x6B, 0x6F, 0xC5, 0x30, 0x01, 0x67, 0x2B, 0xFE, 0xD7, 0xAB, 0x76] ++
  [0xCA, 0x82, 0xC9, 0x7D, 0xFA, 0x59, 0x47, 0xF0, 0xAD, 0xD4, 0xA2, 0xAF, 0x9C, 0xA4, 0x72, 0xC0] ++
  [0xB7, 0xFD, 0x93, 0x26, 0x36, 0x3F, 0xF7, 0xCC, 0x34, 0xA5, 0xE5, 0xF1, 0x71, 0xD8, 0x31, 0x15] ++
  [0x04, 0xC7, 0x23, 0xC3, 0x18, 0x96, 0x05, 0x9A, 0x07, 0x12, 0x80, 0xE2, 0xEB, 0x27, 0xB2, 0x75] ++
  [0x09, 0x83, 0x2C, 0x1A, 0x1B, 0x6E, 0x5A, 0xA0, 0x52, 0x3B, 0xD6, 0xB3, 0x29, 0xE3, 0x2F, 0x84] ++
  [0x53, 0xD1, 0x00, 0xED, 0x20, 0xFC, 0xB1, 0x5B, 0x6A, 0xCB, 0xBE, 0x39, 0x4A, 0x4C, 0x58, 0xCF] ++
  [0xD0, 0xEF, 0xAA, 0xFB, 0x43, 0x4D, 0x33, 0x85, 0x45, 0xF9, 0x02, 0x7F, 0x50, 0x3C, 0x9F, 0xA8] ++
  [0x51, 0xA3, 0x40, 0x8F, 0x92, 0x9D, 0x38, 0xF5, 0xBC, 0xB6, 0xDA, 0x21, 0x10, 0xFF, 0xF3, 0xD2] ++
  [0xCD, 0x0C, 0x13, 0xEC, 0x5F, 0x97, 0x44, 0x17, 0xC4, 0xA7, 0x7E, 0x3D, 0x64, 0x5D, 0x19, 0x73] ++
  [0x60, 0x81, 0x4F, 0xDC, 0x22, 0x2A, 0x90, 0x88, 0x46, 0xEE, 0xB8, 0x14, 0xDE, 0x5E, 0x0B, 0xDB] ++
  [0xE0, 0x32, 0x3A, 0x0A, 0x49, 0x06, 0x24, 0x5C, 0xC2, 0xD3, 0xAC, 0x62, 0x91, 0x95, 0xE4, 0x79] ++
  [0xE7, 0xC8, 0x37, 0x6D, 0x8D, 0xD5, 0x4E, 0xA9, 0x6C, 0x56, 0xF4, 0xEA, 0x65, 0x7A, 0xAE, 0x08] ++
  [0xBA, 0x78, 0x25, 0x2E, 0x1C, 0xA6, 0xB4, 0xC6, 0xE8, 0xDD, 0x74, 0x1F, 0x4B, 0xBD, 0x8B, 0x8A] ++
  [0x70, 0x3E, 0xB5, 0x66, 0x48, 0x03, 0xF6, 0x0E, 0x61, 0x35, 0x57, 0xB9, 0x86, 0xC1, 0x1D, 0x9E] ++
  [0xE1, 0xF8, 0x98, 0x11, 0x69, 0xD9, 0x8E, 0x94, 0x9B, 0x1E, 0x87, 0xE9, 0xCE, 0x55, 0x28, 0xDF] ++
  [0x8C, 0xA1, 0x89, 0x0D, 0xBF, 0xE6, 0x42, 0x68, 0x41, 0x99, 0x2D, 0x0F, 0xB0, 0x54, 0xBB, 0x16]

/-- One octet through the S-box. -/
def aesSub (x : Nat) : Nat := aesBox.getD x 0

/-- An octet of GF(2^8) doubled. -/
def aesTwice (x : Nat) : Nat := x * 2 % 256 ^^^ (if 128 ≤ x then 0x1B else 0)

/-- Two octet strings combined by exclusive or. -/
def xorOctets (a b : List Nat) : List Nat := (a.zip b).map fun p => p.1 ^^^ p.2

/-- The round key after one, with its round constant. -/
def aesNextKey (k : List Nat) (rcon : Nat) : List Nat :=
  let t := [aesSub (k.getD 13 0) ^^^ rcon, aesSub (k.getD 14 0), aesSub (k.getD 15 0), aesSub (k.getD 12 0)]
  let a := xorOctets (k.take 4) t
  let b := xorOctets ((k.drop 4).take 4) a
  let c := xorOctets ((k.drop 8).take 4) b
  a ++ b ++ c ++ xorOctets (k.drop 12) c

/-- The substituted octets with the rows of the block shifted. -/
def aesShift (s : List Nat) : List Nat := (List.range 16).map fun i => aesSub (s.getD ((i + 4 * (i % 4)) % 16) 0)

/-- The columns of a block mixed. -/
def aesMix (s : List Nat) : List Nat :=
  (List.range 16).map fun i =>
    let x (k : Nat) : Nat := s.getD (i / 4 * 4 + (i + k) % 4) 0
    aesTwice (x 0) ^^^ (aesTwice (x 1) ^^^ x 1) ^^^ x 2 ^^^ x 3

/-- AES-128 of a block of 16 octets under a key of 16 octets, both as numbers. -/
def aes128 (key block : Nat) : Nat :=
  let k := octetsOf 16 key
  let start := (xorOctets (octetsOf 16 block) k, k)
  let rounds := [0x01, 0x02, 0x04, 0x08, 0x10, 0x20, 0x40, 0x80, 0x1B].foldl (fun (a : List Nat × List Nat) rcon =>
    let next := aesNextKey a.2 rcon
    (xorOctets (aesMix (aesShift a.1)) next, next)) start
  ofOctets (xorOctets (aesShift rounds.1) (aesNextKey rounds.2 0x36))

/-- A block of GF(2^128) doubled. -/
def blockTwice (x : Nat) : Nat := x * 2 % 2 ^ 128 ^^^ (if 2 ^ 127 ≤ x then 0x87 else 0)

/-- AES-CMAC of an octet string. -/
def aesCmac (key : Nat) (l : List Nat) : Nat :=
  let k1 := blockTwice (aes128 key 0)
  let n := (l.length + 15) / 16
  let full := l.length % 16 == 0 && l.length != 0
  let last := l.drop ((n - 1) * 16)
  let final := if full then ofOctets last ^^^ k1
    else ofOctets (last ++ [0x80] ++ List.replicate (15 - last.length) 0) ^^^ blockTwice k1
  let c := (List.range (n - 1)).foldl (fun c i => aes128 key (c ^^^ ofOctets ((l.drop (16 * i)).take 16))) 0
  aes128 key (c ^^^ final)

/-- S2V of RFC 5297: the components, the nonce the last of them, and the plaintext. -/
def sivVector (key : Nat) (components : List (List Nat)) (plain : List Nat) : Nat :=
  let d := components.foldl (fun d c => blockTwice d ^^^ aesCmac key c) (aesCmac key (List.replicate 16 0))
  let tail := plain.length - 16
  let t := if 16 ≤ plain.length then plain.take tail ++ octetsOf 16 (ofOctets (plain.drop tail) ^^^ d)
    else octetsOf 16 (ofOctets (plain ++ [0x80] ++ List.replicate (15 - plain.length) 0) ^^^ blockTwice d)
  aesCmac key t

/-- The key stream of RFC 5297 applied to octets: bits 31 and 63 of the synthetic IV are clear in the first counter. -/
def sivStream (key siv : Nat) (l : List Nat) : List Nat :=
  let clear (b x : Nat) : Nat := if bit x b then x - 2 ^ b else x
  let q := clear 31 (clear 63 siv)
  let stream := (List.range ((l.length + 15) / 16)).flatMap fun i => octetsOf 16 (aes128 key ((q + i) % 2 ^ 128))
  xorOctets l stream

/-- AES-SIV-CMAC-256 under a key of 32 octets: the synthetic IV, then the ciphertext. -/
def sivSeal (key : Nat) (components : List (List Nat)) (plain : List Nat) : List Nat :=
  let v := sivVector (key / 2 ^ 128) components plain
  octetsOf 16 v ++ sivStream (key % 2 ^ 128) v plain

/-- The plaintext of a sealed octet string, or nothing when its synthetic IV does not match. -/
def sivOpen (key : Nat) (components : List (List Nat)) (l : List Nat) : Option (List Nat) :=
  let v := ofOctets (l.take 16)
  let plain := sivStream (key % 2 ^ 128) v (l.drop 16)
  if 16 ≤ l.length ∧ sivVector (key / 2 ^ 128) components plain = v then some plain else none

/-! ### The lanes' share of class 1 (R457, R459, R460) -/

/-- HMAC blocks over n octets (R457). -/
def hmacBlocks (n : Nat) : Nat := (n + 9 + 63) / 64 + 1

namespace Dev

/-- The budget counters start anew in each frame (R459). -/
def budgetFrame (d : Dev) : Dev :=
  if d.get Hid.protoFrame = d.view.frames + 1 then d
  else (d.clearAll [Hid.protoMsgs, Hid.protoHmac, Hid.protoAes, Hid.clientChanges]).set Hid.protoFrame (d.view.frames + 1)

/-- An audit record or a QOP tag over n octets, class 1 of the frame's HMAC budget (R457, R459, R460). -/
def classOne (d : Dev) (n : Nat) : Dev :=
  (d.budgetFrame.add Hid.protoHmac (hmacBlocks n)).inc (Hid.classAdmitted 1)

end Dev

end Sys2Proof.Machine
end

