-- ==== Sys2Proof/Machine/Quantity.lean ====
section
/-!
DEFINITION. Keys of the exact internal quantities held in `rats`. A key's high part is the number of the domain that
holds it (R30, R592), as LastResetDomains numbers domains.
-/
namespace Sys2Proof.Machine
namespace Q

/-- A key of a domain. -/
def key (domain slot unit : Nat) : Nat := domain * 65536 + slot * 64 + unit

/-- Estimate of a reference's offset in this frame, in CT64 units (R186). -/
def xHat (r : Nat) : Nat := key 0 1 r
/-- Estimate of its frequency (R186). -/
def yHat (r : Nat) : Nat := key 0 2 r
/-- The estimate at the last measurement (R186). -/
def xAt (r : Nat) : Nat := key 0 3 r
/-- C_r of a reference in CT64 units (R210). -/
def drift (r : Nat) : Nat := key 0 4 r
/-- The build-out in force, in CT64 units (R203). -/
def buildOut : Nat := key 0 5 0
/-- The build-out of the frame before (R223). -/
def buildOutLast : Nat := key 0 5 1
/-- The followed phase in CT64 units (R203, R223). -/
def followed : Nat := key 0 5 2
/-- The followed frequency (R223). -/
def followedRate : Nat := key 0 5 3
/-- R_tot (R223). -/
def rTot : Nat := key 0 6 0
/-- y_int (R223). -/
def integrator : Nat := key 0 6 1
/-- Residual of the dithered code (R234). -/
def dither : Nat := key 0 6 2
/-- I_T in °C·s (R244). -/
def tempIntegral : Nat := key 0 6 3
/-- I_sat in seconds (R244). -/
def satIntegral : Nat := key 0 6 4
/-- Sum of the open oscillator block's samples (R240). -/
def blockSum : Nat := key 0 6 5
/-- Samples in the open block. -/
def blockCount : Nat := key 0 6 6
/-- Sum of the temperatures of the open block, in °C, over the frames that had one. -/
def blockTemp : Nat := key 0 6 7
/-- Frames of the open block with a temperature (R239, R240). -/
def blockTemps : Nat := key 0 6 8
/-- Correction realised in the frame (R240). -/
def realised : Nat := key 0 6 9
/-- e_hold in ps (R244). -/
def eHold : Nat := key 0 6 10
/-- u_hold in ps (R244). -/
def uHold : Nat := key 0 6 11

/-- Sum of y_m over the open day (R172). -/
def xoDaySum : Nat := key 0 6 13

/-- Phase of the oscillator prediction, in CT64 units (R208, R243). -/
def oscPhase : Nat := key 0 6 12
/-- P_τ of a reference in ps, window 0 to 2 (R209). -/
def phaseStat (r k : Nat) : Nat := key 0 (7 + k) r
/-- Y_τ of a reference (R209). -/
def freqStat (r k : Nat) : Nat := key 0 (10 + k) r

/-- Term of the timescale bound in the last S5, in ps: 0 to 6 systematic, 7 to 10 random (R340, R346). -/
def term (i : Nat) : Nat := key 0 13 i
/-- Largest |x_f| since the last entry to Acquire, in CT64 units (R343). -/
def phaseMax : Nat := key 0 13 11

/-- Steps and sets of the timescale since the origin of a SyncE reference's grid was set, in CT64 units (R183, R188). -/
def gridShift (r : Nat) : Nat := key 0 14 r

/-- Phase demand of a clock output not yet applied, in ps (R267). -/
def outLag (n : Nat) : Nat := key 1 1 n

end Q
end Sys2Proof.Machine
end

