-- ==== Sys2Proof/Machine/Domains.lean ====
section
/-!
DEFINITION. Units and domains: removing a unit, releasing it, and what losing a domain's power does to its registers
(R3, R30, R52 to R54, R592, R637). Units carry the codes of the self-test table (R657).
-/
namespace Sys2Proof.Machine

/-- Removable units and Skovwin ports (R52, R637), by the unit codes of R657. -/
inductive Removable where
  | channel (n : Nat) | link (m : Nat) | apll (a : Nat) | cko (n : Nat) | pls (p : Nat) | trg (m : Nat) | tod (m : Nat)
  | port (q : Nat) | skovwin (m : Nat) | hmac (l : Nat) | aes (l : Nat) | bank (b : Nat)
  deriving DecidableEq, Repr

/-- The unit a code names (R657); APLLs count from 1 and banks from 1. -/
def Removable.ofCode (c : Nat) : Option Removable :=
  if 0x10 ≤ c ∧ c < 0x20 then some (.channel (c - 0x10))
  else if 0x20 ≤ c ∧ c < 0x23 then some (.link (c - 0x20))
  else if 0x28 ≤ c ∧ c < 0x2B then some (.apll (c - 0x27))
  else if 0x30 ≤ c ∧ c < 0x40 then some (.cko (c - 0x30))
  else if 0x40 ≤ c ∧ c < 0x44 then some (.pls (c - 0x40))
  else if 0x44 ≤ c ∧ c < 0x4C then some (.trg (c - 0x44))
  else if 0x4C ≤ c ∧ c < 0x4E then some (.tod (c - 0x4C))
  else if 0x50 ≤ c ∧ c < 0x56 then some (.port (c - 0x50))
  else if 0x58 ≤ c ∧ c < 0x5B then some (.skovwin (c - 0x58))
  else if 0x60 ≤ c ∧ c < 0x80 then some (.hmac (c - 0x60))
  else if 0x80 ≤ c ∧ c < 0x90 then some (.aes (c - 0x80))
  else if 0x90 ≤ c ∧ c < 0x9C then some (.bank (c - 0x90 + 1))
  else none

/-- The code of a unit (R657). -/
def Removable.code : Removable → Nat
  | .channel n => 0x10 + n
  | .link m => 0x20 + m
  | .apll a => 0x27 + a
  | .cko n => 0x30 + n
  | .pls p => 0x40 + p
  | .trg m => 0x44 + m
  | .tod m => 0x4C + m
  | .port q => 0x50 + q
  | .skovwin m => 0x58 + m
  | .hmac l => 0x60 + l
  | .aes l => 0x80 + l
  | .bank b => 0x8F + b

/-- The domain that holds a unit (R657). -/
def Removable.domain : Removable → Domain
  | .channel _ => .time
  | .apll _ | .cko _ | .pls _ | .trg _ | .tod _ => .synth
  | .link _ | .port _ | .skovwin _ => .net
  | .hmac _ | .aes _ => .crypt
  | .bank _ => .gnss

/-- The register and value that mark a unit removed, for the units that have a state register (R52). -/
def Removable.mark : Removable → Option (Entry × Nat)
  | .channel n => some (Dict.chState n, 4)
  | .link m => some (Dict.linkChState m, 4)
  | .apll a => some (Dict.apllState a, 5)
  | .cko n => some (Dict.outState n, 5)
  | .pls p => some (Hid.plsRemoved p, 1)
  | .trg m => some (Hid.trgRemoved m, 1)
  | .tod m => some (Hid.todRemoved m, 1)
  | .port q => some (Dict.portState q, 4)
  | .skovwin m => some (Dict.skState m, 5)
  | .hmac _ => none
  | .aes _ => none
  | .bank b => some (Dict.gnssBankState (b - 1), 1)

/-- How many set bits a number of the given width has. -/
def popCount (width v : Nat) : Nat := ((List.range width).filter (bit v)).length

namespace Dev

/-- Whether a unit is removed (R52, R54). -/
def removed (d : Dev) (u : Removable) : Bool :=
  match u with
  | .hmac l => !bit (d.get Dict.hmacLaneMask) l
  | .aes l => !bit (d.get Dict.aesLaneMask) l
  | _ =>
    match u.mark with
    | some (e, v) => d.get e == v
    | none => false

/-- The counts of units in service follow the units' states (R3, R52): general and link channels, ports, lanes. -/
def countUnits (d : Dev) : Dev :=
  let inService (f : Nat → Removable) (n : Nat) := ((List.range n).filter fun i => !d.removed (f i)).length
  let d := d.set Dict.channelsInService (inService .channel 16)
  let d := d.set Dict.linkChannelsInService (inService .link 3)
  let d := d.set Dict.portsInService (inService .port 6)
  let d := d.set Dict.hmacLanesInService (popCount 32 (d.get Dict.hmacLaneMask))
  d.set Dict.aesLanesInService (popCount 16 (d.get Dict.aesLaneMask))

/-- Timers whose destination is the unit go to Idle and raise source 12 (R129). -/
def dropTimersOf (d : Dev) (dest : Nat) : Dev :=
  forUnits 32 (fun n d =>
    if d.get (Dict.tmrState n) == 1 && d.get (Dict.tmrDestination n) == dest then
      let d := (d.set (Dict.tmrState n) 0).clear (Dict.tmrNextFire n)
      let d := if dest < 8 then d.clear (Dict.trgOwner dest) else d
      let d := if 0x20 ≤ dest ∧ dest < 0x24 then d.clear (Dict.plsOwner (dest - 0x20)) else d
      d.post 12 [(1, n)]
    else d) d

/-- What the removal of a unit does beyond its mark (R52, R129): its outputs go idle and what hangs on it stops. -/
def leaveService (d : Dev) (u : Removable) : Dev :=
  match u with
  | .apll a =>
    let d := (d.clear (Dict.apllVcoFrequency a)).clear (Dict.apllPfdFrequency a)
    forUnits 16 (fun n d =>
      if d.get (Dict.outApll n) == a && (d.get (Dict.outState n) == 2 || d.get (Dict.outState n) == 3) then
        d.set (Dict.outState n) 1 else d) d
  | .channel c => (d.setB (Hid.vacate c) true).post 17 [(1, c), (1, 0xFF), (1, d.get (Dict.chLastCalStatus c))]
  | .link m => d.post 17 [(1, 16 + m), (1, 0xFF), (1, d.get (Dict.linkChLastCalStatus m))]
  | .pls p => (d.dropTimersOf (0x20 + p)).clearAll [Hid.plsHigh p, Hid.plsEnd p]
  | .trg m => (d.dropTimersOf m).clearAll [Hid.trgHigh m, Hid.trgEnd m]
  | .tod m => (d.set (Dict.todState m) 0).clearAll [Hid.todReady m, Hid.todBegin m, Hid.todNext m]
  | _ => d

/-- A unit leaves service (R52). Removing a unit already removed changes nothing (R637). -/
def remove (d : Dev) (u : Removable) : Dev :=
  if d.removed u then d
  else
    let d := match u with
      | .port q => if d.get (Dict.portState q) = 3 then d.post 84 [(1, q)] else d
      | _ => d
    let d :=
      match u with
      | .hmac l => d.set Dict.hmacLaneMask (clearBit (d.get Dict.hmacLaneMask) l)
      | .aes l => d.set Dict.aesLaneMask (clearBit (d.get Dict.aesLaneMask) l)
      | _ =>
        match u.mark with
        | some (e, v) => d.set e v
        | none => d
    (d.leaveService u).countUnits

/-- Whether the start-up check of a unit, with its logic test, passes (R54, R658): the spec names the check and leaves its
outcome to the silicon (free value, DESIGN CHOICE, log entry 116). -/
def startUpPasses (d : Dev) (u : Removable) : Bool := d.freeNat (512 + u.code) % 2 == 0

/-- A start-up check fails: source 124 with kind 0x01 and phase 0x03 (the capture of source 124; DESIGN CHOICE, log entry 116). -/
def startUpFails (d : Dev) (u : Removable) : Dev := d.post 124 [(1, u.code), (1, 1), (1, 3)]

/-- A released unit returns to the first state of its kind, once its start-up check has passed (R54, R658). -/
def restore (d : Dev) (u : Removable) : Dev :=
  let d :=
    match u with
    | .hmac l => d.set Dict.hmacLaneMask (setBit (d.get Dict.hmacLaneMask) l)
    | .aes l => d.set Dict.aesLaneMask (setBit (d.get Dict.aesLaneMask) l)
    | _ =>
      match u.mark with
      | some (e, _) => d.clear e
      | none => d
  d.countUnits

end Dev

/-- Every removable unit. -/
def Removable.all : List Removable :=
  (List.range 16).map .channel ++ (List.range 3).map .link ++ [.apll 1, .apll 2, .apll 3] ++
  (List.range 16).map .cko ++ (List.range 4).map .pls ++ (List.range 8).map .trg ++ (List.range 2).map .tod ++
  (List.range 6).map .port ++ (List.range 3).map .skovwin ++ (List.range 32).map .hmac ++ (List.range 16).map .aes ++
  (List.range 12).map fun b => .bank (b + 1)

namespace Dev

/-- The owner entries of the trigger and pulse outputs show the armed timers, which TIME holds (R137). -/
def showOwners (d : Dev) : Dev :=
  forUnits 32 (fun n d =>
    let dest := d.get (Dict.tmrDestination n)
    if d.get (Dict.tmrState n) ≠ 1 then d
    else if dest < 8 then d.set (Dict.trgOwner dest) n
    else if 0x20 ≤ dest ∧ dest < 0x24 then d.set (Dict.plsOwner (dest - 0x20)) n
    else d) d

/-- The V registers of a domain return to default, its removed units staying removed (R592: V entries, Removed units
under block isolate and Warm hold). -/
def defaultDomain (d : Dev) (x : Domain) : Dev :=
  let out := Removable.all.filter d.removed
  let d := d.resetWhere fun i s => Dict.domainOf i s == x && keepAt i s == .v
  let d := if x = .synth then d.showOwners else d
  out.foldl remove d

/-- A register that a Write changes and the retention bank holds: a writable entry of the configuration image (R9, R718). -/
def writableImage (addr : Nat) : Bool :=
  match Dict.find (addr / 256) (addr % 256) with
  | some e => e.keep == .s && e.wr.isSome && !e.ty.isCmd
  | none => false

/-- An item's value lands in the retention bank where its entry keeps one (R9). -/
def landItem (d : Dev) (it : Item) : Dev :=
  match Dict.find it.index it.sub with
  | some e => if writableImage e.addr then d.set e (e.held it.value) else d
  | none => d

/-- Values that a Write has changed and no S0 has taken yet stand in the retention bank: S entries keep them when the frames
that would take them do not come (R9). A UTC value among them takes force with the next frame (R119). -/
def landStaged (d : Dev) : Dev :=
  let items := ((d.staged.filter fun g => g.answer.isNone).map (·.items)).flatten
  let utc (it : Item) : Bool := it.index * 256 + it.sub == Dict.hostUtcOffset.addr || it.index * 256 + it.sub == Dict.utcSource.addr
  let d := items.foldl landItem d
  if items.any utc then d.setB Hid.hostUtcFresh true else d

/-- The lists a domain holds are emptied when it loses power or is isolated (R592). What the retention bank or AON keeps
(K values: the oscillator blocks, the XO day means, a received OSNMA key) and what NV holds stay. -/
def dropLists (d : Dev) (x : Domain) : Dev :=
  let d := d.dropQ fun k => k / 65536 == x.bit
  match x with
  | .time => { d.landStaged with slewLeft := 0, corr := none, staged := [], wrote := [], stamps := [], xoStamps := [], xoSamples := [], measures := [], tracks := [], bases := [], handover := [], followed := [], acquireRuns := [], freeRuns := [], nextBound := [], auditDraft := none, auditWaiting := [], peers := [] }
  | .synth => { d with moscReads := [], frozen := [], announced := [] }
  | .gnss => { d with gsStamps := [], g0Formed := none, g0Posted := none, g0Rates := [], sats := [], sysBias := [], jamSums := [], jamRefs := [], survey := [], osnma := [] }
  | .net => { d with txWaiting := [], held := [], stampQueue := [], openMarkers := [], beatsIn := [], marks := [], replIn := [], replSent := [] }
  | .crypt => d
  | .proto => { d with sentNow := [], signals := [], nrefs := [], protoQueue := [] }
  | .mem =>
    let d := { d with clients := [], rates := [], buckets := [], archive := [], eventLog := [], tableKeys := Config.random 64 d.free }
    d.setB Hid.auditRestart true
  | .ctrl => { d with sessions := [], spiQueue := [], qopWaiting := [], opensWaiting := [], loads := [], compared := [] }
  | .aon => { d with posted := [], windows := [] }

/-- MEM has power again: the fill begins, and DRAM in no self-refresh trains where the system clocks run from SPLL (R606, R607). In
a start it trains in any case. -/
def memPowered (d : Dev) : Dev :=
  let s := d.get Dict.dramState
  let train := d.get Dict.sysClockSource == 1 && (s == 0 || (s == 3 && d.get Hid.bootPhase != 5))
  (if train then d.set Dict.dramState 1 else d).set Dict.fillState 1

/-- A domain loses power or is isolated: its V registers at default, what it holds lost (R592, R638). -/
def dropDomain (d : Dev) (x : Domain) : Dev := (d.defaultDomain x).dropLists x

end Dev

end Sys2Proof.Machine
end

