-- ==== Sys2Proof/Machine/Referee.lean ====
section
/-!
DEFINITION. Referee: confirming raisings, severity actions, isolation, reaction windows, history, fault injection
(R628 to R654, R720, R722).
-/
namespace Sys2Proof.Machine

/-- The source domain of an event source (R720). -/
def sourceDomain (n : Nat) : Domain :=
  if n ≤ 7 ∨ n = 126 ∨ n = 127 then .aon
  else if n ≤ 57 ∨ n = 77 ∨ (80 ≤ n ∧ n ≤ 83) ∨ (112 ≤ n ∧ n ≤ 116) then .time
  else if n ≤ 63 then .synth
  else if n ≤ 79 then .gnss
  else if n ≤ 99 ∨ n = 117 then .net
  else if n = 100 then .crypt
  else if n ≤ 107 then .proto
  else if n = 118 ∨ n = 119 ∨ n = 121 ∨ n = 123 then .mem
  else .ctrl

/-- What a raising's action is aimed at (R637). -/
inductive Target where
  | unit (u : Removable) | domain (x : Domain) | fixed | none
  deriving DecidableEq, Repr

/-- Set Ref of R644: the loss of references. -/
def setRef : List Nat := [24, 26, 27, 28, 29, 33, 34, 49]

/-- The expected consequences of isolating a unit (R644). -/
def unitSet : Removable → List Nat
  | .hmac _ => [82, 90, 101, 104]
  | .aes _ => [82, 90, 101, 104]
  | .channel _ => [16, 17, 18] ++ setRef
  | .link _ => [16, 17, 18] ++ setRef
  | .apll _ => [12, 58, 59, 60, 61, 62, 63]
  | .cko _ => [12, 58, 59, 60, 61, 62, 63]
  | .pls _ => [12, 58, 59, 60, 61, 62, 63]
  | .trg _ => [12, 58, 59, 60, 61, 62, 63]
  | .tod _ => [12, 58, 59, 60, 61, 62, 63]
  | .bank _ => [64, 68, 77] ++ setRef
  | .port _ => [84, 89, 94, 95, 97, 106] ++ setRef
  | .skovwin _ => [114, 117] ++ setRef

/-- The expected consequences of isolating or restarting a domain (R644). -/
def domainSet : Domain → List Nat
  | .synth => [12, 58, 59, 60, 61, 62, 63]
  | .gnss => (List.range 15).map (· + 64) ++ setRef
  | .net => (List.range 15).map (· + 84) ++ [106, 114, 117] ++ setRef
  | .crypt => [82, 90, 100, 101, 103, 104, 105]
  | .proto => [82, 90, 101, 102, 103, 104, 105, 106] ++ setRef
  | .mem => [82, 101, 102, 119, 120, 121, 122]
  | _ => []

/-- The expected consequences of a hand-over and of a safe stop (R644). -/
def handOverSet : List Nat := [62, 112, 113, 114, 115, 117] ++ setRef

/-- See `handOverSet`. -/
def safeStopSet : List Nat := [48, 61, 62, 80, 82, 112, 114, 115, 117] ++ setRef

/-- The unit a capture's leading octet names, by the codings of the sources' chapters (R637, R722): a channel or link
channel for 16 to 18, an APLL or output for 58 to 63, a bank for 65, a port for the sources of 84 to 99 and 102 whose
chapter names one, a lane for 100, a Skovwin port for 117, the unit code of R657 for 124. Source 62 is coded by R722; the codes of source 63 are log
entry 13. -/
def captureUnit (source detail : Nat) : Option Removable :=
  let o0 := detail / 256 ^ 7 % 256
  let o1 := detail / 256 ^ 6 % 256
  if 16 ≤ source ∧ source ≤ 18 then
    if o0 < 16 then some (.channel o0) else if 0x10 ≤ o0 ∧ o0 < 0x13 then some (.link (o0 - 0x10)) else none
  else if source = 62 then
    if o0 < 4 then some (.pls o0) else if o0 = 0x10 ∨ o0 = 0x11 then some (.tod (o0 - 0x10)) else none
  else if source = 58 ∨ source = 59 then (if 1 ≤ o0 ∧ o0 ≤ 3 then some (.apll o0) else none)
  else if source = 60 ∨ source = 61 then (if o0 < 16 then some (.cko o0) else none)
  else if source = 63 then
    if 1 ≤ o0 ∧ o0 ≤ 3 then some (.apll o0) else if 0x30 ≤ o0 ∧ o0 < 0x40 then some (.cko (o0 - 0x30))
    else if 0x40 ≤ o0 ∧ o0 < 0x44 then some (.pls (o0 - 0x40)) else none
  else if source = 65 then (if 1 ≤ o0 ∧ o0 ≤ 12 then some (.bank o0) else none)
  else if source = 84 ∨ source = 86 ∨ source = 89 ∨ source = 94 ∨ source = 99 then (if o0 < 6 then some (.port o0) else none)
  else if source = 100 then
    if o0 = 0 ∧ o1 < 32 then some (.hmac o1) else if o0 = 1 ∧ o1 < 16 then some (.aes o1) else none
  else if source = 102 then (if o1 < 6 then some (.port o1) else none)
  else if source = 117 then (if o0 < 3 then some (.skovwin o0) else none)
  else if source = 124 then Removable.ofCode o0
  else none

/-- The isolation target of a raising (R637). -/
def isolationTarget (source detail : Nat) : Target :=
  if source = 8 ∨ source = 14 ∨ source = 127 then .fixed
  else if source = 79 then .domain .gnss
  else if source = 107 then .domain .proto
  else if source = 123 then .domain .mem
  else
    match captureUnit source detail with
    | some u => .unit u
    | none => .none

namespace Dev

/-- An instant stamped to the nearest TCLK cycle of the frame that runs (R171, R630). -/
def toCycle (d : Dev) (u : Nat) : Nat :=
  let start : Int := (d.view.frameStart : Int) * subUnits + d.view.fraction
  let inc := max 1 (d.get Dict.incrementActive)
  let n := roundNear ((((u * subUnits : Nat) : Int) - start : Int) / ((inc : Nat) : Rat))
  (start + n * inc).toNat / subUnits

/-- The pairs of a domain read Masked, or Quiet again once it is back (R631). -/
def maskPairs (d : Dev) (x : Domain) (masked : Bool) : Dev :=
  forUnits 128 (fun n d =>
    if sourceDomain n == x then
      if masked then d.set (Dict.evtRailState n) 3
      else ((d.clear (Dict.evtRailState n)).setB (Hid.evtArmed n) true)
    else d) d

/-- The pair's source domain is unpowered, isolated or in reset, or has been powered again for less than 1 µs (R631). -/
def masked (d : Dev) (n : Nat) : Bool :=
  decide (d.age < d.get (Hid.unmaskAt (sourceDomain n).bit)) || (sourceDomain n != .aon && !d.powered (sourceDomain n)) || d.get (Dict.evtRailState n) == 3

/-- The earliest open window whose set holds the source (R642). -/
def windowFor (d : Dev) (n : Nat) : Option Window :=
  d.windows.find? fun w => decide (d.view.frames ≤ w.lastFrame) && w.expected.contains n

/-- A reaction window opens for a raising: to the end of the next frame (R642). -/
def openWindow (d : Dev) (source sequence : Nat) (expected : List Nat) : Dev :=
  { d with windows := d.windows ++ [⟨source, sequence, expected, d.view.frames + 1⟩] }

/-- The first frame start, by its count, that lies a time in milliseconds after now. -/
def frameAfter (d : Dev) (ms : Nat) : Nat := (d.age + ms * 1000000 * unitsPerNs + frameUnits - 1) / frameUnits

/-- A domain is isolated (R638): unpowered with the effects of the Block isolate column (R592), counted, due to be
powered again after DomainRestartDelay, and latched at its third isolation within 3,600 s. -/
def isolateDomain (d : Dev) (x : Domain) : Dev :=
  if d.isolated x then d
  else
    let b := x.bit
    let now := d.age
    let recent := d.get (Hid.isolations b) == 2 && decide (now < d.get (Hid.isolatedAt2 b) + 3600 * secondUnits)
    let d := d.inc (Dict.domainIsolationCount (b - 1))
    let d := (d.set (Hid.isolatedAt2 b) (d.get (Hid.isolatedAt b))).set (Hid.isolatedAt b) now
    let d := d.set (Hid.isolations b) (min 2 (d.get (Hid.isolations b) + 1))
    let d := d.dropDomain x
    let d := d.set Dict.isolatedDomains (setBit (d.get Dict.isolatedDomains) b)
    let d := d.set Hid.poweredDomains (clearBit (d.get Hid.poweredDomains) b)
    let d := if recent then d.set Dict.latchedDomains (setBit (d.get Dict.latchedDomains) b) else d
    let d := d.set (Hid.restartDue b) (d.frameAfter (d.get Dict.domainRestartDelay))
    d.maskPairs x true

/-- The units of a domain powered again run their start-up checks; one that fails is removed (R638, R657, R658). -/
def startUpChecks (d : Dev) (x : Domain) : Dev :=
  (Removable.all.filter fun u => u.domain == x && !d.removed u && !d.startUpPasses u).foldl
    (fun d u => (d.remove u).startUpFails u) d

/-- The collections of the four PCT lines begin (R162, R387). -/
def startPcts (d : Dev) : Dev := forUnits 4 (fun n d => (d.clear (Hid.pctResult n)).set (Hid.pctStart n) d.view.frames) d

/-- An isolated domain is powered again, a window opens with the set of its isolation, and its units run their start-up checks
(R638, R642). -/
def restartDomain (d : Dev) (x : Domain) : Dev :=
  if !d.isolated x then d
  else
    let b := x.bit
    let d := d.set Dict.isolatedDomains (clearBit (d.get Dict.isolatedDomains) b)
    let d := d.set Dict.latchedDomains (clearBit (d.get Dict.latchedDomains) b)
    let d := d.set Hid.poweredDomains (setBit (d.get Hid.poweredDomains) b)
    let d := (d.maskPairs x false).set (Hid.unmaskAt b) (d.age + 1000 * unitsPerNs)
    let d := if x = .net then d.startPcts else if x = .mem then d.memPowered else d
    (d.openWindow 0xFF (d.get Dict.refereeSequence) (domainSet x)).startUpChecks x

/-- The safe stop: DeviceState goes to Safe at the next S3; in a Keeper pair the unit stands down, releases KHOLD and
sends no further Beat in that frame (R640). S3 and S6 read the flag. -/
def safeStop (d : Dev) : Dev := d.setB Hid.safeStop true

/-- The action of an isolation on a target: what it does, the flags ActionTaken, ActionReduced and Latched of R646,
and the expected set of its window, if it opens one (R637, R638, R644). -/
def isolate (d : Dev) (t : Target) : Dev × Nat × Option (List Nat) :=
  match t with
  | .unit u => (d.remove u, 0x10, some (unitSet u))
  | .domain x =>
    match x with
    | .time => (d, 0x08, none)
    | .ctrl => (d, 0x08, none)
    | .aon => (d, 0x08, none)
    | _ =>
      let d' := d.isolateDomain x
      let latched := bit (d'.get Dict.latchedDomains) x.bit && !bit (d.get Dict.latchedDomains) x.bit
      (d', 0x10 + (if latched then 0x04 else 0), some (domainSet x))
  | .fixed => (d, 0x08, none)
  | .none => (d, 0x08, none)

/-- Hand-over where none can be made: isolation, or the safe stop when the target cannot be removed, or the reduced
alert when there is no target (R639). -/
def handOverAsIsolate (d : Dev) (t : Target) : Dev × Nat × Option (List Nat) :=
  match t with
  | .fixed => (d.safeStop, 0x10, some safeStopSet)
  | .domain .time => (d.safeStop, 0x10, some safeStopSet)
  | .domain .ctrl => (d.safeStop, 0x10, some safeStopSet)
  | .domain .aon => (d.safeStop, 0x10, some safeStopSet)
  | _ => d.isolate t

/-- Whether the Hand-over action can start or join a commanded hand-over: Active, with a ready Standby, or one already
requested or committed (R639, R542). -/
def canHandOver (d : Dev) : Bool :=
  d.get Dict.keeperRole == 1 && (d.is Dict.keeperStandbyReady || d.get Dict.keeperHandOverState != 0)

/-- The action of a severity (R636, R639, R640): the state after it, its flags, and its window's set. Of actions that fall together
a safe stop overrides a hand-over, and a hand-over overrides an isolation in its own unit, this device (R641; DEDUCED, log entry
125). -/
def act (d : Dev) (severity source detail : Nat) : Dev × Nat × Option (List Nat) :=
  let t := isolationTarget source detail
  if severity = 2 then (if d.is Hid.sampleHandOver then (d, 0, none) else d.isolate t)
  else if severity = 3 then
    if d.is Hid.safeStop then (d, 0, none)
    else if d.canHandOver then
      let d := (d.setB Hid.handOverWanted true).setB Hid.sampleHandOver true
      (d.set Hid.handOverSource (setBit (d.get Hid.handOverSource) source), 0x10, some handOverSet)
    else d.handOverAsIsolate t
  else if severity = 4 then (d.safeStop, 0x10, some safeStopSet)
  else (d, 0, none)

/-- A raising enters its source's history, newest first; a 33rd entry discards the oldest and is counted. While MEM is powered it
is appended to the event log, of 67,108,864 octets (R605, R646). -/
def pushHistory (d : Dev) (n rec : Nat) : Dev :=
  let d := if d.powered .mem then { d with eventLog := (rec :: d.eventLog).take 2097152 } else d
  let full := d.get (Dict.evtHistory n 31) != 0
  let d := if full then d.inc (Dict.evtHistoryLost n) else d
  let d := (List.range 31).foldl (fun x i => x.set (Dict.evtHistory n (31 - i)) (x.get (Dict.evtHistory n (30 - i)))) d
  d.set (Dict.evtHistory n 0) rec

/-- A confirmed raising is offered to the event subscriptions that select it (R89): 24 octets as fields (R87). -/
def offerEvent (d : Dev) (n severity time detail : Nat) : Dev :=
  let offer (sub : Subscription) : Subscription :=
    match sub.sel with
    | .events mask least =>
      if bit mask n && decide (least ≤ severity) then
        let first := if sub.waiting.isEmpty then d.view.frames else sub.lastFrame
        { sub with waiting := sub.waiting ++ [[n, severity, time, detail]], lastFrame := first } else sub
    | .entries _ => sub
  { d with sessions := d.sessions.map fun se => { se with subs := se.subs.map offer } }

/-- The EVT_N pins follow their masks (R648, R649): low from the first bit on, for at least 1 µs, and released, at high impedance,
when the mask is empty. They are outputs 0x60 and 0x61 of the model's record (DESIGN CHOICE, log entry 118). -/
def followEvt (d before : Dev) : Dev :=
  [(0, Dict.evtPending0), (1, Dict.evtPending1)].foldl (fun d x =>
    let was := before.is x.2
    let low := d.is x.2
    if low && !was then (d.set (Hid.evtLowAt x.1) d.age).out (.edge (0x60 + x.1) .low d.now)
    else if was && !low then
      d.out (.edge (0x60 + x.1) .highImpedance (d.now + (d.get (Hid.evtLowAt x.1) + 1000 * unitsPerNs - d.age)))
    else d) d

/-- A raising that acts sets its bit of the mask of each pin it is routed to, unless it is a Note (R648). -/
def markEvt (d : Dev) (n severity : Nat) : Dev :=
  let route := if severity = 0 then 0 else d.get (Dict.evtRoute n)
  let mark (d : Dev) (pin : Nat) (e : Entry) : Dev := if bit route pin then d.set e (setBit (d.get e) n) else d
  ((mark d 0 Dict.evtPending0) |> fun x => mark x 1 Dict.evtPending1).followEvt d

/-- Referee confirms a raising of a source (R629, R636, R642 to R646, R648, R651): it numbers and logs it, links it to
an open window or takes the action of the severity in force, and drives the EVT_N masks. -/
def confirm (d : Dev) (p : Post) : Dev :=
  let n := p.source
  let severity := d.get (Dict.evtSeverity n)
  let detail := if p.railFault then 0 else p.detail
  let seq := if d.get Dict.refereeSequence = 0xFFFFFFFF then 1 else d.get Dict.refereeSequence + 1
  let time := toTime96 (d.toCycle d.now)
  let cause := if p.act && decide (severity < 3) then d.windowFor n else none
  let mark := (if p.railFault then 0x40 else 0) + (if p.injected then 0x20 else 0)
  let d := d.set Dict.refereeSequence seq
  let d := (d.inc Dict.refereeEventCount).inc (Dict.evtCount n)
  let d := d.set (Dict.evtLastTime n) time
  let d :=
    if d.get (Dict.evtFirstSequence n) = 0 then
      ((d.set (Dict.evtFirstTime n) time).set (Dict.evtFirstSequence n) seq).set (Dict.evtFirstDetail n) detail
    else d
  let d := if p.injected then d.inc Dict.faultInjectCount else d
  let d := if p.injected || cause.isSome then d else d.inc (Dict.lifeFaultCount severity)
  let record (flags causeSource causeSeq : Nat) : Nat :=
    ofOctets ([n, severity, flags, causeSource] ++ octetsOf 4 seq ++ octetsOf 12 time ++ octetsOf 8 detail ++
      octetsOf 4 causeSeq)
  match cause with
  | some w =>
    let d := (d.inc (Dict.evtConsequentCount n)).inc Dict.refereeConsequentCount
    (d.pushHistory n (record (0x80 + mark) w.source w.sequence)).offerEvent n severity time detail
  | none =>
    if !p.act then (d.pushHistory n (record mark 0xFF 0)).offerEvent n severity time detail
    else
      let (d, flags, expected) := (d.markEvt n severity).act severity n detail
      let d :=
        match expected with
        | some l => d.openWindow n seq l
        | none => d
      (d.pushHistory n (record (mark + flags) 0xFF 0)).offerEvent n severity time detail

/-- A pair reads Fault twice after Quiet and its source is raised (R630): the presented raising if one waits, else one
with the capture the hardware shows. A masked pair raises nothing (R631), nor a pair still at Fault (R630), nor a
number no chapter defines (R55). -/
def pairFault (d : Dev) (n hardware : Nat) : Dev :=
  if decide (127 < n) || (decide (36 ≤ n) && decide (n ≤ 47)) || d.masked n || !d.is (Hid.evtArmed n) then d
  else
    let p := (d.posted.find? fun p => p.source == n).getD ⟨n, hardware, false, false, true⟩
    let d := { d with posted := d.posted.erase p }
    let d := (d.setB (Hid.evtArmed n) false).set (Dict.evtRailState n) 1
    d.confirm p

/-- Insertion of a raising by descending severity in force, then ascending source (R641). -/
def insertRaising (d : Dev) (x : Nat × Nat) : List (Nat × Nat) → List (Nat × Nat)
  | [] => [x]
  | y :: t =>
    let sx := d.get (Dict.evtSeverity x.1)
    let sy := d.get (Dict.evtSeverity y.1)
    if sy < sx ∨ (sx = sy ∧ x.1 ≤ y.1) then x :: y :: t else y :: d.insertRaising x t

/-- Sources confirmed in one sample are handled by descending severity and ascending source (R641). -/
def pairFaults (d : Dev) (l : List (Nat × Nat)) : Dev :=
  let d := d.clear Hid.sampleHandOver
  ((l.foldl (fun acc x => d.insertRaising x acc) []).foldl (fun d x => d.pairFault x.1 x.2) d).clear Hid.sampleHandOver

/-- A pair returns to Quiet and may raise its source again (R630). -/
def pairQuiet (d : Dev) (n : Nat) : Dev :=
  if d.get (Dict.evtRailState n) == 1 then (d.clear (Dict.evtRailState n)).setB (Hid.evtArmed n) true else d

/-- A source number that a chapter defines (R55, R218). -/
def defined (n : Nat) : Bool := decide (n ≤ 127) && !(decide (36 ≤ n) && decide (n ≤ 47))

/-- A pair reads Invalid for 16 samples (R632): source 126 for the episode with the stuck levels, and the pair's own
source, where a chapter defines it (R55), marked RailFault. The own source comes first when its severity is higher (R641). -/
def railFault (d : Dev) (n levels : Nat) (injected act : Bool) : Dev :=
  if decide (127 < n) || d.masked n || d.get (Dict.evtRailState n) == 2 then d
  else
    let d := (d.clear Hid.sampleHandOver).inc Dict.railFaultCount
    let d := d.set (Dict.evtRailState n) 2
    let episode : Post := ⟨126, packDetail [(1, n), (1, levels)], false, injected, act⟩
    let own : Post := ⟨n, 0, true, injected, act⟩
    let order : List Post := if !defined n then [episode]
      else if d.get (Dict.evtSeverity 126) < d.get (Dict.evtSeverity n) ∨
        (d.get (Dict.evtSeverity 126) = d.get (Dict.evtSeverity n) ∧ n < 126) then [own, episode]
      else [episode, own]
    (order.foldl confirm d).clear Hid.sampleHandOver

/-- 64 valid samples end a rail fault (R632). -/
def railFaultEnd (d : Dev) (n : Nat) : Dev :=
  if d.get (Dict.evtRailState n) == 2 then (d.clear (Dict.evtRailState n)).setB (Hid.evtArmed n) true else d

/-- Reaction windows end at the end of the frame after their raising (R642). -/
def closeWindows (d : Dev) : Dev :=
  { d with windows := d.windows.filter fun w => decide (d.view.frames < w.lastFrame) }

/-- EvtClear: counts, first capture, latest time, lost count and history of a source (R653). -/
def evtClear (d : Dev) (n : Nat) : Dev :=
  let d := d.clearAll [Dict.evtCount n, Dict.evtConsequentCount n, Dict.evtFirstTime n, Dict.evtFirstSequence n,
    Dict.evtFirstDetail n, Dict.evtLastTime n, Dict.evtHistoryLost n]
  forUnits 32 (fun k d => d.clear (Dict.evtHistory n k)) d

/-- EvtAcknowledge clears the mask bits it names (R649): pin octet, then 16 mask octets. -/
def evtAcknowledge (d : Dev) (v : Nat) : Dev :=
  let pin := v / 256 ^ 16
  let mask := v % 256 ^ 16
  let strike (e : Entry) (d : Dev) : Dev :=
    forUnits 128 (fun n d => if bit mask n then d.set e (clearBit (d.get e) n) else d) d
  let before := d
  let d := if pin = 0 ∨ pin = 2 then strike Dict.evtPending0 d else d
  (if pin = 1 ∨ pin = 2 then strike Dict.evtPending1 d else d).followEvt before

/-- FaultInject takes effect at its S0: Count injections follow, one per frame (R650). Octets: Source, Mode, Count,
Unit, Options. -/
def faultInject (d : Dev) (v : Nat) : Dev :=
  let n := v / 256 ^ 4 % 128
  let d := d.set (Hid.injectMode n) (v / 256 ^ 3 % 256)
  let d := d.set (Hid.injectLeft n) (v / 256 ^ 2 % 256)
  let d := d.set (Hid.injectUnit n) (v / 256 % 256)
  d.setB (Hid.injectAct n) (bit v 0)

/-- The values of a FaultInject that R650 accepts. -/
def faultInjectOk (v : Nat) : Bool :=
  let n := v / 256 ^ 4
  let mode := v / 256 ^ 3 % 256
  let count := v / 256 ^ 2 % 256
  let unit := v / 256 % 256
  decide (n < 128) && decide (1 ≤ count) && decide (count ≤ 16) && decide (v % 256 ≤ 1) &&
    (mode == 2 || (mode == 3 && decide (unit ≤ 1)) ||
      (mode == 1 && [14, 17, 63, 65, 79, 99, 100, 107, 118, 119, 123, 127].contains n))

/-- The capture an injected check shows: the unit in the source's own coding; 0xFF names the next unit checked, which
the spec does not fix (DESIGN CHOICE, log entry 4). -/
def injectedCapture (d : Dev) (n unit : Nat) : Nat :=
  let pick (lo count : Nat) : Nat := if unit = 0xFF then lo + d.freeNat 2 % count else unit
  if n = 17 then packDetail [(1, pick 0 19), (1, 0xFF)]
  else if n = 63 then packDetail [(1, pick 1 3)]
  else if n = 65 then packDetail [(1, pick 1 12)]
  else if n = 99 then packDetail [(1, pick 0 6)]
  else if n = 100 then
    let lane := pick 0 32
    if lane < 0x80 then packDetail [(1, 0), (1, lane)] else packDetail [(1, 1), (1, lane - 0x80)]
  else packDetail [(1, unit)]

/-- The injection of one frame on a source (R650, R651). A check-bit inversion raises the source through the checked
unit's own path; on source 14 with Act true the duplicate counters disagree (R105). -/
def injectOne (d : Dev) (n : Nat) : Dev :=
  if d.get (Hid.injectLeft n) == 0 then d
  else
    let a := d.is (Hid.injectAct n)
    let d := d.set (Hid.injectLeft n) (d.get (Hid.injectLeft n) - 1)
    let mode := d.get (Hid.injectMode n)
    if mode = 3 then d.railFault n (if d.get (Hid.injectUnit n) = 1 then 3 else 0) true a
    else
      let d := if mode = 1 && n == 14 && a then d.setB Hid.dupMismatch true else d
      let unit := if mode = 1 then d.injectedCapture n (d.get (Hid.injectUnit n)) else 0
      { d with posted := d.posted ++ [⟨n, unit, false, true, a⟩] }

/-- The injections due in a frame (R650). -/
def injectFrame (d : Dev) : Dev := forUnits 128 (fun n d => d.injectOne n) d

/-- S7: the sweep of the pairs n with n modulo 16 = f modulo 16, Masked ones skipped (R633). A pair of the operand list
gave no test response, which is a rail fault; its levels stand beside it. -/
def sweep (d : Dev) (failed : List (Nat × Nat)) : Dev :=
  let f := d.frame
  failed.foldl (fun d x =>
    if decide (x.1 < 128) && x.1 % 16 == f % 16 && !d.masked x.1 then d.railFault x.1 x.2 false true else d) d

end Dev


end Sys2Proof.Machine
end

