-- ==== Sys2Proof/Machine/Timescale.lean ====
section
/-!
DEFINITION. The timescale: increments, slewing, steps and sets, UTC offset and leap seconds (R99 to R119).
-/
namespace Sys2Proof.Machine

/-- IncrementNominal in 2^-56 ns (R102). -/
abbrev incrementNominal : Nat := 0xCCCCCCCCCCCCCD

/-- ±2.5 × 10^-4 in FRAC64 units (R103, R104). -/
abbrev trimLimit : Int := 4611686018427387

/-- 2^-56 ns in one frame. -/
abbrev frameSubUnits : Nat := frameUnits * subUnits

namespace Dev

/-- The timescale's V registers that change at a frame start take the values S3 computed for the frame (R41, R103). -/
def enterFrameIncrement (d : Dev) : Dev :=
  let d := d.set Dict.incrementActive (d.get Hid.incNext)
  let d := d.set Dict.slewIncrement (d.get Hid.slewIncNext)
  let d := d.set Dict.rateTrim (d.get Hid.trimNext)
  let d := d.set Hid.slewExtra (d.get Hid.slewExtraNext)
  (d.set Hid.slewBack (d.get Hid.slewBackNext)).set Hid.slewDue (d.get Hid.slewDueNext)

/-- The servo's rate trim for the next frame, clamped to ±2.5 × 10^-4 (R103, R104). -/
def setRateTrim (d : Dev) (x : Rat) : Dev :=
  let i := toFrac64 x
  let c := clampInt (-trimLimit) trimLimit i
  (d.setI Hid.trimNext c).setB Hid.trimClamped (i != c)

/-- SlewRemaining as the entry shows it (R107, R135). -/
def showSlew (d : Dev) : Dev := d.setI Dict.slewRemaining (roundZero ((d.slewLeft : Rat) / (subUnits : Rat)))

/-- A correction of so many CT64 units enters the slew path (R107). -/
def addSlew (d : Dev) (units : Int) : Dev := ({ d with slewLeft := d.slewLeft + units * (subUnits : Int) }).showSlew

/-- The slew engine's work in S3 for the next frame (R103, R104, R107): the amount, its whole-unit share per cycle and
the cycles that take one unit more. The number of cycles is counted from above, and what the running frame is applying no longer
counts as remaining (DEDUCED, log entry 14). -/
def slewEngine (d : Dev) : Dev :=
  let limit := d.get Dict.slewLimit
  let frameLimit := limit * 2 ^ 42 / 25
  let base := ((incrementNominal : Int) + roundNear ((incrementNominal : Rat) * ofFrac64 (d.getI Hid.trimNext))).toNat
  let left := d.slewLeft - d.getI Hid.slewDue
  let back := decide (left < 0)
  let mag := min left.natAbs frameLimit
  let cycles0 := (frameSubUnits + base - 1) / base
  let slowest := if back then base - mag / cycles0 else base
  let cycles := (frameSubUnits + slowest - 1) / slowest
  let share := mag / cycles
  let top := (incrementNominal * limit + 5 * 10 ^ 10) / 10 ^ 11
  let clamped := decide (top < share)
  let whole := if clamped then top else share
  let extra := if clamped then 0 else mag - share * cycles
  let d := d.setI Hid.slewIncNext (if back then -(whole : Int) else (whole : Int))
  let d := d.set Hid.incNext (if back then base - whole else base + whole)
  let d := (d.set Hid.slewExtraNext extra).setB Hid.slewBackNext back
  let due : Int := whole * cycles + extra
  let d := d.setI Hid.slewDueNext (if back then -due else due)
  let d := d.postOnce Hid.clampEpisode (clamped || d.is Hid.trimClamped) 15 []
  d.postOnce Hid.backlogEpisode (decide (3600 * limit * 2 ^ 56 < d.slewLeft.natAbs * 100)) 13 []

/-- The amount actually slewed in a frame of `n` cycles leaves SlewRemaining (R107). -/
def settleSlew (d : Dev) (n : Nat) : Dev :=
  let extra : Int := min n (d.get Hid.slewExtra)
  let done := (n : Int) * d.getI Dict.slewIncrement + (if d.is Hid.slewBack then -extra else extra)
  ({ d with slewLeft := d.slewLeft - done }).showSlew

/-- A step or set is scheduled StepLeadFrames frames after the frame in which it is decided (R109, R110). -/
def schedule (d : Dev) (isSet : Bool) (size : Int) : Dev :=
  let due := (d.view.frameStart / frameUnits + d.get Dict.stepLeadFrames) * frameUnits
  let d := { d with corr := some ⟨isSet, size, due⟩ }.clear Hid.recovering
  (d.setI Dict.stepPendingSize size).set Dict.stepPendingAt (toCt64 due)

/-- A requested correction takes the path of R106 and R109: a step when it is forward, enabled, above StepThreshold and
nothing is pending; otherwise the slew path. -/
def correct (d : Dev) (units : Int) : Dev :=
  if decide ((d.get Dict.stepThreshold : Int) * 65536 < units) && d.is Dict.stepEnable && d.corr.isNone then
    d.schedule false units
  else d.addSlew units

/-- The set path is permitted (R106's table): Boot, Free-run before client service, or Maintenance. -/
def setPermitted (d : Dev) : Bool :=
  d.state == 0 || (d.state == 1 && !d.is Dict.clientServiceStarted) || d.lifeCycle == 3

/-- TimeSet accepted: the set's size is the asserted value less the timescale at acceptance (R110). Of two in one message the
later replaces the earlier (DESIGN CHOICE, log entry 115). -/
def timeSet (d : Dev) (v : Nat) : Dev := d.schedule true ((ofTime96 v : Int) - (d.now : Int))

/-- TimeAdjust accepted (R111): a set in Maintenance, else the path of R106. -/
def timeAdjust (d : Dev) (units : Int) : Dev :=
  if d.lifeCycle = 3 then d.schedule true units else d.correct units

/-- What an applied step or set records (R112, R113): counted, timed, sized, the slew path emptied, source 9. LastDiscontinuityTime
takes the frame start as the timescale reads after the step or set (DESIGN CHOICE, log entry 115). -/
def recordDiscontinuity (d : Dev) (isSet : Bool) (size : Int) : Dev :=
  let d := d.inc Dict.discontinuityCount
  let d := d.set Dict.lastDiscontinuityTime (toTime96 d.view.frameStart)
  let d := d.setI Dict.lastDiscontinuitySize size
  let d := { d with slewLeft := 0, corr := none }
  let d := d.set Hid.incNext ((d.get Hid.incNext : Int) - d.getI Hid.slewIncNext).toNat
  let d := d.clearAll [Dict.slewRemaining, Dict.slewIncrement, Hid.slewExtra, Hid.slewBack, Hid.slewIncNext,
    Hid.slewExtraNext, Hid.slewBackNext, Hid.slewDue, Hid.slewDueNext, Dict.stepPendingSize, Dict.stepPendingAt,
    Hid.recovering]
  let d := d.set Hid.jumpFrame (d.view.frames + 1)
  let d := if isSet then d.setB Hid.setApplied true else d
  d.post 9 [(8, d.get Dict.lastDiscontinuitySize)]

/-! ### UTC offset and leap seconds -/

end Dev

/-- Whether a civil day count from 1970-01-01 is the first day of a month, by the proleptic Gregorian calendar. -/
def firstOfMonth (days : Nat) : Bool :=
  -- day of month by the usual era arithmetic, with years from March
  let z := days + 719468
  let doe := z % 146097
  let yoe := (doe - doe / 1460 + doe / 36524 - doe / 146096) / 365
  let doy := doe - (365 * yoe + yoe / 4 - yoe / 100)
  let mp := (5 * doy + 2) / 153
  doy == (153 * mp + 2) / 5

/-- A leap time fits R117: whole seconds, and POSIX 00:00:00 UTC on the first of a month once the offset that follows
the leap is taken away. -/
def leapTimeOk (time : Nat) (offsetAfter : Int) : Bool :=
  let s : Int := ((time / 2 ^ 48 : Nat) : Int) - offsetAfter
  time % 2 ^ 48 == 0 && decide (0 ≤ s) && s % 86400 == 0 && firstOfMonth (s.toNat / 86400)

namespace Dev

/-- The offset that would follow a leap of a kind (R117, R118). -/
def offsetAfter (d : Dev) (kind : Nat) : Int :=
  d.getI Dict.utcOffset + (if kind = 1 then 1 else if kind = 2 then -1 else 0)

/-- A leap announcement takes force (R117). -/
def announceLeap (d : Dev) (kind time : Nat) : Dev :=
  if kind = 0 then (d.clear Dict.leapPending).clear Dict.leapTime
  else (d.set Dict.leapPending kind).set Dict.leapTime time

/-- The values a HostLeapAnnounce may carry (R17, R119): kind, 3 reserved octets, TIME96. The time must fit R117, be later
than the timescale at the next S0, and lie at most 366 days ahead. Reserved octets that are not zero receive OutOfRange
(DESIGN CHOICE, log entry 115). -/
def leapAnnounceOk (d : Dev) (v : Nat) : Bool :=
  let kind := v / 256 ^ 15
  let time := v % 256 ^ 12
  let nextS0 := (d.view.frameStart / frameUnits + 1) * frameUnits
  decide (kind ≤ 2) && v / 256 ^ 12 % 256 ^ 3 == 0 && time96Ok time &&
    (kind == 0 ||
      (leapTimeOk time (d.offsetAfter kind) && decide (nextS0 < ofTime96 time) &&
        decide (ofTime96 time ≤ d.now + 31622400 * secondUnits)))

/-- An offset is adopted from a reference (R116). -/
def adoptOffset (d : Dev) (ref : Nat) (offset : Int) : Dev :=
  let d := d.setI Dict.utcOffset offset
  let d := (d.setB Dict.utcValid true).set Dict.utcSourceRef ref
  d.clearAll [Hid.utcCandidate, Hid.utcCandidateRef, Hid.utcCandidateFrames]

/-- The kinds of reference that carry UTC data (R115): G0, NREF0, NREF1, K0, and a REFIN pulse with a ToD companion. -/
def carriesUtc (d : Dev) (ref : Nat) : Bool :=
  decide (14 ≤ ref ∧ ref ≤ 17) || (decide (ref < 8) && d.get (Dict.refMode ref) == 2)

/-- The UTC work of one frame (R115, R116, R117, R119): host values under UtcSource 0x00; otherwise what the Selected
reference reports, adopted at once while UtcValid is false and else after 600 s without a break. -/
def utcFrame (d : Dev) : Dev :=
  if d.get Dict.utcSource = 0 then
    let d := d.clearAll [Hid.utcCandidate, Hid.utcCandidateRef, Hid.utcCandidateFrames]
    if d.is Hid.hostUtcFresh then
      let d := d.setI Dict.utcOffset (d.getI Dict.hostUtcOffset)
      ((d.setB Dict.utcValid true).set Dict.utcSourceRef 0xFE).setB Hid.hostUtcFresh false
    else d
  else
    let ref := d.get Dict.selectedRef
    let kind := d.get (Hid.utcLeapKind ref)
    let time := d.get (Hid.utcLeapTime ref)
    let reports := ref < 18 && d.carriesUtc ref
    let offered := d.get (Hid.utcReport ref) != 0
    let d := if reports && ((offered && kind == 0) || (kind != 0 && decide (d.now < ofTime96 time))) then d.announceLeap kind time else d
    if reports && offered then
      let offset : Int := (d.get (Hid.utcReport ref) : Int) - (2 ^ 31 + 1)
      if !d.is Dict.utcValid then d.adoptOffset ref offset
      else if offset = d.getI Dict.utcOffset then
        let d := d.set Dict.utcSourceRef ref
        d.clearAll [Hid.utcCandidate, Hid.utcCandidateRef, Hid.utcCandidateFrames]
      else
        let same := d.getI Hid.utcCandidate == offset && d.get Hid.utcCandidateRef == ref
        let n := if same then d.get Hid.utcCandidateFrames + 1 else 1
        let d := if same then d else d.post 11 []
        let d := (d.setI Hid.utcCandidate offset).set Hid.utcCandidateRef ref
        let d := d.set Hid.utcCandidateFrames n
        if 600 * framesPerSecond ≤ n then d.adoptOffset ref offset else d
    else d.clearAll [Hid.utcCandidate, Hid.utcCandidateRef, Hid.utcCandidateFrames]

/-- The timescale has reached LeapTime: the offset changes by one second and the announcement ends (R118). -/
def applyLeap (d : Dev) : Dev :=
  if d.get Dict.leapPending = 0 then d
  else
    let d := (d.set Hid.leapAt (ofTime96 (d.get Dict.leapTime) + 1)).setI Hid.leapOffset (d.getI Dict.utcOffset)
    let d := d.setI Dict.utcOffset (d.offsetAfter (d.get Dict.leapPending))
    ((d.clear Dict.leapPending).clear Dict.leapTime).post 10 []

/-- UtcOffset as it is in force at a timescale value (R118, R451): the one before the last leap until that leap, and the one
that follows an announced leap from its LeapTime on. -/
def utcOffsetAt (d : Dev) (u : Nat) : Int :=
  if u < d.get Hid.leapAt - 1 then d.getI Hid.leapOffset
  else if d.get Dict.leapPending ≠ 0 ∧ ofTime96 (d.get Dict.leapTime) ≤ u then d.offsetAfter (d.get Dict.leapPending)
  else d.getI Dict.utcOffset

/-- LeapTime has been reached by an instant. -/
def leapDue (d : Dev) (u : Nat) : Bool :=
  d.get Dict.leapPending != 0 && decide (ofTime96 (d.get Dict.leapTime) ≤ u)

end Dev

end Sys2Proof.Machine
end

