-- ==== Sys2Proof/Machine/Timers.lean ====
section
/-!
DEFINITION. Event timers and trigger outputs (R120 to R134, R275, R276).
-/
namespace Sys2Proof.Machine

/-- 1 µs in CT64 units (R123, R124). -/
abbrev microsecond : Nat := 65536000

/-- Level as the pin register keeps it. -/
def PinLevel.code (l : PinLevel) : Nat :=
  match l with
  | .low => 0
  | .high => 1
  | .highImpedance => 2
  | .clock => 3

namespace Dev

/-- A destination code names a TRG, IT or PLS output (the timer destinations table). -/
def isTrg (dest : Nat) : Bool := decide (dest < 8)
/-- See `isTrg`. -/
def isIt (dest : Nat) : Bool := decide (0x10 ≤ dest ∧ dest ≤ 0x1F)
/-- See `isTrg`. -/
def isPls (dest : Nat) : Bool := decide (0x20 ≤ dest ∧ dest ≤ 0x23)

/-- The destination's holder other than timer `n`, if any timer not Idle holds it (R120). -/
def destHeld (d : Dev) (n dest : Nat) : Bool :=
  (List.range 32).any fun m =>
    m != n && d.get (Dict.tmrState m) != 0 && d.get (Dict.tmrDestination m) == dest && dest != 0xFF

/-- PlsWidth fits the period of a timer that drives a pulse output, whatever its mode (R275). -/
def pulseWidthOk (d : Dev) (n : Nat) : Bool :=
  let dest := d.get (Dict.tmrDestination n)
  let pulse := d.get (Dict.plsWidth (dest - 0x20)) * unitsPerNs
  !isPls dest || (decide (10 * unitsPerNs ≤ pulse) && decide (pulse + 10 * unitsPerNs ≤ d.get (Dict.tmrPeriod n)))

/-- The rules on values that refuse an arming with OutOfRange (R122, R275). -/
def armValuesOk (d : Dev) (n : Nat) : Bool :=
  let mode := d.get (Dict.tmrMode n)
  let dest := d.get (Dict.tmrDestination n)
  let period := d.get (Dict.tmrPeriod n)
  let width := d.get (Dict.tmrWidth n) * unitsPerNs
  let aligned := mode != 3 || (secondUnits % (max period 1) == 0 && decide (0 ≤ d.getI (Dict.tmrOffset n)) &&
    decide (d.getI (Dict.tmrOffset n) < (period : Int)))
  let least := if isPls dest then 1000 * unitsPerNs else 16 * unitsPerNs
  let periodOk := !(isTrg dest || isIt dest || isPls dest) || decide (least ≤ period)
  let widthOk := !isTrg dest || mode == 0 ||
    (if mode = 1 then decide (4 * unitsPerNs ≤ width ∧ width ≤ 1000000000 * unitsPerNs)
     else decide (4 * unitsPerNs ≤ width ∧ width + 4 * unitsPerNs ≤ period))
  aligned && periodOk && widthOk && d.pulseWidthOk n

/-- The rules of R20 on a target that modes 0x01 and 0x02 arm with. -/
def armTargetOk (d : Dev) (n : Nat) : Bool :=
  let mode := d.get (Dict.tmrMode n)
  !(mode == 1 || mode == 2) || inWindow d.now (d.get (Dict.tmrTarget n))

/-- First aligned instant of a timer strictly later than, or at or after, an instant (R121, R123). -/
def nextAligned (d : Dev) (n after : Nat) (strict : Bool) : Nat :=
  let period := max (d.get (Dict.tmrPeriod n)) 1
  let offset := d.get (Dict.tmrOffset n)
  let floor := if strict then after + 1 else after
  let s := floor / secondUnits * secondUnits
  let k := if floor ≤ s + offset then 0 else (floor - (s + offset) + period - 1) / period
  let c := s + offset + k * period
  -- an instant belongs to second s only while it lies before s + 1 s
  if c < s + secondUnits then c else s + secondUnits + offset

/-- The next target of a periodic or aligned timer at or after an instant (R121, R124). -/
def nextTarget (d : Dev) (n from_ at_ : Nat) : Nat :=
  if d.get (Dict.tmrMode n) = 3 then d.nextAligned n at_ false
  else
    let period := max (d.get (Dict.tmrPeriod n)) 1
    if at_ ≤ from_ then from_ else from_ + (at_ - from_ + period - 1) / period * period

/-- The targets of a timer from a pending one up to, not including, an instant (R124). -/
def missedCount (d : Dev) (n target limit : Nat) : Nat :=
  if limit ≤ target then 0
  else if d.get (Dict.tmrMode n) = 1 then 1
  else (limit - 1 - target) / max (d.get (Dict.tmrPeriod n)) 1 + 1

/-- Targets missed before an instant that still count toward TmrFireLimit (R121, R124). -/
def missedWithin (d : Dev) (n target limit : Nat) : Nat :=
  let total := d.missedCount n target limit
  let room := d.get (Dict.tmrFireLimit n) - d.get (Hid.tmrTargets n)
  if d.get (Dict.tmrFireLimit n) = 0 ∨ d.get (Dict.tmrMode n) = 1 then total else min total (max room 1)

/-- Successive targets of a timer from one on, up to an instant; at most `fuel` of them (R121). -/
def targetsFrom (d : Dev) (n limit t : Nat) : Nat → List Nat
  | 0 => []
  | fuel + 1 => if limit ≤ t then [] else t :: d.targetsFrom n limit (d.nextTarget n t (t + 1)) fuel

/-- The pending target of a timer becomes an instant. -/
def setNext (d : Dev) (n u : Nat) : Dev := d.set (Dict.tmrNextFire n) (toCt64 u)

/-- The pending target as an instant. -/
def pendingTarget (d : Dev) (n : Nat) : Nat := ofCt64 d.now (d.get (Dict.tmrNextFire n))

/-- The owner registers of the destination follow the timer's state (R137, and the pulse outputs' table). -/
def ownDest (d : Dev) (n : Nat) (own : Bool) : Dev :=
  let dest := d.get (Dict.tmrDestination n)
  let d := if isTrg dest then d.set (Dict.trgOwner dest) (if own then n else 0xFF) else d
  if isPls dest then d.set (Dict.plsOwner (dest - 0x20)) (if own then n else 0xFF) else d

/-- The timer leaves Armed for Done or Idle. -/
def endTimer (d : Dev) (n state : Nat) : Dev :=
  ((d.set (Dict.tmrState n) state).clear (Dict.tmrNextFire n)).ownDest n false

/-- The targets of an armed timer from the pending one up to an instant, those its fire limit leaves (R121). -/
def targetsBefore (d : Dev) (n limit : Nat) : List Nat :=
  let t := d.pendingTarget n
  let l := d.targetsFrom n limit t ((limit - t) / max (d.get (Dict.tmrPeriod n)) 1 + 2)
  if d.get (Dict.tmrMode n) = 1 then l.take 1
  else if d.get (Dict.tmrFireLimit n) = 0 then l
  else l.take (d.get (Dict.tmrFireLimit n) - d.get (Hid.tmrTargets n))

/-- Whether the counted targets reach TmrFireLimit, or the mode is one-shot (R121). -/
def limitReached (d : Dev) (n : Nat) : Bool :=
  d.get (Dict.tmrMode n) == 1 ||
    (d.get (Dict.tmrFireLimit n) != 0 && decide (d.get (Dict.tmrFireLimit n) ≤ d.get (Hid.tmrTargets n)))

/-- An intended edge rounded to the nearest picosecond, a tie going to the later one; in CT64 units, with the placed
edge minus the intended edge (R131). One picosecond is 65.536 units, so the placed instant is kept as a rational. -/
def placeEdge (intended : Rat) : Rat × Int :=
  let placed := (roundNear (intended * 1000 / 65536) : Rat) * 65536 / 1000
  (placed, roundNear (placed - intended))

/-- The internal path delay of an output that the device compensates, in CT64 units (R133, R276; DESIGN CHOICE, log entry 15). -/
def pathDelay (dest : Nat) : Nat := Config.deviceData 0x2200 (256 + dest) % (1000 * unitsPerNs)

/-- The level of a pulse pin while its pulse is in progress or not, by its polarity (R132, R137, R288). -/
def pulseLevel (polarity : Nat) (active : Bool) : PinLevel := if active == (polarity == 0) then .high else .low

/-- The idle state of a pulse pin (R132): driven inactive, or at high impedance. -/
def idleLevel (polarity idle : Nat) : PinLevel := if idle = 1 then .highImpedance else pulseLevel polarity false

/-- What TRGm drives (R127, R132). -/
def trgLevel (d : Dev) (m : Nat) : PinLevel :=
  let polarity := d.get (Dict.trgPolarity m)
  if !d.is (Dict.trgEnable m) || d.is (Hid.trgRemoved m) then idleLevel polarity (d.get (Dict.trgIdle m))
  else if d.is (Hid.trgHigh m) then pulseLevel polarity true
  else if d.get (Dict.trgOwner m) = 0xFF then idleLevel polarity (d.get (Dict.trgIdle m))
  else pulseLevel polarity false

/-- A pin drives a level from an instant on; the output is recorded. -/
def drive (d : Dev) (pin : Nat) (level : PinLevel) (at_ : Nat) : Dev :=
  (d.set (Hid.pinLevel pin) level.code).out (.edge pin level at_)

/-- A pin that does not drive a level yet drives it from an instant on. -/
def driveNew (d : Dev) (pin : Nat) (level : PinLevel) (at_ : Nat) : Dev :=
  if d.get (Hid.pinLevel pin) = level.code then d else d.drive pin level at_

/-- The destination of a timer fires at an instant (R131, R133, R134): a TRG edge placed ahead of the target by the
compensations when its output is enabled, with the end of its width, one TCLK pulse of an internal line, or a pulse of a PLS output. -/
def fireDest (d : Dev) (n instant : Nat) : Dev :=
  let dest := d.get (Dict.tmrDestination n)
  if isTrg dest then
    let intended : Rat := (instant : Rat) - ((pathDelay dest : Nat) : Rat) - (d.getI (Dict.trgBoardDelay dest) : Rat)
    let (placed, residual) := placeEdge intended
    let d := d.setI (Dict.tmrLastResidual n) residual
    if d.is (Dict.trgEnable dest) && !d.is (Hid.trgRemoved dest) then
      let last := (placed + ((d.get (Dict.tmrWidth n) * unitsPerNs : Nat) : Rat)).floor.toNat
      let d := (d.setB (Hid.trgHigh dest) true).set (Hid.trgEnd dest) (last + 1)
      d.drive (0x44 + dest) (pulseLevel (d.get (Dict.trgPolarity dest)) true) placed.floor.toNat
    else d
  else if isIt dest then d.out (.line (dest - 0x10) instant)
  else d

/-- A fire is recorded: its target and the count (R131). -/
def recordFire (d : Dev) (n target : Nat) : Dev :=
  (d.set (Dict.tmrLastFire n) (toCt64 target)).inc (Dict.tmrFireCount n)

/-- The policy in force: skip for a pulse output whatever is written (R125). -/
def missSkips (d : Dev) (n : Nat) : Bool :=
  isPls (d.get (Dict.tmrDestination n)) || d.get (Dict.tmrMissPolicy n) == 1

/-- The instant at which the hardware places a late fire at a frame start (R124): at or after the target it stands for, and
within 1 µs after the frame start; which one is a free value (DESIGN CHOICE, log entry 4). -/
def lateInstant (d : Dev) (n target : Nat) : Nat :=
  let first := max d.view.frameStart target
  first + d.freeNat (160 + n) % (d.view.frameStart + microsecond + 1 - first)

/-- The targets of an armed timer missed before an instant form one group (R124): counted, reported once as source 12
with the earliest of them, fired once where the policy says so, and the timer goes on with its first later target or
ends at its limit. `atStep` says that the limit is a step instant, at which the late fire then falls. -/
def missGroup (d : Dev) (n limit : Nat) (atStep : Bool) : Dev :=
  let target := d.pendingTarget n
  let missed := d.missedWithin n target limit
  if d.get (Dict.tmrState n) ≠ 1 ∨ missed = 0 then d
  else
    let last := target + (missed - 1) * max (d.get (Dict.tmrPeriod n)) 1
    let last := if d.get (Dict.tmrMode n) = 1 then target else last
    let d := d.add (Dict.tmrMissCount n) missed
    let d := d.set (Hid.tmrTargets n) (d.get (Hid.tmrTargets n) + missed)
    let d := d.post 12 [(1, n), (7, toCt64 target)]
    let fireAt := if atStep then limit else d.lateInstant n last
    let d := if d.missSkips n then d else (d.recordFire n last).fireDest n fireAt
    if d.limitReached n then d.endTimer n 2 else d.setNext n (d.nextTarget n target limit)

/-- TmrArm 0x01 at its S0 (R123): counts restart, the destination is taken, the first target computed; a target
already past, or less than 1 µs ahead, is missed. -/
def armTimer (d : Dev) (n : Nat) : Dev :=
  let soon := d.view.frameStart + microsecond
  let d := d.clearAll [Dict.tmrFireCount n, Dict.tmrMissCount n, Hid.tmrTargets n]
  let d := (d.set (Dict.tmrState n) 1).ownDest n true
  if d.get (Dict.tmrMode n) = 3 then d.setNext n (d.nextAligned n soon true)
  else (d.set (Dict.tmrNextFire n) (d.get (Dict.tmrTarget n))).missGroup n soon false

/-- TmrArm 0x00 at its S0 (R127): the timer goes to Idle; a TRG pulse already started completes. An Idle timer holds nothing. -/
def disarmTimer (d : Dev) (n : Nat) : Dev := if d.get (Dict.tmrState n) = 0 then d else d.endTimer n 0

/-- A new TmrTarget of an armed timer replaces the pending one at its S0 (R126); missed if too near (R124). -/
def retarget (d : Dev) (n : Nat) : Dev :=
  let mode := d.get (Dict.tmrMode n)
  if d.get (Dict.tmrState n) = 1 ∧ (mode = 1 ∨ mode = 2) then
    let soon := d.view.frameStart + microsecond
    (d.set (Dict.tmrNextFire n) (d.get (Dict.tmrTarget n))).missGroup n soon false
  else d

/-- An armed timer whose target the timescale has reached fires (R121, R131). The pulse outputs place their own pulses
(R276), so `pulse` says what a PLS destination does. -/
def timerFire (d : Dev) (n : Nat) (pulse : Nat → Nat → Dev → Dev) : Dev :=
  let target := d.pendingTarget n
  if d.get (Dict.tmrState n) ≠ 1 ∨ d.view.frameStart + 2 * frameUnits ≤ target then d
  else
    let dest := d.get (Dict.tmrDestination n)
    let d := (d.recordFire n target).fireDest n target
    let d := if isPls dest then pulse n target d else d
    let d := d.set (Hid.tmrTargets n) (d.get (Hid.tmrTargets n) + 1)
    if d.limitReached n then d.endTimer n 2 else d.setNext n (d.nextTarget n target (target + 1))

/-- A TRG pulse completes its width and the output returns to its inactive level (R127, R132). -/
def trgPulseEnd (d : Dev) (m : Nat) : Dev :=
  let last := d.get (Hid.trgEnd m) - 1
  let d := (d.setB (Hid.trgHigh m) false).clear (Hid.trgEnd m)
  d.driveNew (0x44 + m) (d.trgLevel m) last

/-- A step carries the timescale past targets: they form a group at the step instant (R124). -/
def timersAfterStep (d : Dev) (instant : Nat) : Dev := forUnits 32 (fun n d => d.missGroup n instant true) d

/-- A set was applied (the event timer states table): modes 0x01 and 0x02 go to Idle with source 12; mode 0x03 takes
the first aligned instant after the frame start plus 1 µs. -/
def timersAfterSet (d : Dev) : Dev :=
  forUnits 32 (fun n d =>
    if d.get (Dict.tmrState n) = 1 then
      if d.get (Dict.tmrMode n) = 3 then d.setNext n (d.nextAligned n (d.view.frameStart + microsecond) true)
      else (d.endTimer n 0).post 12 [(1, n)]
    else d) d

/-- The first frame of time service arms the aligned timers marked TmrArmAtBoot, in ascending number; one that R120 or
R122 would refuse stays Idle and raises source 12 (R130). -/
def armAtBoot (d : Dev) : Dev :=
  forUnits 32 (fun n d =>
    if d.get (Dict.tmrMode n) = 3 && d.is (Dict.tmrArmAtBoot n) then
      let dest := d.get (Dict.tmrDestination n)
      if dest != 0xFF && d.armValuesOk n && !d.destHeld n dest then d.armTimer n else d.post 12 [(1, n)]
    else d) d

end Dev

end Sys2Proof.Machine
end

