-- ==== Sys2Proof/Machine/Power.lean ====
section
/-!
DEFINITION. Operating points, passes, supply episodes, thermal throttle, clock sources (R553 to R582, R593 to R596).
-/
namespace Sys2Proof.Machine

/-- Nominal of a fixed rail in µV (R555). -/
def fixedNominal (r : Nat) : Nat :=
  [800000, 750000, 650000, 650000, 1200000, 900000, 900000, 500000, 1800000, 3300000, 800000].getD r 0

/-- Voltage of an operating point in µV (R555). -/
def opVoltage (p : Nat) : Nat := [650000, 750000, 850000].getD p 650000

/-- Pipeline capacity of an operating point in messages per second (R2, R568). -/
def opCapacity (p : Nat) : Nat := [32000000, 48000000, 64000000].getD p 32000000

namespace Dev

/-! ### Passes -/

/-- A pass kind is held (R593). -/
def passHeld (d : Dev) (k : Nat) : Bool := bit (d.get Dict.passGranted) k

/-- Cost of the passes held, in mW. -/
def heldCost (d : Dev) : Nat :=
  ((List.range 5).map fun k => if d.passHeld k then d.get (Dict.passCost k) else 0).sum

/-- PassHeadroom: the budget less base and held costs (R593). -/
def showHeadroom (d : Dev) : Dev :=
  d.set Dict.passHeadroom (d.get Dict.powerBudget - (d.get Dict.passBasePower + d.heldCost))

/-- A pass is granted. -/
def grantPass (d : Dev) (k : Nat) : Dev :=
  (d.set Dict.passGranted (setBit (d.get Dict.passGranted) k)).set Dict.passWaiting
    (clearBit (d.get Dict.passWaiting) k)

/-- A pass is given back. -/
def releasePass (d : Dev) (k : Nat) : Dev := (d.set Dict.passGranted (clearBit (d.get Dict.passGranted) k)).showHeadroom

/-- A revocable pass is recalled: counted, and its holder pauses (R576, R579, R581). -/
def recallPass (d : Dev) (k : Nat) : Dev :=
  if d.passHeld k then
    let d := (d.releasePass k).inc Dict.passRecallCount
    if k = 3 && d.get Dict.scrubState == 1 then d.set Dict.scrubState 2 else d
  else d

/-- The operating point the load asks for (R558): messages received plus sent over the last 64 frames, scaled to one
second and raised by OpHeadroom, never above OpTarget; OP0 while system clocks run from ROSC (R561)
and in a shutdown once its commits are done (R659). -/
def targetPoint (d : Dev) : Nat :=
  let top := d.get Dict.opTarget
  if d.get Dict.sysClockSource = 0 ∨ (d.get Dict.shutdownState = 2 ∧ d.get Hid.nvWanted = 0) ∨ 2 < d.get Dict.shutdownState then 0
  else if d.get Dict.opMode = 0 then top
  else
    let need := d.loads.sum * 64 * (100 + d.get Dict.opHeadroom)
    let fits := (List.range 3).find? fun p => decide (need ≤ opCapacity p * 100)
    min top (fits.getD 2)

/-- A pass kind is wanted by its holder (R558, R579, R612, R664). -/
def passWanted (d : Dev) (k : Nat) : Bool :=
  match k with
  | 0 => d.get Hid.nvWanted != 0
  | 1 => decide (1 ≤ d.targetPoint)
  | 2 => decide (2 ≤ d.targetPoint)
  | 3 => d.is Hid.scrubWanted
  | 4 => d.is Hid.bistWanted
  | _ => false

/-- Whether a pass may be granted now but for waiting lower kinds (R580). -/
def passAllowed (d : Dev) (k : Nat) : Bool :=
  !d.is Dict.supplyEpisodeActive && !d.is Hid.supplyHold && !d.is Dict.thermalThrottle &&
    (k != 2 || d.passHeld 1) &&
    decide (d.get Dict.passBasePower + d.heldCost + d.get (Dict.passCost k) ≤ d.get Dict.powerBudget)

/-- The arbiter's work at a frame start: kinds in ascending order, each granted only when no lower kind waits (R580). The pass of
a point that runs, or whose step is under way, is given back with the step down alone. -/
def arbitrate (d : Dev) : Dev :=
  let step (d : Dev) (k : Nat) : Dev :=
    if !d.passWanted k then
      let d := d.set Dict.passWaiting (clearBit (d.get Dict.passWaiting) k)
      let running := (k == 1 || k == 2) && (decide (k ≤ d.get Dict.opActive) || decide (k ≤ d.get Hid.opCommanded))
      if d.passHeld k && !running then d.releasePass k else d
    else if d.passHeld k then d
    else
      let blocked := (List.range k).any fun j => bit (d.get Dict.passWaiting) j
      if !blocked && d.passAllowed k then d.grantPass k
      else d.set Dict.passWaiting (setBit (d.get Dict.passWaiting) k)
  ([0, 1, 2, 3, 4].foldl step d).showHeadroom

/-- Revocable passes are recalled in descending order until the rest fit the budget (R581). -/
def fitBudget (d : Dev) : Dev :=
  ([4, 3, 2, 1].foldl (fun d k =>
    if d.get Dict.passBasePower + d.heldCost ≤ d.get Dict.powerBudget then d else d.recallPass k) d).showHeadroom

/-! ### Operating points -/

/-- RailNominal of the scaled rails follows the clock that runs (R575, R594). -/
def showNominal (d : Dev) : Dev :=
  let v := opVoltage (d.get Dict.opActive)
  (d.set (Dict.railNominal 2) v).set (Dict.railNominal 3) v

/-- The regulators are commanded to a point's voltage over PMBus (R559, R562). -/
def commandVoltage (d : Dev) (p : Nat) : Dev :=
  ((d.set Hid.opCommanded p).set Hid.opCommandFrame d.view.frames).out (.pmbus p)

/-- Both scaled rails have reached a point's nominal less 10 mV (R559). -/
def voltageReached (d : Dev) (p : Nat) : Bool :=
  decide (opVoltage p ≤ d.get (Dict.railVoltage 2) + 10000) && decide (opVoltage p ≤ d.get (Dict.railVoltage 3) + 10000)

/-- The operating point has moved at the boundary of this frame already (R31). -/
def opMoved (d : Dev) : Bool := d.get Hid.opStepFrame == d.view.frames + 1

/-- OP_STEP_UP (R31, R559): with the pass of the step held, first the voltage is commanded; at a later frame start the
clocks switch once it has settled. A step begun goes on whatever the load then asks for. -/
def opStepUp (d : Dev) : Dev :=
  let p := d.get Dict.opActive
  if d.get Dict.sysClockSource = 0 ∨ 2 ≤ p ∨ !d.passHeld (p + 1) then d
  else if d.get Hid.opCommanded ≤ p then (if d.targetPoint ≤ p then d else d.commandVoltage (p + 1))
  else if d.get Hid.opCommandFrame < d.view.frames ∧ d.voltageReached (p + 1) ∧ !d.opMoved then
    (((d.set Dict.opActive (p + 1)).inc Dict.opChangeCount).set Hid.opStepFrame (d.view.frames + 1)).showNominal
  else d

/-- OP_SETTLE_FAIL (R559): two frames after the command the voltage is not reached; the old one is commanded. -/
def opSettleFail (d : Dev) (rail : Nat) : Dev :=
  let p := d.get Dict.opActive
  if d.get Hid.opCommanded ≤ p ∨ d.framesSince (d.get Hid.opCommandFrame) < 2 then d
  else
    let d := (d.commandVoltage p).inc Dict.opSettleFailCount
    (d.releasePass (p + 1)).post 7 [(1, rail)]

/-- OP_STEP_DOWN (R31, R560, R576): the clocks step down at a frame start when the pass of the point is gone or the
lower point has met the load condition for 4,096 frames; a further step waits for the lower voltage. A step up whose pass was
recalled is given up first: the voltage of the point that runs is commanded again. -/
def opStepDown (d : Dev) : Dev :=
  let p := d.get Dict.opActive
  let due := !d.passHeld p || decide (4096 ≤ d.get (Hid.opDownFrames (p - 1))) || decide (d.get Dict.opMode = 0 ∧ d.get Dict.opTarget < p)
  let down := [2, 3].all fun r => decide (d.get (Dict.railVoltage r) ≤ opVoltage p + 10000)
  if p < d.get Hid.opCommanded ∧ !d.passHeld (p + 1) then d.commandVoltage p
  else if p = 0 ∨ !due ∨ d.get Hid.opCommanded ≠ p ∨ !down ∨ d.opMoved then d
  else
    let d := (((d.set Dict.opActive (p - 1)).inc Dict.opChangeCount).set Hid.opStepFrame (d.view.frames + 1)).showNominal
    (d.releasePass p).commandVoltage (p - 1)

/-- The load condition of each point that a step down leads to is counted each frame (R558). -/
def countLoad (d : Dev) : Dev :=
  let target := d.targetPoint
  [0, 1].foldl (fun d p => d.set (Hid.opDownFrames p) (if target ≤ p then d.get (Hid.opDownFrames p) + 1 else 0)) d

/-- PMBUS_FAULT (R562). -/
def pmbusFault (d : Dev) (address : Nat) : Dev :=
  (d.inc Dict.pmbFaultCount).post 7 [(1, address)]

/-! ### Supplies -/

/-- A rail's supervisor is masked: every domain it feeds is unpowered (R557). VDDA_PLL feeds SPLL in AON, which never is. -/
def railMasked (d : Dev) (r : Nat) : Bool :=
  match r with
  | 0 => !d.powered .time
  | 1 => !(d.powered .synth || d.powered .gnss || d.powered .net || d.powered .mem || d.powered .ctrl)
  | 2 => !d.powered .crypt
  | 3 => !d.powered .proto
  | 5 => !(d.powered .time || d.powered .net)
  | 6 => !d.powered .net
  | 7 => !d.powered .mem
  | _ => false

/-- RailState of every rail from its mask and its level (R557, R594). -/
def showRails (d : Dev) : Dev :=
  forUnits 11 (fun r d =>
    d.set (Dict.railState r) (if d.railMasked r then 2 else if bit (d.get Hid.railsBelow) r then 1 else 0)) d

/-- S0 latches the rail voltages and keeps their minima (R594). -/
def latchRails (d : Dev) (uv : List Nat) : Dev :=
  (forUnits 11 (fun r d =>
    let v := uv.getD r (d.get (Dict.railVoltage r))
    let d := d.set (Dict.railVoltage r) v
    d.set (Dict.railMinimum r) (min (d.get (Dict.railMinimum r)) v)) d).showRails

/-- SUPPLY_WARNING (R576): rails beyond a warning level for 1 µs, with the lowest voltage seen. The first one starts an
episode: counted, timed, source 1, revocable passes recalled, NV writes deferred. A masked rail starts none (R557). -/
def supplyWarning (d : Dev) (rails lowest : Nat) : Dev :=
  let seen := (List.range 11).filter fun r => bit rails r && !d.railMasked r
  if seen.isEmpty then d
  else
    let d := seen.foldl (fun d r =>
      let fresh := !d.is Dict.supplyEpisodeActive || !bit (d.get Dict.supplyEpisodeRails) r
      let d := d.set Hid.railsBelow (setBit (d.get Hid.railsBelow) r)
      -- of several rails, the voltage is that of one it can belong to above the reset level (R575)
      let own := seen.length == 1 || decide (d.get (Dict.railNominal r) * 95 ≤ lowest * 100)
      let d := if own then d.set (Dict.railMinimum r) (min (d.get (Dict.railMinimum r)) lowest) else d
      if fresh then d.inc (Dict.railWarnCount r) else d) d
    let mask := seen.foldl setBit 0
    if d.is Dict.supplyEpisodeActive then
      (seen.foldl (fun d r => d.set Dict.supplyEpisodeRails (setBit (d.get Dict.supplyEpisodeRails) r)) d).showRails
    else
      let d := ((d.setB Dict.supplyEpisodeActive true).setB Hid.supplyHold true).set Hid.supplyTermFrames 8
      let d := (d.inc Dict.supplyEpisodeCount).inc Dict.lifeSupplyEpisodes
      let d := ((d.set Dict.supplyEpisodeStart (toTime96 d.now)).set Dict.supplyEpisodeRails mask).set Hid.episodeMark d.age
      let d := [4, 3, 2, 1].foldl recallPass d
      -- a commit not yet started waits for its pass (R92, R576)
      let d := if d.get Hid.nvWanted != 0 && !d.passHeld 0 && bit (d.get Hid.nvWanted) 0 then
          d.set Dict.storeStatus 2 else d
      let d := if d.get Hid.nvWanted != 0 && !d.passHeld 0 && bit (d.get Hid.nvWanted) 1 then
          d.set Dict.keyStoreStatus 2 else d
      d.showRails.post 1 [(2, mask), (4, lowest)]

/-- The LifeEpisodeDuration bin of a duration in ns (R670, R673). -/
def episodeBin (ns : Nat) : Nat :=
  if ns < 10000 then 0 else if ns < 100000 then 1 else if ns < 1000000 then 2
  else if ns < 10000000 then 3 else if ns < 100000000 then 4 else 5

/-- SUPPLY_EPISODE_END (R578, R673): every rail is inside its warning levels; the duration is recorded. -/
def supplyEpisodeEnd (d : Dev) : Dev :=
  if !d.is Dict.supplyEpisodeActive then d
  else
    let ns := (d.age - d.get Hid.episodeMark) / unitsPerNs
    let d := (d.setB Dict.supplyEpisodeActive false).set Dict.supplyEpisodeDuration (min ns 0xFFFFFFFF)
    let d := (d.set Hid.railsBelow 0).set Hid.episodeEndFrame (if d.now = d.view.frameStart then d.view.frames else d.view.frames + 1)
    (d.inc (Dict.lifeEpisodeDuration (episodeBin ns))).showRails

/-- PASS_RESUME (R578): passes are granted again at the first frame start at least 8 frames after the end. -/
def passResume (d : Dev) : Dev :=
  if d.is Dict.supplyEpisodeActive ∨ d.framesSince (d.get Hid.episodeEndFrame) < 8 then d
  else
    let d := d.setB Hid.supplyHold false
    let d := if d.get Dict.storeStatus = 2 then d.set Dict.storeStatus 1 else d
    if d.get Dict.keyStoreStatus = 2 then d.set Dict.keyStoreStatus 1 else d

/-- The hottest region against TjWarn, in S0 (R582): the throttle starts with source 6 and the recall of the
operating-point passes; the frames below TjWarn − 5 °C are counted. -/
def thermal (d : Dev) : Dev :=
  let temps := (List.range 6).map fun r => d.getI (Dict.regionTemp r)
  let hot := temps.foldl max (-273150)
  let region := (temps.findIdx? (· == hot)).getD 0
  let warn := d.getI Dict.tjWarn
  let d := d.set Hid.coolFrames (if hot < warn - 5000 then d.get Hid.coolFrames + 1 else 0)
  if warn ≤ hot ∧ !d.is Dict.thermalThrottle then
    let d := ((d.setB Dict.thermalThrottle true).recallPass 2).recallPass 1
    d.post 6 [(1, region), (4, Dict.tjWarn.ofInt hot)]
  else d

/-- THROTTLE_END (R582): 4,096 frames below TjWarn − 5 °C. -/
def throttleEnd (d : Dev) : Dev :=
  if 4096 ≤ d.get Hid.coolFrames then d.setB Dict.thermalThrottle false else d

/-! ### Coarse counter -/

/-- Frame 0: the coarse counter is loaded from the timescale (R587). -/
def coarseLoad (d : Dev) : Dev :=
  let d := (d.set Hid.coarse d.view.frameStart).set Hid.coarseFrame d.age
  let d := (d.set Dict.coarseUncertainty 0).set Hid.coarseRate (d.get Dict.xoModelOffset)
  let d := d.set Dict.coarseTime (toTime96 d.view.frameStart)
  d.set Dict.coarseClock (if d.get Dict.xoState = 4 then 2 else 1)

/-- Growth of CoarseUncertainty over an elapsed time in ns (R587). -/
def coarseGrowth (d : Dev) (ns : Nat) : Nat :=
  let rate : Rat :=
    if d.get Dict.coarseClock = 2 then 2 / 100
    else if 64 * framesPerSecond ≤ d.get Hid.xoLearnFrames then
      ((d.get Dict.xoModelLimit : Nat) : Rat) / 10 ^ 9
    else 25 / 100000
  (roundUp ((ns : Rat) * rate)).toNat

/-- The coarse counter runs on alone for a real time, as its clock counts it (R587). -/
def coarseRun (d : Dev) (ns : Nat) : Dev :=
  if d.get Dict.coarseUncertainty = 0xFFFFFFFFFFFFFFFF then d
  else
    let d := d.set Hid.coarse (d.get Hid.coarse + ns * unitsPerNs)
    let d := d.set Dict.coarseTime (toTime96 (d.get Hid.coarse))
    d.add Dict.coarseUncertainty (d.coarseGrowth ns)

/-- The coarse counter and its uncertainty now (R587, R595). -/
def coarseNow (d : Dev) : Dev := d.coarseRun ((d.age - d.get Hid.coarseFrame) / unitsPerNs)

/-- A power-on or supply reset makes the coarse counter invalid (R587). -/
def coarseInvalid (d : Dev) : Dev :=
  d.clearAll [Hid.coarse, Hid.coarseFrame, Hid.coarseRate, Dict.coarseTime, Dict.coarseUncertainty, Dict.coarseClock]

/-! ### Clock sources -/

/-- A mark of the present frame, in time service; 0 where no frames run to be counted. -/
def frameMark (d : Dev) : Nat := if d.get Hid.bootPhase = 5 then d.view.frames + 1 else 0

/-- So many frames have run since a mark, where it was set in time service. -/
def sinceMark (d : Dev) (mark n : Nat) : Bool := mark == 0 || decide (n ≤ d.framesSince (mark - 1))

/-- The coarse counter goes on from another clock: what it has counted stands (R587). Before time service the rows that end that
state give the time it ran. -/
def coarseSwitch (d : Dev) (clock : Nat) : Dev :=
  if d.get Dict.coarseUncertainty = 0xFFFFFFFFFFFFFFFF then d
  else if d.get Hid.bootPhase = 5 then (d.coarseNow.set Hid.coarseFrame d.age).set Dict.coarseClock clock
  else d.set Dict.coarseClock clock

/-- Frames that the start-up count of 2^18 XO cycles takes (R565). -/
def xoCountFrames (d : Dev) : Nat := (2 ^ 18 * framesPerSecond + d.xoNominal - 1) / d.xoNominal

/-- A Starting XO whose count has elapsed is Qualifying (R565). -/
def xoCounted (d : Dev) : Dev :=
  if d.get Dict.xoState = 1 ∧ d.sinceMark (d.get Hid.xoStartMark) d.xoCountFrames then d.set Dict.xoState 2 else d

/-- XO_QUALIFIED (R565): XO becomes Qualified with the ROSC estimate of its windows, which lies within 2 % of nominal; ROSC's own
frequency follows from it (R595; DEDUCED, log entry 124), and SPLL begins to lock. An XO started in time service is not Qualified
before its count and 64 windows. -/
def xoQualified (d : Dev) (estimate : Nat) : Dev :=
  let d := (d.set Dict.xoState 3).set Dict.xoRoscEstimate estimate
  let d := d.set Dict.roscFrequency ((400000 * d.xoNominal + estimate / 2) / estimate)
  let d := if d.get Dict.spllState = 0 then (d.set Dict.spllState 1).set Hid.spllMark d.frameMark else d
  let d := if d.get Dict.moscState = 0 then d.set Dict.moscState 1 else d
  d.coarseSwitch 1

/-- XO may become Qualified on this estimate (R565). -/
def xoMayQualify (d : Dev) (estimate : Nat) : Bool :=
  let nominal := d.xoNominal
  (d.get Dict.xoState == 1 || d.get Dict.xoState == 2) &&
    d.sinceMark (d.get Hid.xoStartMark) (d.xoCountFrames + 64) &&
    decide (nominal * 98 ≤ estimate * 100 ∧ estimate * 100 ≤ nominal * 102)

/-- XO_RESTART (R566): a Failed XO is started again, every 1 s. -/
def xoRestart (d : Dev) : Dev :=
  if d.get Dict.xoState = 4 ∧ d.sinceMark (d.get Hid.xoFailMark) framesPerSecond then
    (d.set Dict.xoState 1).set Hid.xoStartMark d.frameMark
  else d

/-- SYS_CLOCK_TO_SPLL (R567): XO Qualified and SPLL locked for 64 windows. -/
def sysClockToSpll (d : Dev) : Dev :=
  if d.get Dict.xoState = 3 ∧ d.get Dict.sysClockSource = 0 ∧ d.sinceMark (d.get Hid.spllMark) 64 then
    let d := (d.set Dict.spllState 2).set Dict.sysClockSource 1
    let d := d.set Dict.busClock 800000
    if d.powered .mem && (d.get Dict.dramState == 0 || d.get Dict.dramState == 3) then d.set Dict.dramState 1 else d
  else d

/-- SYS_CLOCK_FALLBACK (R561, R567, R568): SPLL loses lock or XO fails; system clocks return to ROSC, the operating
point reads OP0 and its voltage is commanded. -/
def sysClockFallback (d : Dev) : Dev :=
  if d.get Dict.sysClockSource = 0 then d
  else
    let d := (d.set Dict.spllState (if d.get Dict.xoState = 3 then 1 else 0)).set Hid.spllMark d.frameMark
    let d := (d.set Dict.sysClockSource 0).set Dict.busClock 200000
    let d := (d.set Dict.opActive 0).showNominal
    let d := ((d.releasePass 2).releasePass 1).commandVoltage 0
    d.post 4 []

/-- XO_FAIL (R566, R567): XoState Failed, source 3; the coarse counter goes to ROSC (R587), and so do the system clocks. -/
def xoFail (d : Dev) : Dev :=
  if d.get Dict.xoState = 4 then d
  else
    let d := ((d.set Dict.xoState 4).set Hid.xoFailMark d.frameMark).post 3 []
    (d.coarseSwitch 2).sysClockFallback

/-- FORCED_SWITCH (R573, R574): a mux forces its switch. -/
def forcedSwitch (d : Dev) (mux : Nat) : Dev :=
  ((d.inc Dict.forcedSwitchCount).set Dict.forcedSwitchLastMux mux).post 5 [(1, mux)]

end Dev

end Sys2Proof.Machine
end

