-- ==== Sys2Proof/Machine/SelfTest.lean ====
section
/-!
DEFINITION. Self-test: unit failures, the shutdown record, and the comparison of first live values (R655 to R669).
-/
namespace Sys2Proof.Machine

/-- Octets of a record from an offset, as a number (R665). -/
def recordField (record offset octets : Nat) : Nat := record / 256 ^ (1024 - offset - octets) % 256 ^ octets

/-- Unit, quantity and value of item `i` of a shutdown record (R665). -/
def recordItem (record i : Nat) : Nat × Nat × Int :=
  let v := recordField record (96 + 8 * i + 4) 4
  (recordField record (96 + 8 * i) 1, recordField record (96 + 8 * i + 1) 1,
    if 2 ^ 31 ≤ v then (v : Int) - 2 ^ 32 else (v : Int))

/-- The recorded value of a quantity of a unit, if the record holds it. -/
def recordValue (record unit quantity : Nat) : Option Int :=
  ((List.range (min 115 (recordField record 2 2))).map (recordItem record)).findSome? fun x =>
    if x.1 = unit ∧ x.2.1 = quantity then some x.2.2 else none

/-- The limit of a start comparison (R669). -/
def comparisonLimit (quantity : Nat) (recorded : Int) : Int :=
  if quantity ≤ 2 then 1000
  else if quantity < 0x30 then 20000
  else if quantity = 0x30 then 2 * recorded
  else if quantity = 0x40 then 1000
  else if quantity = 0x41 then 10000
  else if quantity < 0x50 then 10000
  else 2000

/-- The first failure of each unit, in order: a unit is raised once (R663, R667). -/
def oncePerUnit (l : List (Nat × Nat)) : List (Nat × Nat) :=
  l.foldl (fun done f => if done.any fun g => g.1 == f.1 then done else done ++ [f]) []

namespace Dev

/-- The first live value of a quantity after a quick start is compared with the record, once; a difference above the
limit raises source 124 with kind 0x04 and changes no state (R669). -/
def firstLive (d : Dev) (unit quantity : Nat) (value : Int) : Dev :=
  let key := unit * 256 + quantity
  if d.get Dict.lastStartKind ≠ 1 ∨ d.compared.contains key then d
  else
    let d := { d with compared := d.compared ++ [key] }
    match recordValue (d.get Dict.shutdownRecord) unit quantity with
    | none => d
    | some r => if comparisonLimit quantity r < (value - r).natAbs then d.post 124 [(1, unit), (1, 4), (1, 2)] else d

/-- A unit failed a logic or memory test: it is treated as the Failure column of its code states (R657): flagged,
removed, its PCT or DRAM failed, or its domain isolated and latched. -/
def failUnit (d : Dev) (u : Nat) : Dev :=
  let d := d.set Dict.selfTestFailed (setBit (d.get Dict.selfTestFailed) u)
  let latch (x : Domain) (d : Dev) : Dev :=
    let d := d.isolateDomain x
    d.set Dict.latchedDomains (setBit (d.get Dict.latchedDomains) x.bit)
  if u ≤ 4 then d.set Dict.selfTestPrivilegedFlags (setBit (d.get Dict.selfTestPrivilegedFlags) u)
  else if u = 0xA3 then d.set Dict.selfTestPrivilegedFlags (setBit (d.get Dict.selfTestPrivilegedFlags) 5)
  else if u = 0xA4 then d.set Dict.selfTestPrivilegedFlags (setBit (d.get Dict.selfTestPrivilegedFlags) 6)
  else if u = 0x24 then d.set Dict.pctStateWest 3
  else if u = 0x25 then d.set Dict.pctStateEast 3
  else if u = 0xA0 then latch .gnss d
  else if u = 0xA1 then latch .proto d
  else if u = 0xA2 then latch .mem d
  else if u = 0xB0 ∨ u = 0xB1 then d.set Dict.dramState 4
  else
    match Removable.ofCode u with
    | some r => d.remove r
    | none => d

end Dev

end Sys2Proof.Machine
end

