-- ==== Sys2Proof/Machine/Measure.lean ====
section
/-!
DEFINITION. Time-interval measurement: channels, stamps, windows, calibration, regions, XO timebase (R139 to R179, R721).

Channels 0 to 15 are the general channels; 16 to 18 stand for link channels 0 to 2. Line `n` is channel × 2 + line.
-/
namespace Sys2Proof.Machine

/-- A register of a channel: general or link (R176). -/
def chReg (general link : Nat → Entry) (c : Nat) : Entry := if c < 16 then general c else link (c - 16)

abbrev chStateReg := chReg Dict.chState Dict.linkChState
abbrev chLineReg := chReg Dict.chActiveLine Dict.linkChActiveLine
abbrev chCalStatusReg := chReg Dict.chLastCalStatus Dict.linkChLastCalStatus

/-- The unit of a channel number. -/
def chUnit (c : Nat) : Removable := if c < 16 then .channel c else .link (c - 16)

/-- Slope of a least-squares line through points (x, y); zero when it is not determined. -/
def lsqSlope (l : List (Rat × Rat)) : Rat :=
  let n : Rat := l.length
  if l.isEmpty then 0
  else
    let mx := (l.map (·.1)).sum / n
    let my := (l.map (·.2)).sum / n
    let sxx := (l.map fun p => (p.1 - mx) * (p.1 - mx)).sum
    let sxy := (l.map fun p => (p.1 - mx) * (p.2 - my)).sum
    if sxx = 0 then 0 else sxy / sxx

/-- Seconds in a day. -/
def daySeconds : Nat := 86400

/-- A list without its oldest members, keeping the last `n`. -/
def lastN {α : Type} (n : Nat) (l : List α) : List α := l.drop (l.length - n)

/-- Adjacent region pairs by region number in the order of 0x2440 (R164): WEST, EAST, CENTRE, NORTH, SOUTH, CORE. -/
def regionPairs : List (Nat × Nat) :=
  [(0, 3), (0, 2), (0, 5), (0, 4), (1, 3), (1, 2), (1, 5), (1, 4), (3, 2), (2, 5), (5, 4)]

/-- The adjacent pairs on the path of a source (R142, R166, R167); for an Idle channel those that include CENTRE; for a
link channel EAST and CENTRE. Pair numbers from 0. -/
def pathPairs (c source : Nat) : List Nat :=
  if 16 ≤ c then [5]
  else if source = 0 then [1, 5, 8, 9]
  else if source = 0x30 ∨ source = 0x31 then [9, 10]
  else [8]

/-- The regions on the path of a source (R142, R168). -/
def pathRegions (c source : Nat) : List Nat :=
  if 16 ≤ c then [1, 2] else if source = 0x30 ∨ source = 0x31 then [4, 5, 2] else if source = 0 then [2] else [3, 2]

/-- Hit count of code (j, f) in a table's phase register (R177). -/
def binCount (reg f : Nat) : Nat := reg / 65536 ^ (63 - f) % 65536

namespace Dev

/-- Phase totals of a line's table. -/
def phaseTotal (d : Dev) (line j : Nat) : Nat :=
  let reg := d.get (Hid.binTable line j)
  ((List.range 64).map (binCount reg)).sum

/-- Φ(j) of a line's table, in 2^-24 cycle (R146, the algorithm). -/
def phasePos (d : Dev) (line j : Nat) : Nat := 4 * ((List.range j).map (d.phaseTotal line)).sum

/-- P(j, f) of a line's table, in 2^-24 cycle (R146, the algorithm). -/
def codePos (d : Dev) (line j f : Nat) : Nat :=
  let reg := d.get (Hid.binTable line j)
  d.phasePos line j + 4 * ((List.range (63 - f)).map fun i => binCount reg (f + 1 + i)).sum + 2 * binCount reg f

/-- T_C and V_C of a channel: CENTRE and VDD_TIME, or EAST for a link channel (R147). -/
def chTemp (d : Dev) (c : Nat) : Int := d.getI (Dict.regionTemp (if c < 16 then 2 else 1))

/-- See `chTemp`. -/
def chVolt (d : Dev) (c : Nat) : Nat := d.get (Dict.regionVoltage (if c < 16 then 2 else 1))

/-- Source in force of a channel; a link channel's is fixed (R143, R176). -/
def chSourceOf (d : Dev) (c : Nat) : Nat := if c < 16 then d.get (Dict.chAssigned c) else 0x40 + (c - 16)

/-- D_path in fs (R166): the factory delay with its pad and CENTRE temperature terms; the CORE term for the GSL clocks,
the EAST term for a link channel. -/
def dPathFs (d : Dev) (c : Nat) : Rat :=
  let d0 : Rat := (d.getI (chReg Dict.chPathDelay0 Dict.linkChPathDelay0 c) : Rat) * 1000000 / 65536
  let cp : Rat := d.getI (chReg Dict.chPathCoeffPad Dict.linkChPathCoeffPad c)
  let cc : Rat := d.getI (chReg Dict.chPathCoeffCentre Dict.linkChPathCoeffCentre c)
  let source := d.chSourceOf c
  let pad := if 16 ≤ c then 1 else if source = 0x30 ∨ source = 0x31 then 5 else 3
  let tp : Rat := (d.getI (Dict.regionTemp pad) : Rat) / 1000
  let tc : Rat := (d.getI (Dict.regionTemp 2) : Rat) / 1000
  d0 + cp * (tp - 25) + cc * (tc - 25)

/-- A raw stamp converted to CT64 units since the epoch (R147). `tk` is T_k in 2^-56 ns since the epoch. -/
def convert (d : Dev) (c line tk j f : Nat) : Int :=
  let top : Rat := d.phasePos line (j + 1)
  let fine : Rat := top - d.codePos line j f
  let dt : Rat := ((d.chTemp c - d.getI (Hid.tableTemp line) : Int) : Rat) / 1000
  let dv : Rat := (((d.chVolt c : Int) - d.get (Hid.tableVolt line) : Int) : Rat) / 1000
  let scale := 1 + (d.getI Dict.tapTempCoeff : Rat) / 1000000 * dt + (d.getI Dict.tapVoltCoeff : Rat) / 1000000 * dv
  let pos := top - fine * scale
  let board : Rat := if c < 16 then d.getI (Dict.chBoardDelay c) else 0
  let raw := (tk : Rat) / subUnits + pos * (d.get Dict.incrementActive : Nat) / 2 ^ 64
  roundNear (raw - d.dPathFs c * 65536 / 1000000 - board)

/-! ### Windows (R148 to R155) -/

/-- Half-width of the channel's windows in CT64 units. -/
def winHalf (d : Dev) (c : Nat) : Nat := d.get (Dict.chWinHalf c) * unitsPerNs

/-- The centre of the fixed window nearest an instant (R148). -/
def fixedCentre (d : Dev) (c t : Nat) : Nat :=
  let p := max (d.get (Dict.chPeriod c)) 1
  let o := d.get (Dict.chWinOffset c)
  let base := t + p / 2 - o
  o + base / p * p

/-- The window that an edge falls in, by its centre; nothing outside every window. Open and searching channels take
every edge as its own window (R148, R151). -/
def windowOf (d : Dev) (c t : Nat) : Option Nat :=
  let mode := if c < 16 then d.get (Dict.chWinMode c) else 0
  if mode = 0 ∨ (mode = 2 ∧ d.is (Dict.chWindowSearch c)) then some t
  else
    let m := if mode = 1 then d.fixedCentre c t else d.get (Hid.winCentre c)
    if (((t : Int) - m).natAbs ≤ d.winHalf c) then some m else none

/-- A stray is counted; above ChStrayLimit in a TAI second it raises source 19, once (R150, R154). -/
def stray (d : Dev) (c : Nat) : Dev :=
  let d := d.inc (chReg Dict.chStrayCount Dict.linkChStrayCount c)
  let d := if d.get (Hid.straySecond c) = d.second + 1 then d
    else ((d.set (Hid.straySecond c) (d.second + 1)).clear (Hid.secondStrays c)).clear (Hid.strayRaised c)
  let n := d.get (Hid.secondStrays c) + 1
  let d := d.set (Hid.secondStrays c) n
  if c < 16 && decide (d.get (Dict.chStrayLimit c) < n) && !d.is (Hid.strayRaised c) then
    (d.setB (Hid.strayRaised c) true).post 19 []
  else d

/-- The edges accepted of the frame in which a stamp lies: this one, or the one before (R153). -/
def edgesAt (d : Dev) (c t : Nat) : Entry := if t < d.view.frameStart then Hid.prevEdges c else Hid.frameEdges c

/-- An edge beyond 64 in a frame is dropped and counted; source 20 once for the frame in which its stamp lies (R153). -/
def overflow (d : Dev) (c t : Nat) : Dev :=
  let d := d.inc (chReg Dict.chOverflowCount Dict.linkChOverflowCount c)
  let raised := if t < d.view.frameStart then Hid.prevOverflow c else Hid.overflowed c
  if d.is raised then d else (d.setB raised true).post 20 []

/-- A CAPIN stamp enters the capture ring (R155). -/
def captureStamp (d : Dev) (c t : Nat) : Dev :=
  let source := d.chSourceOf c
  if c < 16 ∧ 9 ≤ source ∧ source ≤ 12 then
    let q := d.get (Dict.chCaptureSeq c)
    (d.set (Dict.chCaptureSlot c (q % 64)) (toCt64 t)).set (Dict.chCaptureSeq c) (q + 1)
  else d

/-- A stamp is delivered (R139, R141, R145): recorded for its channel, kept for S0, and written to the capture ring. -/
def deliver (d : Dev) (c t : Nat) : Dev :=
  let d := d.set (chReg Dict.chLastStamp Dict.linkChLastStamp c) (toTime96 t)
  let d := d.inc (chReg Dict.chStampCount Dict.linkChStampCount c)
  let d := { d with stamps := d.stamps ++ [Stamp.mk c (d.chSourceOf c) t (d.is (Hid.movedMark c))] }
  (d.setB (Hid.movedMark c) false).captureStamp c t

/-- The window moves on after an accepted edge, the prescaler restarts if a rule asked for it, and search ends (R148,
R151, R152). -/
def acceptEdge (d : Dev) (c t centre : Nat) : Dev :=
  let d := (d.set (Hid.winTaken c) (centre + 1)).set (Hid.missRun c) 0
  let d := if c < 16 ∧ d.get (Dict.chWinMode c) = 2 then
      let d := d.set (Hid.winCentre c) (t + d.get (Dict.chPeriod c))
      if d.is (Dict.chWindowSearch c) then (d.setB (Dict.chWindowSearch c) false).setB (Hid.prescaleArmed c) true else d
    else d
  if d.is (Hid.prescaleArmed c) then (d.set (Hid.prescaleCount c) 0).setB (Hid.prescaleArmed c) false else d

/-- The prescaler passes every ChPrescale-th edge, and every edge while a cleared start is awaited (R152). -/
def prescale (d : Dev) (c : Nat) : Dev × Bool :=
  if 16 ≤ c ∨ d.get (Dict.chPrescale c) ≤ 1 ∨ d.is (Hid.prescaleArmed c) then (d, true)
  else
    let n := d.get (Hid.prescaleCount c) + 1
    if d.get (Dict.chPrescale c) ≤ n then (d.set (Hid.prescaleCount c) 0, true) else (d.set (Hid.prescaleCount c) n, false)

/-- A common stamp of the overlap: the difference of the two lines, calibrating line minus line in service (DESIGN CHOICE, log entry
115), is summed, once the line that calibrates has a table to convert its stamps with (R139, R158). -/
def twinStamp (d : Dev) (c : Nat) (diffUnits : Int) : Dev :=
  if d.get (Hid.lineResult (c * 2 + (1 - d.get (chLineReg c) % 2))) ≠ 1 then d
  else
  let fs := roundNear ((diffUnits : Rat) * 1000000 / 65536)
  let d := d.set (Hid.twinCount c) (d.get (Hid.twinCount c) + 1)
  let d := d.setI (Hid.twinSum c) (d.getI (Hid.twinSum c) + fs)
  d.set (Hid.twinMax c) (max (d.get (Hid.twinMax c)) fs.natAbs)

/-- Frames of a channel's swap schedule within its four seconds (R156). -/
def swapFrame (c : Nat) : Nat := if c < 16 then 256 * c else 256 * (c - 16)

/-- The second of four in which a channel swaps (R156). -/
def swapSecond (c : Nat) : Nat := if c < 16 then 0 else 2

/-- Frames from the current frame to the channel's next scheduled swap, 0 in the swap frame (R156). -/
def framesToSwap (d : Dev) (c : Nat) : Nat :=
  let cycle := 4 * framesPerSecond
  let due := swapSecond c * framesPerSecond + swapFrame c
  (due + cycle - d.globalFrame % cycle) % cycle

/-- The overlap before a swap is running (R158). -/
def inOverlap (d : Dev) (c : Nat) : Bool := decide (1 ≤ d.framesToSwap c ∧ d.framesToSwap c ≤ 16)

/-- The line that delivers a stamp of a value (R159). -/
def lineFor (d : Dev) (c t : Nat) : Nat :=
  let line := d.get (chLineReg c) % 2
  if t < d.get (Hid.swapAt c) then 1 - line else line

/-- INPUT_EDGE_STAMP (R140, R146 to R155): an edge on a channel, as the raw stamp of the line that measures it, in TCLK
cycle `cycle` of the frame. `twin` is the other line's code in an overlap. Stamps that lie before the last swap come from the line that
left, later ones from the line in service (R159); what another line reads is no stamp. -/
def inputEdge (d : Dev) (c line cycle j f : Nat) (twin : Option (Nat × Nat)) : Dev :=
  let state := d.get (chStateReg c)
  if ¬(state = 2 ∨ state = 3) ∨ 19 ≤ c ∨ 8 ≤ j ∨ 64 < f ∨ 2 ≤ line then d
  else
    let extra := min cycle (d.get Hid.slewExtra)
    let start : Int := (d.view.frameStart : Int) * subUnits + d.view.fraction
    let tk := (start + (cycle : Int) * d.get Dict.incrementActive +
      (if d.is Hid.slewBack then -(extra : Int) else extra)).toNat
    let t := (d.convert c (c * 2 + line) tk j f).toNat
    let (d', passed) := d.prescale c
    if line ≠ d.lineFor c t then d
    else if !passed then d'
    else
    let d := d'
    if t < d.get (Hid.lastStop (c * 2 + line)) + 8 * unitsPerNs ∧ d.get (Hid.lastStop (c * 2 + line)) ≤ t then
      d.stray c
    else
      match d.windowOf c t with
      | none => d.stray c
      | some centre =>
        let mode := if c < 16 then d.get (Dict.chWinMode c) else 0
        if mode ≠ 0 ∧ d.get (Hid.winTaken c) = centre + 1 then d.stray c
        else if 64 ≤ d.get (d.edgesAt c t) then d.overflow c t
        else
          let d := d.set (Hid.lastStop (c * 2 + line)) t
          let d := d.set (d.edgesAt c t) (d.get (d.edgesAt c t) + 1)
          let d := d.acceptEdge c t centre
          let d :=
            match twin with
            | some (j2, f2) =>
              if d.inOverlap c then d.twinStamp c (d.convert c (c * 2 + (1 - line)) tk j2 f2 - (t : Int)) else d
            | none => d
          d.deliver c t

/-- The centre of the next fixed window to be judged: the first after the last one that took an edge or was missed, and not closed
before the frame that runs (R148, R150). -/
def nextFixed (d : Dev) (c : Nat) : Nat :=
  let p := max (d.get (Dict.chPeriod c)) 1
  let o := d.get (Dict.chWinOffset c)
  let judged := max (d.get (Hid.winTaken c)) (d.get (Hid.winMissed c))
  let least := max judged (d.view.frameStart - d.winHalf c)
  o + (least - o + p - 1) / p * p

/-- The centre of the window whose close comes next (R148, R150). -/
def nextWindow (d : Dev) (c : Nat) : Nat := if d.get (Dict.chWinMode c) = 1 then d.nextFixed c else d.get (Hid.winCentre c)

/-- WINDOW_MISS (R150, R151): the next window closes in the frame that runs with no accepted edge; a tracking window moves on by one
period, and ChMissLimit misses in a row put the channel into search. -/
def windowMiss (d : Dev) (c : Nat) : Dev :=
  let mode := d.get (Dict.chWinMode c)
  let state := d.get (Dict.chState c)
  let centre := d.nextWindow c
  if 16 ≤ c ∨ ¬(state = 2 ∨ state = 3) ∨ mode = 0 ∨ (mode = 2 ∧ d.is (Dict.chWindowSearch c)) then d
  else if (d.view.frameStart / frameUnits + 1) * frameUnits ≤ centre + d.winHalf c then d
  else
    let d := (d.inc (Dict.chMissCount c)).set (Hid.missRun c) (d.get (Hid.missRun c) + 1)
    let d := if mode = 1 then d.set (Hid.winMissed c) (centre + 1) else d
    if mode = 2 then
      let d := d.set (Hid.winCentre c) (d.get (Hid.winCentre c) + d.get (Dict.chPeriod c))
      if d.get (Dict.chMissLimit c) ≤ d.get (Hid.missRun c) then d.setB (Dict.chWindowSearch c) true else d
    else d

/-- Mode 0x02 without a stamp to centre on starts in search, and the prescaler restarts (R151, R152). -/
def freshWindow (d : Dev) (c : Nat) : Dev :=
  if 16 ≤ c then d
  else
    let d := (d.setB (Hid.prescaleArmed c) true).set (Hid.missRun c) 0
    let d := d.clearAll [Hid.winTaken c, Hid.winMissed c]
    d.setB (Dict.chWindowSearch c) (d.get (Dict.chWinMode c) == 2)

/-- A step or set moves the centre of a tracking window by its size; fixed windows stand at the new time, none of them judged yet
(R155). The instants of the last swaps and of the XO stamps move with the timescale. -/
def moveWindows (d : Dev) (units : Int) : Dev :=
  let moved (e : Entry) (d : Dev) : Dev := if d.get e = 0 then d else d.set e ((d.get e : Int) + units).toNat
  let d := forUnits 16 (fun c d =>
    let d := d.clearAll [Hid.winTaken c, Hid.winMissed c]
    if d.get (Dict.chWinMode c) = 2 then d.set (Hid.winCentre c) ((d.get (Hid.winCentre c) : Int) + units).toNat
    else d) d
  let d := forUnits 19 (fun c d => moved (Hid.swapAt c) d) d
  { d with xoStamps := d.xoStamps.map fun s => (s.1, ((s.2 : Int) + units).toNat) }

/-! ### Calibration (R156 to R162) -/

/-- The sums of T_C and V_C that a channel's collections draw on: CENTRE, or EAST for a link channel (R147). -/
def calRegion (c : Nat) : Nat := if c < 16 then 0 else 1

/-- The means of T_C and V_C start with a line's collection (R147). -/
def markCollection (d : Dev) (c line : Nat) : Dev :=
  let n := c * 2 + line
  let d := (d.set (Hid.tempBase n) (d.get (Hid.tempSum (calRegion c)))).set (Hid.voltBase n) (d.get (Hid.voltSum (calRegion c)))
  (d.set (Hid.readBase n) (d.get Hid.readCount)).set (Hid.lineStart n) d.view.frames

/-- T_cal and V_cal: the means of T_C and V_C over the frames of a line's collection (R147); `single` is the reading of a collection
in which no S0 latched them (DESIGN CHOICE, log entry 115). -/
def collectionMeans (d : Dev) (c line : Nat) (single : Int × Nat) : Int × Nat :=
  let n := c * 2 + line
  let frames : Int := (d.get Hid.readCount : Int) - d.get (Hid.readBase n)
  if frames ≤ 0 then single
  else
    let mean (total : Int) : Int := roundNear ((total : Rat) / (frames : Rat))
    (mean (d.getI (Hid.tempSum (calRegion c)) - d.getI (Hid.tempBase n)),
      (mean ((d.get (Hid.voltSum (calRegion c)) : Int) - d.get (Hid.voltBase n))).toNat)

/-- T_C and V_C of a frame enter the sums of both regions (R147). -/
def sumRegions (d : Dev) : Dev :=
  let d := [0, 16].foldl (fun d c =>
    let r := calRegion c
    (d.setI (Hid.tempSum r) (d.getI (Hid.tempSum r) + d.chTemp c)).set (Hid.voltSum r) (d.get (Hid.voltSum r) + d.chVolt c)) d
  d.set Hid.readCount (d.get Hid.readCount + 1)

/-- A collection starts on a line: nothing decided yet (R156, R160). -/
def startCollection (d : Dev) (c line : Nat) : Dev :=
  let d := (d.clear (Hid.lineResult (c * 2 + line))).markCollection c line
  let d := d.setB (Hid.lineRestarted (c * 2 + line)) false
  d.clearAll [Hid.twinCount c, Hid.twinSum c, Hid.twinMax c, Hid.twinState c]

/-- Both lines of a channel calibrate together (R161, R162). -/
def startBoth (d : Dev) (c : Nat) : Dev := (d.startCollection c 0).startCollection c 1

/-- APLL0 relocks or changes source: every collection under way restarts, which is no failure; a Starting channel restarts both
(R160, R162). -/
def restartCollections (d : Dev) : Dev :=
  forUnits 19 (fun c d =>
    if d.get (chStateReg c) = 4 then d
    else
      let other := 1 - d.get (chLineReg c) % 2
      let lines := if d.get (chStateReg c) = 0 then [0, 1] else if d.get (Hid.lineResult (c * 2 + other)) = 0 then [other] else []
      lines.foldl (fun d l =>
        ((d.startCollection c l).setB (Hid.lineRestarted (c * 2 + l)) true).set (chCalStatusReg c) 7) d) d

/-- The first failing histogram check of a collection, by the table of R157; 0 when all pass. -/
def histogramCheck (hist : List (List Nat)) (first : List Nat) : Nat :=
  let h (j : Nat) := ((hist.getD j []).take 65).sum
  let js := List.range 8
  if js.any fun j => decide (41943 < ((h j : Int) - 524288).natAbs) then 2
  else if js.any fun j => decide (15 * h j < 1000 * ((2 * first.getD j 0 : Int) - (h j : Int)).natAbs) then 3
  else if js.any fun j => (hist.getD j []).getD 64 0 != 0 then 4
  else if js.any fun j => (hist.getD j []).any fun x => decide (41943 < x) then 5
  else 0

/-- The capture of sources 16 to 18 (R179). -/
def calCapture (d : Dev) (c line : Nat) : List (Nat × Nat) := [(1, c), (1, line), (1, d.get (chCalStatusReg c))]

/-- A channel leaves service, with source 17; its source moves at the next frame start (R144, R161). -/
def removeChannel (d : Dev) (c : Nat) : Dev := d.remove (chUnit c)

/-- A line fails calibration (R161): counted, Degraded with source 16; a second failure in a row removes the channel. -/
def calFail (d : Dev) (c line code : Nat) : Dev :=
  let d := (d.set (chCalStatusReg c) code).inc (chReg Dict.chCalFailCount Dict.linkChCalFailCount c)
  let d := d.set (Hid.lineResult (c * 2 + line)) 2
  if d.get (chStateReg c) = 0 then d
  else
    let d := if code = 6 then d.post 18 (d.calCapture c line) else d
    let d := d.post 16 (d.calCapture c line)
    if d.get (chStateReg c) = 3 ∧ 1 ≤ d.get (Hid.calFailRun c) then d.removeChannel c
    else (d.set (Hid.calFailRun c) (d.get (Hid.calFailRun c) + 1)).set (chStateReg c) 3

/-- The table of a line from a histogram (R157, R177). -/
def storeTable (d : Dev) (line : Nat) (hist : List (List Nat)) (temp : Int) (volt : Nat) : Dev :=
  let d := forUnits 8 (fun j d =>
    d.set (Hid.binTable line j) (((hist.getD j []).take 64).foldl (fun a x => a * 65536 + x % 65536) 0)) d
  let d := (d.setI (Hid.tableTemp line) temp).set (Hid.tableVolt line) volt
  d.set (Hid.tableFrame line) d.view.frames

/-- The bin-width table entries show the line in service (R177). -/
def showTable (d : Dev) (c : Nat) : Dev :=
  if 16 ≤ c then d
  else forUnits 8 (fun j d => d.set (Dict.chBinTable c j) (d.get (Hid.binTable (c * 2 + d.get (chLineReg c)) j))) d

/-- Largest bin in fs, and the largest phase position error in fs, of a line's table (R664). -/
def tableItems (d : Dev) (line : Nat) : Int × Int :=
  let bins := (List.range 8).map fun j =>
    let reg := d.get (Hid.binTable line j)
    ((List.range 64).map (binCount reg)).foldl max 0
  let phases := (List.range 8).map fun j => ((d.phasePos line j : Int) - (j : Int) * 2 ^ 21).natAbs
  (roundNear (((bins.foldl max 0 : Nat) : Rat) * 800000 / 2 ^ 22), roundNear (((phases.foldl max 0 : Nat) : Rat) * 800000 / 2 ^ 24))

/-- A histogram holds a whole collection, 4,194,304 hits, with its first half (R157). -/
def wholeCollection (hist : List (List Nat)) (first : List Nat) : Bool :=
  (hist.map List.sum).sum == 4194304 && first.sum == 2097152

/-- Frames in 3.0 s (R157). -/
abbrev collectionFrames : Nat := 3 * framesPerSecond

/-- A collection is under way on a line (R156, R160, R161). -/
def collecting (d : Dev) (c line : Nat) : Bool :=
  let state := d.get (chStateReg c)
  decide (c < 19) && decide (line < 2) && state != 4 && (state == 0 || line != d.get (chLineReg c)) &&
    d.get (Hid.lineResult (c * 2 + line)) == 0

/-- CAL_COLLECTION_COMPLETE (R157, R161, R669): the line under way has its 4,194,304 hits; the checks are applied. A table that
passes waits for the twin check, with the means over its collection; one that fails is not stored. -/
def calComplete (d : Dev) (c line : Nat) (hist : List (List Nat)) (first : List Nat) (single : Int × Nat) : Dev :=
  if !d.collecting c line || !wholeCollection hist first then d
  else if collectionFrames < d.framesSince (d.get (Hid.lineStart (c * 2 + line))) then d.calFail c line 1
  else
    match histogramCheck hist first with
    | 0 =>
      let means := d.collectionMeans c line single
      let d := (d.storeTable (c * 2 + line) hist means.1 means.2).set (Hid.lineResult (c * 2 + line)) 1
      let items := d.tableItems (c * 2 + line)
      (d.firstLive (0x10 + c) 1 items.1).firstLive (0x10 + c) 2 items.2
    | code => d.calFail c line code

/-- CAL_TIMEOUT (R157): the collection has not completed within 3.0 s. -/
def calTimeout (d : Dev) (c line : Nat) : Dev :=
  if d.collecting c line && decide (collectionFrames ≤ d.framesSince (d.get (Hid.lineStart (c * 2 + line)))) then d.calFail c line 1
  else d

/-- The twin check is decided once 8 common stamps have occurred (R158). -/
def twinDecide (d : Dev) (c : Nat) : Dev :=
  let n := d.get (Hid.twinCount c)
  let line := 1 - d.get (chLineReg c) % 2
  if n < 8 ∨ d.get (Hid.twinState c) ≠ 0 ∨ d.get (Hid.lineResult (c * 2 + line)) ≠ 1 then d
  else
    let mean := roundNear ((d.getI (Hid.twinSum c) : Rat) / n)
    let d := d.setI (chReg Dict.chTwinMeanDiff Dict.linkChTwinMeanDiff c) mean
    if mean.natAbs ≤ d.get Dict.twinAgreeMeanLimit ∧ d.get (Hid.twinMax c) ≤ d.get Dict.twinAgreeMaxLimit then
      d.set (Hid.twinState c) 1
    else (d.set (Hid.twinState c) 2).calFail c line 6

/-- TWIN_SWAP (R156, R158, R161): at its scheduled frame start the calibrated line goes into service, when its table
passed and the twin check passed or was waived; the other line starts its collection. A Degraded channel that enters Measuring starts
its window and its prescaler afresh (R151, R152). -/
def twinSwap (d : Dev) (c : Nat) : Dev :=
  let state := d.get (chStateReg c)
  if 19 ≤ c ∨ state = 0 ∨ state = 4 ∨ d.framesToSwap c ≠ 0 then d
  else
    let d := d.twinDecide c
    let old := d.get (chLineReg c) % 2
    let next := 1 - old
    if d.get (Hid.lineResult (c * 2 + next)) = 1 ∧ d.get (Hid.twinState c) ≠ 2 then
      let d := ((d.set (chLineReg c) next).inc (chReg Dict.chCalCount Dict.linkChCalCount c)).set (Hid.swapAt c) d.view.frameStart
      let d := (d.set (chCalStatusReg c) 0).set (Hid.calFailRun c) 0
      let d := if d.get (chStateReg c) ≠ 3 then d
        else if c < 16 ∧ d.get (Dict.chAssigned c) = 0 then d.set (chStateReg c) 1
        else (d.set (chStateReg c) 2).freshWindow c
      (d.showTable c).startCollection c old
    else if d.get (Hid.lineResult (c * 2 + next)) = 2 then d.startCollection c next
    else d

/-- No channel but `c` holds a source (R142, R721). -/
def sourceFree (d : Dev) (c source : Nat) : Bool :=
  source == 0 || !((List.range 16).any fun m => m != c && d.get (Dict.chAssigned m) == source)

/-- ChAssigned takes a source, and the factory path values those of the channel and input (R166, R176). -/
def setAssigned (d : Dev) (c source : Nat) : Dev :=
  let d := (d.set (Dict.chAssigned c) source).set (Dict.chPathDelay0 c) (factoryPath c source 28)
  (d.set (Dict.chPathCoeffPad c) (factoryPath c source 29)).set (Dict.chPathCoeffCentre c) (factoryPath c source 30)

/-- A channel takes a source, with its window started afresh and its state Measuring or Idle (the channel states table,
R145). -/
def assign (d : Dev) (c source : Nat) (moved : Bool) : Dev :=
  let d := (d.setAssigned c source).setB (Hid.movedMark c) moved
  let d := d.freshWindow c
  let state := d.get (Dict.chState c)
  if state = 1 ∧ source ≠ 0 then d.set (Dict.chState c) 2
  else if state = 2 ∧ source = 0 then d.set (Dict.chState c) 1
  else d

/-- A Starting channel with both collections judged leaves Starting at a frame start (the channel states table, R162,
R721). -/
def leaveStarting (d : Dev) (c : Nat) : Dev :=
  let r0 := d.get (Hid.lineResult (c * 2))
  let r1 := d.get (Hid.lineResult (c * 2 + 1))
  if d.get (chStateReg c) ≠ 0 ∨ r0 = 0 ∨ r1 = 0 then d
  else if r0 = 2 ∧ r1 = 2 then d.removeChannel c
  else
    let line := if r0 = 1 then 0 else 1
    let d := (d.set (chLineReg c) line).showTable c
    let d := d.add (chReg Dict.chCalCount Dict.linkChCalCount c) (if r0 = 1 ∧ r1 = 1 then 2 else 1)
    let d := d.startCollection c (1 - line)
    if r0 = 1 ∧ r1 = 1 then
      let d := d.set (chCalStatusReg c) 0
      if 16 ≤ c then d.set (chStateReg c) 2
      else
        let home := d.get (Dict.chSource c)
        let source := if d.sourceFree c home then home else 0
        (d.set (Dict.chState c) 1).assign c source false
    else
      let d := (d.set (chStateReg c) 3).set (Hid.calFailRun c) 1
      let d := d.post 16 (d.calCapture c (1 - line))
      if 16 ≤ c then d
      else
        let home := d.get (Dict.chSource c)
        d.assign c (if d.sourceFree c home then home else 0) false

/-- Priority of a source for reassignment, higher first (R144). -/
def sourceRank (source : Nat) : Nat :=
  if 1 ≤ source ∧ source ≤ 8 then 4
  else if source = 0x30 ∨ source = 0x31 then 3
  else if 0x10 ≤ source ∧ source ≤ 0x2F then 2
  else if 9 ≤ source ∧ source ≤ 12 then 1 else 0

/-- A source is lost: source 17 with a capture that names no channel (R144, R179). -/
def loseSource (d : Dev) (source : Nat) : Dev := d.post 17 [(1, 0xFF), (1, 0xFF), (1, source)]

/-- The source of a channel that has left service moves at the next frame start to the lowest free Idle channel, or displaces the lowest
source that ranks below it, or is lost (R144, R145). -/
def reassign (d : Dev) (c : Nat) : Dev :=
  let source := d.get (Dict.chAssigned c)
  let due := d.is (Hid.vacate c)
  let d := d.clear (Hid.vacate c)
  if !due || source == 0 then d
  else
    let d := d.setAssigned c 0
    match (List.range 16).find? fun m => d.get (Dict.chState m) == 1 && d.get (Dict.chAssigned m) == 0 with
    | some m => d.assign m source true
    | none =>
      let lower := (List.range 16).filter fun m =>
        d.get (Dict.chState m) != 4 && d.get (Dict.chAssigned m) != 0 &&
          decide (sourceRank (d.get (Dict.chAssigned m)) < sourceRank source)
      let least := lower.foldl (fun a m => min a (sourceRank (d.get (Dict.chAssigned m)))) 9
      match (lower.filter fun m => sourceRank (d.get (Dict.chAssigned m)) == least).getLast? with
      | some m => ((d.loseSource (d.get (Dict.chAssigned m))).assign m source true)
      | none => d.loseSource source

/-- A write of ChSource at its S0 (R721): the channel, a Removed one too, takes the source after any move still due; one it gives up returns to the Idle channel
whose home it is. -/
def applyChSource (d : Dev) (c source : Nat) : Dev :=
  let d := d.reassign c
  let given := d.get (Dict.chAssigned c)
  let d := d.assign c source false
  if given = 0 ∨ given = source then d
  else
    match (List.range 16).find? fun m =>
      m != c && d.get (Dict.chSource m) == given && d.get (Dict.chState m) == 1 && d.get (Dict.chAssigned m) == 0 with
    | some m => d.assign m given true
    | none => d

/-- The first frame of time service gives each channel its source (R721), and the collections of all lines begin (R162). -/
def assignAll (d : Dev) : Dev :=
  let d := forUnits 19 (fun c d => d.startBoth c) d
  forUnits 16 (fun c d =>
    if d.get (Dict.chState c) = 4 then d
    else
      let home := d.get (Dict.chSource c)
      let taken := home != 0 && (List.range c).any fun m => d.get (Dict.chState m) != 4 && d.get (Dict.chAssigned m) == home
      d.setAssigned c (if taken then 0 else home)) d

/-! ### Regions (R163 to R169) -/

/-- The middle of three values. -/
def median3 (a b c : Int) : Int := max (min a b) (min (max a b) c)

/-- The sensors of a region that R163 does not exclude, of its four readings. -/
def keptSensors (s : List Int) : List Int :=
  let x (i : Nat) := s.getD i 0
  ((List.range 4).filter fun i =>
    let o := (List.range 4).filter (· != i)
    decide ((x i - median3 (x (o.getD 0 0)) (x (o.getD 1 0)) (x (o.getD 2 0))).natAbs ≤ 8000)).map x

/-- The region temperatures of a frame from its 24 sensors, excluded ones counted; an invalid region keeps its last
temperature and raises source 22 once per episode (R163, R168). -/
def readRegions (d : Dev) (sensors : List Int) (volts : List Nat) : Dev :=
  let d := forUnits 24 (fun i d => d.setI (Dict.sensorTemp i) (sensors.getD i 0)) d
  forUnits 6 (fun r d =>
    let d := d.set (Dict.regionVoltage r) (volts.getD r (d.get (Dict.regionVoltage r)))
    let kept := keptSensors ((List.range 4).map fun i => sensors.getD (4 * r + i) 0)
    let d := d.add Dict.sensorExcludedCount (4 - kept.length)
    if kept.length < 2 then
      if d.is (Hid.regionValid r) then (d.setB (Hid.regionValid r) false).post 22 [] else d
    else
      let mean := roundNear ((kept.sum : Rat) / (kept.length : Rat))
      (d.setI (Dict.regionTemp r) mean).setB (Hid.regionValid r) true) d

/-- The adjacent pairs of a frame: differences, limits and source 21 (R164, R165). -/
def pairLimits (d : Dev) : Dev :=
  forUnits 11 (fun p d =>
    let (a, b) := regionPairs.getD p (0, 0)
    let diff := d.getI (Dict.regionTemp a) - d.getI (Dict.regionTemp b)
    let d := d.setI (Dict.pairDifference p) diff
    let out := bit (d.get Dict.pairOutOfLimit) p
    if out then
      if diff.natAbs ≤ 24000 then
        let n := d.get (Hid.pairCalm p) + 1
        if 64 ≤ n then (d.set Dict.pairOutOfLimit (clearBit (d.get Dict.pairOutOfLimit) p)).set (Hid.pairCalm p) 0
        else d.set (Hid.pairCalm p) n
      else d.set (Hid.pairCalm p) 0
    else if 25000 < diff.natAbs then
      let d := (d.set Dict.pairOutOfLimit (setBit (d.get Dict.pairOutOfLimit) p)).set (Hid.pairCalm p) 0
      d.post 21 [(1, p + 1), (4, (Dict.pairDifference p).ofInt diff)]
    else d) d

/-- Seconds since the in-service table's collection ended (R167). -/
def tableAge (d : Dev) (c : Nat) : Rat :=
  ((d.framesSince (d.get (Hid.tableFrame (c * 2 + d.get (chLineReg c)))) : Nat) : Rat) / framesPerSecond

/-- Some pair on the channel's path is out of limit, a region on it invalid, or its supply outside the recommended
range: VDD_TIME for a general channel, VDDA_TDC for a link channel (R168, R697). -/
def pathDoubtful (d : Dev) (c : Nat) : Bool :=
  let source := d.chSourceOf c
  let v := d.chVolt c
  let (lo, hi) := if c < 16 then (784000, 816000) else (882000, 918000)
  (pathPairs c source).any (bit (d.get Dict.pairOutOfLimit)) ||
    (pathRegions c source).any (fun r => !d.is (Hid.regionValid r)) || decide (v < lo) || decide (hi < v)

/-- e_tv of a channel in fs (R167, R168, and its entry for a Starting, Removed or Idle channel). -/
def tvResidualFs (d : Dev) (c : Nat) : Rat :=
  let state := d.get (chStateReg c)
  if state = 0 ∨ state = 4 ∨ d.pathDoubtful c then 40000
  else
    let source := d.chSourceOf c
    let d0 : Rat := (d.getI (chReg Dict.chPathDelay0 Dict.linkChPathDelay0 c) : Rat) * 1000000 / 65536
    let path : Rat := if source = 0 then 0 else absRat (d.dPathFs c - d0) * 5 / 100
    let dT := (pathPairs c source).foldl (fun a p => max a (d.getI (Dict.pairDifference p)).natAbs) 0
    let dV := ((d.chVolt c : Int) - d.get (Hid.tableVolt (c * 2 + d.get (chLineReg c)))).natAbs
    300 + path + 20 * (dT : Rat) / 1000 + 10 * (dV : Rat) / 1000 + 50 * max 0 (d.tableAge c - 8)

/-- The residuals and path delays of every channel, each frame (R166, R167). -/
def publishResiduals (d : Dev) : Dev :=
  forUnits 19 (fun c d =>
    let d := d.set (chReg Dict.chCalResidual Dict.linkChCalResidual c) 195
    let d := d.setI (chReg Dict.chTvResidual Dict.linkChTvResidual c) (roundUp (d.tvResidualFs c))
    d.setI (chReg Dict.chPathDelay Dict.linkChPathDelay c) (roundNear (d.dPathFs c * 65536 / 1000000))) d

/-! ### XO timebase (R171 to R174) -/

/-- y_XO at an instant (R172). -/
def xoModel (d : Dev) (u : Nat) : Rat :=
  let dt : Rat := ((u : Int) - ofTime96 (d.get Hid.xoModelTime) : Int)
  let dT : Rat := ((d.getI (Dict.regionTemp 5) - d.getI Hid.xoModelTemp : Int) : Rat) / 1000
  ofFrac64 (d.getI Dict.xoModelOffset) + ofFrac64 (d.getI Dict.xoAgeingRate) * dt / (secondUnits * 86400 : Nat) +
    ofFrac64 (d.getI Dict.xoTempCoeff) * dT

/-- A sample of y_m enters the daily mean of its TAI day; the mean of the day before is closed with the first sample of another
(R172; which instants part the days is a DESIGN CHOICE, log entry 115). -/
def xoDaySample (d : Dev) (ym : Rat) : Dev :=
  let today := d.second / daySeconds
  let day := d.get Hid.xoDay
  let n := d.get Hid.xoDayCount
  let d := if day = today + 1 then d
    else
      let closed := if day = 0 ∨ n = 0 then d.xoDays else d.xoDays ++ [(day - 1, d.q Q.xoDaySum / ((n : Nat) : Rat))]
      ((({ d with xoDays := closed }).set Hid.xoDay (today + 1)).clear Hid.xoDayCount).setQ Q.xoDaySum 0
  (d.setQ Q.xoDaySum (d.q Q.xoDaySum + ym)).set Hid.xoDayCount (d.get Hid.xoDayCount + 1)

/-- The ageing rate: the line through the daily means of the last 7 days, or XoAgeingAdjust where there are fewer than three (R172). -/
def xoAgeing (d : Dev) : Dev :=
  let today := d.second / daySeconds
  let d := { d with xoDays := d.xoDays.filter fun p => decide (today ≤ p.1 + 7) }
  if d.get Dict.xoAgeingSource == 0 || decide (d.xoDays.length < 3) then
    d.setI Dict.xoAgeingRate (d.getI Dict.xoAgeingAdjust)
  else
    d.setI Dict.xoAgeingRate (toFrac64 (lsqSlope (d.xoDays.map fun p => ((p.1 : Rat), p.2))))

/-- The model follows a second's y_m while it learns: b is fitted over the last 24 h (R172, R173). -/
def xoLearn (d : Dev) (ym : Rat) : Dev :=
  let d := d.set Hid.xoLearnFrames (d.get Hid.xoLearnFrames + framesPerSecond)
  let temp := d.getI (Dict.regionTemp 5)
  let recent := d.xoSamples.filter fun s => decide (d.second < s.1 + daySeconds)
  let d := { d with xoSamples := recent ++ [(d.second, ym, (temp : Rat) / 1000)] }
  let d := d.setI Dict.xoTempCoeff (toFrac64 (lsqSlope (d.xoSamples.map fun s => (s.2.2, s.2.1))))
  let d := (d.setI Dict.xoModelOffset (toFrac64 ym)).set Hid.xoModelTime (toTime96 d.view.frameStart)
  (d.setI Hid.xoModelTemp temp).xoDaySample ym

/-- The model's fault state after a second's y_m (R174): off by more than 200 ppm, or 64 s outside XoModelLimit while
learning; it ends after 64 s within limits. -/
def xoFaults (d : Dev) (ym : Rat) : Dev :=
  let wide := decide (200 / 1000000 < absRat ym)
  let off := decide (((d.get Dict.xoModelLimit : Nat) : Rat) / 1000000000 < absRat (ym - d.xoModel d.view.frameStart))
  let bad := if d.is Dict.xoModelLearning && off then d.get Hid.xoBadSeconds + 1 else 0
  let d := d.set Hid.xoBadSeconds bad
  let fault := wide || decide (64 ≤ bad)
  let good := if wide || off then 0 else min 64 (d.get Hid.xoGoodSeconds + 1)
  let d := d.set Hid.xoGoodSeconds (if fault then 0 else if d.is Hid.xoFaultActive then good else 64)
  if fault && !d.is Hid.xoFaultActive then (d.setB Hid.xoFaultActive true).post 23 []
  else if d.is Hid.xoFaultActive && decide (64 ≤ good) then d.setB Hid.xoFaultActive false else d

/-- An XO edge is the first after its TAI second: none of the second has been stamped, and it lies within a period of XO, 2 % slow,
of the second (R171, R565). -/
def xoFirst (d : Dev) (u : Nat) : Bool :=
  u / secondUnits == d.second && d.get Hid.xoSeen != d.second + 1 &&
    decide (u % secondUnits * d.get Dict.xoNominalFrequency * 50 ≤ secondUnits * 51)

/-- One second of the XO timebase (R171 to R174): the stamped edge, given as XO cycles counted and its instant, gives
y_m over the last 64 stamps; while learning, the model follows it. -/
def xoSecond (d : Dev) (edge : Nat × Nat) : Dev :=
  let f0 : Rat := d.get Dict.xoNominalFrequency
  if !d.xoFirst edge.2 then d
  else
  let d := ({ d with xoStamps := lastN 64 (d.xoStamps ++ [(edge.1, d.toCycle edge.2)]) }).set Hid.xoSeen (d.second + 1)
  if d.xoStamps.length < 2 then d.xoAgeing
  else
    let ym := lsqSlope (d.xoStamps.map fun s => (((s.2 : Rat) / (secondUnits : Nat)), (s.1 : Rat))) / f0 - 1
    let d := (d.setI Dict.xoMeasuredOffset (toFrac64 ym)).xoFaults ym
    let learn := d.state == 3 && d.get Dict.apll0Source == 1 && !d.is Hid.xoFaultActive
    let d := d.setB Dict.xoModelLearning learn
    (if learn then d.xoLearn ym else d).xoAgeing

/-! ### The frame's share -/

/-- At a frame start: edge counts move on, twin checks are decided, Starting channels leave, removed ones give up their
source (R144, R153, R158, R721). -/
def measureFrame (d : Dev) : Dev :=
  let d := forUnits 19 (fun c d =>
    let d := (d.set (Hid.prevEdges c) (d.get (Hid.frameEdges c))).set (Hid.prevOverflow c) (d.get (Hid.overflowed c))
    d.clearAll [Hid.frameEdges c, Hid.overflowed c]) d
  let d := forUnits 19 (fun c d => if d.inOverlap c then d.twinDecide c else d) d
  let d := forUnits 19 (fun c d => d.leaveStarting c) d
  forUnits 16 (fun c d => d.reassign c) d

/-- The CALRO edges both lines of a channel received in an overlap frame, as code pairs (R158). A link channel, which has no
ChWinMode, receives none, as in mode 0x00 (DESIGN CHOICE, log entry 115). -/
def calroFrame (d : Dev) (c : Nat) (pairs : List (Nat × Nat × Nat × Nat)) : Dev :=
  let line := d.get (chLineReg c) % 2
  if 19 ≤ c ∨ !d.inOverlap c ∨ 16 ≤ c ∨ d.get (Dict.chWinMode c) = 0 then d
  else
    (pairs.take 64).foldl (fun d p =>
      let tk := d.view.frameStart * subUnits
      d.twinStamp c (d.convert c (c * 2 + (1 - line)) tk p.2.2.1 p.2.2.2 - d.convert c (c * 2 + line) tk p.1 p.2.1)) d

/-- S0 collects the stamps whose values lie before the frame (R48). -/
def collectStamps (d : Dev) : Dev × List Stamp :=
  ({ d with stamps := d.stamps.filter fun s => decide (d.view.frameStart ≤ s.time) },
    d.stamps.filter fun s => decide (s.time < d.view.frameStart))

end Dev

end Sys2Proof.Machine
end

