-- ==== Sys2Proof/Machine/References.lean ====
section
/-!
DEFINITION. Reference inputs: measurements, the tracking filter, monitors, quality codes, reference states (R180 to R196).

References: 0 to 7 REFIN, 8 to 13 SyncE, 14 and 15 NREF, 16 G0, 17 K0 (R181). Offsets are exact, in CT64 units.
-/
namespace Sys2Proof.Machine

/-- Standard deviation of a list, over the whole list (DEDUCED, log entry 16). -/
def deviation (l : List Rat) : Rat :=
  if l.isEmpty then 0
  else
    let m := l.sum / (l.length : Rat)
    Config.sqrt ((l.map fun x => (x - m) * (x - m)).sum / (l.length : Rat))

/-- RefQc of a SyncE quality level: SSM code in [15:8], enhanced SSM code in [7:0] (R193, R410). The codes of SSU-A,
SSU-B, eEEC and ePRC are those of ITU-T G.781 (PRESUMED, log entry 17). -/
def qcOfSyncE (raw : Nat) : Nat :=
  let ssm := raw / 256 % 256
  let enhanced := raw % 256
  if ssm = 0x0F then 15
  else if enhanced = 0x21 then 1
  else if enhanced = 0x20 ∨ enhanced = 0x23 then 2
  else if enhanced = 0x22 then 5
  else if ssm = 0x02 then 3
  else if ssm = 0x04 ∨ ssm = 0x08 then 4
  else if ssm = 0x0B then 5
  else 6

/-- RefQc of a PTP clockClass (R193). -/
def qcOfClass (c : Nat) : Nat :=
  if c = 6 then 2 else if c = 7 ∨ c = 135 then 4 else if c = 140 ∨ c = 150 ∨ c = 160 then 5
  else if c = 255 then 15 else 6

/-- RefQc of a G0 record's flags (R193, R313). -/
def qcOfG0 (flags : Nat) : Nat := if !bit flags 13 then 4 else if bit flags 14 then 2 else 3

/-- A SyncE reference. -/
def isSyncE (r : Nat) : Bool := decide (8 ≤ r ∧ r ≤ 13)

namespace Dev

/-- The general channel that carries a source, if any (R142). -/
def channelOf (d : Dev) (source : Nat) : Option Nat :=
  (List.range 16).find? fun c => d.get (Dict.chAssigned c) == source && d.get (Dict.chState c) != 4

/-- A reference that carries time (R181). -/
def carriesTime (d : Dev) (r : Nat) : Bool :=
  decide (14 ≤ r) || (decide (r < 8) && d.get (Dict.refMode r) == 2)

/-- A reference whose build-out may resolve: one that carries time, or a REFIN pulse (R206, R207). -/
def carriesPhase (d : Dev) (r : Nat) : Bool :=
  d.carriesTime r || (decide (r < 8) && d.get (Dict.refMode r) == 1)

/-! ### Histories for the drift monitor -/

/-- The history of a reference or of the oscillator prediction. -/
def track (d : Dev) (k : Nat) : Track :=
  (d.tracks.find? fun t => t.key == k).getD ⟨k, d.view.frames, [], [], 0, 0, [], []⟩

/-- A history takes its new contents. -/
def setTrack (d : Dev) (t : Track) : Dev :=
  { d with tracks := t :: d.tracks.filter fun x => x.key != t.key }

/-- The filter of a reference restarts (R187), and with it every pair of the drift monitor it takes part in (R196). -/
def restartFilter (d : Dev) (r : Nat) : Dev :=
  let d := (d.set (Hid.refCount r) 0).setB (Hid.refAwait r) false
  let d := d.setTrack ⟨r, d.view.frames, [], [], 0, 0, [], []⟩
  let d := { d with bases := d.bases.filter fun b => b.ref != r && b.other != r }
  let d := forUnits 3 (fun k d => (d.setQ (Q.phaseStat r k) 0).setQ (Q.freqStat r k) 0) d
  (d.setQ (Q.drift r) 0).set (Dict.driftBaselineTime r) (toTime96 d.view.frameStart)

/-! ### Build-out and known discontinuities (R188) -/

/-- A known shift of a reference's estimate is added where the build-out must follow it: to B when the reference is
followed, to B_old and to the recorded d_i in an open window (R188). -/
def shiftBuildOut (d : Dev) (r : Nat) (units : Rat) : Dev :=
  let selected := d.get Dict.selectedRef == r
  if d.get Dict.switchState = 0 then (if selected then d.setQ Q.buildOut (d.q Q.buildOut + units) else d)
  else
    let d := if selected then { d with handover := d.handover.map (· + units) } else d
    if d.is Hid.basisOld && d.get Dict.switchFrom == r then d.setQ Q.buildOut (d.q Q.buildOut + units) else d

/-- A reference's estimate shifts by a known amount (R188). -/
def shiftEstimate (d : Dev) (r : Nat) (units : Rat) : Dev :=
  let d := (d.setQ (Q.xHat r) (d.q (Q.xHat r) + units)).setQ (Q.xAt r) (d.q (Q.xAt r) + units)
  d.shiftBuildOut r units

/-- Distance to the nearest multiple of a period. -/
def nearestResidue (x period : Rat) : Rat := if period = 0 then x else x - (roundNear (x / period) : Rat) * period

/-- Period of a REFIN pulse in CT64 units (R183). -/
def pulsePeriod (d : Dev) (r : Nat) : Nat := secondUnits / max 1 (d.get (Dict.refPulseRate r))

/-- What a step or set of a size adds to the offset of a reference, or to the phase of the oscillator prediction (31). A
pulse's offset lies within its period, so its shift is taken to the nearest residue (DEDUCED, log entry 18). That the
prediction's phase moves with the timescale is the model's choice (DESIGN CHOICE, log entry 115). -/
def shiftOf (d : Dev) (units : Int) (r : Nat) : Rat :=
  if r < 8 && d.get (Dict.refMode r) == 1 then nearestResidue (units : Rat) ((d.pulsePeriod r : Nat) : Rat) else (units : Rat)

/-- An instant moves with the timescale. -/
def movedBy (units : Int) (t : Nat) : Nat := ((t : Int) + units).toNat

/-- An instant kept in a register moves with the timescale; 0 stays, as it marks none. -/
def moveKept (d : Dev) (units : Int) (e : Entry) : Dev := if d.get e = 0 then d else d.set e (movedBy units (d.get e))

/-- The histories of the drift monitor, their baselines and the measurements that wait for S1 move with the timescale (R188,
R196). -/
def shiftHistories (d : Dev) (units : Int) : Dev :=
  let tracks := d.tracks.map fun (t : Track) =>
    let a := d.shiftOf units t.key
    { t with frames := t.frames.map (· + a), seconds := t.seconds.map (· + a), openSum := t.openSum + a * (t.openCount : Rat), times := t.times.map (movedBy units) }
  let bases := d.bases.map fun (b : PairBase) => { b with value := b.value + d.shiftOf units b.ref - d.shiftOf units b.other }
  let measures := d.measures.map fun (m : Measurement) => { m with x := m.x + d.shiftOf units m.ref, time := movedBy units m.time }
  let stamps := d.stamps.map fun (s : Stamp) => { s with time := movedBy units s.time }
  { d with tracks, bases, measures, stamps }.setQ Q.oscPhase (d.q Q.oscPhase + d.shiftOf units 31)

/-- A step or set of the timescale shifts every estimate by its size, and the instants kept with it (R112, R188). -/
def shiftReferences (d : Dev) (units : Int) : Dev :=
  let d := forUnits 18 (fun r d =>
    let d := if d.get (Hid.refCount r) = 0 then d else d.shiftEstimate r (d.shiftOf units r)
    let d := if isSyncE r then d.setQ (Q.gridShift r) (d.q (Q.gridShift r) + (units : Rat)) else d
    [Hid.refDeadline r, Hid.refLast r, Hid.refSeen r, Hid.refUnauth r, Hid.refAuthSeen r, Hid.refBadSeen r,
      Hid.refSelectedAt r].foldl (fun d e => d.moveKept units e) d) d
  (forUnits 4 (fun i d => d.moveKept units (Hid.todAt i)) d).shiftHistories units

/-! ### The tracking filter (R186, R187) -/

/-- RefFilterTau in seconds. -/
def filterTau (d : Dev) (r : Nat) : Rat := ((d.get (Dict.refFilterTau r) : Nat) : Rat) / 1000

/-- The gain α over an interval in seconds (R186). -/
def filterGain (d : Dev) (r : Nat) (dt : Rat) : Rat := 1 - Config.exp (-(dt / d.filterTau r))

/-- The prediction at an instant (R186). -/
def predict (d : Dev) (r t : Nat) : Rat :=
  d.q (Q.xAt r) + d.q (Q.yHat r) * (((t : Int) - d.get (Hid.refLast r) : Int) : Rat)

/-- The estimate takes a value measured at an instant. -/
def takeEstimate (d : Dev) (r : Nat) (x : Rat) (t : Nat) : Dev :=
  let d := (d.setQ (Q.xHat r) x).setQ (Q.xAt r) x
  let d := (d.set (Hid.refLast r) t).setB (Hid.refGot r) true
  let tr := d.track r
  let d := d.setTrack { tr with times := (t :: tr.times).take 65 }
  d.set (Dict.refLastMeasurement r) (toTime96 t)

/-- RefInputRandom after an innovation (R187): the standard deviation of the last 64 innovations times √(α/(2 − α));
for NREF combined with the upstream's term as a root of squares (DEDUCED, log entry 19); for G0 the delivered one; for K0 the
larger of the upstream's term and the deviation of the innovations (R523). -/
def publishRandom (d : Dev) (r : Nat) (alpha : Rat) : Dev :=
  let spread := deviation (d.track r).innovations * Config.sqrt (alpha / (2 - alpha)) * 1000000 / 65536
  let up : Rat := ((d.get (Hid.refUpRandom r) : Nat) : Rat)
  let u := if r = 16 then up else if r = 17 then max up (deviation (d.track r).innovations * 1000000 / 65536)
    else if 14 ≤ r then Config.sqrt (spread * spread + up * up) else spread
  d.setI (Dict.refInputRandom r) (roundNear u)

/-- A measurement after the second: the phase-step test and the update of the estimates (R186, R189, R190). -/
def innovate (d : Dev) (r : Nat) (x : Rat) (t : Nat) : Dev :=
  let dt : Rat := (((t : Int) - d.get (Hid.refLast r) : Int) : Rat) / (secondUnits : Nat)
  let e := x - d.predict r t
  if ((d.get (Dict.refPhaseStepThreshold r) * unitsPerNs : Nat) : Rat) < absRat e then
    let d := (d.setB (Hid.refStepNow r) true).setB (Hid.refAwait r) true
    d.setI (Dict.refLastStepSize r) (roundNear e)
  else
    let alpha := d.filterGain r dt
    let beta := alpha * alpha / (2 - alpha)
    let x' := d.predict r t + alpha * e
    let d := d.setQ (Q.yHat r) (d.q (Q.yHat r) + beta * e / (dt * (secondUnits : Nat)))
    let d := d.takeEstimate r x' t
    let tr := d.track r
    (d.setTrack { tr with innovations := (e :: tr.innovations).take 64 }).publishRandom r alpha

/-- A measurement reaches its reference in S1 (R182, R186 to R190). An unauthenticated one under RefRequireAuth is
discarded and is no activity; a reference in Absent takes it as activity only (R194, R196). -/
def takeMeasurement (d : Dev) (m : Measurement) : Dev :=
  let r := m.ref
  let x := m.x - (d.getI (Dict.refDelayCorrection r) : Rat)
  if d.is (Dict.refRequireAuth r) && !m.auth then
    (d.set (Hid.refUnauth r) (m.time + 1)).set (Hid.refBadSeen r) ((if r = 17 then d.view.frameStart else m.time) + 1)
  else
    let d := (d.setB (Hid.refHeard r) true).set (Hid.refAuthSeen r) (m.time + 1)
    let d := if r = 14 ∨ r = 15 then d else d.set (Hid.refSeen r) (m.time + 1)
    let d := ((d.set (Hid.refNoResult r) 0).set (Hid.refUpRandom r) m.random).setB (Hid.refAuth r) (m.auth && decide (14 ≤ r))
    let d := d.setB (Hid.refBigX r) (decide (((secondUnits / 2 : Nat) : Rat) ≤ absRat x))
    if d.get (Dict.refState r) = 0 then d.setB (Hid.refGot r) true
    else
      let d := if d.is (Hid.refAwait r) then d.restartFilter r else d
      let n := d.get (Hid.refCount r)
      if n = 0 then ((d.takeEstimate r x m.time).setQ (Q.yHat r) 0).set (Hid.refCount r) 1
      else if m.rebase then
        let shift := x - d.predict r m.time
        (d.takeEstimate r x m.time).shiftBuildOut r shift
      else if m.time ≤ d.get (Hid.refLast r) then d.setB (Hid.refGot r) true
      else if n = 1 then
        let y := (x - d.q (Q.xAt r)) / (((m.time : Int) - d.get (Hid.refLast r) : Int) : Rat)
        ((d.takeEstimate r x m.time).setQ (Q.yHat r) y).set (Hid.refCount r) 2
      else d.innovate r x m.time

/-- In a frame without a measurement the estimate advances by ŷ × one frame (R186). -/
def advanceEstimates (d : Dev) : Dev :=
  forUnits 18 (fun r d =>
    if d.is (Hid.refGot r) ∨ d.get (Hid.refCount r) = 0 then d
    else d.setQ (Q.xHat r) (d.q (Q.xHat r) + d.q (Q.yHat r) * (frameUnits : Nat))) d

/-! ### Offsets from stamps (R183, R184) -/

/-- Stamp period of a REFIN reference in CT64 units: ChPrescale / RefNominalFrequency, or its pulse period (R183). -/
def stampPeriod (d : Dev) (r : Nat) : Rat :=
  if d.get (Dict.refMode r) = 0 then
    match d.channelOf (r + 1) with
    | some c => ((d.get (Dict.chPrescale c) * secondUnits : Nat) : Rat) / ((max 1 (d.get (Dict.refNominalFrequency r)) : Nat) : Rat)
    | none => 0
  else ((d.pulsePeriod r : Nat) : Rat)

/-- The companion message of a pulse at an instant: the time it names and its quantisation in fs, when one completed
between 990 ms and 1 ms before (R184). -/
def companion (d : Dev) (r t : Nat) : Option (Nat × Int) :=
  let k := d.get (Dict.refTodInput r)
  let at_ := d.get (Hid.todAt k)
  if 4 ≤ k ∨ at_ = 0 then none
  else if at_ - 1 + secondUnits / 1000 ≤ t ∧ t ≤ at_ - 1 + 990 * (secondUnits / 1000) then
    some (ofTime96 (d.get (Hid.todPulse k)), d.getI (Hid.todQuantisation k))
  else none

/-- The measurement that a stamp gives its reference, if any (R183, R184): the unwrapped phase against the grid, the
distance from the nearest pulse instant, or the distance from the time the companion names. The grid period nearest
the prediction is taken (DEDUCED, log entry 18). -/
def refinMeasure (d : Dev) (r : Nat) (s : Stamp) : Dev :=
  let mode := d.get (Dict.refMode r)
  if mode = 0 then
    let d := if d.get (Hid.refOrigin r) = 0 then d.set (Hid.refOrigin r) (s.time + 1) else d
    let raw : Rat := (((s.time : Int) - (d.get (Hid.refOrigin r) - 1 : Nat) : Int) : Rat)
    let near := if d.get (Hid.refCount r) = 0 then 0 else d.predict r s.time + (d.getI (Dict.refDelayCorrection r) : Rat)
    d.takeMeasurement ⟨r, near + nearestResidue (raw - near) (d.stampPeriod r), s.time, true, 0, s.moved⟩
  else if mode = 1 then
    d.takeMeasurement ⟨r, nearestResidue (s.time : Rat) ((d.pulsePeriod r : Nat) : Rat), s.time, true, 0, s.moved⟩
  else
    match d.companion r s.time with
    | some (named, q) =>
      let x : Rat := (((s.time : Int) - named : Int) : Rat) - (q : Rat) * 65536 / 1000000
      (d.takeMeasurement ⟨r, x, s.time, true, 0, s.moved⟩).setB (Hid.refTodGood r) true
    | none => d.set (Hid.refSeen r) (s.time + 1)

/-- S1 hands the frame's stamps and the other posted measurements to their references. -/
def takeAll (d : Dev) (stamps : List Stamp) : Dev :=
  let d := forUnits 18 (fun r d => d.clearAll [Hid.refGot r, Hid.refHeard r, Hid.refStepNow r]) d
  let d := stamps.foldl (fun d s => if 1 ≤ s.source ∧ s.source ≤ 8 then d.refinMeasure (s.source - 1) s else d) d
  let posted := d.measures
  let d := posted.foldl (fun d m => if m.ref < 18 then d.takeMeasurement m else d) { d with measures := [] }
  let d := if d.is (Hid.refHeard 17) then d else d.add (Hid.refNoResult 17) 1
  d.advanceEstimates

/-! ### Monitors (R189 to R192) -/

/-- The reference is enabled and its source is there: assigned to a channel, its port in place, its unit enabled, its
domain powered (R194, R301, R409, R512). -/
def refPresent (d : Dev) (r : Nat) : Bool :=
  d.is (Dict.refEnable r) &&
    (if r < 8 then (d.channelOf (r + 1)).isSome
     else if r < 14 then d.powered .net && d.get (Dict.portState (r - 8)) == 3
     else if r < 16 then d.powered .proto && d.powered .net && d.is (Dict.nrefEnable (r - 14)) &&
       !d.removed (.port (d.get (Dict.nrefPort (r - 14))))
     else if r = 16 then d.powered .gnss && d.get Dict.gnssState != 0 && d.get Dict.gnssState != 6
     else d.powered .net && d.get Dict.k0Port != 0xFF)

/-- The limit in CT64 units after which a silent reference has failed Activity (R189). -/
def activityLimit (d : Dev) (r : Nat) : Rat :=
  let n : Rat := ((d.get (Dict.refLossPeriods r) : Nat) : Rat)
  if r < 8 then (n + 1 / 2) * d.stampPeriod r
  else if r < 16 then n * ((d.get (Hid.refPeriod r) : Nat) : Rat)
  else n * (secondUnits : Nat)

/-- An instant kept plus one lies no further back than the limit. -/
def withinLimit (d : Dev) (kept : Nat) (limit : Rat) : Bool :=
  kept != 0 && decide ((d.view.frameStart : Rat) ≤ ((kept - 1 : Nat) : Rat) + limit)

/-- The Activity monitor (R189): 0 passes, 1 fails, 5 when every measurement of the interval was unauthenticated. -/
def activityCause (d : Dev) (r : Nat) : Nat :=
  let limit := d.activityLimit r
  let silent : Nat := if 14 ≤ r && d.is (Dict.refRequireAuth r) && d.withinLimit (d.get (Hid.refUnauth r)) limit then 5 else 1
  if r < 8 then
    match d.channelOf (r + 1) with
    | none => 1
    | some c =>
      if d.get (Dict.refMode r) != 0 && d.get (Dict.chWinMode c) != 0 then
        if d.get (Hid.refSeen r) != 0 && decide (d.get (Hid.missRun c) < d.get (Dict.refLossPeriods r)) then 0 else 1
      else if d.withinLimit (d.get (Hid.refSeen r)) limit then 0 else 1
  else if r < 14 then (if d.is (Hid.refHeard r) then 0 else 1)
  else if r < 17 then (if d.withinLimit (d.get (Hid.refSeen r)) limit then 0 else silent)
  else
    let lost := decide (d.get (Dict.refLossPeriods 17) ≤ d.get (Hid.refNoResult 17)) || !d.is Hid.k0Up
    let window : Nat := (d.get (Dict.refLossPeriods 17) - 1) * frameUnits
    if d.get (Hid.refSeen 17) != 0 && !lost then 0
    else if d.is (Dict.refRequireAuth 17) && d.withinLimit (d.get (Hid.refBadSeen 17)) (window : Rat) then 5
    else 1

/-- The Authentication monitor of a reference that still shows activity (R189): measurements came within the last RefLossPeriods
intervals, and none of them was authenticated. -/
def authFails (d : Dev) (r : Nat) : Bool :=
  let limit := d.activityLimit r
  decide (14 ≤ r ∧ r ≤ 16) && d.is (Dict.refRequireAuth r) && d.withinLimit (d.get (Hid.refBadSeen r)) limit &&
    !d.withinLimit (d.get (Hid.refAuthSeen r)) limit

/-- R192: before client service in Free-run, and in Boot, a ToD inconsistency fails no reference. -/
def todExempt (d : Dev) : Bool := d.state == 0 || (d.state == 1 && !d.is Dict.clientServiceStarted)

/-- The first monitor that a reference fails in this frame, as RefFailCause codes it; 0 when all pass (R189). -/
def monitorCause (d : Dev) (r : Nat) : Nat :=
  let activity := d.activityCause r
  let settled := d.get (Hid.refWaitFrame r) != 0 &&
    decide (framesPerSecond ≤ d.framesSince (d.get (Hid.refWaitFrame r) - 1)) && decide (2 ≤ d.get (Hid.refCount r))
  let misses := decide (r < 8) && d.get (Dict.refMode r) == 2 && decide (d.get (Dict.refTodMisses r) ≤ d.get (Hid.refMissSeconds r))
  if activity ≠ 0 then activity
  else if settled && decide (((d.get (Dict.refFreqLimit r) : Nat) : Rat) < absRat (d.q (Q.yHat r)) * 1000000000000) then 2
  else if d.is (Hid.refStepNow r) || d.is (Hid.refAwait r) then 3
  else if !d.todExempt && d.carriesTime r && (misses || d.is (Hid.refBigX r)) then 4
  else if d.authFails r then 5
  else if d.get (Hid.refDriftFail r) ≠ 0 then 6
  else 0

/-- Once per second, the seconds without a valid companion are counted (R189). -/
def countCompanions (d : Dev) : Dev :=
  if d.frame ≠ 0 then d
  else forUnits 8 (fun r d =>
    let n := if d.is (Hid.refTodGood r) then 0 else min 1000 (d.get (Hid.refMissSeconds r) + 1)
    (d.set (Hid.refMissSeconds r) n).setB (Hid.refTodGood r) false) d

/-! ### Quality and states (R193 to R196) -/

/-- RefQlRaw of a REFIN reference, and RefQc of each reference from its raw value (R193, R688). A K0 value that is no quality
code, the 0 before the first Beat among them, grades 15; NREF and G0 before their first Announce or record are graded from
the raw value 0, as 6 and 4 (DESIGN CHOICE, log entry 115). -/
def gradeReference (d : Dev) (r : Nat) : Dev :=
  let d := if r < 8 then d.set (Dict.refQlRaw r) (d.get (Dict.refQcFixed r))
    else d
  let raw := d.get (Dict.refQlRaw r)
  let qc :=
    if r < 8 then raw
    else if r < 14 then (if d.get (Dict.esmcRxState (r - 8)) = 1 then qcOfSyncE raw else 15)
    else if r < 16 then qcOfClass raw
    else if r = 16 then qcOfG0 raw
    else if d.state ≤ 1 ∧ (d.peers.any fun b => b.port == d.get Dict.k0Port && !bit b.beat.flags 13) then 15
    else if raw = 0 ∨ 15 < raw then 15
    else raw
  let d' := d.set (Dict.refQc r) qc
  if d.is (Dict.refEnable r) && d.get (Dict.refQc r) != qc then d'.post 35 [] else d'

/-- A change of RefState is recorded with its time and cause (R216). -/
def enterRef (d : Dev) (r state cause : Nat) : Dev :=
  let d := (d.set (Dict.refState r) state).set (Dict.refFailCause r) cause
  d.set (Dict.refStateSince r) (toTime96 d.view.frameStart)

/-- Entry to Waiting: the filter restarts, its grid's origin with it, and the timer starts (R183, R187, R195). -/
def enterWaiting (d : Dev) (r seconds : Nat) : Dev :=
  let d := (d.enterRef r 2 0).restartFilter r
  let d := (d.set (Hid.refOrigin r) 0).set (Hid.refWaitFrame r) (d.view.frames + 1)
  (d.set (Dict.refWtrRemaining r) seconds).set (Hid.refDeadline r) (d.view.frameStart + seconds * secondUnits)

/-- Entry to Failed (R194, R195, R218): counted, source 24 and the cause's own source; the reference cannot qualify
sooner because of a reset. -/
def enterFailed (d : Dev) (r cause : Nat) : Dev :=
  let d := (d.enterRef r 1 cause).inc (Dict.refFailCount r)
  let d := d.set (Dict.refWtrRemaining r) (d.get (Dict.refWaitToRestore r))
  let d := (d.setB (Hid.refInWindow r) false).post 24 [(1, r), (1, cause)]
  if cause = 3 then d.post 29 [(1, r), (8, d.get (Dict.refLastStepSize r))]
  else if cause = 4 then d.post 34 []
  else if cause = 5 then d.post 33 []
  else if cause = 6 then
    d.post 30 [(1, r), (1, d.get (Hid.refDriftFail r) - 1), (1, d.get (Hid.refDriftStat r)), (4, d.get (Hid.refDriftValue r))]
  else d

/-- Cause 0x08 or 0x09 where the reference is excluded; 0 where it is not (R193, R194). -/
def exclusion (d : Dev) (r : Nat) : Nat :=
  if d.is (Dict.refExclude r) then 8 else if d.get Dict.refQcMinimum < d.get (Dict.refQc r) then 9 else 0

/-- Entry to Qualified from Waiting or Excluded (R194, R197, R218). -/
def qualify (d : Dev) (r : Nat) : Dev :=
  let d := (d.enterRef r 3 0).setB (Hid.refInWindow r) (d.get Dict.switchState == 1)
  d.post 25 []

/-- WAITING_TIMER_EXPIRY (R194, R195): the Waiting reference becomes Excluded or Qualified, at the earliest at the S1 after the
one in which it entered Waiting. -/
def waitingExpiry (d : Dev) (r : Nat) : Dev :=
  if d.get (Dict.refState r) ≠ 2 ∨ d.view.frameStart < d.get (Hid.refDeadline r) ∨ d.view.frames < d.get (Hid.refWaitFrame r) then d
  else
    let d := d.set (Dict.refWtrRemaining r) 0
    if d.exclusion r = 0 then d.qualify r else d.enterRef r 5 (d.exclusion r)

/-- The Waiting timer's remaining whole seconds (R195). -/
def countWaiting (d : Dev) (r : Nat) : Dev :=
  if d.get (Dict.refState r) = 2 ∧ d.view.frameStart < d.get (Hid.refDeadline r) then
    d.set (Dict.refWtrRemaining r) ((d.get (Hid.refDeadline r) - d.view.frameStart + secondUnits - 1) / secondUnits)
  else d

/-- The reference state table of R194: rows in order, the first that holds applies. -/
def stepReference (d : Dev) (r : Nat) : Dev :=
  let state := d.get (Dict.refState r)
  let cause := d.monitorCause r
  if !d.refPresent r then
    if state = 0 then d
    else ((d.enterRef r 0 0).restartFilter r).clearAll [Hid.refSeen r, Hid.refUnauth r, Hid.refAuthSeen r, Hid.refBadSeen r, Hid.refInWindow r,
        Dict.refWtrRemaining r]
  else if state = 0 then
    if d.activityCause r = 0 then
      let left := d.get (Dict.refWtrRemaining r)
      d.enterWaiting r (if left = 0 then d.get (Dict.refQualifyTime r) else left)
    else d
  else if state = 2 then (if cause ≠ 0 then d.enterFailed r cause else (d.countWaiting r).waitingExpiry r)
  else if state = 1 then (if cause = 0 then d.enterWaiting r (d.get (Dict.refWaitToRestore r)) else d)
  else if cause ≠ 0 then d.enterFailed r cause
  else if state = 5 then (if d.exclusion r = 0 then d.qualify r else d)
  else if d.exclusion r ≠ 0 then d.enterRef r 5 (d.exclusion r)
  else d

/-- The published estimates (R216), and the input bound of a REFIN or SyncE reference, which is its upstream's (R187,
R350). -/
def publishReference (d : Dev) (r : Nat) : Dev :=
  let d := if r < 14 then d.set (Dict.refInputBound r) (d.get (Dict.refUpstreamBound r)) else d
  (d.setI (Dict.refOffset r) (roundNear (d.q (Q.xHat r)))).setI (Dict.refFrequency r) (toFrac64 (d.q (Q.yHat r)))

/-- S1's work on the references after their measurements and the drift monitor (R189, R193 to R196). -/
def stepReferences (d : Dev) : Dev :=
  forUnits 18 (fun r d => ((d.gradeReference r).stepReference r).publishReference r) d

end Dev

end Sys2Proof.Machine
end

