-- ==== Sys2Proof/Machine/Drift.lean ====
section
/-!
DEFINITION. The drift monitor: comparators, weights, statistics, the drift term, coverage (R208 to R214).

A pair difference is the difference of two histories, so means and slopes of it are taken history by history.
-/
namespace Sys2Proof.Machine

/-- Mean of the newest `n` of a newest-first list, leaving out the newest `skip`. -/
def meanOf (l : List Rat) (skip n : Nat) : Rat :=
  let part := (l.drop skip).take n
  if part.isEmpty then 0 else part.sum / (part.length : Rat)

/-- Slope per sample of the newest `n` of a newest-first list, by least squares. -/
def slopeOf (l : List Rat) (n : Nat) : Rat :=
  -lsqSlope (((l.take n).zipIdx).map fun p => ((p.2 : Rat), p.1))

/-- Windows of the drift monitor in seconds (R209). -/
def driftWindow (k : Nat) : Nat := [1, 64, 1024].getD k 1

/-- Frames of history that a 1 s window needs twice over. -/
def historyFrames : Nat := 8192

/-- Seconds of history that the longest window needs twice over. -/
def historySeconds : Nat := 2048

namespace Dev

/-- Each history takes the frame's estimate; in frame 0 the mean of the second that ended is closed (R209). A first second
of which the history holds only a part is dropped. -/
def pushTrack (d : Dev) (k : Nat) (x : Rat) : Dev :=
  let t := d.track k
  let partly := t.seconds.isEmpty && decide (t.openCount < framesPerSecond)
  let t := if d.frame = 0 && t.openCount != 0 then
      { t with seconds := if partly then [] else (t.openSum / (t.openCount : Rat) :: t.seconds).take historySeconds, openSum := 0, openCount := 0 }
    else t
  d.setTrack { t with
    frames := (x :: t.frames).take historyFrames, openSum := t.openSum + x, openCount := t.openCount + 1 }

/-- The histories of a frame: every reference but Absent ones, and the oscillator prediction while its model is valid. -/
def pushTracks (d : Dev) : Dev :=
  let d := forUnits 18 (fun r d =>
    if d.get (Dict.refState r) = 0 ∨ d.get (Hid.refCount r) = 0 then d else d.pushTrack r (d.q (Q.xHat r))) d
  if d.get Dict.oscModelState = 0 then
    { d with tracks := d.tracks.filter fun t => t.key != 31 }
  else d.pushTrack 31 (d.q Q.oscPhase)

/-- Seconds, or frames for the 1 s window, of history that a pair has in common. -/
def pairAge (d : Dev) (a b k : Nat) : Nat :=
  let n (t : Track) := if k = 0 then t.frames.length else t.seconds.length
  min (n (d.track a)) (n (d.track b))

/-- A reference that may be a comparator: Qualified, Selected or Excluded (and R536). -/
def mayCompare (d : Dev) (i : Nat) : Bool :=
  [3, 4, 5].contains (d.get (Dict.refState i)) && !(i == 17 && d.is Hid.k0Own)

/-- Of the references that share a non-zero RefGroup, the one with the greatest weight: the smallest RefInputRandom,
then the lowest ID (R208). -/
def leadsGroup (d : Dev) (i : Nat) : Bool :=
  let g := d.get (Dict.refGroup i)
  let u := d.get (Dict.refInputRandom i)
  g == 0 || !((List.range 18).any fun j =>
    j != i && d.mayCompare j && d.get (Dict.refGroup j) == g &&
      (decide (d.get (Dict.refInputRandom j) < u) || (d.get (Dict.refInputRandom j) == u && decide (j < i))))

/-- The comparators of a reference, 31 for the oscillator prediction (the drift monitor's text). -/
def comparators (d : Dev) (r : Nat) : List Nat :=
  let g := d.get (Dict.refGroup r)
  let refs := (List.range 18).filter fun i =>
    i != r && d.mayCompare i && !(g != 0 && d.get (Dict.refGroup i) == g) && d.leadsGroup i
  if d.get Dict.oscModelState = 0 then refs else refs ++ [31]

/-- U_y of the oscillator model (R244). -/
def oscRateLimit (d : Dev) : Rat :=
  max (3 * ofFrac64 (d.getI Dict.oscSigmaOffset)) (ofFrac64 (d.getI Dict.oscFreqFloor))

/-- 1 / u_i² of a comparator in a window, u_i in fs (R208). Where u_i is zero the spec states no weight: a free value
(DESIGN CHOICE, log entry 20). -/
def rawWeight (d : Dev) (i window : Nat) : Rat :=
  let u : Rat := if i = 31 then d.oscRateLimit * (window : Rat) * 10 ^ 15 else ((d.get (Dict.refInputRandom i) : Nat) : Rat)
  if u = 0 then ((d.freeNat (64 + i) + 1 : Nat) : Rat) else 1 / (u * u)

/-- A weighted sum over comparators, weights renormalised over the list (R208). -/
def weighted (d : Dev) (l : List Nat) (window : Nat) (f : Nat → Rat) : Rat :=
  let total := (l.map fun i => d.rawWeight i window).sum
  if total = 0 then 0 else (l.map fun i => d.rawWeight i window * f i).sum / total

/-- P_τ in ps and Y_τ of a reference in a window (R209). -/
def windowStats (d : Dev) (r k : Nat) : Rat × Rat :=
  let window := driftWindow k
  let samples := if k = 0 then framesPerSecond else window
  let values (i : Nat) := if k = 0 then (d.track i).frames else (d.track i).seconds
  let present := (d.comparators r).filter fun i => decide (2 * samples ≤ d.pairAge r i k)
  let shift (i : Nat) : Rat :=
    (meanOf (values r) 0 samples - meanOf (values i) 0 samples) -
      (meanOf (values r) samples samples - meanOf (values i) samples samples)
  let perSecond : Rat := if k = 0 then (framesPerSecond : Nat) else 1
  let slope (i : Nat) : Rat := (slopeOf (values r) samples - slopeOf (values i) samples) * perSecond / (secondUnits : Nat)
  (absRat (d.weighted present window shift) * 1000 / 65536, d.weighted present window slope)

/-- The statistics of a window are taken for a reference and published (R209, R217). -/
def evaluateWindow (d : Dev) (r k : Nat) : Dev :=
  let s := d.windowStats r k
  let d := (d.setQ (Q.phaseStat r k) s.1).setQ (Q.freqStat r k) s.2
  (d.setI (Dict.driftPhaseStat r k) (roundNear s.1)).setI (Dict.driftFreqStat r k) (toFrac64 s.2)

/-- D_base of a pair: the kept one, or the mean of the pair's history so far (R210). -/
def pairBase (d : Dev) (r i : Nat) : Rat :=
  match d.bases.find? fun b => b.ref == r && b.other == i with
  | some b => b.value
  | none => 0

/-- A pair's D_base takes a value. -/
def setBase (d : Dev) (b : PairBase) : Dev :=
  { d with bases := b :: d.bases.filter fun x => !(x.ref == b.ref && x.other == b.other) }

/-- Mean of a pair's difference over its newest `n` seconds. -/
def pairMean (d : Dev) (r i n : Nat) : Rat :=
  meanOf (d.track r).seconds 0 n - meanOf (d.track i).seconds 0 n

/-- D_base follows the history of a pair, comparators or not, until its first 64 s exist (R210). -/
def growBase (d : Dev) (r i : Nat) : Dev :=
  let age := d.pairAge r i 1
  let fixed := d.bases.any fun b => b.ref == r && b.other == i && b.fixed
  if fixed ∨ age = 0 then d else d.setBase ⟨r, i, d.pairMean r i (min age 64), decide (64 ≤ age)⟩

/-- A reference becomes Selected: D_base is the mean over the 64 s before, where they exist (R210). -/
def rebase (d : Dev) (r : Nat) : Dev :=
  let d := forUnits 18 (fun i d =>
    if i ≠ r ∧ 64 ≤ d.pairAge r i 1 then d.setBase ⟨r, i, d.pairMean r i 64, true⟩ else d) d
  let own := min 64 (d.track r).seconds.length
  let d := d.set (Dict.driftBaselineTime r) (toTime96 (d.view.frameStart - own * secondUnits))
  d.set (Hid.refSelectedAt r) d.view.frameStart

/-- C_r and e_drift of a reference (R210, R211), published in units and ps. -/
def evaluateCumulative (d : Dev) (r : Nat) : Dev :=
  let timed := (d.comparators r).filter fun i => i != 31 && d.carriesTime i
  let d := forUnits 18 (fun i d => if i = r then d else d.growBase r i) d
  let present := timed.filter fun i => d.pairAge r i 1 != 0
  let c := d.weighted present 1 fun i => d.pairMean r i 1 - d.pairBase r i
  let d := (d.setQ (Q.drift r) c).setI (Dict.driftCumulative r) (roundNear c)
  let elapsed : Rat := if d.get (Dict.refState r) = 4 then
      ((d.view.frameStart - d.get (Hid.refSelectedAt r) : Nat) : Rat) / (secondUnits : Nat) else 0
  let term : Rat :=
    if d.carriesTime r && timed.isEmpty then ((d.get Dict.driftFreqLimit1024 : Nat) : Rat) * elapsed / 1000
    else max 0 (absRat c * 1000 / 65536 - ((d.get Dict.driftGuard : Nat) : Rat))
  d.set (Dict.driftTerm r) (toPs32 term)

/-- Limit of P_τ in ps (R217). -/
def phaseLimit (d : Dev) (k : Nat) : Rat :=
  (([d.get Dict.driftPhaseLimit1, d.get Dict.driftPhaseLimit64, d.get Dict.driftPhaseLimit1024].getD k 0 : Nat) : Rat)

/-- Limit of Y_τ in 10^-15 (R217). -/
def freqLimit (d : Dev) (k : Nat) : Rat :=
  (([d.get Dict.driftFreqLimit1, d.get Dict.driftFreqLimit64, d.get Dict.driftFreqLimit1024].getD k 0 : Nat) : Rat)

/-- The limits a reference crosses (R213), as window plus one, statistic and value of R722; windows in rising order,
phase before frequency, the cumulative discrepancy last (DEDUCED, log entry 21). -/
def crossings (d : Dev) (r : Nat) : List (Nat × Nat × Int) :=
  let windows := (List.range 3).flatMap fun k =>
    let p := d.q (Q.phaseStat r k)
    let y := d.q (Q.freqStat r k) * 1000000000000000
    (if d.phaseLimit k < p then [(k + 1, 1, roundNear p)] else []) ++
      (if d.freqLimit k < absRat y then [(k + 1, 2, roundNear y)] else [])
  let c := d.q (Q.drift r) * 1000 / 65536
  windows ++ (if ((d.get Dict.driftCumLimit : Nat) : Rat) < absRat c then [(4, 3, roundNear c)] else [])

/-- Coverage and comparators of a reference (R212). -/
def publishCoverage (d : Dev) (r : Nat) : Dev :=
  let l := if d.get (Dict.refState r) = 0 then [] else d.comparators r
  (d.set (Dict.driftCoverage r) (min 2 l.length)).set (Dict.driftComparatorMask r) (l.foldl setBit 0)

/-- R213 for one reference: it fails with Ensemble coverage, or against the oscillator prediction alone. -/
def judgeDrift (d : Dev) (r : Nat) : Dev :=
  let l := d.comparators r
  let fails := decide (2 ≤ l.length) || l == [31]
  match d.crossings r with
  | (w, s, v) :: _ =>
    if fails then ((d.set (Hid.refDriftFail r) w).set (Hid.refDriftStat r) s).setI (Hid.refDriftValue r) v
    else d.set (Hid.refDriftFail r) 0
  | [] => d.set (Hid.refDriftFail r) 0

/-- The references that a crossing with a single reference comparator makes suspect (R213). -/
def suspects (d : Dev) : List Nat :=
  (List.range 18).flatMap fun r =>
    if d.get (Dict.refState r) = 0 || (d.crossings r).isEmpty then []
    else match d.comparators r with
      | [i] => if i = 31 then [] else [r, i]
      | _ => []

/-- DriftSuspect of every reference; a reference that becomes suspect raises source 31 (R213). It clears as soon as the crossing
ends (DESIGN CHOICE, log entry 115). -/
def publishSuspects (d : Dev) : Dev :=
  let l := d.suspects
  forUnits 18 (fun r d =>
    let fresh := l.contains r && !d.is (Dict.driftSuspect r)
    let d := d.setB (Dict.driftSuspect r) (l.contains r)
    if fresh then d.post 31 [] else d) d

/-- DriftCoverageSelected, and source 32 at each fall below Ensemble (R214). -/
def coverSelected (d : Dev) : Dev :=
  let s := d.get Dict.selectedRef
  let cover := if s < 18 then d.get (Dict.driftCoverage s) else 0
  let fell := decide (s < 18) && decide (cover < d.get Dict.driftCoverageSelected)
  let d := d.set Dict.driftCoverageSelected cover
  if fell then d.post 32 [] else d

/-- The drift monitor's frame (R208 to R214): the 1 s window every frame, the rest in frame 0 of a second. -/
def driftFrame (d : Dev) : Dev :=
  let d := d.pushTracks
  let live := (List.range 18).filter fun r => d.get (Dict.refState r) != 0
  let d := live.foldl (fun d r => d.evaluateWindow r 0) d
  let d := if d.frame = 0 then
      live.foldl (fun d r => ((d.evaluateWindow r 1).evaluateWindow r 2).evaluateCumulative r) d else d
  let d := forUnits 18 (fun r d => d.publishCoverage r) d
  let d := live.foldl judgeDrift d
  d.publishSuspects.coverSelected

/-- S1 (R35, R189 to R196): measurements, the drift monitor's update, the reference states. -/
def monitorSlot (d : Dev) (stamps : List Stamp) : Dev :=
  ((d.takeAll stamps).countCompanions.driftFrame).stepReferences

end Dev

end Sys2Proof.Machine
end

