-- ==== Sys2Proof/Machine/OscModel.lean ====
section
/-!
DEFINITION. The oscillator model: prediction, learning, fitting, reset, and the growth terms of holdover (R239 to R244).
-/
namespace Sys2Proof.Machine

/-- Determinant of the leading n by n part of a matrix, by the first row. -/
def det : Nat → (Nat → Nat → Rat) → Rat
  | 0, _ => 1
  | n + 1, m =>
    ((List.range (n + 1)).map fun j =>
      (if j % 2 = 0 then (1 : Rat) else -1) * m 0 j * det n fun a b => m (a + 1) (if b < j then b else b + 1)).sum

/-- Entry of the inverse of an n by n matrix; zero where it has none. -/
def invEntry (n : Nat) (m : Nat → Nat → Rat) (i j : Nat) : Rat :=
  let minor := det (n - 1) fun a b => m (if a < j then a else a + 1) (if b < i then b else b + 1)
  let whole := det n m
  if whole = 0 then 0 else (if (i + j) % 2 = 0 then (1 : Rat) else -1) * minor / whole

/-- A least-squares fit: coefficients, and the variance factors of their standard errors, of rows (regressors, value);
with the residual variance. -/
def lsqFit (n : Nat) (rows : List (List Rat × Rat)) : List Rat × List Rat × Rat :=
  let at_ (r : List Rat) (i : Nat) : Rat := r.getD i 0
  let normal (i j : Nat) : Rat := (rows.map fun r => at_ r.1 i * at_ r.1 j).sum
  let right (i : Nat) : Rat := (rows.map fun r => at_ r.1 i * r.2).sum
  let coeff := (List.range n).map fun i => ((List.range n).map fun j => invEntry n normal i j * right j).sum
  let residual (r : List Rat × Rat) : Rat := r.2 - ((List.range n).map fun i => at_ r.1 i * coeff.getD i 0).sum
  let ssr := (rows.map fun r => residual r * residual r).sum
  let variance : Rat := if n < rows.length then ssr / ((rows.length - n : Nat) : Rat) else 0
  (coeff, (List.range n).map fun i => variance * invEntry n normal i i, variance)

/-- Frames of samples in a whole 64 s block (R240). -/
def blockFrames : Nat := 262144

/-- Samples kept for the anchor: the longest HoldoverAnchor and HoldoverGuard (R243, R250). -/
def anchorFrames : Nat := 14991360

namespace Dev

/-- The temperature that OscTempSource selects, in °C; nothing where the c term is omitted (R239). -/
def oscTemp (d : Dev) : Option Rat :=
  if d.get Dict.oscTempSource = 1 then
    some ((((List.range 6).map fun r => (d.getI (Dict.regionTemp r) : Rat)).sum) / 6000)
  else if d.get Dict.oscTempSource = 2 ∧ d.get Hid.hostTempFrame ≠ 0 ∧
      d.framesSince (d.get Hid.hostTempFrame - 1) ≤ 10 * framesPerSecond then
    some ((d.getI Dict.oscHostTemp : Rat) / 1000)
  else none

/-- T0 in °C. -/
def refTemp (d : Dev) : Rat := (d.getI Dict.oscModelRefTemp : Rat) / 1000

/-- The model at an instant and a temperature (R239). -/
def modelAt (d : Dev) (u : Nat) (temp : Option Rat) : Rat :=
  let days : Rat := (((u : Int) - ofTime96 (d.get Dict.oscModelEpoch) : Int) : Rat) / ((daySeconds * secondUnits : Nat) : Rat)
  let heat : Rat := match temp with
    | some t => ofFrac64 (d.getI Dict.oscModelTempCoeff) * (t - d.refTemp)
    | none => 0
  ofFrac64 (d.getI Dict.oscModelOffset) + ofFrac64 (d.getI Dict.oscModelDrift) * days + heat

/-- y_pred at the frame start (R239). -/
def oscPredict (d : Dev) : Rat := d.modelAt d.view.frameStart d.oscTemp

/-- Rate of the timescale against the model's prediction; none while the model is not valid (DEDUCED, log entry 23). -/
def oscRate (d : Dev) : Rat := if d.get Dict.oscModelState = 0 then 0 else d.oscPredict + d.q Q.rTot

/-- The prediction's phase advances by one frame (R208). -/
def advanceOscillator (d : Dev) : Dev :=
  if d.get Dict.oscModelState = 0 then d.setQ Q.oscPhase 0
  else d.setQ Q.oscPhase (d.q Q.oscPhase + d.oscRate * (frameUnits : Nat))

/-- The next 64 s block opens (R240). -/
def openBlock (d : Dev) : Dev := (((d.setQ Q.blockSum 0).setQ Q.blockCount 0).setQ Q.blockTemp 0).setQ Q.blockTemps 0

/-- Learning restarts from the next block: the model is None, its blocks and the open block are dropped (R242). -/
def resetModel (d : Dev) : Dev :=
  let d := d.clearAll [Dict.oscModelState, Dict.oscLearnedTime, Dict.oscModelOffset, Dict.oscModelDrift,
    Dict.oscModelTempCoeff, Dict.oscModelRefTemp, Dict.oscModelEpoch, Dict.oscSigmaOffset, Dict.oscSigmaDrift,
    Dict.oscSigmaTempCoeff, Hid.oscBadBlocks, Hid.permanentC, Hid.blockSigma]
  { d.openBlock with blocks := [] }

/-- A learning sample enters the open block and the anchor's history (R240, R243). The block's temperature is the mean over its
frames that had one; a frame without (R239) adds none (DEDUCED, log entry 24). -/
def learnSample (d : Dev) (y : Rat) : Dev :=
  let d := d.setQ Q.blockSum (d.q Q.blockSum + y)
  let d := d.setQ Q.blockCount (d.q Q.blockCount + 1)
  let d := match d.oscTemp with
    | some t => (d.setQ Q.blockTemp (d.q Q.blockTemp + t)).setQ Q.blockTemps (d.q Q.blockTemps + 1)
    | none => d
  { d with freeRuns := ((d.view.frames, y) :: d.freeRuns).take anchorFrames }

/-- The temperatures of the window span at least 2 °C (R241). -/
def tempsSpan (d : Dev) : Bool :=
  let temps := d.blocks.filterMap fun b => b.temp
  match temps with
  | [] => false
  | t :: rest => decide (2 ≤ rest.foldl max t - rest.foldl min t)

/-- The fit of y0, A and c over the blocks of the window, at the present time (R240, R241). T0 is the window's mean
temperature (DEDUCED, log entry 24). -/
def fitModel (d : Dev) : Dev :=
  let learned := 64 * d.blocks.length
  let d := d.set Dict.oscLearnedTime learned
  if learned < 1024 then d.set Dict.oscModelState 0
  else
    let full := decide (d.get Dict.oscLearnTime ≤ learned)
    let heat := full && d.tempsSpan && d.get Dict.oscTempSource != 0
    let t0 := meanOf (d.blocks.filterMap fun b => b.temp) 0 d.blocks.length
    let day (b : OscBlock) : Rat := (((b.second : Int) + 32 - (d.second : Int) : Int) : Rat) / daySeconds
    let rows := d.blocks.map fun b =>
      ((1 : Rat) :: ((if full then [day b] else []) ++ (if heat then [(b.temp.getD t0) - t0] else [])), b.mean)
    let n := 1 + (if full then 1 else 0) + (if heat then 1 else 0)
    let fit := lsqFit n rows
    let sigma (i : Nat) : Rat := Config.sqrt (fit.2.1.getD i 0)
    let d := (d.set Dict.oscModelState (if full then 2 else 1)).set Dict.oscModelEpoch (toTime96 d.view.frameStart)
    let d := d.setI Dict.oscModelRefTemp (roundNear (t0 * 1000))
    let d := (d.setI Dict.oscModelOffset (toFrac64 (fit.1.getD 0 0))).setI Dict.oscSigmaOffset (toFrac64 (sigma 0))
    let d := (d.setI Dict.oscModelDrift (toFrac64 (if full then fit.1.getD 1 0 else 0))).setI Dict.oscSigmaDrift
      (toFrac64 (if full then sigma 1 else 0))
    let d := (d.setI Dict.oscModelTempCoeff (toFrac64 (if heat then fit.1.getD 2 0 else 0))).setI Dict.oscSigmaTempCoeff
      (toFrac64 (if heat then sigma 2 else 0))
    (d.setB Hid.permanentC heat).setI Hid.blockSigma (toFrac64 (Config.sqrt fit.2.2))

/-- A whole block is judged against the model and taken into it (R240, R242): the fourth block in a row outside
OscModelLimit raises source 53 and restarts learning. -/
def takeBlock (d : Dev) (b : OscBlock) : Dev :=
  let temp := if d.get Dict.oscTempSource = 0 then none else b.temp
  let residual := b.mean - d.modelAt ((b.second + 32) * secondUnits) temp
  let limit := ((d.get Dict.oscModelLimit : Nat) : Rat) * max (ofFrac64 (d.getI Hid.blockSigma)) (ofFrac64 (d.getI Dict.oscNoiseFloor))
  let out := d.get Dict.oscModelState != 0 && decide (limit < absRat residual)
  let bad := if out then d.get Hid.oscBadBlocks + 1 else 0
  if 4 ≤ bad then d.resetModel.post 53 [(8, Dict.oscModelOffset.ofInt (toFrac64 residual))]
  else
    let oldest := b.second + 64 - d.get Dict.oscLearnWindow
    let d := d.set Hid.oscBadBlocks bad
    let d := { d with blocks := (d.blocks ++ [b]).filter fun x => decide (oldest ≤ x.second) }
    d.fitModel

/-- Mean temperature of the open block, where a frame of it had one. -/
def blockHeat (d : Dev) : Option Rat :=
  if d.q Q.blockTemps = 0 then none else some (d.q Q.blockTemp / d.q Q.blockTemps)

/-- OSC_MODEL_FIT (R240): in frame 0 of every 64th second, once, a block whose every frame gave a sample is closed; a block
with a gap is dropped (DEDUCED, log entry 25). In Holdover nothing is fitted (R243). -/
def oscFit (d : Dev) : Dev :=
  if d.frame ≠ 0 ∨ d.second % 64 ≠ 0 ∨ d.get Hid.fitAt = d.view.frames + 1 then d
  else
    let n := d.q Q.blockCount
    let b : OscBlock := ⟨d.second - 64, d.q Q.blockSum / n, d.blockHeat⟩
    let whole := decide (n = ((blockFrames : Nat) : Rat)) && d.get Dict.deviceState != 4
    let d := d.openBlock.set Hid.fitAt (d.view.frames + 1)
    if whole then d.takeBlock b else d

/-! ### Holdover growth (R243, R244) -/

/-- Entry to Holdover with cause 0x01 (R243): y0 is set so that the prediction equals the anchor's mean. -/
def anchorModel (d : Dev) : Dev :=
  let upTo := d.view.frames - d.get Dict.holdoverGuard * framesPerSecond
  let after := upTo - d.get Dict.holdoverAnchor * framesPerSecond
  let part := (d.freeRuns.filter fun s => decide (after < s.1 ∧ s.1 ≤ upTo)).map (·.2)
  if part.isEmpty then d
  else
    let mean := part.sum / (part.length : Rat)
    d.setI Dict.oscModelOffset (toFrac64 (ofFrac64 (d.getI Dict.oscModelOffset) + mean - d.oscPredict))

/-- U_A in 1/s (R244). -/
def uAgeing (d : Dev) : Rat :=
  (if d.get Dict.oscModelState = 2 then 3 * ofFrac64 (d.getI Dict.oscSigmaDrift) else ofFrac64 (d.getI Dict.oscAgeingMax)) /
    daySeconds

/-- U_c in 1/°C (R241, R244). -/
def uTemp (d : Dev) : Rat :=
  if d.get Dict.oscModelState = 2 && d.is Hid.permanentC then 3 * ofFrac64 (d.getI Dict.oscSigmaTempCoeff)
  else ofFrac64 (d.getI Dict.oscTempCoeffMax)

/-- |T − T0| for the integral I_T; OscTempExcursion where the host temperature is stale (DEDUCED, log entry 26). -/
def tempDeparture (d : Dev) : Rat :=
  match d.oscTemp with
  | some t => absRat (t - d.refTemp)
  | none => ((d.get Dict.oscTempExcursion : Nat) : Rat) / 1000

/-- e_hold in ps after a time in seconds (R244). -/
def eHoldAt (d : Dev) (t : Rat) : Rat :=
  let heat := if d.get Dict.oscTempSource = 0 then
      ofFrac64 (d.getI Dict.oscTempCoeffMax) * ((d.get Dict.oscTempExcursion : Nat) : Rat) / 1000 * t
    else d.uTemp * d.q Q.tempIntegral
  (d.oscRateLimit * t + d.uAgeing * t * t / 2 + heat + d.q Q.satIntegral) * 1000000000000

/-- u_hold in ps after a time in seconds (R244). -/
def uHoldAt (d : Dev) (t : Rat) : Rat := ofFrac64 (d.getI Dict.oscNoiseFloor) * t * 1000000000000

/-- A frame in Holdover counts, and every second of them in HoldoverTotalSeconds, whatever the cause (R250). -/
def countHoldover (d : Dev) : Dev :=
  if d.state ≠ 4 then d
  else
    let n := d.get Hid.holdFrames + 1
    let d := d.set Hid.holdFrames n
    if n % framesPerSecond = 0 then (d.inc Dict.holdoverTotalSeconds).inc Dict.lifeHoldoverSeconds else d

/-- One frame of holdover (R244): integrals, e_hold and u_hold, at the time since entry. -/
def holdFrame (d : Dev) (saturation : Rat) : Dev :=
  let t : Rat := ((d.get Hid.holdFrames : Nat) : Rat) / framesPerSecond
  let d := d.setQ Q.tempIntegral (d.q Q.tempIntegral + d.tempDeparture / framesPerSecond)
  let d := d.setQ Q.satIntegral (d.q Q.satIntegral + absRat saturation / framesPerSecond)
  let d := (d.setQ Q.eHold (d.eHoldAt t)).setQ Q.uHold (d.uHoldAt t)
  (d.set Dict.holdoverGrowth (toPs32 (d.q Q.eHold))).set Dict.holdoverRandom (toPs32 (d.q Q.uHold))

end Dev

end Sys2Proof.Machine
end

