-- ==== Sys2Proof/Machine/Watershed.lean ====
section
/-!
DEFINITION. Watershed: ranking, selection, switching and build-out (R180, R197 to R207).
-/
namespace Sys2Proof.Machine

/-- Frames of a handover window (R37). -/
def handoverFrames : Nat := 16

namespace Dev

/-- A window is open. -/
def windowOpen (d : Dev) : Bool := d.get Dict.switchState == 1

/-- A reference is eligible in S2 (R197). -/
def eligible (d : Dev) (r : Nat) : Bool :=
  (d.get (Dict.refState r) == 3 || d.get (Dict.refState r) == 4) && d.get (Dict.refPriority r) != 0 &&
    !(d.is (Hid.refInWindow r) && d.windowOpen)

/-- The eligible references in ascending ID. -/
def eligibles (d : Dev) : List Nat := (List.range 18).filter d.eligible

/-- The forced reference: WatershedForcedRef, or K0 while the unit is Standby (R198, R536). -/
def forcedRef (d : Dev) : Nat := if d.get Dict.keeperRole = 2 then 17 else d.get Dict.watershedForcedRef

/-- The bound of a reference as it ranks against the Selected one (R199): a bound not lower by 10 % and 100 ps counts
as equal (DEDUCED, log entry 27). -/
def rankBound (d : Dev) (r : Nat) : Nat :=
  let s := d.get Dict.selectedRef
  let own := d.get (Dict.refInputBound r)
  let best := d.get (Dict.refInputBound s)
  if s < 18 && d.eligible s && r != s && decide (own < best) && !(decide (own * 10 ≤ best * 9) && decide (own + 100 ≤ best))
  then best else own

/-- The ranking keys of a reference, most significant first (R198). -/
def rankKey (d : Dev) (r : Nat) : List Nat :=
  let forced := if r = d.forcedRef then 0 else 1
  match d.get Dict.watershedRankMode with
  | 1 => [forced, d.get (Dict.refQc r), d.get (Dict.refPriority r), r]
  | 2 => [forced, d.rankBound r, d.get (Dict.refPriority r), r]
  | _ => [forced, d.get (Dict.refPriority r), r]

/-- The top-ranked eligible reference (R198). -/
def topRanked (d : Dev) : Option Nat :=
  d.eligibles.foldl (fun best r =>
    match best with
    | none => some r
    | some b => if d.rankKey r < d.rankKey b then some r else some b) none

/-- Q values of what is followed: phase and frequency. -/
def follow (d : Dev) (x y : Rat) : Dev :=
  ((d.setQ Q.followed x).setQ Q.followedRate y).setB Hid.followValid true

/-- The basis phase of a window frame (R203, R204): the old reference less B_old while it is eligible; otherwise the
followed phase extrapolated with the last followed frequency. -/
def stepBasis (d : Dev) : Dev :=
  let old := d.get Dict.switchFrom
  let d := if d.is Hid.basisOld && !d.eligible old then d.setB Hid.basisOld false else d
  if d.is Hid.basisOld then d.follow (d.q (Q.xHat old) - d.q Q.buildOut) (d.q (Q.yHat old))
  else
    let rate := if old < 18 then d.q Q.followedRate else d.oscRate
    d.follow (d.q Q.followed + rate * (frameUnits : Nat)) rate

/-- One window frame: d_i is recorded (R203). -/
def recordOffset (d : Dev) : Dev :=
  let d := d.stepBasis
  { d with handover := d.handover ++ [d.q (Q.xHat (d.get Dict.selectedRef)) - d.q Q.followed] }

/-- A switch to a reference starts (R194, R200, R203): it becomes Selected, the window opens, source 26. -/
def startSwitch (d : Dev) (target reason : Nat) : Dev :=
  let old := d.get Dict.selectedRef
  let keepOld := decide (old < 18) && d.eligible old && d.get (Dict.refState old) == 4
  let d := d.setB Hid.basisOld keepOld
  let d := if decide (old < 18) && d.get (Dict.refState old) == 4 then (d.enterRef old 3 0).post 25 [] else d
  let d := (d.enterRef target 4 0).rebase target
  let d := (d.set Dict.selectedRef target).set Dict.switchTarget target
  let d := (d.set Dict.switchFrom old).set Dict.switchStartTime (toTime96 d.view.frameStart)
  let d := ((d.set Dict.switchState 1).inc Dict.switchCount).inc Dict.lifeSwitches
  let d := { d with handover := [] }
  d.post 26 [(1, old), (1, target), (1, reason)]

/-- The window's end, complete or abandoned, makes references that qualified within it eligible (R197). -/
def endWindow (d : Dev) : Dev :=
  let d := (d.set Dict.switchState 0).set Dict.switchTarget 0xFF
  let d := forUnits 18 (fun r d => d.setB (Hid.refInWindow r) false) d
  { d with handover := [] }

/-- HANDOVER_WINDOW_CLOSE (R203): at the end of the sixteenth frame B and u_bo are fixed. -/
def closeWindow (d : Dev) : Dev :=
  let l := d.handover
  if !d.windowOpen ∨ l.length < handoverFrames then d
  else
    let d := d.setQ Q.buildOut (l.sum / (handoverFrames : Nat))
    let d := d.setI Dict.buildOutUncertainty (roundNear (deviation l / 4 * 1000000 / 65536))
    let d := d.set Hid.windowClosedAt (d.view.frames + 1)
    (d.endWindow.setB Hid.windowClosed true).setB Hid.boundWindow true

/-- The switch is abandoned: d_i discarded, counted, source 27 (R205). -/
def abandonSwitch (d : Dev) : Dev := (d.endWindow.inc Dict.switchAbandonCount).post 27 []

/-- No eligible reference is left (R201). -/
def followNone (d : Dev) : Dev :=
  let d := (d.set Dict.selectedRef 0xFF).setB Hid.followValid false
  let d := (d.setQ Q.buildOut 0).clear Dict.buildOutUncertainty
  d.post 28 []

/-- The Selected reference has left Selected: the loss of Selection (R201, R205), then the start that step 4 of R200
allows when no window is open. -/
def chooseReference (d : Dev) : Dev :=
  let s := d.get Dict.selectedRef
  let lost := decide (s < 18) && d.get (Dict.refState s) != 4
  let reason := if d.windowOpen then 5 else 1
  if lost then
    let d := if d.windowOpen then d.abandonSwitch else d
    match d.topRanked with
    | some r => d.startSwitch r reason
    | none => d.followNone
  else if d.windowOpen then d
  else
    match d.topRanked with
    | none => d
    | some top =>
      if 18 ≤ s then d.startSwitch top 4
      else if d.eligible d.forcedRef && d.forcedRef != s then d.startSwitch d.forcedRef 2
      else if d.is Dict.watershedRevertive && top != s then d.startSwitch top 3
      else d

/-- The recovery decision (R230): whether the whole offset is removed by a set (true) or a step (false); nothing where B
resolves or is retained. -/
def recoveryChoice (d : Dev) : Option Bool :=
  let s := d.get Dict.selectedRef
  let b := d.q Q.buildOut
  let ns (e : Entry) : Rat := ((d.get e * unitsPerNs : Nat) : Rat)
  if !d.carriesTime s ∨ d.corr.isSome then none
  else if d.get Dict.deviceState == 1 && !d.is Dict.clientServiceStarted && decide (ns Dict.servoSetThreshold < absRat b) then some true
  else if d.is Dict.stepEnable && decide (ns Dict.stepThreshold < -b) then some false
  else none

/-- This frame's S3 removes B by a step or set (R221, R222, R230): a window has closed in Free-run or Holdover, and APLL0 runs. -/
def recoveryAhead (d : Dev) : Bool :=
  d.is Hid.windowClosed && d.get Dict.apll0State != 3 &&
    (d.get Dict.deviceState == 1 || (d.get Dict.deviceState == 4 && d.get Dict.holdoverCause == 1)) && d.recoveryChoice.isSome

/-- Whether B moves in a frame (R206, R230): a build-out to resolve, and no step or set of the recovery decision pending or about
to be requested in this frame's S3 (DEDUCED, log entry 28). -/
def mayResolve (d : Dev) : Bool :=
  let s := d.get Dict.selectedRef
  decide (s < 18) && !d.windowOpen && d.carriesPhase s && d.get (Dict.refBuildOutMode s) == 1 &&
    !(d.is Hid.recovering && d.corr.isSome) && !d.recoveryAhead && d.q Q.buildOut != 0

/-- B moves toward zero by SlewLimit × one frame (R206). -/
def resolveFrame (d : Dev) : Dev :=
  let d := d.setQ Q.buildOutLast (d.q Q.buildOut)
  if d.mayResolve then
    let step : Rat := ((d.get Dict.slewLimit * 4 : Nat) : Rat) / 25
    let b := d.q Q.buildOut
    let b' := if absRat b ≤ step then 0 else if 0 < b then b - step else b + step
    let d := (d.setQ Q.buildOut b').setB Hid.resolving true
    if b' = 0 then d.clear Dict.buildOutUncertainty else d
  else d.setB Hid.resolving false

/-- WatershedCmdStatus (R202, R215): the forced reference is Selected, or was refused. -/
def commandStatus (d : Dev) : Dev :=
  let f := d.get Dict.watershedForcedRef
  if f = 0xFF then d.set Dict.watershedCmdStatus 0
  else if d.get Dict.selectedRef = f then d.set Dict.watershedCmdStatus 1
  else d

/-- A write of WatershedForcedRef takes effect at its S0 (R202). -/
def forceReference (d : Dev) : Dev :=
  let f := d.get Dict.watershedForcedRef
  if f ≠ 0xFF ∧ !d.eligible f then d.set Dict.watershedCmdStatus 2 else d.commandStatus

/-- What S2 publishes (R215). -/
def publishSelection (d : Dev) : Dev :=
  let d := d.setI Dict.buildOut (roundNear (d.q Q.buildOut))
  (d.set Dict.eligibleMask (d.eligibles.foldl setBit 0)).commandStatus

/-- S2 (R200): loss of Selection, abandon, open window, start; then the build-out and the followed phase. -/
def selectSlot (d : Dev) : Dev :=
  let d := d.chooseReference
  let d := if d.windowOpen then d.recordOffset else d
  let d := d.resolveFrame
  let s := d.get Dict.selectedRef
  let d := if !d.windowOpen && decide (s < 18) then d.follow (d.q (Q.xHat s) - d.q Q.buildOut) (d.q (Q.yHat s)) else d
  d.publishSelection

/-- WatershedStatsClear at its S0 (R215). -/
def clearSwitchStats (d : Dev) : Dev :=
  forUnits 18 (fun r d => d.clear (Dict.refFailCount r)) (d.clearAll [Dict.switchCount, Dict.switchAbandonCount])

/-- The reference whose terms the bound uses in this frame: the basis in a window, else the Selected one (R345). -/
def boundRef (d : Dev) : Option Nat :=
  let s := d.get Dict.selectedRef
  if 18 ≤ s then none
  else if d.windowOpen then (if d.is Hid.basisOld then some (d.get Dict.switchFrom) else none)
  else some s

end Dev

end Sys2Proof.Machine
end

