-- ==== Sys2Proof/Machine/Servo.lean ====
section
/-!
DEFINITION. The servo: device states, the loop, dwells, the recovery decision, steering, holdover (R219 to R247).
-/
namespace Sys2Proof.Machine

/-- Frames in 64 s of Acquire (R231). -/
def acquireFrames : Nat := 262144

/-- Seconds and fractions are exact: a phase in CT64 units as seconds. -/
def unitsToSeconds (x : Rat) : Rat := x / (secondUnits : Nat)

namespace Dev

/-! ### Device states (R221, R222) -/

/-- DeviceState changes (R221): recorded with its time, source 48; leaving Holdover ends its cause and growth. -/
def enterState (d : Dev) (new : Nat) : Dev :=
  let old := d.state
  if new = old then d
  else
    let d := (d.set Dict.deviceState new).set Dict.deviceStateSince (toTime96 d.view.frameStart)
    let d := d.set Hid.boundEntered (setBit (d.get Hid.boundEntered) new)
    let d := if new = 4 then d else
      ((d.clearAll [Dict.holdoverCause, Dict.holdoverGrowth, Dict.holdoverRandom]).setQ Q.eHold 0).setQ Q.uHold 0
    d.post 48 [(1, old), (1, new)]

/-- The reference whose filter limits the loop (R223, R228): the Selected one; in a window the one that the basis follows, or was
last extrapolated from (DEDUCED, log entry 30). -/
def followedRef (d : Dev) : Nat := if d.windowOpen then d.get Dict.switchFrom else d.get Dict.selectedRef

/-- B_eff of a stage, in Hz (R228). -/
def bandwidthOf (d : Dev) (stage : Nat) : Rat :=
  let b : Rat := ((d.get (Dict.servoStageBandwidth stage) : Nat) : Rat) / 1000000
  let s := d.followedRef
  if s < 18 then min b (1 / (4 * Config.pi * d.filterTau s)) else b

/-- B_eff of the stage in force, in Hz (R228). -/
def bandwidth (d : Dev) : Rat := d.bandwidthOf (d.get Dict.servoStage)

/-- The dwell of the stage starts again (R228). -/
def restartDwell (d : Dev) : Dev := d.setI Hid.dwellFrames (roundUp (5 / d.bandwidth * (framesPerSecond : Nat)))

/-- Entry to Acquire at a stage. Where no loop ran before, y_int starts from the command in force (DEDUCED, log entry 29). -/
def enterAcquire (d : Dev) (stage : Nat) : Dev :=
  let d := if d.state = 3 then d else d.setQ Q.integrator (d.q Q.rTot)
  let d := (d.enterState 2).set Dict.servoStage stage
  ((d.set Hid.gainStage stage).set Hid.unlockFrames 0).restartDwell

/-- The hold value of the steering port (R231). The model's prediction as a command is −y_pred, as in R243. -/
def holdValue (d : Dev) : Rat :=
  if d.get Dict.oscModelState ≠ 0 then -d.oscPredict
  else if acquireFrames ≤ d.acquireRuns.length then d.acquireRuns.sum / (acquireFrames : Nat)
  else ofFrac64 (d.getI Dict.steerDefault)

/-- Entry to Holdover with a cause (R221, R243, R250). -/
def enterHoldover (d : Dev) (cause : Nat) : Dev :=
  let d := d.enterState 4
  let d := (d.set Dict.holdoverCause cause).set Dict.holdoverStart (toTime96 d.view.frameStart)
  let d := (d.inc Dict.holdoverCount).inc Dict.lifeHoldovers
  let d := ((d.set Hid.holdFrames 0).setQ Q.tempIntegral 0).setQ Q.satIntegral 0
  let d := if cause = 1 then d.anchorModel else d
  d.post 49 [(1, cause), (1, d.get Dict.oscModelState)]

/-- APLL0 is in VCO hold. -/
def vcoHold (d : Dev) : Bool := d.get Dict.apll0State == 3

/-- APLL0 is locked. -/
def apll0Locked (d : Dev) : Bool := d.get Dict.apll0State == 2

/-- APLL0 runs from MOSC: neither VCO hold nor Locking is that (R224, R248). -/
def onMosc (d : Dev) : Bool := d.apll0Locked && d.get Dict.apll0Source == 1

/-- The recovery decision at the close of a window takes effect (R230): ΔC = −B, as a set or a step. -/
def recover (d : Dev) : Dev :=
  match d.recoveryChoice with
  | some isSet => (d.schedule isSet (roundNear (-d.q Q.buildOut))).setB Hid.recovering true
  | none => d

/-- A window closed in this frame and a reference is Selected. -/
def windowJustClosed (d : Dev) : Bool := d.is Hid.windowClosed && decide (d.get Dict.selectedRef < 18)

/-- The stage that follows the one in force (R228). -/
def nextStage (d : Dev) : Nat := min (d.get Dict.servoStage + 1) (d.get Dict.servoFinalStage)

/-- The dwell of the stage has been served in full, and a stage or Locked follows. -/
def dwellServed (d : Dev) : Bool :=
  d.get Hid.dwellFrames == 0 &&
    (d.state == 2 || (d.state == 3 && decide (d.get Dict.servoStage < d.get Dict.servoFinalStage)))

/-- DWELL_COMPLETE (R221, R228): the stage advances, its gains following in the next frame; Acquire is left for Locked at
ServoLockedStage. -/
def dwellComplete (d : Dev) : Dev :=
  if !d.dwellServed then d
  else
    let next := d.nextStage
    let d := if d.state == 2 && decide (d.get Dict.servoLockedStage ≤ next) then
        ((d.enterState 3).setB Hid.everLocked true).setB Hid.setApplied false else d
    ((d.set Dict.servoStage next).set Hid.unlockFrames 0).restartDwell

/-- SERVO_UNLOCK (R221): 64 frames above ServoUnlockPhase while Locked. -/
def servoUnlock (d : Dev) : Dev :=
  if d.state ≠ 3 ∨ d.get Hid.unlockFrames < 64 then d
  else ((d.enterAcquire 0).inc Dict.servoUnlockCount).post 54 []

/-- |x_f| is at most a limit in ns. -/
def phaseWithin (d : Dev) (ns : Nat) : Bool := decide (absRat (d.q Q.followed) ≤ ((ns * unitsPerNs : Nat) : Rat))

/-- The counts of S3 that the states depend on: the dwell and the frames beyond ServoUnlockPhase (R221, R228, R229). -/
def countDwell (d : Dev) : Dev :=
  let d :=
    if d.is Hid.windowClosed || d.is Hid.setAppliedNow then d.restartDwell
    else if d.windowOpen || !d.is Hid.followValid then d
    else if !d.phaseWithin (d.get Dict.servoLockPhase) then d.restartDwell
    else d.set Hid.dwellFrames (d.get Hid.dwellFrames - 1)
  let exceeded := d.is Hid.followValid && !d.phaseWithin (d.get Dict.servoUnlockPhase)
  d.set Hid.unlockFrames (if exceeded then min 255 (d.get Hid.unlockFrames + 1) else 0)

/-- The rows of R221 for Acquire and Locked, in table order. -/
def runningRows (d : Dev) : Dev :=
  let d := d.countDwell
  if d.state == 2 && d.dwellServed && decide (d.get Dict.servoLockedStage ≤ d.nextStage) then d.dwellComplete
  else if d.vcoHold then d.enterHoldover 2
  else if 18 ≤ d.get Dict.selectedRef then
    if d.get Dict.oscModelState = 0 then d.enterState 1 else d.enterHoldover 1
  else if d.state = 3 ∧ 64 ≤ d.get Hid.unlockFrames then d.servoUnlock
  else if d.state == 3 && d.is Hid.setAppliedNow && d.lifeCycle == 3 then d.enterAcquire 0
  else d.dwellComplete

/-- The rows of R221 for Holdover (R222). -/
def holdoverRows (d : Dev) : Dev :=
  if d.get Dict.holdoverCause = 2 then
    if !d.apll0Locked then d
    else if d.get Dict.selectedRef < 18 then d.enterAcquire (d.get Dict.servoReacquireStage)
    else if d.get Dict.oscModelState = 0 then d.enterState 1
    else d.set Dict.holdoverCause 1
  else if d.windowJustClosed && !d.vcoHold then (d.recover).enterAcquire (d.get Dict.servoReacquireStage)
  else d

/-- The device states of R221, evaluated in S3. -/
def stateRows (d : Dev) : Dev :=
  if d.is Hid.safeStop && d.state != 5 then d.enterState 5
  else
    match d.state with
    | 0 => if d.get Hid.bootPhase = 5 ∧ d.apll0Locked then d.enterState 1 else d
    | 1 => if d.windowJustClosed && !d.vcoHold then d.recover.enterAcquire 0 else d
    | 2 => d.runningRows
    | 3 => d.runningRows
    | 4 => d.holdoverRows
    | _ => d

/-! ### The loop (R223 to R227) -/

/-- R223: R_tot, the integrator it would leave, and whether SlewLimit limited it. -/
def loop (d : Dev) : Rat × Rat × Bool :=
  let w := 2 * Config.pi * d.bandwidthOf (d.get Hid.gainStage)
  let kp := 2 * (((d.get Dict.servoDamping : Nat) : Rat) / 1000) * w
  let ki := w * w
  let s : Rat := ((d.get Dict.slewLimit : Nat) : Rat) / 100000000000
  let x := unitsToSeconds (d.q Q.followed)
  let yRef := d.q Q.rTot - d.q Q.followedRate
  let yFf := if d.is Hid.resolving then unitsToSeconds (d.q Q.buildOut - d.q Q.buildOutLast) * (framesPerSecond : Nat) else 0
  let yI := d.q Q.integrator - ki * x / (framesPerSecond : Nat)
  let yRaw := yI - kp * x + yFf
  let r := clampRat (yRef - s) (yRef + s) yRaw
  (r, if r = yRaw then yI else d.q Q.integrator, decide (r ≠ yRaw))

/-- SteerGain as a fraction per LSB. -/
def lsb (d : Dev) : Rat := (d.getI Dict.steerGain : Rat) / 1000000000000000000

/-- The nearest command that SteerCommandLimit and the code range permit (R226). -/
def permittedCommand (d : Dev) (r : Rat) : Rat :=
  let limit := ofFrac64 (d.getI Dict.steerCommandLimit)
  let r := clampRat (-limit) limit r
  if d.get Dict.steerMode = 1 then
    let a := (((d.get Dict.steerCodeMin : Nat) : Rat) - ((d.get Dict.steerCodeCentre : Nat) : Rat)) * d.lsb
    let b := (((d.get Dict.steerCodeMax : Nat) : Rat) - ((d.get Dict.steerCodeCentre : Nat) : Rat)) * d.lsb
    clampRat (min a b) (max a b) r
  else r

/-- SteerPermitted and SteerState of the frame (R232, R238, R249). -/
def showSteering (d : Dev) : Dev :=
  let role := d.get Dict.keeperRole
  let permitted := role == 0 || (role == 1 && !d.is Dict.keeperPeerHolds)
  let d := d.setB Dict.steerPermitted permitted
  if !permitted || d.get Dict.steerMode == 0 then
    (d.set Dict.steerState 0).clearAll [Hid.steerReplyDue, Hid.steerBad, Hid.steerGood]
  else if d.get Dict.steerState = 0 then d.set Dict.steerState 1 else d

/-- The conditions of Steer mode (R224). -/
def maySteer (d : Dev) : Bool :=
  d.get Dict.steerMode != 0 && d.is Dict.steerPermitted && d.get Dict.steerState == 1 && d.onMosc

/-- y_base: −y_XO while APLL0 runs from XO (R224, R173). -/
def yBase (d : Dev) : Rat := if d.get Dict.apll0Source = 2 then -d.xoModel d.view.frameStart else 0

/-- Rate trim is forced on a unit that would else steer: by a steering fault, or by APLL0 running from XO (R225). -/
def forcesTrim (d : Dev) : Bool :=
  d.get Dict.servoMode == 2 && d.get Dict.steerMode != 0 && d.is Dict.steerPermitted &&
    (d.get Dict.steerState == 2 || (d.apll0Locked && d.get Dict.apll0Source == 2))

/-- The mode of the frame (R224, R225): source 55 when a steering fault or XO forces rate trim. -/
def chooseMode (d : Dev) : Dev :=
  let d := d.set Dict.servoMode (if d.state = 0 then 0 else if d.maySteer then 1 else 2)
  d.postOnce Hid.trimForced d.forcesTrim 55 []

/-- R_tot of the frame reaches the timescale (R224 to R226): the command within its limits, or the rate trim; while a
limit acts y_int is unchanged and ServoClampActive reads true. -/
def actuate (d : Dev) (wanted yInt : Rat) : Dev :=
  let steer := d.get Dict.servoMode == 1
  let held := ofFrac64 (d.getI Hid.uHeld)
  let trim := wanted - held + d.yBase
  let limit : Rat := 25 / 100000
  let sent := if steer then d.permittedCommand wanted else clampRat (-limit) limit trim + held - d.yBase
  let limited := decide (sent ≠ wanted)
  let d := d.setRateTrim (if steer then d.yBase else trim)
  let fresh := limited && !d.is Hid.saturated
  let d := d.setB Hid.saturated limited
  let d := if fresh then (d.inc Dict.steerSaturationCount).post 51 [] else d
  let d := d.setQ Q.rTot sent
  let d := if limited then d else d.setQ Q.integrator yInt
  if d.get Dict.servoMode = 2 then d.setQ Q.realised sent else d

/-- The command of the frame by device state (R221, R223, R231, R243, R247). In Boot and Safe the last command stands;
in VCO hold and in Holdover with cause 0x02 it is held (R222, R247), and in Holdover the growth goes on (R244). -/
def commandFrame (d : Dev) : Dev :=
  if d.state = 0 ∨ d.state = 5 then d
  else if d.state = 4 ∧ (d.vcoHold ∨ d.get Dict.holdoverCause = 2) then d.holdFrame 0
  else if d.vcoHold then d
  else if d.state = 2 ∨ d.state = 3 then
    let l := d.loop
    let d := d.actuate l.1 l.2.1
    d.setB Dict.servoClampActive (d.is Hid.saturated || l.2.2)
  else if d.state = 4 then
    let wanted := -d.oscPredict
    let d := d.actuate wanted (d.q Q.integrator)
    (d.setB Dict.servoClampActive (d.is Hid.saturated)).holdFrame (wanted - d.q Q.rTot)
  else
    let d := d.actuate d.holdValue (d.q Q.integrator)
    d.setB Dict.servoClampActive (d.is Hid.saturated)

/-- The model learns from the frame (R240), and Acquire's commands are kept for the hold value (R231). -/
def learnFrame (d : Dev) : Dev :=
  let d := if d.state = 2 then { d with acquireRuns := (d.q Q.rTot :: d.acquireRuns).take acquireFrames } else d
  if d.state == 3 && d.apll0Locked && d.onMosc && !d.windowOpen && !d.is Dict.servoClampActive then
    d.learnSample (d.q Q.followedRate - d.q Q.realised)
  else d

/-- ServoPhaseMean and ServoPhaseRms over the last 4,096 frames outside windows (R227). -/
def phaseStats (d : Dev) : Dev :=
  if d.windowOpen || !d.is Hid.followValid then d
  else
    let l := (d.q Q.followed :: d.followed).take framesPerSecond
    let d := { d with followed := l }
    let d := d.setI Dict.servoPhaseMean (roundNear (meanOf l 0 framesPerSecond))
    d.setI Dict.servoPhaseRms (roundNear (deviation l * 1000000 / 65536))

/-- What S3 publishes (R248). -/
def publishServo (d : Dev) : Dev :=
  let d := d.setI Dict.servoPhaseError (roundNear (d.q Q.followed))
  let d := (d.setI Dict.servoRateCorrection (toFrac64 (d.q Q.rTot))).setI Dict.servoIntegrator (toFrac64 (d.q Q.integrator))
  let d := d.setI Dict.servoBandwidth (roundNear (d.bandwidth * 1000000))
  let d := d.set Dict.servoDwellRemaining (d.get Hid.dwellFrames * 1000 / framesPerSecond)
  d.set Dict.timebaseSource (if d.vcoHold then 1 else if d.get Dict.apll0Source = 2 then 2 else 0)

/-- S3 (R35, R219): the model's fit, states, mode, command, learning, what is published, and the slew engine for the next frame.
The fit comes first: a block that ends with the second before belongs to the state it was learned in (R240, R243). -/
def servoSlot (d : Dev) : Dev :=
  let d := d.oscFit.set Hid.gainStage (d.get Dict.servoStage)
  let d := d.showSteering.stateRows.chooseMode.countHoldover
  let d := d.commandFrame.learnFrame.advanceOscillator
  let d := (d.phaseStats.publishServo).slewEngine
  (d.setB Hid.windowClosed false).setB Hid.setAppliedNow false

/-! ### The steering port (R233 to R238) -/

/-- Decimal digits of a number. -/
def decimalOctets (n : Nat) : List Nat :=
  (toString n).toList.map fun c => c.toNat

/-- An uppercase hexadecimal digit. -/
def hexOctet (n : Nat) : Nat := if n < 10 then 0x30 + n else 0x37 + n

/-- A signed decimal: the sign, then the digits without leading zeros; zero is "+0" (R236). -/
def signedDecimal (m : Int) : List Nat := (if m < 0 then 0x2D else 0x2B) :: decimalOctets m.natAbs

/-- Eight hexadecimal digits of the 32-bit two's complement (R236). -/
def hex32 (m : Int) : List Nat :=
  let v := (m % 4294967296).toNat
  (List.range 8).map fun i => hexOctet (v / 16 ^ (7 - i) % 16)

/-- SteerTemplate rendered with a scaled value (R236); nothing where a code is not one of the table's. -/
def render (m : Int) : List Nat → List Nat → Option (List Nat)
  | [], done => some done
  | [0x7E], done => some (done ++ [0x7E])
  | 0x7E :: 0 :: _, done => some done
  | 0x7E :: 1 :: t, done => render m t (done ++ signedDecimal m)
  | 0x7E :: 2 :: t, done => render m t (done ++ hex32 m)
  | 0x7E :: 3 :: t, done =>
    let x := done.foldl (fun a o => a ^^^ o) 0
    render m t (done ++ [hexOctet (x / 16), hexOctet (x % 16)])
  | 0x7E :: 0x7E :: t, done => render m t (done ++ [0x7E])
  | 0x7E :: _ :: _, _ => none
  | o :: t, done => render m t (done ++ [o])

/-- The template's octets. -/
def templateOctets (d : Dev) : List Nat := octetsOf 64 (d.get Dict.steerTemplate)

/-- The command sent is the one realised, and in steer mode the one that u_held takes on entry to rate trim (R225, R240). -/
def sentCommand (d : Dev) (y : Rat) : Dev :=
  if d.get Dict.servoMode = 1 then (d.setQ Q.realised y).setI Hid.uHeld (toFrac64 y) else d

/-- The SPI DAC update (R226, R234): the permitted command's code with its dither, and the word shifted out. -/
def sendCode (d : Dev) : Dev :=
  let v : Rat := ((d.get Dict.steerCodeCentre : Nat) : Rat) + d.permittedCommand (d.q Q.rTot) / d.lsb + d.q Q.dither
  let code := clampInt (d.get Dict.steerCodeMin) (d.get Dict.steerCodeMax) (roundNear v)
  let d := d.setQ Q.dither (if d.is Dict.steerDither then v - (code : Rat) else 0)
  let d := d.setI Dict.steerCode code
  let word := d.get Dict.steerSpiPrefix ||| (d.get Dict.steerCode * 2 ^ d.get Dict.steerSpiCodeShift)
  let d := d.sentCommand (((code : Rat) - ((d.get Dict.steerCodeCentre : Nat) : Rat)) * d.lsb)
  d.out (.serial 0 (octetsOf 4 (word % 2 ^ d.get Dict.steerSpiWordBits)) (d.view.frameStart + 76 * 65536000))

/-- The serial template update (R226, R236): the permitted command's message, and a reply expected if a prefix is set (R238). -/
def sendTemplate (d : Dev) : Dev :=
  let scale : Rat := ((10 ^ d.get Dict.steerTplScale : Nat) : Rat)
  let m := roundNear (d.permittedCommand (d.q Q.rTot) * scale)
  match render m d.templateOctets [] with
  | none => d
  | some octets =>
    let d := d.set Dict.steerTplLength octets.length
    let d := d.sentCommand ((m : Rat) / scale)
    let d := d.setB Hid.steerReplyDue (d.get Dict.steerReplyPrefix != 0)
    d.out (.serial 1 octets (d.view.frameStart + 76 * 65536000))

/-- STEER_UPDATE (R233 to R236): in a frame whose number is a multiple of SteerUpdateFrames, 76 µs after its start. In
Fault the device keeps sending the frame's R_tot, within the limits of R226 (R238), and u_held stays (R225). -/
def steerUpdate (d : Dev) : Dev :=
  if d.frame % max 1 (d.get Dict.steerUpdateFrames) ≠ 0 ∨ !d.is Dict.steerPermitted ∨ d.get Dict.steerState = 0 then d
  else if d.get Dict.servoMode ≠ 1 ∧ d.get Dict.steerState = 1 then d
  else if d.get Dict.steerMode = 1 then d.sendCode
  else if d.get Dict.steerMode = 2 then d.sendTemplate
  else d

/-- A reply was missing or different (R238): SteerFailLimit failures in a row set Fault and source 52. -/
def steerFailure (d : Dev) : Dev :=
  let d := (d.inc Dict.steerFailCount).setB Hid.steerReplyDue false
  let n := d.get Hid.steerBad + 1
  let d := (d.set Hid.steerBad n).set Hid.steerGood 0
  if d.get Dict.steerState = 1 ∧ d.get Dict.steerFailLimit ≤ n then (d.set Dict.steerState 2).post 52 [] else d

/-- STEER_REPLY (R238): octets received after a message. The prefix up to its first 0x00 must come first; what follows
it is ignored. -/
def steerReply (d : Dev) (octets : List Nat) : Dev :=
  if !d.is Hid.steerReplyDue then d
  else
    let pre := (octetsOf 8 (d.get Dict.steerReplyPrefix)).takeWhile (· != 0)
    let shown := octets.take 16
    let d := d.set Dict.steerLastReply (ofOctets (shown ++ List.replicate (16 - shown.length) 0))
    if octets.take pre.length = pre then
      let d := (d.setB Hid.steerReplyDue false).set Hid.steerBad 0
      if d.get Dict.steerState = 2 then
        let n := d.get Hid.steerGood + 1
        if 16 ≤ n then (d.set Dict.steerState 1).set Hid.steerGood 0 else d.set Hid.steerGood n
      else d
    else d.steerFailure

/-- STEER_REPLY_TIMEOUT (R238). -/
def steerTimeout (d : Dev) : Dev := if d.is Hid.steerReplyDue then d.steerFailure else d

/-- S3 aborted (R44, R45): the command stands, and the bound takes the holdover growth of one frame. -/
def servoAborted (d : Dev) : Dev := (d.setB Hid.holdoverKept true).countHoldover

end Dev

end Sys2Proof.Machine
end

