-- ==== Sys2Proof/Machine/Synth.lean ====
section
/-!
DEFINITION. Clock synthesis: APLL0 and its sources, the MOSC monitor, the output synthesisers (R252 to R262, R569 to R572).
-/
namespace Sys2Proof.Machine

/-- N0 of APLL0 for a reference frequency: integer in [63:32], fraction in [31:0] (R254, R255). -/
def feedbackOf (hz : Nat) : Nat := (roundNear ((10000000000 * 2 ^ 32 : Nat) / ((max 1 hz : Nat) : Rat))).toNat

namespace Dev

/-! ### APLL0 (R257) -/

/-- APLL0 enters VCO hold (R257, R290): counted, source 56 with cause and source. -/
def apll0Hold (d : Dev) (cause : Nat) : Dev :=
  let d := (d.set Dict.apll0State 3).inc Dict.apll0HoldCount
  let d := ((d.set Hid.apll0HoldFrame d.view.frames).setB Hid.apll0Returning (cause == 3)).setB Hid.apll0Held true
  d.post 56 [(1, cause), (1, d.get Dict.apll0Source)]

/-- APLL0 starts Locking on a source (R254, R255, R257). -/
def apll0Lock (d : Dev) (source : Nat) (fromHold : Bool) : Dev :=
  let hz := if source = 1 then d.get Hid.moscFreq else d.xoNominal
  let d := if fromHold then d.set Hid.vcoLeftAt (d.view.frames + 1) else d
  let d := (d.set Dict.apll0Source source).set Dict.apll0Feedback (feedbackOf hz)
  ((d.set Dict.apll0State 1).setB Hid.apll0FromHold fromHold).setB Hid.apll0Returning false

/-- The qualified source that APLL0 prefers: MOSC, then XO (R257, R571). -/
def apll0Choice (d : Dev) : Option Nat :=
  if d.get Dict.moscState = 2 then some 1 else if d.get Dict.xoState = 3 then some 2 else none

/-- Off with a qualified source, and VCO hold with one, start Locking (R257, R572). -/
def apll0Start (d : Dev) : Dev :=
  match d.apll0Choice with
  | none => d
  | some source =>
    if d.get Dict.apll0State = 0 then (if d.powered .time then d.apll0Lock source false else d)
    else if d.vcoHold && !d.is Hid.apll0Wait && decide (d.get Hid.apll0HoldFrame < d.view.frames) then
      d.apll0Lock source true
    else d

/-- APLL0_LOCK (R257): ±50 ps for 4,096 cycles. -/
def apll0Locks (d : Dev) : Dev :=
  if d.get Dict.apll0State ≠ 1 then d
  else
    (((d.set Dict.apll0State 2).inc Dict.apll0LockCount).restartCollections).post 57 [(1, d.get Dict.apll0Source)]

/-- APLL0_LOCK_TIMEOUT (R257): 5 ms without lock restarts a first lock, and returns a relock to VCO hold until the next
qualification. -/
def apll0Timeout (d : Dev) : Dev :=
  if d.get Dict.apll0State ≠ 1 then d
  else if d.is Hid.apll0FromHold then (d.setB Hid.apll0Wait true).apll0Hold 4
  else d.apll0Lock (d.apll0Choice.getD (d.get Dict.apll0Source)) false

/-- APLL0_RETURN_TO_MOSC (R257, R571): while APLL0 runs locked from XO and MOSC is Qualified. -/
def apll0Return (d : Dev) : Dev :=
  if d.apll0Locked && d.get Dict.apll0Source == 2 && d.get Dict.moscState == 2 then
    (d.setB Hid.moscReturnWanted false).apll0Hold 3
  else d.setB Hid.moscReturnWanted false

/-- The clock sequencer's command at a frame start (R571): after MoscQualifyTime in mode 0x00, after MoscReturn in 0x01. -/
def apll0ReturnDue (d : Dev) : Bool :=
  d.apll0Locked && d.get Dict.apll0Source == 2 && d.get Dict.moscState == 2 &&
    (if d.get Dict.moscReturnMode = 0 then
      decide (d.get Dict.moscQualifyTime * framesPerSecond ≤ d.framesSince (d.get Hid.moscQualifiedFrame))
     else d.is Hid.moscReturnWanted)

/-- APLL0's share of a frame start: the return, a new source, seconds in VCO hold (R257, R286, R571). -/
def apll0Frame (d : Dev) : Dev :=
  let d := d.xoCounted
  let d := if d.apll0ReturnDue then d.apll0Return else d.apll0Start
  if d.vcoHold then
    let n := d.get Hid.apll0HoldTicks + 1
    if framesPerSecond ≤ n then (d.set Hid.apll0HoldTicks 0).inc Dict.apll0HoldSeconds else d.set Hid.apll0HoldTicks n
  else d

/-! ### Output synthesisers (R259 to R262) -/

/-- k of an APLL (R286). -/
def apllScale (d : Dev) (a : Nat) : Rat :=
  match d.get (Dict.apllRefScale a) with
  | 1 => 2
  | 2 => 1 / 2
  | _ => 1

/-- f_PFD in Hz. -/
def pfdFrequency (d : Dev) (a : Nat) : Rat :=
  ((d.get Hid.moscFreq : Nat) : Rat) * d.apllScale a / ((max 1 (d.get (Dict.apllRefDivider a)) : Nat) : Rat)

/-- f_VCO in Hz. -/
def vcoFrequency (d : Dev) (a : Nat) : Rat := d.pfdFrequency a * ((d.get (Dict.apllFeedback a) : Nat) : Rat)

/-- ApllBandwidth in Hz (R286). -/
def apllBandwidthHz (d : Dev) (a : Nat) : Rat := [100000, 200000, 400000, 800000].getD (d.get (Dict.apllBandwidth a)) 800000

/-- The two plans have the same k, M and N. -/
def samePlan (d : Dev) (a b : Nat) : Bool :=
  d.get (Dict.apllRefScale a) == d.get (Dict.apllRefScale b) && d.get (Dict.apllRefDivider a) == d.get (Dict.apllRefDivider b) &&
    d.get (Dict.apllFeedback a) == d.get (Dict.apllFeedback b)

/-- The plan of an APLL is valid on the values in force (R259). -/
def planValid (d : Dev) (a : Nat) : Bool :=
  let m := d.get (Dict.apllRefDivider a)
  let n := d.get (Dict.apllFeedback a)
  let pfd := d.pfdFrequency a
  let vco := d.vcoFrequency a
  decide (1 ≤ m ∧ m ≤ 1023) && decide (16 ≤ n ∧ n ≤ 8191) && decide (1000000 ≤ pfd ∧ pfd ≤ 200000000) &&
    decide (9600000000 ≤ vco ∧ vco ≤ 11000000000) && decide (d.apllBandwidthHz a * 20 ≤ pfd) &&
    [1, 2, 3].all fun b => b == a || !d.is (Dict.apllEnable b) || d.samePlan a b ||
      decide (50000000 ≤ absRat (d.vcoFrequency b - vco))

/-- The outputs of an APLL, among those not removed or disabled. -/
def outputsOf (d : Dev) (a : Nat) : List Nat :=
  (List.range 16).filter fun n => d.get (Dict.outApll n) == a && d.get (Dict.outState n) != 5 && d.is (Dict.outEnable n)

/-- Each output of an APLL goes to a state. -/
def outputsTo (d : Dev) (a state : Nat) : Dev := (d.outputsOf a).foldl (fun d n => d.set (Dict.outState n) state) d

/-- The plan of an APLL is put in force: Calibrating when it is enabled, valid and MOSC is qualified, else Off; its
outputs Waiting (R261). -/
def applyPlan (d : Dev) (a : Nat) : Dev :=
  if d.get (Dict.apllState a) = 5 then d
  else
    let go := d.is (Dict.apllEnable a) && d.planValid a && d.get Dict.moscState == 2 && d.powered .synth
    let d := (d.set (Dict.apllState a) (if go then 1 else 0)).clear (Hid.apllHoldFrame a)
    let d := d.setI (Dict.apllVcoFrequency a) (if go then roundNear (d.vcoFrequency a * 1000) else 0)
    let d := d.setI (Dict.apllPfdFrequency a) (if go then roundNear (d.pfdFrequency a * 1000) else 0)
    d.outputsTo a 1

/-- An Off APLL that is enabled starts once MOSC is qualified (R261). -/
def apllFrame (d : Dev) : Dev :=
  [1, 2, 3].foldl (fun d a =>
    if d.get (Dict.apllState a) = 0 ∧ d.is (Dict.apllEnable a) ∧ d.planValid a ∧ d.get Dict.moscState = 2 ∧ d.powered .synth
    then d.applyPlan a else d) d

/-- APLL_BAND_FOUND (R261). -/
def apllBandFound (d : Dev) (a : Nat) : Dev :=
  if d.get (Dict.apllState a) = 1 then (d.set (Dict.apllState a) 2).setB (Hid.apllFromCal a) true else d

/-- APLL_LOCK (R261, R265): its outputs realign at the next frame start. -/
def apllLocks (d : Dev) (a : Nat) : Dev :=
  if d.get (Dict.apllState a) ≠ 2 then d
  else
    let d := d.set (Dict.apllState a) 3
    let d := d.clearAll [Hid.apllFromCal a, Hid.apllFromHold a, Hid.apllHoldFrame a]
    (d.outputsOf a).foldl (fun d n => d.setB (Hid.outRealign n) true) d

/-- APLL_LOCK_TIMEOUT (R261): not Locked within 2 ms of Calibrating. -/
def apllTimeout (d : Dev) (a : Nat) : Dev :=
  let state := d.get (Dict.apllState a)
  if state = 1 ∨ (state = 2 ∧ d.is (Hid.apllFromCal a)) then
    ((d.set (Dict.apllState a) 0).outputsTo a 1).post 63 [(1, a)]
  else d

/-- What OutHoldAction makes of an APLL's running outputs (R261, R272). -/
def holdOutputs (d : Dev) (a : Nat) : Dev :=
  (d.outputsOf a).foldl (fun d n =>
    if d.get (Dict.outState n) = 2 then d.set (Dict.outState n) (if d.get (Dict.outHoldAction n) = 1 then 4 else 3) else d) d

/-- APLL_LOCK_LOSS (R261): while MOSC is qualified. -/
def apllLockLoss (d : Dev) (a : Nat) : Dev :=
  if d.get (Dict.apllState a) = 3 ∧ d.get Dict.moscState = 2 then
    let d := (d.set (Dict.apllState a) 2).inc (Dict.apllLockLossCount a)
    (d.holdOutputs a).post 58 [(1, a)]
  else d

/-- A MOSC trip puts a Locked or Locking APLL into Hold (R261). -/
def apllHold (d : Dev) (a : Nat) : Dev :=
  if d.get (Dict.apllState a) = 2 ∨ d.get (Dict.apllState a) = 3 then
    let d := (d.set (Dict.apllState a) 4).set (Hid.apllHoldFrame a) (d.view.frames + 1)
    (d.holdOutputs a).post 59 [(1, a)]
  else d

/-- MOSC qualifies again: an APLL in Hold starts Locking (R261). -/
def apllRelock (d : Dev) (a : Nat) : Dev :=
  if d.get (Dict.apllState a) = 4 then
    ((d.set (Dict.apllState a) 2).setB (Hid.apllFromHold a) true).setB (Hid.apllFromCal a) false
  else d

/-- ApllRelease 0x01 (R54, R261): a Removed APLL returns to Off. -/
def apllRelease (d : Dev) (a : Nat) : Dev :=
  if d.get (Dict.apllState a) = 5 then (d.set (Dict.apllState a) 0).countUnits else d

/-! ### The MOSC monitor (R569, R570) -/

/-- A source has qualified: a failed relock is tried again (R257), and before time service APLL0 starts at once. -/
def sourceQualified (d : Dev) : Dev :=
  let d := d.setB Hid.apll0Wait false
  if d.get Hid.bootPhase = 5 then d else d.apll0Start

/-- MOSC_QUALIFIED (R569, R261): within limit for MoscQualifyTime; not while XO is Starting or Qualifying. -/
def moscQualified (d : Dev) : Dev :=
  let xo := d.get Dict.xoState
  if d.get Dict.moscState = 2 ∨ xo = 0 ∨ xo = 1 ∨ xo = 2 ∨ !d.sinceMark (d.get Hid.moscBreak) (d.get Dict.moscQualifyTime * framesPerSecond) then d
  else
    let d := (d.set Dict.moscState 2).set Hid.moscQualifiedFrame d.view.frames
    ([1, 2, 3].foldl apllRelock d).sourceQualified

/-- XO_QUALIFIED (R257, R565): the XO's qualification, and what APLL0 makes of it. -/
def xoQualifies (d : Dev) (estimate : Nat) : Dev :=
  if d.xoMayQualify estimate then (d.xoQualified estimate).sourceQualified else d

/-- MOSC_TRIP (R257, R570): no edge, frequency, or the lock detector of APLL0. The detector trips MOSC only while APLL0 is locked to
it; locked to XO, APLL0 alone enters VCO hold. -/
def moscTrip (d : Dev) (cause : Nat) : Dev :=
  if cause = 3 ∧ !(d.apll0Locked && d.onMosc) then (if d.apll0Locked then d.apll0Hold 2 else d)
  else if d.get Dict.moscState = 0 ∨ d.get Dict.moscState = 3 ∨ cause = 0 ∨ 3 < cause then d
  else
    let d := ((d.set Dict.moscState 3).set Dict.moscLastTripCause cause).set Hid.moscBreak d.frameMark
    let d := ((d.inc Dict.moscTripCount).inc Dict.lifeMoscTrips).post 2 [(1, cause)]
    let d := if d.apll0Locked && d.onMosc then d.apll0Hold (if cause = 3 then 2 else 1) else d
    [1, 2, 3].foldl apllHold d

/-- XO_FAIL (R257, R566): the lock detector of an APLL0 locked to XO fails with it. -/
def xoFails (d : Dev) : Dev :=
  let lost := d.apll0Locked && d.get Dict.apll0Source == 2 && d.get Dict.xoState != 4
  if lost then d.xoFail.apll0Hold 2 else d.xoFail

/-- MoscReturn 0x01 accepted (R571). -/
def moscReturn (d : Dev) : Dev := d.setB Hid.moscReturnWanted true

end Dev

end Sys2Proof.Machine
end

