-- ==== Sys2Proof/Machine/Outputs.lean ====
section
/-!
DEFINITION. Clock, pulse and ToD outputs, and ToD inputs (R263 to R284, R360).

Delays inside this file are exact, in picoseconds; an instant is in CT64 units, 65.536 of which make a picosecond × 1,000.
-/
namespace Sys2Proof.Machine

/-- CT64 units as picoseconds. -/
def unitsToPs (x : Rat) : Rat := x * 1000 / 65536

/-- Picoseconds as CT64 units. -/
def psToUnits (x : Rat) : Rat := x * 65536 / 1000

/-- A rational reduced modulo a positive period, into 0 up to the period. -/
def modPeriod (x p : Rat) : Rat := if p ≤ 0 then 0 else x - ((x / p).floor : Rat) * p

/-- Delay at 25 °C in ps, coefficient in ps/°C and e_opath in ps of an output format (R264): 0 stands for pulse outputs. -/
def outPath (format : Nat) : Rat × Rat × Nat :=
  match format with
  | 1 => (735, 42 / 100, 6)
  | 2 => (780, 45 / 100, 6)
  | 3 => (690, 38 / 100, 6)
  | 4 => (1240, 110 / 100, 15)
  | 5 => (1240, 110 / 100, 15)
  | _ => (1520, 130 / 100, 15)

namespace Dev

/-- The path delay of a format at the NORTH temperature latched in S0 (R264, R276). -/
def outPathPs (d : Dev) (format : Nat) : Rat :=
  let p := outPath format
  p.1 + p.2.1 * ((d.getI (Dict.regionTemp 3) : Rat) / 1000 - 25)

/-! ### Clock outputs (R263 to R274) -/

/-- f_out in Hz. -/
def outHz (d : Dev) (n : Nat) : Rat := d.vcoFrequency (d.get (Dict.outApll n)) / ((max 1 (d.get (Dict.outDivider n)) : Nat) : Rat)

/-- OutAlignPeriod: the smallest whole number of seconds for which f_out × A is whole; 0 when none up to 64 is (R263). -/
def alignPeriod (d : Dev) (n : Nat) : Nat :=
  (((List.range 64).map (· + 1)).find? fun a => (d.outHz n * ((a : Nat) : Rat)).den == 1).getD 0

/-- The output realigns at the frame start (R264, R265), from the detector's reading in quarter picoseconds. Its first edge on the
grid follows the detected VCO edge by the path, the coarse steps and the fine delay. -/
def realign (d : Dev) (n : Nat) (vco : List Nat) : Dev :=
  let a := d.get (Dict.outApll n)
  let period := 1000000000000 / d.outHz n
  let tVco := 1000000000000 / d.vcoFrequency a
  let second := d.second / max 1 (d.get (Dict.outAlignPeriod n)) * max 1 (d.get (Dict.outAlignPeriod n))
  let since : Rat := unitsToPs (((d.view.frameStart : Int) - (second * secondUnits : Nat) - d.getI (Dict.outPhaseOffset n) : Int) : Rat)
  let g := modPeriod (-since) period
  let read : Rat := ((vco.getD (a - 1) 0 : Nat) : Rat) / 4
  let t := modPeriod (g - read - d.outPathPs (d.get (Dict.outFormat n)) - unitsToPs (d.getI (Dict.outBoardDelay n) : Rat)) period
  let c := roundNear ((t - 256) / tVco) % (max 1 (d.get (Dict.outDivider n)) : Nat)
  let f := modPeriod (t - (c : Rat) * tVco) period
  let fine := roundNear f
  let d := (d.setI (Dict.outCoarseSteps n) c).setI (Dict.outFineDelay n) fine
  let d := d.setI (Dict.outAlignResidual n) (roundNear (((fine : Rat) - f) * 1000))
  let d := (d.setQ (Q.outLag n) 0).set (Hid.outOffsetSeen n) (d.get (Dict.outPhaseOffset n))
  let d := d.set (Hid.outBoardSeen n) (d.get (Dict.outBoardDelay n))
  let d := ((d.clear (Dict.outTrackLag n)).inc (Dict.outRealignCount n)).setB (Hid.outRealign n) false
  let first := psToUnits (read + d.outPathPs (d.get (Dict.outFormat n)) + (c : Rat) * tVco + (fine : Rat))
  let d := d.set (Hid.outStart n) ((d.view.frameStart : Rat) + first).floor.toNat
  d.post 60 [(1, n)]

/-- The state of a clock output at a frame start, and its realignment when one is due, permitted or not (R261, R265, R266, R271,
R272; DEDUCED, log entry 30). -/
def outFrame (d : Dev) (n : Nat) (vco : List Nat) : Dev :=
  let state := d.get (Dict.outState n)
  let a := d.get (Dict.outApll n)
  let apll := d.get (Dict.apllState a)
  if state = 5 then d
  else if !d.is (Dict.outEnable n) then d.set (Dict.outState n) 0
  else if apll = 0 ∨ apll = 1 ∨ apll = 5 ∨ (apll = 2 ∧ d.is (Hid.apllFromCal a)) then d.set (Dict.outState n) 1
  else
    let d := (d.setI (Dict.outFrequency n) (roundNear (d.outHz n * 1000))).set (Dict.outAlignPeriod n) (d.alignPeriod n)
    let shown (s : Nat) : Nat := if d.is Dict.outputsPermitted then s else 4
    let realigned (due : Bool) : Dev :=
      if due && d.get (Dict.outAlignPeriod n) != 0 then d.realign n vco else d.setB (Hid.outRealign n) false
    if apll = 3 then (realigned (d.is (Hid.outRealign n) || state == 0 || state == 1)).set (Dict.outState n) (shown 2)
    else if state = 0 ∨ state = 1 then d.set (Dict.outState n) 1
    else if d.get (Dict.outHoldAction n) = 1 then d.set (Dict.outState n) 4
    else (realigned (d.is (Hid.outRealign n))).set (Dict.outState n) (shown 3)

/-- The fine delay outside 128 ps to 384 ps gives one step of c for one VCO period (R268). -/
def recentre (d : Dev) (n : Nat) : Dev :=
  let f := d.getI (Dict.outFineDelay n)
  let c := d.getI (Dict.outCoarseSteps n)
  let divider : Int := max 1 (d.get (Dict.outDivider n))
  let tVco := 1000000000000 / d.vcoFrequency (d.get (Dict.outApll n))
  if f < 128 then (d.setI (Dict.outCoarseSteps n) ((c - 1) % divider)).setI (Dict.outFineDelay n) (roundNear ((f : Rat) + tVco))
  else if 384 < f then (d.setI (Dict.outCoarseSteps n) ((c + 1) % divider)).setI (Dict.outFineDelay n) (roundNear ((f : Rat) - tVco))
  else d

/-- Rate of the timescale against the outputs in the next frame, less one (R267). -/
def trackRate (d : Dev) : Rat :=
  let r : Rat := ((d.get Hid.incNext : Nat) : Rat) / (2 ^ 56 : Nat) * 10 / 8
  let yMt : Rat := if d.onMosc then 0 else ofFrac64 (d.getI Hid.moscOffset)
  r * (1 - yMt) - 1

/-- S4 for one aligned output (R267 to R269). The demand is the advance the edge needs: the timescale's lead, plus a
longer board delay, less a later grid (DEDUCED, log entry 30). -/
def trackOutput (d : Dev) (n : Nat) : Dev :=
  let state := d.get (Dict.outState n)
  if ¬(state = 2 ∨ state = 3 ∨ state = 4) ∨ d.get (Dict.outAlignPeriod n) = 0 then d
  else
    let delta := d.trackRate * 244140625 / 1
    let moved := d.getI (Dict.outPhaseOffset n) - d.getI (Hid.outOffsetSeen n)
    let board := d.getI (Dict.outBoardDelay n) - d.getI (Hid.outBoardSeen n)
    let demand := d.q (Q.outLag n) + delta + unitsToPs ((board - moved : Int) : Rat)
    let d := (d.set (Hid.outOffsetSeen n) (d.get (Dict.outPhaseOffset n))).set (Hid.outBoardSeen n) (d.get (Dict.outBoardDelay n))
    let limit : Int := d.get (Dict.outTrackStep n)
    let step : Int := if d.is (Dict.outTrack n) then clampInt (-limit) limit (roundZero demand) else 0
    let d := (d.setI (Dict.outFineDelay n) (d.getI (Dict.outFineDelay n) - step)).recentre n
    let lag := demand - (step : Rat)
    let d := (d.setQ (Q.outLag n) lag).setI (Dict.outTrackLag n) (roundNear (psToUnits lag))
    let far := decide (10000 < absRat lag)
    if far && !d.is (Hid.outLagged n) then (d.setB (Hid.outLagged n) true).post 61 [(1, n)]
    else d.setB (Hid.outLagged n) far

/-- OutRealign 0x01 (R265). -/
def requestRealign (d : Dev) (n : Nat) : Dev := d.setB (Hid.outRealign n) true

/-- OutRelease 0x01 (R54): a Removed clock output returns to Disabled. -/
def outRelease (d : Dev) (n : Nat) : Dev :=
  if d.get (Dict.outState n) = 5 then d.set (Dict.outState n) 0 else d

/-- A rational reduced modulo a positive period to the value nearest 0. -/
def nearestOf (x p : Rat) : Rat := modPeriod (x + p / 2) p - p / 2

/-- A step or set realigns the outputs whose OutStepAction is 0x00 (R265). One that tracks takes the distance to the nearest edge
of the moved grid as phase demand (DESIGN CHOICE, log entry 118). -/
def realignAfterJump (d : Dev) (size : Int) : Dev :=
  forUnits 16 (fun n d =>
    let state := d.get (Dict.outState n)
    if d.get (Dict.outStepAction n) = 0 then d.requestRealign n
    else if (state = 2 ∨ state = 3 ∨ state = 4) ∧ d.get (Dict.outAlignPeriod n) ≠ 0 then
      d.setQ (Q.outLag n) (d.q (Q.outLag n) + nearestOf (unitsToPs (size : Rat)) (1000000000000 / d.outHz n))
    else d) d

/-- What CKOn drives (R266, R271): its clock in Running and Holding, nothing while Disabled, else its mute level. -/
def outLevel (d : Dev) (n : Nat) : PinLevel :=
  match d.get (Dict.outState n) with
  | 0 => .highImpedance
  | 2 => .clock
  | 3 => .clock
  | _ => if d.get (Dict.outMuteMode n) = 1 then .highImpedance else .low

/-- The pin of a clock output follows its state (R266, R271): it starts on the first edge of its realignment, and stops within one
output period (at the end of which high time is a free value, DESIGN CHOICE, log entry 118). -/
def outPin (d : Dev) (n : Nat) : Dev :=
  let level := d.outLevel n
  let period := (psToUnits (1000000000000 / d.outHz n)).floor.toNat + 1
  let at_ := if level = .clock then max d.view.frameStart (if d.get (Dict.outAlignPeriod n) = 0 then 0 else d.get (Hid.outStart n))
    else if d.get (Hid.pinLevel (0x30 + n)) = PinLevel.clock.code then d.view.frameStart + d.freeNat (704 + n) % period
    else d.view.frameStart
  d.driveNew (0x30 + n) level at_

/-- OutputsPermitted (R270), and whether it has been true since the last reset (R535). -/
def permitOutputs (d : Dev) : Dev :=
  let role := d.get Dict.keeperRole
  let permitted := d.state != 5 && (role == 0 || (role == 1 && !d.is Dict.keeperPeerHolds))
  let d := d.setB Dict.outputsPermitted permitted
  if permitted then d.setB Hid.everPermitted true else d

/-- OUTPUT_ACTIVITY_LOSS (R273): no edge at the pad of an enabled clock output (0x30 + n) or pulse output (0x40 + p). -/
def outputSilent (d : Dev) (code : Nat) : Dev :=
  let cko := decide (0x30 ≤ code ∧ code < 0x40) && d.is (Dict.outEnable (code - 0x30)) && d.get (Dict.outState (code - 0x30)) != 5
  let pls := decide (0x40 ≤ code ∧ code < 0x44) && d.is (Dict.plsEnable (code - 0x40)) && !d.is (Hid.plsRemoved (code - 0x40))
  if cko || pls then d.post 63 [(1, code)] else d

/-! ### Pulse outputs (R275 to R279) -/

/-- The timer that drives a pulse output, while it is Armed. -/
def pulseTimer (d : Dev) (p : Nat) : Option Nat :=
  (List.range 32).find? fun n => d.get (Dict.tmrState n) == 1 && d.get (Dict.tmrDestination n) == 0x20 + p

/-- F that follow mode wants: RefOffset plus PlsFollowOffset, in CT64 units (R277). -/
def followWant (d : Dev) (p : Nat) : Int :=
  d.getI (Dict.refOffset (d.get (Dict.plsFollowRef p))) + d.getI (Dict.plsFollowOffset p)

/-- What has been frozen for a pulse. -/
def frozenOf (d : Dev) (p target : Nat) : Option Frozen := d.frozen.find? fun x => x.output == p && x.target == target

/-- The intended edge of a pulse with an F, from the NORTH temperature and PlsBoardDelay in force, in CT64 units (R276). -/
def edgeWith (d : Dev) (p target : Nat) (f : Int) : Rat :=
  (target : Rat) + (f : Rat) - psToUnits (d.outPathPs 0) - (d.getI (Dict.plsBoardDelay p) : Rat)

/-- F that a pulse takes when it is frozen now (R277, R278): the wanted value, within PlsFollowStepMax of the last one where there
is one; the last one while Holding. -/
def nextFollow (d : Dev) (p : Nat) : Int :=
  let last := d.getI (Hid.plsF p)
  let step := roundZero (psToUnits ((d.get (Dict.plsFollowStepMax p) : Nat) : Rat))
  if d.get (Dict.plsMode p) ≠ 1 then 0
  else if d.get (Dict.plsFollowState p) ≠ 1 then last
  else if d.is (Hid.plsSeen p) then clampInt (last - step) (last + step) (d.followWant p)
  else d.followWant p

/-- S4 freezes the placement of a pulse (R41, R277): F and the intended edge. -/
def freezePulse (d : Dev) (p target : Nat) : Dev :=
  if (d.frozenOf p target).isSome then d
  else
    let f := d.nextFollow p
    let d := { d with frozen := d.frozen ++ [⟨p, target, f, d.edgeWith p target f⟩] }
    if d.get (Dict.plsMode p) = 1 then (d.setI (Hid.plsF p) f).setB (Hid.plsSeen p) true else d

/-- F of a pulse: the frozen one, else the last frozen. -/
def followOf (d : Dev) (p target : Nat) : Int :=
  match d.frozenOf p target with
  | some x => x.follow
  | none => if d.get (Dict.plsMode p) = 1 then d.getI (Hid.plsF p) else 0

/-- The intended edge of a pulse (R41, R276): the frozen one, else as it would be frozen now. -/
def intendedEdge (d : Dev) (p target : Nat) : Rat :=
  match d.frozenOf p target with
  | some x => x.edge
  | none => d.edgeWith p target (d.followOf p target)

/-- A pulse is suppressed (R279, R360). -/
def suppressPulse (d : Dev) (p kind : Nat) : Dev := (d.inc (Dict.plsSuppressCount p)).post 62 [(1, p), (1, kind)]

/-- A pulse output starts pulses (R52, R270, R684). -/
def pulsesStart (d : Dev) (p : Nat) : Bool :=
  d.is (Dict.plsEnable p) && !d.is (Hid.plsRemoved p) && d.is Dict.outputsPermitted && !d.is Dict.startServiceHoldActive

/-- What PLSp drives (R271, R288): a pulse in progress completes, whatever changes; else the inactive level while a timer drives
the output, or the idle state. -/
def plsLevel (d : Dev) (p : Nat) : PinLevel :=
  let polarity := d.get (Dict.plsPolarity p)
  if d.is (Hid.plsHigh p) then pulseLevel polarity true
  else if d.pulsesStart p && d.get (Dict.plsOwner p) != 0xFF then pulseLevel polarity false
  else idleLevel polarity (d.get (Dict.plsIdle p))

/-- The kind of what bars a pulse with a rendered message, 0 none (R279, R360). -/
def barOf (d : Dev) (p target : Nat) : Nat :=
  match d.announced.find? fun x => x.output == p && x.target == target with
  | some x => x.barred
  | none => 0

/-- What a timer's fire does at a pulse output (R131, R270, R275 to R279, R360): its residual is recorded; the pulse is placed with the
end of its width, or suppressed, or none starts. -/
def pulse (n target : Nat) (d : Dev) : Dev :=
  let p := d.get (Dict.tmrDestination n) - 0x20
  let kind := d.barOf p target
  let (placed, residual) := placeEdge (d.intendedEdge p target)
  let d := d.setI (Dict.tmrLastResidual n) residual
  if !d.pulsesStart p then d
  else if kind ≠ 0 then d.suppressPulse p kind
  else
    let d := if d.get (Dict.plsMode p) = 1 then d.setI (Dict.plsFollowApplied p) (d.followOf p target) else d
    let last := (placed + ((d.get (Dict.plsWidth p) * unitsPerNs : Nat) : Rat)).floor.toNat
    let d := ((d.inc (Dict.plsCount p)).setB (Hid.plsHigh p) true).set (Hid.plsEnd p) (last + 1)
    d.drive (0x40 + p) (pulseLevel (d.get (Dict.plsPolarity p)) true) placed.floor.toNat

/-- TIMER_FIRE (R121, R131, R276). -/
def fireTimer (d : Dev) (n : Nat) : Dev := d.timerFire n pulse

/-- PLS_PULSE_END (R271, R275): the pulse has completed PlsWidth. -/
def plsPulseEnd (d : Dev) (p : Nat) : Dev :=
  let last := d.get (Hid.plsEnd p) - 1
  let d := (d.setB (Hid.plsHigh p) false).clear (Hid.plsEnd p)
  d.driveNew (0x40 + p) (d.plsLevel p) last

/-- PlsRelease 0x01 (R54). -/
def plsRelease (d : Dev) (p : Nat) : Dev := d.setB (Hid.plsRemoved p) false

/-- PlsFollowState of a frame (R278), with source 62 once per episode. -/
def followState (d : Dev) (p : Nat) : Dev :=
  if d.get (Dict.plsMode p) ≠ 1 then ((d.set (Dict.plsFollowState p) 0).setB (Hid.plsFollowEpisode p) false).setB (Hid.plsSeen p) false
  else
    let held := !([3, 4, 5].contains (d.get (Dict.refState (d.get (Dict.plsFollowRef p)))))
    let d := d.set (Dict.plsFollowState p) (if held then 2 else 1)
    d.postOnce (Hid.plsFollowEpisode p) held 62 [(1, p), (1, 1)]

/-- Rendered pulses not yet placed are barred once the bound state has worsened (R360). Pulses a second past are forgotten. -/
def barPulses (d : Dev) : Dev :=
  let bad := !([1, 2, 3].contains (d.get Dict.boundState))
  let old (target : Nat) : Bool := decide (target + secondUnits < d.view.frameStart)
  let d := { d with frozen := d.frozen.filter fun x => !old x.target }
  { d with announced := (d.announced.filter fun x => !old x.target).map fun x =>
      if bad && x.fixed && x.barred == 0 && decide (d.view.frameStart + frameUnits ≤ x.target) then { x with barred := 3 } else x }

/-- A step or set suppresses each pulse it carries the timescale past, within the timer's fire limit, and those whose message was
sent before it (R279). -/
def pulsesAtJump (d : Dev) (size : Int) (instant : Nat) : Dev :=
  let d := forUnits 4 (fun p d =>
    match d.pulseTimer p with
    | some n =>
      if 0 < size ∧ d.pulsesStart p then forUnits (d.missedWithin n (d.pendingTarget n) instant) (fun _ d => d.suppressPulse p 2) d else d
    | none => d) d
  { d with announced := d.announced.map fun x =>
      if x.sent && x.barred == 0 && decide (instant ≤ x.target) then { x with barred := 2 } else x }

/-! ### ToD outputs (R280 to R283) -/

/-- The timer behind a ToD output when the output sends: its pulse is driven in mode 0x03 with a period of 1 s (R280). -/
def todTimer (d : Dev) (m : Nat) : Option Nat :=
  match d.pulseTimer (d.get (Dict.todPulse m)) with
  | some n => if d.get (Dict.tmrMode n) = 3 ∧ d.get (Dict.tmrPeriod n) = secondUnits then some n else none
  | none => none

/-- TodState of a frame. -/
def showTod (d : Dev) (m : Nat) : Dev :=
  d.set (Dict.todState m)
    (if !d.is (Dict.todEnable m) || d.is (Hid.todRemoved m) then 0 else if (d.todTimer m).isSome then 2 else 1)

/-- PTP clockClass of a profile code: 0x00 default, 0x01 and 0x02 telecom (R361). -/
def classOf (d : Dev) (profile : Nat) : Nat := if profile = 0 then d.get Dict.clockClassDefault else d.get Dict.clockClassTelecom

/-- The Bound field of a message for a pulse (R283, R360). -/
def todBound (d : Dev) (p target : Nat) : Nat :=
  let bound := d.get (Dict.plsBound p)
  let rate := d.get Dict.boundGrowthRate
  if bound = unbounded ∨ rate = 0xFFFFFFFF then unbounded
  else
    let ahead : Rat := (((target : Int) - (d.view.frameStart + frameUnits : Nat) : Int) : Rat) / (secondUnits : Nat)
    toPs32 ((bound : Rat) + (rate : Rat) * ahead)

/-- The ZTOD message of a pulse (R282, R283). -/
def todMessageOf (d : Dev) (m p target : Nat) : List Nat :=
  let leapBefore := d.leapDue target
  let bound := d.todBound p target
  let timed := [2, 3, 4].contains d.state && bound != unbounded
  let flag (i : Nat) (b : Bool) : Nat := if b then 2 ^ i else 0
  let flags := flag 15 timed + flag 14 (d.is Dict.utcValid) + flag 13 (d.state == 4) + flag 12 (bound == unbounded) +
    flag 11 (d.get (Hid.todDisc m) != 0 && d.get Dict.discontinuityCount + 1 != d.get (Hid.todDisc m)) + flag 10 (d.get (Dict.plsMode p) == 1)
  let intended := d.intendedEdge p target
  let quant : Int := roundNear (((placeEdge intended).1 - intended) * 1000000 / 65536)
  let offset : Int := if leapBefore then d.offsetAfter (d.get Dict.leapPending) else d.getI Dict.utcOffset
  let kind := if leapBefore then 0 else d.get Dict.leapPending
  let leap := if leapBefore ∨ d.get Dict.leapPending = 0 then 0 else d.get Dict.leapTime / 2 ^ 48
  let body := [0x5A, 0x54, 1, 48] ++ octetsOf 2 ((d.get (Dict.todSequence m) + 1) % 65536) ++ octetsOf 2 flags ++
    octetsOf 12 (toTime96 target) ++ octetsOf 4 (quant % 4294967296).toNat ++ octetsOf 2 (offset % 65536).toNat ++
    [kind, d.state] ++ octetsOf 6 leap ++ octetsOf 4 bound ++
    [d.classOf (d.get Dict.todClassProfile), d.get Dict.selectedRef, 0, 0, 0, 0]
  body ++ octetsOf 4 (crc32 body)

/-- Start of the message for a pulse: TodLead before its intended edge (R281). -/
def todStart (d : Dev) (m p target : Nat) : Nat :=
  ((d.intendedEdge p target).floor - (d.get (Dict.todLead m) * (secondUnits / 1000) : Nat)).toNat

/-- S4 renders the message whose start bit falls in the next frame (R281), freezing F for its pulse (R277). -/
def renderTod (d : Dev) (m : Nat) : Dev :=
  match d.todTimer m with
  | none => d
  | some n =>
    let p := d.get (Dict.todPulse m)
    let first := d.pendingTarget n
    let lo := d.view.frameStart + frameUnits
    let due := ([first, first + secondUnits, first + 2 * secondUnits]).find? fun t =>
      decide (lo ≤ d.todStart m p t ∧ d.todStart m p t < lo + frameUnits)
    match due with
    | none => d
    | some target =>
      if d.get (Dict.todState m) ≠ 2 ∨ d.is Dict.startServiceHoldActive then d
      else
        let d := d.freezePulse p target
        let d := d.set (Hid.todMessage m) (ofOctets (d.todMessageOf m p target))
        let d := (d.set (Hid.todReady m) (d.todStart m p target + 1)).set (Hid.todDiscAt m) (d.get Dict.discontinuityCount + 1)
        let d := d.set (Hid.todTarget m) (target * 4 + p)
        if d.announced.any fun x => x.output == p && x.target == target then d
        else
          let x : Announced := ⟨p, target, [1, 2, 3].contains (d.get Dict.boundState), false, 0⟩
          { d with announced := d.announced ++ [x] }

/-- Instant of the start bit of octet `i` of the message that TODOm sends: an octet lasts 10 bits (R281). -/
def todBit (d : Dev) (m i : Nat) : Nat := d.get (Hid.todBegin m) - 1 + i * 10 * secondUnits / max 1 (d.get (Dict.todBaud m))

/-- The octets of the message under way whose start bits fall before the end of the frame that runs leave (R271, R281). -/
def todOctets (d : Dev) (m : Nat) : Dev :=
  let limit := (d.view.frameStart / frameUnits + 1) * frameUnits
  let next := d.get (Hid.todNext m)
  let count := (List.range 48).countP fun i => decide (d.todBit m i < limit)
  if d.get (Hid.todBegin m) = 0 ∨ count ≤ next then d
  else
    let d := d.out (.serial (2 + m) (((octetsOf 48 (d.get (Hid.todMessage m))).take count).drop next) (d.todBit m next))
    if count = 48 then d.clearAll [Hid.todBegin m, Hid.todNext m] else d.set (Hid.todNext m) count

/-- S4's share of a message under way (R271): it goes on while outputs are permitted, else it ends with the octet in progress. -/
def todFrame (d : Dev) (m : Nat) : Dev :=
  if d.is Dict.outputsPermitted then d.todOctets m else d.clearAll [Hid.todBegin m, Hid.todNext m]

/-- ZTOD_SEND (R271, R280, R281): the start bit of the rendered message begins; without permission it is not sent, and the message
before it stays the previous message of the output (R282). Nothing is sent in Waiting or Disabled. -/
def todSend (d : Dev) (m : Nat) : Dev :=
  let ready := d.get (Hid.todReady m)
  if ready = 0 then d
  else
    let d := d.clear (Hid.todReady m)
    if !d.is (Dict.todEnable m) || d.is (Hid.todRemoved m) || (d.todTimer m).isNone then d
    else if d.is Dict.outputsPermitted then
      let pulse := d.get (Hid.todTarget m)
      let d := (d.set (Dict.todSequence m) ((d.get (Dict.todSequence m) + 1) % 65536)).set (Hid.todDisc m) (d.get (Hid.todDiscAt m))
      let d := { d with announced := d.announced.map fun (x : Announced) =>
        if x.output = pulse % 4 ∧ x.target = pulse / 4 then { x with sent := true } else x }
      (((d.inc (Dict.todSentCount m)).set (Hid.todBegin m) ready).clear (Hid.todNext m)).todOctets m
    else (d.inc (Dict.todSkipCount m)).post 62 [(1, 0x10 + m), (1, 4)]

/-! ### ToD inputs (R184, R284) -/

/-- The references whose companion is a TODI input report its UTC data (R115, R282). -/
def reportUtc (d : Dev) (i offset kind leap : Nat) : Dev :=
  forUnits 8 (fun r d =>
    if d.get (Dict.refTodInput r) = i ∧ d.get (Dict.refMode r) = 2 then
      let d := (d.set (Hid.utcReport r) offset).set (Hid.utcLeapKind r) kind
      d.set (Hid.utcLeapTime r) (leap * 2 ^ 48)
    else d) d

/-- TODI_MESSAGE (R282, R284): a message of 48 octets completes on an input and is checked. -/
def todiMessage (d : Dev) (i : Nat) (octets : List Nat) : Dev :=
  let field (o n : Nat) : Nat := ofOctets ((octets.drop o).take n)
  let good := octets.length == 48 && field 0 2 == 0x5A54 && field 2 1 == 1 && field 3 1 == 48 &&
    field 44 4 == crc32 (octets.take 44) % 2 ^ 32
  let d := d.setB (Hid.todSearch i) true
  if !good then d.inc (Dict.todInErrorCount i)
  else
    let d := (d.inc (Dict.todInGoodCount i)).set (Dict.todInLast i) (ofOctets octets)
    let d := (d.set (Hid.todAt i) (d.now + 1)).set (Hid.todPulse i) (field 8 12)
    let d := d.set (Hid.todQuantisation i) (field 20 4)
    if bit (field 6 2) 14 then d.reportUtc i (utcCode (signed16 (field 24 2))) (field 26 1) (field 28 6) else d.reportUtc i 0 0 0

/-- TODI_OCTET_GAP (R284): the search for Sync starts again; a message under way is not accepted. -/
def todiGap (d : Dev) (i : Nat) : Dev := d.setB (Hid.todSearch i) true

/-- ClientServiceStarted when a pulse or ToD output is enabled; none counts during the service hold, nor while OutputsPermitted has been
false since the last reset (R114, R535, R684). -/
def countServed (d : Dev) : Dev :=
  if d.is Dict.startServiceHoldActive || !d.is Hid.everPermitted then d
  else if (List.range 4).any (fun p => d.is (Dict.plsEnable p)) || (List.range 2).any (fun m => d.is (Dict.todEnable m)) then
    d.setB Dict.clientServiceStarted true
  else d

/-! ### S4 -/

/-- Every output pin drives what its state gives it (R132, R266, R270, R271). -/
def outputPins (d : Dev) : Dev :=
  let d := forUnits 16 (fun n d => d.outPin n) d
  let d := forUnits 4 (fun p d => d.driveNew (0x40 + p) (d.plsLevel p) d.view.frameStart) d
  forUnits 8 (fun m d => d.driveNew (0x44 + m) (d.trgLevel m) d.view.frameStart) d

/-- A step or set moves the ends of the pulses in progress with the timescale, so that each completes its width (R127, R252). -/
def movePulses (d : Dev) (size : Int) : Dev :=
  let moved (e : Entry) (d : Dev) : Dev := if d.get e = 0 then d else d.set e ((d.get e : Int) + size).toNat
  forUnits 8 (fun m d => moved (Hid.trgEnd m) d) (forUnits 4 (fun p d => moved (Hid.plsEnd p) d) d)

/-- S4 (R35, R267, R277, R281, R360). -/
def outputSlot (d : Dev) (vco : List Nat) : Dev :=
  let d := d.permitOutputs
  let d := forUnits 16 (fun n d => (d.outFrame n vco).trackOutput n) d
  let d := forUnits 4 (fun p d =>
    let d := d.followState p
    match d.pulseTimer p with
    | some n => (d.targetsBefore n (d.view.frameStart + 2 * frameUnits)).foldl (fun d t => d.freezePulse p t) d
    | none => d) d.barPulses
  (forUnits 2 (fun m d => ((d.showTod m).renderTod m).todFrame m) d).outputPins

end Dev

end Sys2Proof.Machine
end

