-- ==== Sys2Proof/Machine/Bound.lean ====
section
/-!
DEFINITION. The bound engine of S5: terms, bound states, growth and shrink, output and port bounds, clock class and
accuracy, and what one second leaves for its audit record (R338 to R363, R366).
-/
namespace Sys2Proof.Machine

/-- A systematic or random term of a bound, in ps. -/
inductive Term where
  | value (ps : Rat)
  | infinite
  | absent
  deriving DecidableEq, Repr

/-- A PS32 register as a term (R22). -/
def Term.ofPs32 (v : Nat) : Term := if v = unbounded then .infinite else .value (v : Rat)

/-- Rounded up to 1 fs (R339). -/
def upFs (x : Rat) : Rat := (roundUp (x * 1000) : Rat) / 1000

/-- A random part in ps as a U32 of fs (R339, R364). -/
def toFs32 (x : Rat) : Nat := min (roundUp (x * 1000)).toNat 0xFFFFFFFF

/-- Growth added for a missing frame, in ps (R46, R346). -/
abbrev missingGrowth : Rat := 4883

/-- The coverage factor of R16 and R339. -/
abbrev coverage : Rat := 61 / 10

/-- The sum of systematic terms; nothing when one is unbounded. -/
def sumTerms (l : List Term) : Option Rat :=
  l.foldl (fun a t => match a, t with
    | some x, .value y => some (x + upFs y)
    | some x, .absent => some x
    | _, _ => none) (some 0)

/-- The sum of the squares of random parts in ps. -/
def sumSquares (l : List Rat) : Rat := (l.map fun x => upFs x * upFs x).sum

/-- A bound from its parts (R339). -/
def boundOf (s : Option Rat) (squares : Rat) : Nat :=
  match s with
  | some x => toPs32 (x + coverage * Config.sqrt squares)
  | none => unbounded

namespace Dev

/-- The end of the frame in which the bound now computed is carried (R42, R344), in CT64 units. -/
def carriedEnd (d : Dev) : Nat := (d.view.frameStart / frameUnits + 2) * frameUnits

/-- Seconds from an instant to the end of the carrying frame. -/
def secondsToEnd (d : Dev) (from_ : Nat) : Rat := (((d.carriedEnd : Int) - from_ : Int) : Rat) / (secondUnits : Nat)

/-! ### Terms (R340 to R346) -/

/-- Y_xo (R344). -/
def xoRate (d : Dev) : Rat :=
  if 64 * framesPerSecond ≤ d.get Hid.xoLearnFrames then ((d.get Dict.xoModelLimit : Nat) : Rat) / 1000000000
  else 25 / 100000

/-- Y_gap (R344). -/
def gapRate (d : Dev) : Rat :=
  if d.get Dict.timebaseSource = 2 then d.xoRate
  else if d.get Dict.oscModelState ≠ 0 then d.oscRateLimit
  else ofFrac64 (d.getI Dict.boundGapRate)

/-- The channels that carry the GSL clocks of the enabled bands (R341). -/
def gslChannels (d : Dev) : List Nat :=
  ((List.range 2).filter (bit (d.get Dict.gnssBandEnable))).filterMap fun b => d.channelOf (0x30 + b)

/-- Residuals of channels in ps: the largest ChTvResidual and the largest ChCalResidual. -/
def channelTerms (d : Dev) (cs : List Nat) : Rat × Rat :=
  (((cs.foldl (fun a c => max a (d.get (Dict.chTvResidual c))) 0 : Nat) : Rat) / 1000,
   ((cs.foldl (fun a c => max a (d.get (Dict.chCalResidual c))) 0 : Nat) : Rat) / 1000)

/-- e_meas and u_cal of a reference (R340, R341, with e_path 15 ps of R169). -/
def pathTerms (d : Dev) (r : Nat) : Term × Term :=
  if r < 8 then
    match d.channelOf (r + 1) with
    | some c =>
      let (tv, cal) := d.channelTerms [c]
      match Term.ofPs32 (d.get (Dict.chBoardDelayUnc c)) with
      | .value b => (.value (15 + tv + b), .value cal)
      | t => (t, .value cal)
    | none => (.absent, .absent)
  else if isSyncE r then (.value 10, .value 0)
  else if r = 16 then
    if d.gslChannels.isEmpty then (.absent, .absent)
    else
      let (tv, cal) := d.channelTerms d.gslChannels
      (.value (15 + tv), .value cal)
  else (.value 0, .value 0)

/-- Δt_m in seconds (R342): one frame for the per-frame kinds, SyncE and K0; else the mean interval of the last 64
measurements. With fewer than two it is one frame (DESIGN CHOICE, log entry 31). -/
def measureInterval (d : Dev) (r : Nat) : Rat :=
  let l := (d.track r).times
  if isSyncE r ∨ r = 17 ∨ l.length < 2 then 1 / framesPerSecond
  else (((l.headD 0 : Int) - l.getLastD 0 : Int) : Rat) / ((l.length - 1 : Nat) : Rat) / (secondUnits : Nat)

/-- u_ref in ps (R342). -/
def filteredNoise (d : Dev) (r : Nat) : Rat :=
  let alpha := d.filterGain r (d.measureInterval r)
  ((d.get (Dict.refInputRandom r) : Nat) : Rat) / 1000 * Config.sqrt (alpha / (2 - alpha))

/-- A term as the last S5 used it (R345). -/
def lastTerm (d : Dev) (i : Nat) : Term := if bit (d.get Hid.termInfinite) i then .infinite else .value (d.q (Q.term i))

/-- e_ref, e_meas, e_bo, e_drift, u_ref, u_cal, u_bo of the basis, by their places among the eleven terms (R345). -/
def basisTerms (d : Dev) : List (Nat × Term) :=
  match d.boundRef with
  | some r =>
    let (meas, cal) := d.pathTerms r
    let bo := if d.carriesPhase r then absRat (unitsToPs (d.q Q.buildOut)) else 0
    let ubo := if d.q Q.buildOut = 0 then 0 else ((d.get Dict.buildOutUncertainty : Nat) : Rat) / 1000
    [(0, Term.ofPs32 (d.get (Dict.refInputBound r))), (1, meas), (2, .value bo), (3, Term.ofPs32 (d.get (Dict.driftTerm r))),
     (7, .value (d.filteredNoise r)), (8, cal), (9, .value ubo)]
  | none => [0, 1, 2, 3, 7, 8, 9].map fun i => (i, d.lastTerm i)

/-- Source 83 for a term, by its subindex in 0x5010, and the frame (R346, R722). -/
def termMissing (d : Dev) (i : Nat) : Dev := d.post 83 [(1, i + 1), (2, d.frame)]

/-- A term enters the frame's budget (R339, R346): its value kept for the next frame, and what a missing random term
adds to S. -/
def useTerm (d : Dev) (i : Nat) (t : Term) : Dev × Term × Rat :=
  match t with
  | .value x => ((d.setQ (Q.term i) (upFs x)).set Hid.termInfinite (clearBit (d.get Hid.termInfinite) i), .value (upFs x), 0)
  | .infinite => (d.set Hid.termInfinite (setBit (d.get Hid.termInfinite) i), .infinite, 0)
  | .absent =>
    let last := d.q (Q.term i)
    if i < 7 then ((d.setQ (Q.term i) (last + missingGrowth)).termMissing i, .value (last + missingGrowth), 0)
    else (d.termMissing i, .value 0, coverage * last + missingGrowth)

/-- e_srv and u_srv in ps (R340, R343). -/
def servoTerms (d : Dev) : Rat × Rat :=
  if framesPerSecond ≤ d.get Hid.acquireSeen then
    (absRat (unitsToPs (d.getI Dict.servoPhaseMean : Rat)), ((d.get Dict.servoPhaseRms : Nat) : Rat) / 1000)
  else (unitsToPs (d.q Q.phaseMax), 0)

/-- The phase seen since the last entry to Acquire: the largest over every frame, and the frames outside handover windows that the
statistics have taken (R227, R343). -/
def watchPhase (d : Dev) : Dev :=
  let d := if bit (d.get Hid.boundEntered) 2 then (d.set Hid.acquireSeen 0).setQ Q.phaseMax 0 else d
  if !d.is Hid.followValid then d
  else
    let d := d.setQ Q.phaseMax (max (d.q Q.phaseMax) (absRat (d.q Q.followed)))
    if d.windowOpen then d else d.add Hid.acquireSeen 1

/-- e_sup applies in this frame (R351): an episode is in force, or eight frames have not passed since its end. -/
def supplyFrame (d : Dev) : Dev :=
  if d.is Dict.supplyEpisodeActive then (d.set Hid.supplyTermFrames 8).setB Dict.supplyTermActive true
  else
    let n := d.get Hid.supplyTermFrames
    (d.set Hid.supplyTermFrames (n - 1)).setB Dict.supplyTermActive (n != 0)

/-- e_sup in ps. -/
def supplyTerm (d : Dev) : Term := if d.is Dict.supplyTermActive then Term.ofPs32 (d.get Dict.supplyTerm) else .value 0

/-- The published terms return to zero but for e_sup. -/
def showSupplyOnly (d : Dev) : Dev :=
  let d := forUnits 7 (fun i d => d.set (Dict.termSystematic i) 0) d
  let d := forUnits 4 (fun i d => d.set (Dict.termRandom i) 0) d
  let d := d.set (Dict.termSystematic 6) (match d.supplyTerm with | .value x => toPs32 x | _ => unbounded)
  d.clearAll [Hid.pubRef, Hid.pubBuild, Hid.pubServo]

/-- PS32 of a sum of terms. -/
def termsPs32 (l : List Term) : Nat :=
  match sumTerms l with
  | some x => toPs32 x
  | none => unbounded

/-- The sum of R340 for the reference followed, with its terms published (R340, R372): the systematic sum and the square
of U. -/
def trackingSum (d : Dev) : Dev × Option Rat × Rat :=
  let d := match d.boundRef with
    | some r => d.set Hid.termTime (d.get (Hid.refLast r))
    | none => d
  let (srv, usrv) := d.servoTerms
  let gap := d.gapRate * max 0 (d.secondsToEnd (d.get Hid.termTime)) * 1000000000000
  let basis := d.basisTerms
  let all := [0, 1, 2, 3].map (fun i => (i, ((basis.find? fun p => p.1 == i).map (·.2)).getD .absent)) ++
    [(4, Term.value srv), (5, Term.value gap), (6, d.supplyTerm)] ++
    [7, 8, 9].map (fun i => (i, ((basis.find? fun p => p.1 == i).map (·.2)).getD .absent)) ++ [(10, Term.value usrv)]
  let (d, used, extra) := all.foldl (fun (acc : Dev × List Term × Rat) p =>
    let (d, t, x) := acc.1.useTerm p.1 p.2
    (d, acc.2.1 ++ [t], acc.2.2 + x)) (d, [], 0)
  let sys := used.take 7
  let rnd := (used.drop 7).map fun t => match t with | .value x => x | _ => 0
  let d := forUnits 7 (fun i d => d.set (Dict.termSystematic i) (termsPs32 [sys.getD i .absent])) d
  let d := forUnits 4 (fun i d => d.set (Dict.termRandom i) (toFs32 (rnd.getD i 0))) d
  let d := d.set Hid.pubRef (termsPs32 (sys.take 2))
  let d := d.set Hid.pubBuild (termsPs32 ((sys.drop 2).take 2))
  let d := d.set Hid.pubServo (termsPs32 ((sys.drop 4).take 2))
  (d, (sumTerms sys).map (· + upFs extra), sumSquares rnd)

/-! ### Bound states (R347 to R350) -/

/-- The reference followed carries time. -/
def followsTime (d : Dev) : Bool :=
  match d.boundRef with
  | some r => d.carriesTime r
  | none => false

/-- The latched causes follow the device state (R349). -/
def latchCauses (d : Dev) : Dev :=
  let d := if d.state = 0 ∨ d.state = 1 then d.setB Hid.boundCause1 true
    else if d.followsTime then d.setB Hid.boundCause1 false else d
  if bit (d.get Hid.boundEntered) 3 then (d.setB Hid.setApplied false).setB Hid.boundWake false else d

/-- The causes of R349 that hold without a sum, lowest first. -/
def standingCauses (d : Dev) : List Nat :=
  [(1, d.is Hid.boundCause1), (2, d.is Hid.setApplied), (3, d.is Hid.dupMismatch), (4, d.is Hid.boundWake),
   (6, d.state == 5)].filterMap fun p => if p.2 then some p.1 else none

/-- APLL0 is Locking from VCO hold: the VCO-hold term stays (R258). -/
def relocking (d : Dev) : Bool := d.get Dict.apll0State == 1 && d.is Hid.apll0FromHold

/-- The row of R347 that applies when no cause holds: the new state, whether B_base is frozen, whether t_b is. -/
def boundRow (d : Dev) : Nat × Bool × Bool :=
  let from_ := d.get Dict.boundState
  let closed := d.is Hid.boundWindow && decide (d.get Dict.selectedRef < 18)
  let time := d.carriesTime (d.get Dict.selectedRef)
  let entered (s : Nat) : Bool := bit (d.get Hid.boundEntered) s
  if from_ = 0 then (if d.followsTime then (1, false, false) else (0, false, false))
  else if from_ != 4 && (d.is Hid.apll0Held || d.vcoHold || d.relocking) then (4, true, true)
  else if (from_ == 1 || from_ == 2) && entered 4 && d.state == 4 && d.get Dict.holdoverCause == 1 then (3, true, false)
  else if from_ == 1 && closed && !time then (2, true, false)
  else if from_ == 4 && d.apll0Locked && d.state == 2 then (1, false, false)
  else if from_ == 4 && d.apll0Locked && !d.onMosc && d.state == 4 then (5, true, true)
  else if from_ == 4 && d.apll0Locked && d.onMosc && d.state == 4 then (3, true, false)
  else if (from_ == 2 || from_ == 3 || from_ == 5) && ((closed && time) || (entered 2 && d.state == 2)) then (1, false, false)
  else if (from_ == 3 || from_ == 5) && closed && !time then (2, true, false)
  else (from_, false, false)

/-- B_base as a term. -/
def baseTerm (d : Dev) : Term := Term.ofPs32 (d.get Dict.boundBase)

/-- Holdover rate at a time in seconds, in 1/s (R353). -/
def holdoverRate (d : Dev) (t : Rat) : Rat :=
  let heat := if d.get Dict.oscTempSource = 0 then
      ofFrac64 (d.getI Dict.oscTempCoeffMax) * ((d.get Dict.oscTempExcursion : Nat) : Rat) / 1000
    else d.uTemp * d.tempDeparture
  d.oscRateLimit + d.uAgeing * t + heat + coverage * ofFrac64 (d.getI Dict.oscNoiseFloor)

/-- Time in Holdover at the end of the carrying frame, in seconds (R348). -/
def holdoverTime (d : Dev) : Rat := d.secondsToEnd (ofTime96 (d.get Dict.holdoverStart))

/-- S_ts and the square of U_ts of a bound state (R348). -/
def timescaleSum (d : Dev) (state : Nat) : Dev × Option Rat × Rat :=
  let since := d.secondsToEnd (ofTime96 (d.get Dict.boundBaseTime)) * 1000000000000
  let grown (x : Rat) : Dev × Option Rat × Rat := (d.showSupplyOnly, sumTerms [d.baseTerm, .value x, d.supplyTerm], 0)
  match state with
  | 1 => d.trackingSum
  | 2 =>
    let (d, s, u) := d.trackingSum
    (d, s.bind fun x => sumTerms [d.baseTerm, .value x], u)
  | 3 => grown (d.eHoldAt d.holdoverTime + coverage * d.uHoldAt d.holdoverTime)
  | 4 => grown (2 / 100000 * since)
  | 5 => grown (d.xoRate * since)
  | _ => (d.showSupplyOnly, none, 0)

/-- The sum with the holdover growth of a frame whose S3 was aborted (R45). -/
def withKeptCommand (d : Dev) (state : Nat) (s : Option Rat) : Option Rat :=
  if d.is Hid.holdoverKept then
    let t := if state = 3 then d.holdoverTime else 1 / framesPerSecond
    s.map (· + upFs (d.holdoverRate t * 1000000000000 / framesPerSecond))
  else s

/-- G in ps/s (R353). -/
def growthRate (d : Dev) (state : Nat) : Nat :=
  let rate : Rat := match state with
    | 3 => d.holdoverRate d.holdoverTime
    | 4 => 2 / 100000
    | 5 => d.xoRate
    | _ => if d.get Dict.oscModelState = 0 then d.gapRate else max d.gapRate (d.holdoverRate 1)
  if state = 0 then 0xFFFFFFFF else min (roundUp (rate * 1000000000000)).toNat 0xFFFFFFFE

/-! ### Shrink (R354 to R356) -/

/-- A step applies at the next frame start (R355). -/
def stepNext (d : Dev) : Bool :=
  match d.corr with
  | some c => !c.isSet && decide (c.due < d.carriedEnd)
  | none => false

/-- The published bound from the computed one and the one published before, and whether the limit holds it up. -/
def limitShrink (d : Dev) (computed prev : Nat) : Nat × Bool :=
  if computed = unbounded ∨ prev = unbounded then (computed, false)
  else
    let floor := (prev : Rat) - max ((prev : Rat) / 10) 1000 / framesPerSecond
    let p := max computed (roundUp floor).toNat
    let p := if d.stepNext then max p prev else p
    (p, decide (computed < p))

/-! ### Output and port bounds (R352, R358, R359) -/

/-- RegionTerm while a pair is out of limit or one of its regions invalid (R352); pairs from 0. -/
def regionTermOf (d : Dev) (pair : Nat) : Term :=
  let (a, b) := regionPairs.getD pair (0, 0)
  if bit (d.get Dict.pairOutOfLimit) pair || !d.is (Hid.regionValid a) || !d.is (Hid.regionValid b) then
    Term.ofPs32 (d.get Dict.regionTerm)
  else .value 0

/-- e_rgn applies. -/
def regionActive (d : Dev) (pair : Nat) : Bool := d.regionTermOf pair != .value 0

/-- The pair on the path of a port (R352). -/
def portPair (q : Nat) : Nat := if q < 2 then 1 else 5

/-- e_apll in ps (R274). -/
def apllTerm (d : Dev) (a : Nat) : Rat :=
  let h := d.get (Hid.apllHoldFrame a)
  if h = 0 then 0 else 2 / 100000 * (((d.view.frames + 3 - h : Nat) : Rat) / framesPerSecond) * 1000000000000

/-- The terms and random part in ps of a clock output, or nothing when it has no bound (R359). -/
def clockTerms (d : Dev) (n : Nat) : Option (List Term × Rat) :=
  if d.get (Dict.outState n) ≠ 2 ∨ d.get (Dict.outAlignPeriod n) = 0 then none
  else some ([.value ((d.getI (Dict.outAlignResidual n)).natAbs / 1000 : Rat), .value (1 / 4),
    .value ((outPath (d.get (Dict.outFormat n))).2.2 : Rat), .value (absRat (unitsToPs (d.getI (Dict.outTrackLag n) : Rat))),
    .value (d.apllTerm (d.get (Dict.outApll n))), Term.ofPs32 (d.get (Dict.outBoardDelayUnc n)), d.regionTermOf 8], 1 / 10)

/-- The terms of a pulse output whose driver runs: enabled, permitted, in service and driven by an armed timer. -/
def pulseTerms (d : Dev) (p : Nat) : Option (List Term × Rat) :=
  match d.pulseTimer p with
  | none => none
  | some n =>
    if !d.is (Dict.plsEnable p) || d.is (Hid.plsRemoved p) || !d.is Dict.outputsPermitted then none
    else
      let follow : Rat := if d.get (Dict.plsMode p) = 1 then
          absRat (unitsToPs ((d.getI (Dict.plsFollowApplied p) - d.followWant p : Int) : Rat)) else 0
      some ([.value (absRat (unitsToPs (d.getI (Dict.tmrLastResidual n) : Rat))), .value 15,
        Term.ofPs32 (d.get (Dict.plsBoardDelayUnc p)), .value follow, d.regionTermOf 8], 3)

/-- The terms of a port in service (R359): not Removed, as PortsInService counts. -/
def portTerms (d : Dev) (q : Nat) : Option (List Term × Rat) :=
  if d.get (Dict.portState q) = 4 then none
  else some ([Term.ofPs32 (d.get (Dict.portTermCal q)), Term.ofPs32 (d.get (Dict.portTermTemp q)),
    Term.ofPs32 (d.get (Dict.portTermExt q)), d.regionTermOf (portPair q)], ((d.get (Dict.portStampRandom q) : Nat) : Rat) / 1000)

/-- An output's or port's bound and its parts (R358, R359); its previous bound is at least `least` (R356). -/
def egressBound (d : Dev) (least : Nat) (s : Option Rat) (squares : Rat) (terms : Option (List Term × Rat)) (bound sys rand : Entry) : Dev :=
  match s, terms with
  | some x, some (l, u) =>
    match sumTerms l with
    | some e =>
      let sq := squares + upFs u * upFs u
      let b := boundOf (some (x + e)) sq
      let d := d.set bound (d.limitShrink b (max (d.get bound) least)).1
      if b = unbounded then (d.set sys unbounded).set rand unbounded
      else (d.set sys (toPs32 (x + e))).set rand (toFs32 (Config.sqrt sq))
    | none => ((d.set bound unbounded).set sys unbounded).set rand unbounded
  | _, _ => ((d.set bound unbounded).set sys unbounded).set rand unbounded

/-- Every output and port bound (R358). -/
def egressBounds (d : Dev) (least : Nat) (s : Option Rat) (squares : Rat) : Dev :=
  let d := forUnits 16 (fun n d =>
    d.egressBound least s squares (d.clockTerms n) (Dict.outBound n) (Dict.outBoundSys n) (Dict.outBoundRand n)) d
  let d := forUnits 4 (fun p d =>
    d.egressBound least s squares (d.pulseTerms p) (Dict.plsBound p) (Dict.plsBoundSys p) (Dict.plsBoundRand p)) d
  forUnits 6 (fun q d =>
    d.egressBound least s squares (d.portTerms q) (Dict.portBound q) (Dict.portBoundSys q) (Dict.portBoundRand q)) d

/-! ### Class and accuracy (R361, R362) -/

/-- clockAccuracy of a bound (R362). -/
def accuracyOf (d : Dev) (bound : Nat) : Nat :=
  if bound = unbounded then 0xFE
  else if d.get Dict.clockAccuracyMode = 1 then d.get Dict.clockAccuracyFixed
  else
    let limit (i : Nat) : Rat := if i % 2 = 0 then ((10 ^ (i / 2) : Nat) : Rat) else 5 / 2 * ((10 ^ (i / 2) : Nat) : Rat)
    match (List.range 21).find? fun i => decide ((bound : Rat) ≤ limit i) with
    | some i => 0x17 + i
    | none => 0xFE

/-- clockClass for a published bound, from the class outside holdover (R361). -/
def classFor (d : Dev) (pub out : Nat) : Nat :=
  let state := d.get Dict.boundState
  let inSpec := decide (pub ≤ d.get Dict.holdoverBoundLimit)
  if pub = unbounded ∨ d.state = 0 ∨ d.state = 1 ∨ d.state = 5 then 248
  else if state = 4 ∨ state = 5 then out
  else if d.state == 3 && d.followsTime && decide (d.get (Dict.refQc ((d.boundRef).getD 0)) ≤ 3) && inSpec then 6
  else if inSpec then 7
  else out

/-! ### S5 -/

/-- BoundAlarm of a published bound (R357); an unbounded bound exceeds the limit (DEDUCED, log entry 32). -/
def boundAlarmFrame (d : Dev) (pub : Nat) : Dev :=
  let limit := d.get Dict.boundAlarmLimit
  if !d.is Hid.boundAlarm then
    if limit < pub then
      ((d.setB Hid.boundAlarm true).set Hid.boundCalm 0).post 81 [(4, pub), (1, d.get Dict.boundState)]
    else d
  else
    let calm := if pub * 10 ≤ limit * 9 then d.get Hid.boundCalm + 1 else 0
    if 64 ≤ calm then (d.setB Hid.boundAlarm false).set Hid.boundCalm 0 else d.set Hid.boundCalm calm

/-- B_base, its time and the state move as the row says (R347). -/
def takeRow (d : Dev) (row : Nat × Bool × Bool) : Dev :=
  let d := if row.2.1 then
      (d.set Dict.boundBase (d.get Dict.boundTimescale)).set Dict.boundBaseTime (toTime96 d.view.frameStart) else d
  d.set Dict.boundState row.1

/-- The timescale bound becomes or stays unbounded under a cause (R347, R349). -/
def goUnbounded (d : Dev) (cause : Nat) : Dev :=
  let entry := d.get Dict.boundState != 0
  let d := (d.set Dict.boundState 0).set Dict.boundUnboundedCause cause
  let d := d.setAll [Dict.boundTimescale, Dict.boundSystematic, Dict.boundRandom, Dict.boundComputed, Dict.boundGrowthRate] unbounded
  let d := d.setB Dict.boundLimiterActive false
  if entry then d.post 80 [(1, cause)] else d

/-- The timescale bound of the frame (R339, R347 to R357), with the sum that the outputs and ports add to. -/
def timescaleBound (d : Dev) : Dev × Option Rat × Rat :=
  let was := d.get Dict.boundState
  match d.standingCauses with
  | c :: _ => (d.showSupplyOnly.goUnbounded c, none, 0)
  | [] =>
    let row := d.boundRow
    if row.1 = 0 then
      let c := d.get Dict.boundUnboundedCause
      (d.showSupplyOnly.goUnbounded (if c = 5 ∨ c = 7 then c else 0), none, 0)
    else
      let first := was == 0
      let (d, s, u) := ((d.takeRow row).timescaleSum row.1)
      let s := d.withKeptCommand row.1 s
      let computed := boundOf s u
      match s with
      | none => ((d.set Dict.boundState was).goUnbounded 5, none, 0)
      | some x =>
        if computed = unbounded then ((d.set Dict.boundState was).goUnbounded 7, none, 0)
        else
          let prev := if first then unbounded else max (d.get Dict.boundTimescale) (d.get Hid.takeoverBound)
          let (pub, held) := d.limitShrink computed prev
          let d := (d.set Dict.boundUnboundedCause 0).set Hid.takeoverBound 0
          let d := (d.set Dict.boundTimescale pub).set Dict.boundComputed computed
          let d := (d.set Dict.boundSystematic (toPs32 x)).set Dict.boundRandom (toFs32 (Config.sqrt u))
          ((d.set Dict.boundGrowthRate (d.growthRate row.1)).setB Dict.boundLimiterActive held, s, u)

/-- TermHold and TermEnv of the frame (R366), and where e_rgn or R168 applied (R364). -/
def showAuditTerms (d : Dev) (s : Option Rat) : Dev :=
  let state := d.get Dict.boundState
  let sup := match d.supplyTerm with | .value x => x | _ => 0
  let hold := if 3 ≤ state then (match s with | some x => toPs32 (x - sup) | none => unbounded)
    else if state = 2 then d.get Dict.boundBase else 0
  let d := (d.set Hid.pubHold hold).set Hid.pubEnv (termsPs32 [d.supplyTerm])
  let ports := (List.range 6).foldl (fun a q => if d.regionActive (portPair q) then setBit a q else a) 0
  let measuring := match d.boundRef with
    | some r => (if r < 8 then (d.channelOf (r + 1)).toList else if r = 16 then d.gslChannels else []).any d.pathDoubtful
    | none => false
  d.set Hid.pubRegion (ports + (if d.regionActive 8 then 64 else 0) + (if measuring then 128 else 0))

/-- S5 before deferral: every bound entry takes its next value. -/
def boundFrame (d : Dev) : Dev :=
  let d := d.watchPhase.supplyFrame.latchCauses
  let least := d.get Hid.takeoverBound
  let (d, s, u) := d.timescaleBound
  let d := (d.egressBounds least s u).showAuditTerms s
  let pub := d.get Dict.boundTimescale
  let d := d.set Dict.clockClassDefault (d.classFor pub 52)
  let d := d.set Dict.clockClassTelecom (d.classFor pub ([140, 150, 160].getD (d.get Dict.clockClassCategory) 160))
  let d := (d.set Dict.clockAccuracyTimescale (d.accuracyOf pub)).boundAlarmFrame pub
  (d.set Hid.boundEntered 0).clearAll [Hid.boundWindow, Hid.holdoverKept, Hid.apll0Held]

/-- The entries that S5 computes for publication at the start of the next frame (R42). -/
def boundEntries : List Entry :=
  [Dict.boundTimescale, Dict.boundSystematic, Dict.boundRandom, Dict.boundComputed, Dict.boundState,
    Dict.boundUnboundedCause, Dict.boundGrowthRate, Dict.boundBase, Dict.boundBaseTime, Dict.boundLimiterActive,
    Dict.supplyTermActive, Dict.clockClassDefault, Dict.clockClassTelecom, Dict.clockAccuracyTimescale,
    Hid.pubRef, Hid.pubBuild, Hid.pubServo, Hid.pubHold, Hid.pubEnv, Hid.pubRegion] ++
  (List.range 7).map Dict.termSystematic ++ (List.range 4).map Dict.termRandom ++
  (List.range 16).flatMap (fun n => [Dict.outBound n, Dict.outBoundSys n, Dict.outBoundRand n]) ++
  (List.range 4).flatMap (fun p => [Dict.plsBound p, Dict.plsBoundSys p, Dict.plsBoundRand p]) ++
  (List.range 6).flatMap fun q => [Dict.portBound q, Dict.portBoundSys q, Dict.portBoundRand q]

/-- S5 (R35, R42): what it computes waits for the start of the next frame. -/
def boundSlot (d : Dev) : Dev :=
  let n := d.boundFrame
  let next := boundEntries.map fun e => (e.addr, n.get e)
  { boundEntries.foldl (fun x e => x.set e (d.get e)) n with nextBound := next }

/-- An aborted S5 (R46): every published bound grows by 4,883 ps. -/
def boundAborted (d : Dev) : Dev :=
  let grown := [Dict.boundTimescale] ++ (List.range 16).map Dict.outBound ++ (List.range 4).map Dict.plsBound ++
    (List.range 6).map Dict.portBound
  { d with nextBound := grown.map fun e =>
      let b := d.get e
      (e.addr, if b = unbounded then b else toPs32 ((b : Rat) + missingGrowth)) }

/-- A value as it will be published at the next frame start (R365): S5's, where it is done. -/
def upcoming (d : Dev) (e : Entry) : Nat := ((d.nextBound.find? fun p => p.1 == e.addr).map (·.2)).getD (d.get e)

/-! ### The open audit record (R366) -/

/-- The frame's published bound enters the open second. -/
def auditFrame (d : Dev) : Dev :=
  let pub := d.get Dict.boundTimescale
  let state := d.get Dict.boundState
  let first := d.get Hid.auditMin == unbounded && d.get Hid.auditMax == 0
  let d := if first || decide (d.get Hid.auditMax < pub) then
      let d := forUnits 5 (fun i d => d.set (Hid.auditTerms i)
        (d.get ([Hid.pubRef, Hid.pubBuild, Hid.pubServo, Hid.pubHold, Hid.pubEnv].getD i Hid.pubRef))) d
      (d.set (Hid.auditTerms 5) (d.get Dict.boundRandom)).set Hid.auditMax pub
    else d
  let d := d.set Hid.auditMin (min (d.get Hid.auditMin) pub)
  let mark (b : Bool) (i f : Nat) : Nat := if b then setBit f i else f
  let f := mark (pub == unbounded) 7 (d.get Hid.auditFlags)
  let f := mark (d.is Dict.supplyTermActive) 4 (mark (state == 4 || state == 5) 5 (mark (state == 3) 6 f))
  d.set Hid.auditFlags (mark (d.get Hid.pubRegion != 0) 3 f)

/-- The second's contents are set aside when the timescale has left it: flags, and octets 8 to 51 as a number. A second
left by a step before its last frame is recorded too (DEDUCED, log entry 33). -/
def auditRollover (d : Dev) : Dev :=
  let s := d.get Hid.auditSecond
  if s = d.second + 1 then d
  else
    let d :=
      if s = 0 then d
      else
        let disc := if d.get Hid.auditDisc != d.get Dict.discontinuityCount then 4 else 0
        let os := octetsOf 6 (s - 1) ++ [d.state, d.get Dict.selectedRef] ++ octetsOf 4 (d.get Hid.auditMin) ++
          octetsOf 4 (d.get Hid.auditMax) ++ (List.range 6).flatMap (fun i => octetsOf 4 (d.get (Hid.auditTerms i))) ++
          octetsOf 4 (d.get Hid.auditEgress)
        { d with auditDraft := some (d.get Hid.auditFlags + disc, ofOctets os) }
    let d := (d.clearAll [Hid.auditFlags, Hid.auditMin, Hid.auditMax, Hid.auditEgress]).set Hid.auditSecond (d.second + 1)
    d.set Hid.auditDisc (d.get Dict.discontinuityCount)

/-- The frame start publishes what S5 computed (R42), with HoldoverInSpec (R245); an unbounded bound exceeds the limit
(DEDUCED, log entry 32). -/
def publishBound (d : Dev) : Dev :=
  let d := boundEntries.foldl (fun d e => match d.nextBound.find? fun p => p.1 == e.addr with
    | some p => d.set e p.2
    | none => d) d
  let out := decide (d.get Dict.holdoverBoundLimit < d.get Dict.boundTimescale)
  let d := (d.setB Dict.holdoverInSpec (!out)).postOnce Hid.holdoverOut out 50 []
  { d with nextBound := [] }.auditRollover.auditFrame

end Dev

end Sys2Proof.Machine
end

