-- ==== Sys2Proof/Machine/Store.lean ====
section
/-!
DEFINITION. The configuration image: which entries it holds, its copies, and the entries that show it (R90, R94, R96, R718).
-/
namespace Sys2Proof.Machine

/-- The S entries that are not in the configuration image (R718). -/
def outsideImage (index sub : Nat) : Bool :=
  (index == 0x1010 && sub == 3) || (index == 0x6800 && sub == 5) || decide (0x6810 ≤ index ∧ index ≤ 0x684F) ||
    (index == 0x8840 && decide (sub ≤ 12)) || decide (0x8841 ≤ index ∧ index ≤ 0x8844)

/-- The entry is in the configuration image (R718). -/
def inImage (index sub : Nat) : Bool := keepAt index sub == .s && !outsideImage index sub
where
  /-- The keep class of an address (R8). -/
  keepAt (index sub : Nat) : Keep := Dev.keepAt index sub

namespace Dev

/-- The live values of the image (R718); an entry at its Blank default is not listed. -/
def image (d : Dev) : List (Nat × Nat) := d.regs.filter fun kv => inImage (kv.1 / 256) (kv.1 % 256)

/-- The valid copy with the higher generation (R94). -/
def currentCopy (d : Dev) : Option StoreCopy :=
  match d.copyA, d.copyB with
  | some a, some b => if a.valid && (!b.valid || decide (b.generation ≤ a.generation)) then some a else if b.valid then some b else none
  | some a, none => if a.valid then some a else none
  | none, some b => if b.valid then some b else none
  | none, none => none

/-- StoreGeneration and StoreDirty (R96). -/
def showStore (d : Dev) : Dev :=
  let current := d.currentCopy
  let d := d.set Dict.storeGeneration ((current.map (·.generation)).getD 0)
  d.setB Dict.storeDirty (decide (d.image ≠ (current.map (·.values)).getD []))

end Dev

end Sys2Proof.Machine
end

