-- ==== Sys2Proof/Machine/Gnss.lean ====
section
/-!
DEFINITION. The satellite timing receiver: sample clocks, engine states, channels, the timing solution and its checks,
and the G0 record (R291 to R317, R323 to R336).
-/
namespace Sys2Proof.Machine

/-- The speed of light in m/s (R305). -/
abbrev lightSpeed : Rat := 299792458

/-- γ / (γ − 1) and 1 / (γ − 1) as the manual gives them (R305, R315). -/
abbrev ifL1 : Rat := 2260604 / 1000000
/-- The weight of the L5 band (R305, R315). -/
abbrev ifL5 : Rat := 1260604 / 1000000
/-- γ = (154 / 115)² (R305). -/
abbrev gammaIf : Rat := 154 * 154 / (115 * 115)

/-- k_sys in seconds of each GnssTimeSystem code (R309). -/
def systemOffset (sys : Nat) : Nat := if sys = 2 then 33 else 19

/-- System number of satellites (R336) of a GnssTimeSystem code. -/
def systemNumber (timeSystem : Nat) : Nat := timeSystem + 1

/-- TAI seconds of week 0 of a GnssTimeSystem's week count, from the interface documents of R297 (PRESUMED, log entry 34). -/
def weekOrigin (timeSystem : Nat) : Nat :=
  if timeSystem = 1 then 315964819 + 1024 * 604800 else if timeSystem = 2 then 1136073633 else 315964819

/-- Seconds in a week. -/
abbrev weekSeconds : Nat := 604800

/-- The number nearest to `near` that agrees with `v` modulo `m`. -/
def nearestModulo (near v m : Nat) : Nat :=
  if m = 0 then v
  else
    let base := near / m * m + v % m
    if base + m / 2 < near then base + m else if near + m / 2 < base ∧ m ≤ base then base - m else base

/-- The first number not below `from_` that agrees with `v` modulo `m`. -/
def firstModulo (from_ v m : Nat) : Nat :=
  if m = 0 then v
  else
    let base := from_ / m * m + v % m
    if base < from_ then base + m else base

namespace Dev

/-! ### Sample clocks (R295, R296) -/

/-- A band is enabled. -/
def bandOn (d : Dev) (b : Nat) : Bool := bit (d.get Dict.gnssBandEnable) b

/-- GsClockState changes. -/
def setClock (d : Dev) (b state : Nat) : Dev :=
  if d.get (Dict.gsClockState b) = state then d
  else (d.set (Dict.gsClockState b) state).set (Hid.gsSince b) d.view.frames

/-- The band of a channel status, from its signal code (R297, R336). -/
def bandOf (v : Nat) : Nat := if [3, 5, 7, 10].contains (v / 2 ^ 57 % 16) then 1 else 0

/-- A condition of R296 holds: the band tracks nothing; source 64 on entry. The condition has no code (R722): its octet
reads zero. -/
def clockFault (d : Dev) (b : Nat) : Dev :=
  let d := d.set (Hid.gsBadAt b) (d.view.frames + 1)
  if d.get (Dict.gsClockState b) = 2 then d
  else
    let d := (d.setClock b 2).set (Dict.gsSignalsTracked b) 0
    let d := forUnits 192 (fun k d =>
      let v := d.get (Dict.gnssChannelStatus k)
      if v / 2 ^ 61 != 0 && bandOf v == b then
        d.set (Dict.gnssChannelStatus k) (v / 2 ^ 51 * 2 ^ 51 + 2 ^ 48 + v / 2 ^ 21 % 2 ^ 17 * 2 ^ 21) else d) d
    d.post 64 [(1, b)]

/-- The last stamps of a band's clock, newest first: count and time. -/
def bandStamps (d : Dev) (b : Nat) : List (Nat × Nat) := ((d.gsStamps.find? fun p => p.1 == b).map (·.2)).getD []

/-- A stamp departs from the straight line fitted to the 64 before it by more than 200 ps (R296). -/
def departs (d : Dev) (b index time : Nat) : Bool :=
  let l := d.bandStamps b
  if l.length < 64 then false
  else
    let pts := l.map fun p => ((((p.1 : Int) - index : Int) : Rat), (((p.2 : Int) - time : Int) : Rat))
    let slope := lsqSlope pts
    let n : Rat := l.length
    let fitted := (pts.map (·.2)).sum / n - slope * ((pts.map (·.1)).sum / n)
    decide (psToUnits 200 < absRat fitted)

/-- The timescale value of a sample, counted in milliseconds of the sample clock: interpolated linearly between the two stamps
that enclose it (R296); nothing where no two kept stamps do. -/
def sampleTime (d : Dev) (b : Nat) (index : Rat) : Option Rat :=
  let l := d.bandStamps b
  (l.zip (l.drop 1)).findSome? fun p =>
    let (i1, t1) := p.1
    let (i0, t0) := p.2
    if i0 < i1 ∧ (i0 : Rat) ≤ index ∧ index ≤ (i1 : Rat) then
      some ((t0 : Rat) + (index - (i0 : Rat)) * (((t1 : Int) - t0 : Int) : Rat) / (((i1 : Int) - i0 : Int) : Rat))
    else none

/-- A stamp of a band's sample clock reaches the engine (R295, R296). -/
def takeClockStamp (d : Dev) (b t : Nat) : Dev :=
  if d.get Dict.gnssState = 0 ∨ !d.bandOn b then d
  else
    let last := d.get (Hid.gsLast b)
    let ms := secondUnits / 1000
    let step := if last = 0 then 1 else max 1 ((t + ms / 2 - (last - 1)) / ms)
    let index := d.get (Hid.gsIndex b) + step
    let away := d.departs b index t
    let d := (d.set (Hid.gsIndex b) index).set (Hid.gsLast b) (t + 1)
    let d := if d.get (Dict.gsClockState b) = 0 then d.setClock b 1 else d
    let d := if d.get (Hid.gsMarkTime b) = 0 then (d.set (Hid.gsMarkIndex b) index).set (Hid.gsMarkTime b) (t + 1) else d
    if away then d.clockFault b
    else
      let l := ((index, t) :: d.bandStamps b).take 64
      { d with gsStamps := (b, l) :: d.gsStamps.filter fun p => p.1 != b }

/-- GsClockOffset of a second, and the offset condition (R296). -/
def clockSecond (d : Dev) (b : Nat) : Dev :=
  let mark := d.get (Hid.gsMarkTime b)
  let last := d.get (Hid.gsLast b)
  let d1 := (d.set (Hid.gsMarkTime b) last).set (Hid.gsMarkIndex b) (d.get (Hid.gsIndex b))
  if mark = 0 ∨ last ≤ mark then d1
  else
    let counted : Rat := (((d.get (Hid.gsIndex b) : Int) - d.get (Hid.gsMarkIndex b) : Int) : Rat) * (secondUnits / 1000 : Nat)
    let y := counted / ((last - mark : Nat) : Rat) - 1
    let d := d1.setI (Dict.gsClockOffset b) (toFrac64 y)
    if 50 / 1000000 < absRat y then d.clockFault b else d

/-- No stamp of an enabled band has arrived for 4 ms (R296). -/
def clockMissing (d : Dev) (b : Nat) : Bool :=
  d.bandOn b && d.get (Dict.gsClockState b) != 0 &&
    decide (d.get (Hid.gsLast b) - 1 + 4 * (secondUnits / 1000) ≤ d.now)

/-- SAMPLE_CLOCK_FAULT (R296): the stamp of a band's clock has been missing for 4 ms. A departing stamp or an offset is
found where S0 hands over the stamps. -/
def sampleClockFault (d : Dev) (b : Nat) : Dev := if d.clockMissing b then d.clockFault b else d

/-- A frame of the sample clocks (R296): the stamps S0 collected, the second's offset, and the return to service. -/
def clockFrame (d : Dev) (stamps : List Stamp) : Dev :=
  let d := stamps.foldl (fun d s => if s.source = 0x30 ∨ s.source = 0x31 then d.takeClockStamp (s.source - 0x30) s.time else d) d
  forUnits 2 (fun b d =>
    let d := if d.frame = 0 then d.clockSecond b else d
    let d := if d.clockMissing b then d.clockFault b else d
    if d.get (Dict.gsClockState b) = 2 ∧ d.get (Hid.gsBadAt b) + framesPerSecond ≤ d.view.frames + 1 then d.setClock b 1
    else d) d

/-- A step or set moves the stamps kept with the timescale (DEDUCED, log entry 36). -/
def shiftClockStamps (d : Dev) (units : Int) : Dev :=
  let move (v : Nat) : Nat := if v = 0 then 0 else ((v : Int) + units).toNat
  let d := forUnits 2 (fun b d =>
    (d.set (Hid.gsLast b) (move (d.get (Hid.gsLast b)))).set (Hid.gsMarkTime b) (move (d.get (Hid.gsMarkTime b)))) d
  { d with gsStamps := d.gsStamps.map fun p => (p.1, p.2.map fun q => (q.1, move q.2)) }

/-- The engine holds the settings of the channels that carry the sample clocks (R295). -/
def holdClockChannels (d : Dev) : Dev :=
  forUnits 16 (fun c d =>
    let s := d.get (Dict.chSource c)
    if s = 0x30 ∨ s = 0x31 then
      let d := d.set (Dict.chPrescale c) (d.get (Dict.gsSampleRate (s - 0x30)) / 1000)
      (d.set (Dict.chWinMode c) 0).set (Dict.chEdge c) 0
    else d) d

/-! ### Channels (R297 to R299, R336) -/

/-- The signal code a channel tracks on a band of a satellite (R297, R298). -/
def signalCode (s : SkySat) (b : Nat) : Nat :=
  match s.system, b with
  | 1, 0 => if s.l1c then 2 else 1
  | 1, _ => 3
  | 2, 0 => 4
  | 2, _ => 5
  | 3, 0 => 6
  | 3, _ => 7
  | 4, 0 => if s.l1c then 9 else 8
  | _, _ => 10

/-- The satellite broadcasts on a band. -/
def broadcasts (s : SkySat) (b : Nat) : Bool := if b = 0 then s.l1 || s.l1c else s.l5

/-- Insertion by descending elevation, equals in the order given. -/
def insertSat (s : SkySat) : List SkySat → List SkySat
  | [] => [s]
  | t :: l => if t.elevation < s.elevation then s :: t :: l else t :: insertSat s l

/-- The signals wanted, in the order of R299: satellite and band. A band whose clock is not good tracks nothing (R296), but the
group of a satellite follows from what it broadcasts and what is enabled. -/
def wantedSignals (d : Dev) (sky : List SkySat) : List (SkySat × Nat) :=
  let sees (s : SkySat) (b : Nat) : Bool := d.bandOn b && broadcasts s b
  let up := (sky.filter fun s => decide (1 ≤ s.system ∧ s.system ≤ 4) && bit (d.get Dict.gnssSystemEnable) (s.system - 1) &&
    decide ((d.get Dict.gnssElevationMask : Int) < s.elevation)).foldl (fun l s => insertSat s l) []
  let both := up.filter fun s => sees s 0 && sees s 1
  let time := systemNumber (d.get Dict.gnssTimeSystem)
  let first := both.filter fun s => s.system == time
  let second := both.filter fun s => s.system != time
  let single := up.filter fun s => (sees s 0 || sees s 1) && !(sees s 0 && sees s 1)
  ((first ++ second ++ single).flatMap fun s => [(s, 0), (s, 1)]).filter fun w =>
    sees w.1 w.2 && d.get (Dict.gsClockState w.2) == 1

/-- The identity part of a channel status: system, signal and satellite (R336). -/
def signalId (s : SkySat) (b : Nat) : Nat := (s.system * 16 + signalCode s b) * 64 + s.prn % 64

/-- Elevation and azimuth as channel status bits [37:21] (R336). -/
def directionBits (s : SkySat) : Nat := ((s.elevation / 10) % 256).toNat * 2 ^ 30 + s.azimuth % 360 * 2 ^ 21

/-- A channel is in service: its bank is. -/
def channelServes (d : Dev) (k : Nat) : Bool := d.get (Dict.gnssBankState (k / 16)) == 0

/-- CHANNEL_ALLOCATION (R298, R299): a wanted signal keeps its channel; the others leave; new ones take the lowest free
channels in service, in the order wanted. -/
def allocateChannels (d : Dev) (sky : List SkySat) : Dev :=
  if d.get Dict.gnssState = 0 ∨ d.get Dict.gnssState = 1 ∨ d.get Dict.gnssState = 6 then
    forUnits 192 (fun k d => d.clear (Dict.gnssChannelStatus k)) d
  else
    let room := ((List.range 192).filter d.channelServes).length
    let wanted := (d.wantedSignals sky).take room
    let d := forUnits 192 (fun k d =>
      let v := d.get (Dict.gnssChannelStatus k)
      match (if d.channelServes k then wanted.find? fun w => signalId w.1 w.2 == v / 2 ^ 51 else none) with
      | some w => d.set (Dict.gnssChannelStatus k) (v / 2 ^ 38 * 2 ^ 38 + directionBits w.1 + v % 2 ^ 21)
      | none => d.clear (Dict.gnssChannelStatus k)) d
    wanted.foldl (fun d w =>
      let id := signalId w.1 w.2
      if (List.range 192).any fun k => d.get (Dict.gnssChannelStatus k) / 2 ^ 51 == id then d
      else match (List.range 192).find? fun k => d.channelServes k && d.get (Dict.gnssChannelStatus k) == 0 with
        | some k => d.set (Dict.gnssChannelStatus k) (id * 2 ^ 51 + 2 ^ 48 + directionBits w.1)
        | none => d) d

/-- A channel's report of a second (R336); in a band whose clock is not good nothing is tracked (R296). -/
def takeReport (d : Dev) (r : ChannelReport) : Dev :=
  let k := r.channel - 1
  let v := d.get (Dict.gnssChannelStatus k)
  if r.channel = 0 ∨ 192 < r.channel ∨ v / 2 ^ 61 = 0 ∨ (2 ≤ r.state ∧ d.get (Dict.gsClockState (bandOf v)) ≠ 1) then d
  else
    let lock := if r.state = 3 ∨ r.state = 4 then min 0xFFFF (v % 2 ^ 16 + 1) else 0
    d.set (Dict.gnssChannelStatus k)
      (v / 2 ^ 51 * 2 ^ 51 + min r.state 4 * 2 ^ 48 + min r.cn0 1023 * 2 ^ 38 + v / 2 ^ 16 % 2 ^ 22 * 2 ^ 16 + lock)

/-- Signals tracked in a band: channel index, C/N0 and elevation in degrees. -/
def trackedIn (d : Dev) (b : Nat) : List (Nat × Nat × Nat) :=
  ((List.range 192).map fun k => (k, d.get (Dict.gnssChannelStatus k))).filterMap fun p =>
    if p.2 / 2 ^ 61 != 0 && bandOf p.2 == b && decide (2 ≤ p.2 / 2 ^ 48 % 8) then
      some (p.1, p.2 / 2 ^ 38 % 1024, p.2 / 2 ^ 30 % 256) else none

/-! ### Jamming (R325, R326) -/

/-- Insertion into a rising list of integers. -/
def insertInt (x : Int) : List Int → List Int
  | [] => [x]
  | y :: l => if x ≤ y then x :: y :: l else y :: insertInt x l

/-- The median of a non-empty list, the lower of two middles. -/
def medianInt (l : List Int) : Int := (l.foldl (fun a x => insertInt x a) []).getD ((l.length - 1) / 2) 0

/-- Bin of an elevation in 5° (R325). -/
def elevationBin (b elev : Nat) : Nat := b * 32 + min 17 (elev / 5)

/-- J_b of the second (R325): 0xFFFF with fewer than three signals or no learned reference. -/
def jamIndicator (d : Dev) (b : Nat) : Nat :=
  let losses := (d.trackedIn b).filterMap fun t =>
    (d.jamRefs.find? fun p => p.1 == elevationBin b t.2.2).map fun p => (p.2 : Int) - t.2.1
  if losses.length < 3 then 0xFFFF else (max 0 (medianInt losses)).toNat

/-- The learned reference of a band (R325): the means of each 24 h of counted seconds in Holding replace those before
(DEDUCED, log entry 37). -/
def learnReference (d : Dev) (b : Nat) : Dev :=
  let j := d.get (Dict.gsJamIndicator b)
  if d.get Dict.gnssState ≠ 4 ∨ (j ≠ 0xFFFF ∧ 10 ≤ j) then d
  else
    let sums := (d.trackedIn b).foldl (fun l t =>
      let k := elevationBin b t.2.2
      match l.find? fun p => p.1 == k with
      | some p => (k, p.2.1 + t.2.1, p.2.2 + 1) :: l.filter fun q => q.1 != k
      | none => (k, t.2.1, 1) :: l) d.jamSums
    let d := ({ d with jamSums := sums }).add (Hid.jamSeconds b) 1
    if d.get (Hid.jamSeconds b) < daySeconds then d
    else
      let mine (k : Nat) : Bool := k / 32 == b
      let fresh := (d.jamSums.filter fun p => mine p.1).map fun p => (p.1, p.2.1 / max 1 p.2.2)
      let kept := d.jamRefs.filter fun p => !mine p.1
      ({ d with jamRefs := fresh ++ kept, jamSums := d.jamSums.filter fun p => !mine p.1 }).set (Hid.jamSeconds b) 0

/-- GsJamIndicator and GsJamState of the second (R325, R326). -/
def jamSecond (d : Dev) (b : Nat) : Dev :=
  let j := d.jamIndicator b
  let d := d.set (Dict.gsJamIndicator b) j
  let valid := j != 0xFFFF
  let d := d.set (Hid.jamHigh b) (if valid && decide (d.get Dict.gnssJamLimit ≤ j) then min 3 (d.get (Hid.jamHigh b) + 1) else 0)
  let d := d.set (Hid.jamLow b) (if valid && decide (j + 10 < d.get Dict.gnssJamWarn) then min 10 (d.get (Hid.jamLow b) + 1) else 0)
  let state := d.get (Dict.gsJamState b)
  let d :=
    if d.get (Hid.jamHigh b) = 3 then
      if state = 2 then d else (d.set (Dict.gsJamState b) 2).post 69 [(1, b), (2, j)]
    else if d.get (Hid.jamLow b) = 10 then d.set (Dict.gsJamState b) 0
    else if state == 0 && valid && decide (d.get Dict.gnssJamWarn ≤ j) then (d.set (Dict.gsJamState b) 1).post 70 []
    else d
  d.learnReference b

/-! ### Notches (R324) -/

/-- NOTCH_ENGAGE (R323, R324): a bin at an offset in Hz from band centre; a fifth interferer is not notched. -/
def notchEngage (d : Dev) (b : Nat) (hz : Int) : Dev :=
  let free := (List.range 4).find? fun k => d.getI (Dict.gsNotchCentre b k) == 0x7FFFFFFF
  let mode := d.get Dict.gnssInterferenceMode
  match (if mode = 1 ∨ mode = 3 then free else none) with
  | some k =>
    let d := (d.setI (Dict.gsNotchCentre b k) hz).add (Dict.gsNotchActive b) 1
    d.post 71 [(1, b), (4, d.get (Dict.gsNotchCentre b k))]
  | none => d

/-- NOTCH_DISENGAGE (R324). -/
def notchDisengage (d : Dev) (b k : Nat) : Dev :=
  if 4 ≤ k ∨ d.getI (Dict.gsNotchCentre b k) = 0x7FFFFFFF then d
  else
    let was := d.get (Dict.gsNotchCentre b k)
    let d := (d.clear (Dict.gsNotchCentre b k)).set (Dict.gsNotchActive b) (d.get (Dict.gsNotchActive b) - 1)
    d.post 71 [(1, b), (4, was)]

/-! ### Position (R302, R303, R314) -/

/-- A held position exists: GnssHeldPosition is not the zero of reset (DEDUCED, log entry 38). -/
def heldExists (d : Dev) : Bool := (List.range 3).any fun k => d.get (Dict.gnssHeldPosition k) != 0

/-- The condition of the table for going to Holding or Suspended. -/
def holdsPosition (d : Dev) : Bool :=
  d.get Dict.gnssPositionSource == 1 || (d.heldExists && !d.is Dict.gnssSurveyAtStart)

/-- Distance in mm between a position in 0.1 mm and the held one. -/
def positionDeviation (d : Dev) (p : Int × Int × Int) : Nat :=
  let dx : Rat := ((p.1 - d.getI (Dict.gnssHeldPosition 0) : Int) : Rat)
  let dy : Rat := ((p.2.1 - d.getI (Dict.gnssHeldPosition 1) : Int) : Rat)
  let dz : Rat := ((p.2.2 - d.getI (Dict.gnssHeldPosition 2) : Int) : Rat)
  (roundUp (Config.sqrt (dx * dx + dy * dy + dz * dz) / 10)).toNat

/-- The position check with an unconstrained position (R314). -/
def checkPosition (d : Dev) (p : Int × Int × Int) : Dev :=
  let dev := min (d.positionDeviation p) 0xFFFFFFFF
  let pass := decide (dev ≤ d.get Dict.gnssPositionLimit)
  let d := (d.set Dict.gnssPositionDeviation dev).set Hid.gnssPosResult (if pass then 1 else 2)
  let d := d.set Hid.posCheckFrom (d.view.frames + 1)
  d.set Hid.gnssPosRun (if pass then min 64 (d.get Hid.gnssPosRun + 1) else 0)

/-- POSITION_CHECK (R314): in Holding and Suspended, 64 s after the last check, or after entry to Holding from Surveying. -/
def positionCheck (d : Dev) (p : Int × Int × Int) : Dev :=
  if (d.get Dict.gnssState = 4 ∨ d.get Dict.gnssState = 5) ∧ 64 * framesPerSecond ≤ d.framesSince (d.get Hid.posCheckFrom - 1) then
    d.checkPosition p
  else d

/-- A survey starts (R301, R303); source 66 with sigma 0 and flag 0x00. -/
def startSurvey (d : Dev) : Dev :=
  let d := d.clearAll [Dict.gnssSurveyElapsed, Dict.gnssSurveySigma, Hid.surveyDone]
  ({ d with survey := [] }).post 66 [(4, 0), (1, 0)]

/-- A second of survey (R303): the weighted mean position, its sigma, and completion, which writes the held position.
The accuracy flag of source 66 is set for a completion at 604,800 s (DESIGN CHOICE, log entry 35). -/
def surveySecond (d : Dev) (p : Int × Int × Int × Nat) : Dev :=
  if d.is Hid.surveyDone then d
  else
    let sigma : Rat := ((max 1 p.2.2.2 : Nat) : Rat)
    let w := 1 / (sigma * sigma)
    let s := d.survey
    let s := [s.getD 0 0 + w, s.getD 1 0 + w * (p.1 : Rat), s.getD 2 0 + w * (p.2.1 : Rat), s.getD 3 0 + w * (p.2.2.1 : Rat)]
    let d := ({ d with survey := s }).add Dict.gnssSurveyElapsed 1
    let sd := Config.sqrt (1 / s.getD 0 1)
    let d := d.setI Dict.gnssSurveySigma (roundUp sd)
    let long := decide (604800 ≤ d.get Dict.gnssSurveyElapsed)
    let good := decide (d.get Dict.gnssSurveyTime ≤ d.get Dict.gnssSurveyElapsed) &&
      decide (d.get Dict.gnssSurveySigma ≤ d.get Dict.gnssSurveyAccuracy)
    if !(good || long) then d
    else
      let d := forUnits 3 (fun k d => d.setI (Dict.gnssHeldPosition k) (roundNear (s.getD (k + 1) 0 / s.getD 0 1))) d
      let d := d.setI Dict.gnssPositionUnc (roundUp (coverage * ((d.get Dict.gnssSurveySigma : Nat) : Rat)))
      let w : List Nat := d.wrote ++ [(Dict.gnssHeldPosition 0).addr, (Dict.gnssHeldPosition 1).addr,
        (Dict.gnssHeldPosition 2).addr, Dict.gnssPositionUnc.addr]
      let d := { d with wrote := w }
      (d.showStore.setB Hid.surveyDone true).post 66 [(4, d.get Dict.gnssSurveySigma), (1, if good then 0 else 1)]

/-! ### Engine states (R301) -/

/-- GnssState changes. -/
def enterGnss (d : Dev) (s : Nat) : Dev := d.set Dict.gnssState s

/-- U_trust is known and at most so many seconds (R321). -/
def timeWithin (d : Dev) (seconds : Nat) : Bool := d.is Hid.trustKnown && decide (d.get Hid.trustNs ≤ seconds * 1000000000)

/-- The start kind that the kept data and time allow (R300): 0 cold, 1 warm, 2 hot. Time is within a limit while U_trust is
(DEDUCED, log entry 38). -/
def startKind (d : Dev) : Nat :=
  let kept := d.get Hid.gnssKept
  if bit kept 1 && decide (d.second < d.get Hid.ephemerisAt + 7200) && d.heldExists && d.timeWithin 1 then 2
  else if bit kept 0 && d.heldExists && d.timeWithin 10 then 1
  else 0

/-- Seconds to the first solution of a start kind, from entry to Acquiring (R300). -/
def firstSolutionSeconds (kind : Nat) : Nat := [120, 45, 8].getD kind 120

/-- Starting becomes Acquiring, with the start kind the kept data allow (R300, R301). -/
def startAcquiring (d : Dev) : Dev := (d.enterGnss 2).set Hid.gnssStart d.startKind

/-- Surveying becomes Holding; the 64 s to its first position check begin (R301, R314). -/
def surveyToHolding (d : Dev) : Dev := (d.enterGnss 4).set Hid.posCheckFrom (d.view.frames + 1)

/-- The engine goes Off: the survey is discarded, G0 loses its source. -/
def gnssOff (d : Dev) : Dev :=
  let d := (d.enterGnss 0).clearAll [Dict.gnssSurveyElapsed, Dict.gnssSurveySigma, Hid.surveyDone, Dict.gnssClockCheckState]
  let d := forUnits 2 (fun b d =>
    d.clearAll [Dict.gsClockState b, Dict.gsClockOffset b, Dict.gsJamIndicator b, Dict.gsSignalsTracked b, Hid.gsLast b, Hid.gsMarkTime b, Hid.gsIndex b]) d
  let d := forUnits 192 (fun k d => d.clear (Dict.gnssChannelStatus k)) d
  { d with survey := [], gsStamps := [], sats := [], sysBias := [], g0Formed := none }

/-- A band's clock satisfies a test, if the band is enabled. -/
def bandsAll (d : Dev) (p : Nat → Bool) : Bool := (List.range 2).all fun b => !d.bandOn b || p b

/-- The rows of R301, in table order. Acquiring is left for Holding or Suspended only by a position check that has run. A survey
whose progress was kept through Acquiring goes on (DEDUCED, log entry 38). -/
def gnssRows (d : Dev) (i : GnssSecond) : Dev :=
  let s := d.get Dict.gnssState
  let longSince (b n : Nat) : Bool := decide (n * framesPerSecond ≤ d.framesSince (d.get (Hid.gsSince b)))
  let restart := d.is Hid.gnssRestartWanted
  if s ≠ 0 ∧ (!d.is Dict.gnssEnable ∨ !d.powered .gnss) then d.gnssOff
  else if s ≠ 0 ∧ s ≠ 6 ∧ i.fault ≠ 0 then (d.enterGnss 6).post 79 []
  else match s with
    | 0 => if d.is Dict.gnssEnable && d.powered .gnss then (d.enterGnss 1).holdClockChannels else d
    | 1 =>
      if !i.imageValid then d
      else if d.bandsAll fun b => d.get (Dict.gsClockState b) == 1 && longSince b 1 then d.startAcquiring
      else match (List.range 2).find? fun b => d.bandOn b && d.get (Dict.gsClockState b) == 2 && longSince b 5 with
        | some b => (d.enterGnss 6).post 64 [(1, b)]
        | none => d
    | 2 =>
      if !d.is Hid.gnssSolved then d
      else if d.holdsPosition then
        if d.get Hid.gnssPosResult = 2 then (d.enterGnss 5).post 67 [(4, d.get Dict.gnssPositionDeviation)]
        else if d.get Hid.gnssPosResult = 1 then d.enterGnss 4
        else d
      else if d.is Hid.surveyDone || d.survey.isEmpty then (d.enterGnss 3).startSurvey
      else (d.enterGnss 3).post 66 [(4, d.get Dict.gnssSurveySigma), (1, 0)]
    | 3 =>
      if d.is Hid.surveyDone then d.surveyToHolding
      else if restart then d.startSurvey
      else if 60 ≤ d.get Hid.gnssQuietSeconds then d.enterGnss 2
      else d
    | 4 =>
      if d.get Hid.gnssPosResult = 2 then
        ((d.enterGnss 5).set Hid.gnssPosRun 0).post 67 [(4, d.get Dict.gnssPositionDeviation)]
      else if restart then (d.enterGnss 3).startSurvey
      else if 60 ≤ d.get Hid.gnssQuietSeconds then d.enterGnss 2
      else d
    | 5 =>
      if restart then (d.enterGnss 3).startSurvey
      else if 64 ≤ d.get Hid.gnssPosRun then d.enterGnss 4
      else d
    | _ => if d.is Hid.gnssReleaseWanted then d.enterGnss 1 else d

/-- GNSS_STATE_EVALUATE (R301, R325, R326): reports, tracked signals, jamming, then the state table. -/
def gnssEvaluate (d : Dev) (i : GnssSecond) : Dev :=
  let live := d.powered .gnss && d.get Dict.gnssState != 0
  let d := if live then i.reports.foldl takeReport d else d
  let d := if live then forUnits 2 (fun b d =>
      (d.set (Dict.gsSignalsTracked b) (d.trackedIn b).length).jamSecond b) d else d
  let quiet := (List.range 2).all fun b => d.get (Dict.gsSignalsTracked b) == 0
  let d := d.set Hid.gnssQuietSeconds (if quiet then min 60 (d.get Hid.gnssQuietSeconds + 1) else 0)
  let d := d.gnssRows i
  d.clearAll [Hid.gnssRestartWanted, Hid.gnssReleaseWanted, Hid.gnssSolved, Hid.gnssPosResult]

/-! ### The timing solution (R305 to R310, R313, R315) -/

/-- The bands in use: 3 dual, 1 L1 only, 2 L5 only, 0 none (R326, R327). -/
def bandsInUse (d : Dev) : Nat :=
  let mode := d.get Dict.gnssInterferenceMode
  let use_ (b : Nat) : Bool := d.bandOn b && !((mode == 1 || mode == 3) && d.get (Dict.gsJamState b) == 2)
  (if use_ 0 then 1 else 0) + (if use_ 1 then 2 else 0)

/-- d_IF in CT64 units and e_cal in ps of the bands in use (R315). -/
def calibration (d : Dev) (bands : Nat) : Rat × Rat :=
  let delay (e : Entry) : Rat := (d.getI e : Rat)
  let unc (e : Entry) : Rat := ((d.get e : Nat) : Rat)
  let bias := unc Dict.gnssSystemBiasUnc
  if bands = 3 then
    (delay Dict.gnssCommonDelay + ifL1 * delay Dict.gnssBandDelayL1 - ifL5 * delay Dict.gnssBandDelayL5,
     unc Dict.gnssCommonDelayUnc + ifL1 * unc Dict.gnssBandDelayL1Unc + ifL5 * unc Dict.gnssBandDelayL5Unc + bias)
  else if bands = 1 then
    (delay Dict.gnssCommonDelay + delay Dict.gnssBandDelayL1, unc Dict.gnssCommonDelayUnc + unc Dict.gnssBandDelayL1Unc + bias)
  else
    (delay Dict.gnssCommonDelay + delay Dict.gnssBandDelayL5, unc Dict.gnssCommonDelayUnc + unc Dict.gnssBandDelayL5Unc + bias)

/-- GnssIfDelay and GnssCalTerm in force (R315, R333). -/
def showCalibration (d : Dev) : Dev :=
  let (delay, unc) := d.calibration d.bandsInUse
  (d.setI Dict.gnssIfDelay (roundNear delay)).set Dict.gnssCalTerm (toPs32 unc)

/-- Data of a satellite are authenticated for an ADKD (R320). -/
def authenticated (d : Dev) (prn adkd : Nat) : Bool :=
  d.osnma.any fun o => o.prn == prn && o.adkd == adkd && !o.failed && decide (80 ≤ o.bits)

/-- The OSNMA time condition (R322). -/
def osnmaTimeHolds (d : Dev) : Bool :=
  d.is Hid.trustKnown && decide (d.get Hid.trustNs ≤ d.get Dict.gnssOsnmaTimeTolerance * 1000000000)

/-- Metres of a µm count. -/
def metres (i : Int) : Rat := (i : Rat) / 1000000

/-- Code and carrier combined over the bands in use, in metres (R305, R327). -/
def combined (o : SatObs) (bands : Nat) : Rat × Rat :=
  if bands = 3 then (ifL1 * metres o.codeL1 - ifL5 * metres o.codeL5, ifL1 * metres o.carrierL1 - ifL5 * metres o.carrierL5)
  else if bands = 1 then (metres o.codeL1, metres o.carrierL1)
  else (metres o.codeL5, metres o.carrierL5)

/-- A satellite the engine may use (R306): elevation, C/N0 on each band in use, health, ephemeris, its system enabled,
not excluded. -/
def usable (d : Dev) (bands epoch : Nat) (o : SatObs) : Bool :=
  let strong (b cn0 : Nat) : Bool := !bit bands b || (decide (d.get Dict.gnssCn0Mask ≤ cn0) && d.get (Dict.gsClockState b) == 1)
  let out := d.sats.any fun t => t.key == o.system * 256 + o.prn && decide (epoch < t.outUntil)
  bands != 0 && decide (1 ≤ o.system ∧ o.system ≤ 4) && bit (d.get Dict.gnssSystemEnable) (o.system - 1) &&
    decide ((d.get Dict.gnssElevationMask : Int) ≤ o.elevation) && strong 0 o.cn0L1 && strong 1 o.cn0L5 &&
    o.healthy && o.ephemeris && !out

/-- A usable satellite enters the posted solution (R316): under policy 0x02 only Galileo ones whose ADKD0 data are
authenticated, the others serving the consistency checks. -/
def posts (d : Dev) (o : SatObs) : Bool := d.get Dict.gnssAuthPolicy != 2 || (o.system == 2 && d.authenticated o.prn 0)

/-- A cycle slip between two epochs (R299): the phase-lock indicator fell below 0.7, or code minus carrier of a tracked band
jumped by more than 1.5 m. -/
def slips (t : SatTrack) (o : SatObs) (now : Rat × Rat) : Bool :=
  let jumps (cn0 : Nat) (a b : Rat) : Bool := cn0 != 0 && decide (3 / 2 < absRat (b - a))
  decide (o.lock < 700) || jumps o.cn0L1 t.bandCmc.1 now.1 || jumps o.cn0L5 t.bandCmc.2 now.2

/-- A satellite's record after an epoch (R305, R307): smoothing, code minus carrier, geometry-free delays. -/
def smoothSat (d : Dev) (bands epoch : Nat) (o : SatObs) : SatTrack :=
  let key := o.system * 256 + o.prn
  let (p, l) := combined o bands
  let i1 := (metres o.codeL5 - metres o.codeL1) / (gammaIf - 1)
  let i1c := (metres o.carrierL1 - metres o.carrierL5) / (gammaIf - 1)
  let cmc := (metres o.codeL1 - metres o.carrierL1, metres o.codeL5 - metres o.carrierL5)
  match d.sats.find? fun t => t.key == key && t.bands == bands && t.epoch + 1 == epoch && !slips t o cmc with
  | some t =>
    let n := min (t.n + 1) (d.get Dict.gnssSmoothingTau)
    let s := p / (n : Rat) + (t.smooth + l - t.carrier) * (((n - 1 : Nat) : Rat) / (n : Rat))
    ⟨key, bands, epoch, t.n + 1, s, l, ((s - l) :: t.cmc).take 300, ((i1, i1c) :: t.iono).take 61, t.outUntil, cmc⟩
  | none =>
    let until_ := ((d.sats.find? fun t => t.key == key).map (·.outUntil)).getD 0
    ⟨key, bands, epoch, 1, p, l, [p - l], [(i1, i1c)], until_, cmc⟩

/-- A satellite in the solution: its observation, r_i without β in seconds, and σ_i in seconds. -/
structure SatResidual where
  obs : SatObs
  r : Rat
  sigma : Rat

/-- Distance in metres from a position in 0.1 mm to the satellite. -/
def geometricRange (o : SatObs) (p : Int × Int × Int) : Rat :=
  let dx := metres o.x - (p.1 : Rat) / 10000
  let dy := metres o.y - (p.2.1 : Rat) / 10000
  let dz := metres o.z - (p.2.2 : Rat) / 10000
  Config.sqrt (dx * dx + dy * dy + dz * dz)

/-- r_i of R305 without the system bias, and σ_i of R307. -/
def residualOf (d : Dev) (bands : Nat) (pos : Int × Int × Int) (o : SatObs) (t : SatTrack) : SatResidual :=
  let (delay, _) := d.calibration bands
  let dif := delay / (secondUnits : Nat)
  let user : Rat := (d.getI (Dict.gnssSystemBias (o.system - 1)) : Rat) / (secondUnits : Nat)
  let ionoBand : Rat := if bands = 3 then 0 else if bands = 1 then metres o.iono else gammaIf * metres o.iono
  ⟨o, (t.smooth - geometricRange o pos - metres o.tropo - ionoBand) / lightSpeed + (o.clock : Rat) / 10 ^ 15 - dif - user,
   deviation t.cmc / lightSpeed⟩

/-- β and σ_isb of a system in seconds (R308), or nothing while it is not known. -/
def biasOf (d : Dev) (e : GnssEpoch) (system : Nat) : Option (Rat × Rat) :=
  if system = systemNumber (d.get Dict.gnssTimeSystem) then some (0, 0)
  else if d.get Dict.gnssIsbMode = 1 then some (((e.offsets.getD (system - 1) 0 : Int) : Rat) / 10 ^ 15, 3 / 10 ^ 9)
  else
    let a := 1 - Config.exp (-(1 / ((d.get Dict.gnssIsbTau : Nat) : Rat)))
    (d.sysBias.find? fun s => s.system == system).map fun s => (s.mean, Config.sqrt (s.var * (a / (2 - a))))

/-- w_i (R307). Where both deviations are zero the spec states no weight: a free value (DESIGN CHOICE, log entry 20). -/
def satWeight (d : Dev) (sigma isb : Rat) : Rat :=
  let v := sigma * sigma + isb * isb
  if v = 0 then ((d.freeNat 128 + 1 : Nat) : Rat) else 1 / v

/-- The weighted mean b and the sum of the weights, over the satellites of the posted solution with known bias (R307, R316). -/
def weightedMean (d : Dev) (e : GnssEpoch) (l : List SatResidual) : Rat × Rat :=
  let ws := (l.filter fun s => d.posts s.obs).filterMap fun s => (d.biasOf e s.obs.system).map fun b => (d.satWeight s.sigma b.2, s.r - b.1)
  let w := (ws.map (·.1)).sum
  if w = 0 then (0, 0) else ((ws.map fun p => p.1 * p.2).sum / w, w)

/-- r_i − b − β of a satellite. -/
def postFit (d : Dev) (e : GnssEpoch) (b : Rat) (s : SatResidual) : Rat := s.r - b - ((d.biasOf e s.obs.system).getD (0, 0)).1

/-- The satellite with the largest failing residual, if any (R328). -/
def worstResidual (d : Dev) (e : GnssEpoch) (b : Rat) (l : List SatResidual) : Option SatResidual :=
  let limit : Rat := ((d.get Dict.gnssResidualLimit : Nat) : Rat) / 10
  (l.filter fun s => decide (limit * s.sigma < absRat (d.postFit e b s))).foldl (fun a s =>
    match a with
    | some t => if absRat (d.postFit e b t) < absRat (d.postFit e b s) then some s else a
    | none => some s) none

/-- The residual check (R328): at most one exclusion per 6 satellites used, largest first. -/
def excludeResiduals (d : Dev) (e : GnssEpoch) (l : List SatResidual) : Nat → List SatResidual × List SatResidual
  | 0 => (l, [])
  | n + 1 =>
    match d.worstResidual e (d.weightedMean e l).1 l with
    | some s =>
      let rest := l.filter fun t => !(t.obs.system == s.obs.system && t.obs.prn == s.obs.prn)
      let (k, x) := d.excludeResiduals e rest n
      (k, s :: x)
    | none => (l, [])

/-- The ionosphere check fails (R328). -/
def ionoFails (d : Dev) (t : SatTrack) : Bool :=
  let (i1, c1) := t.iono.headD (0, 0)
  let far := decide (i1 < -2) || decide (100 < i1)
  let moved := match t.iono[60]? with
    | some (i0, c0) => decide (((d.get Dict.gnssIonoCheckLimit : Nat) : Rat) / 1000 < absRat ((i1 - i0) - (c1 - c0)))
    | none => false
  far || moved

/-- A satellite's channel status shows that it was excluded and why (R336). -/
def markExcluded (d : Dev) (o : SatObs) (cause : Nat) : Dev :=
  forUnits 192 (fun k d =>
    let v := d.get (Dict.gnssChannelStatus k)
    if v / 2 ^ 61 = o.system ∧ v / 2 ^ 51 % 64 = o.prn then
      d.set (Dict.gnssChannelStatus k) (v / 2 ^ 19 * 2 ^ 19 + 2 ^ 18 + cause % 4 * 2 ^ 16 + v % 2 ^ 16) else d) d

/-- A satellite is excluded by a check: counted, shown, source 68 (R328). -/
def excludeSat (d : Dev) (o : SatObs) (check : Nat) : Dev :=
  ((d.inc Dict.gnssExcludedCount).markExcluded o check).post 68 [(1, o.system), (1, o.prn), (1, check)]

/-- The mean residual of a system less b: its bias in this epoch. -/
def epochBias (l : List SatResidual) (system : Nat) (b : Rat) : Option Rat :=
  let mine := l.filter fun s => s.obs.system == system
  if mine.isEmpty then none else some ((mine.map (·.r)).sum / (mine.length : Rat) - b)

/-- The estimated biases take the epoch (R308). -/
def learnBiases (d : Dev) (l : List SatResidual) (b : Rat) : Dev :=
  let a := 1 - Config.exp (-(1 / ((d.get Dict.gnssIsbTau : Nat) : Rat)))
  forUnits 4 (fun k d =>
    let sys := k + 1
    if sys = systemNumber (d.get Dict.gnssTimeSystem) then d
    else match epochBias l sys b with
      | none => d
      | some v =>
        let s := match d.sysBias.find? fun s => s.system == sys with
          | some s => ⟨sys, s.mean + a * (v - s.mean), (1 - a) * (s.var + a * (v - s.mean) * (v - s.mean))⟩
          | none => (⟨sys, v, 0⟩ : SysBias)
        { d with sysBias := s :: d.sysBias.filter fun t => t.system != sys }) d

/-- The systems whose bias departs from its mean over GnssIsbTau (R328): the epoch's bias, or the broadcast one, against
the estimated mean (DEDUCED, log entry 39). -/
def failedSystems (d : Dev) (e : GnssEpoch) (l : List SatResidual) (b : Rat) : List Nat :=
  let limit : Rat := ((d.get Dict.gnssIsbLimit : Nat) : Rat) / 10 ^ 12
  (List.range 4).filterMap fun k =>
    let sys := k + 1
    let now := if d.get Dict.gnssIsbMode = 1 then (if (epochBias l sys b).isSome then (d.biasOf e sys).map (·.1) else none)
      else epochBias l sys b
    match now, d.sysBias.find? fun s => s.system == sys with
    | some v, some s => if limit < absRat (v - s.mean) then some sys else none
    | _, _ => none

/-- The clock checks run in this epoch (R329). -/
def clockChecksRun (d : Dev) : Bool :=
  let far (e : Entry) : Bool := d.get e == 0 || decide (64 * framesPerSecond ≤ d.framesSince (d.get e - 1))
  let mode := d.get Dict.gnssInterferenceMode
  (mode == 2 || mode == 3) && d.get Dict.oscModelState != 0 && (d.get (Dict.refState 16) == 3 || d.get (Dict.refState 16) == 4) &&
    far Hid.windowClosedAt && far Hid.jumpFrame && far Hid.vcoLeftAt

/-- The clock checks against an x in seconds at an epoch (R328): whether one fails. -/
def clockCheckFails (d : Dev) (x : Rat) (epoch : Nat) : Bool :=
  let expected := (d.predict 16 (epoch * secondUnits) + (d.getI (Dict.refDelayCorrection 16) : Rat)) / (secondUnits : Nat)
  let phase := (x - expected) * 10 ^ 12
  if ((d.get Dict.gnssClockPhaseLimit : Nat) : Rat) < absRat phase then true
  else if d.g0Rates.length < 64 then false
  else
    let diff := (meanOf d.g0Rates 0 64 - d.oscPredict) * 10 ^ 15
    let limit := ((d.get Dict.gnssClockFreqLimit : Nat) : Rat) + 3 * d.oscRateLimit * 10 ^ 15
    decide (limit < absRat diff)

/-- The result of the clock checks is counted (R330); source 72 at the tenth consecutive withheld epoch. -/
def countClockCheck (d : Dev) (failed : Bool) : Dev :=
  if failed then
    let n := min 0xFFFFFFFF (d.get Hid.clockBad + 1)
    let d := (d.set Hid.clockBad n).set Hid.clockGood 0
    if n = 10 then (d.set Dict.gnssClockCheckState 2).post 72 [] else d
  else
    let n := min 64 (d.get Hid.clockGood + 1)
    let d := (d.set Hid.clockGood n).set Hid.clockBad 0
    if d.get Dict.gnssClockCheckState = 2 ∧ n < 64 then d else d.set Dict.gnssClockCheckState 1

/-- An epoch is withheld (R291, R328, R330): counted, and shown by a record that is not Valid. -/
def withhold (d : Dev) (epoch : Nat) (flags : Nat) : Dev :=
  let d := d.inc Dict.gnssWithheldCount
  { d with g0Formed := some ⟨epoch, 0, 0, 0, flags + 256, 0, 0, 0, 0, 0, d.get Dict.discontinuityCount, []⟩ }

/-- Notches engaged within the main lobe of a signal in use (R313). -/
def notchCount (d : Dev) (bands : Nat) : Nat :=
  ((List.range 2).map fun b =>
    if !bit bands b then 0
    else ((List.range 4).filter fun k =>
      d.getI (Dict.gsNotchCentre b k) != 0x7FFFFFFF &&
        decide ((d.getI (Dict.gsNotchCentre b k)).natAbs ≤ (if b = 0 then 2046000 else 10230000))).length).sum

/-- The weights w_i of the satellites of a solution (R307). -/
def weightsOf (d : Dev) (e : GnssEpoch) (l : List SatResidual) : List Rat :=
  l.map fun s => d.satWeight s.sigma ((d.biasOf e s.obs.system).getD (0, 0)).2

/-- e_G0 in ps (R313, R327) with the weights of the solution, each term rounded up. -/
def systematicOf (d : Dev) (bands : Nat) (l : List SatResidual) (ws : List Rat) (uPosMm : Rat) : Rat :=
  let w := ws.sum
  let mean (f : SatObs → Rat) : Rat := if w = 0 then 0 else ((l.zip ws).map fun p => p.2 * f p.1.obs).sum / w
  let up (x : Rat) : Rat := (roundUp x : Rat)
  let sinE (o : SatObs) : Rat :=
    Config.cosecant ((o.elevation : Rat) / 10)
  let ps (m : Rat) : Rat := m / lightSpeed * 10 ^ 12
  let iono := if bands = 3 then 0 else
    up (ps (mean (fun o => if bands = 1 then metres o.iono else gammaIf * metres o.iono) / 2))
  up (d.calibration bands).2 + up (ps (uPosMm / 1000)) +
    up (ps (((d.get Dict.gnssTropResidual : Nat) : Rat) / 1000 * mean sinE)) + 100 * (d.notchCount bands : Rat) + iono

/-- δ_UTC in seconds (R309). -/
def utcTerm (d : Dev) (a0 a1 : Int) (tot epoch : Nat) : Rat :=
  if d.get Dict.gnssUtcRealisation = 0 then 0
  else (a0 : Rat) / 10 ^ 15 + (a1 : Rat) / 10 ^ 18 * (((epoch : Int) - tot : Int) : Rat)

/-- The week of a system's week count that a field names (R300): nearest the timescale while it holds a bounded time, else the
first not earlier than the start of GPS week GnssWeekPivot. -/
def resolveWeek (d : Dev) (timeSystem value bits : Nat) : Nat :=
  let origin := weekOrigin timeSystem
  let pivot := (315964819 + d.get Dict.gnssWeekPivot * weekSeconds - origin + weekSeconds - 1) / weekSeconds
  if d.get Dict.boundTimescale = unbounded then firstModulo pivot value (2 ^ bits)
  else nearestModulo ((d.second - origin) / weekSeconds) value (2 ^ bits)

/-- The system time code whose week count a satellite system uses: QZSS counts as GPS does (R297). -/
def weekSystem (system : Nat) : Nat := if system = 4 then 0 else system - 1

/-- TAI seconds at the start of the week that the time system's signals name (R300): of its widest field; a 10-bit one is resolved
against the widest field of any other signal tracked. -/
def weekStart (d : Dev) (e : GnssEpoch) : Option Nat :=
  let widest (l : List WeekField) : Option WeekField :=
    l.foldl (fun a f => match a with
      | some g => if g.bits < f.bits then some f else a
      | none => some f) none
  let start (f : WeekField) : Nat := weekOrigin (weekSystem f.system) + d.resolveWeek (weekSystem f.system) f.value f.bits * weekSeconds
  (widest (e.weeks.filter fun f => f.system == systemNumber (d.get Dict.gnssTimeSystem))).map fun f =>
    match (if f.bits = 10 then widest (e.weeks.filter fun g => decide (10 < g.bits)) else none) with
    | some g =>
      let origin := weekOrigin (weekSystem f.system)
      origin + nearestModulo ((start g + weekSeconds / 2 - origin) / weekSeconds) f.value (2 ^ f.bits) * weekSeconds
    | none => start f

/-- What the resolved week adds to x, in seconds (R14, R300): code and carrier refer to the week nearest the timescale, and a
reference whose time lies later reads less. -/
def weekTerm (d : Dev) (e : GnssEpoch) : Rat :=
  match d.weekStart e with
  | some t =>
    let origin := weekOrigin (d.get Dict.gnssTimeSystem)
    let near := origin + (d.second - origin) / weekSeconds * weekSeconds
    (((near : Int) - t : Int) : Rat)
  | none => 0

/-- LeapTime in TAI seconds and the kind of a broadcast leap (R300, R310); one that does not satisfy R117 is not reported. -/
def broadcastLeap (d : Dev) (e : GnssEpoch) : Nat × Nat :=
  match e.leap with
  | none => (0, 0)
  | some l =>
    let sys := d.get Dict.gnssTimeSystem
    let origin := weekOrigin sys
    let week := d.resolveWeek sys l.week l.bits
    -- system time of the day's end is UTC plus ΔtLS; TAI is system time plus k_sys
    let time := origin + week * weekSeconds + (l.day + 1) * daySeconds
    let kind := if l.after = e.leapSeconds + 1 then 1 else if l.after = e.leapSeconds - 1 then 2 else 0
    let at_ := ((time : Int) + l.after).toNat
    if kind ≠ 0 ∧ leapTimeOk (at_ * 2 ^ 48) (l.after + (systemOffset sys : Nat)) then (at_, kind) else (0, 0)

/-- The second solution of policy 0x01 agrees with x, or the posted one satisfies policy 0x02 (R316). -/
def authAgrees (d : Dev) (e : GnssEpoch) (epoch : Nat) (l : List SatResidual) (x : Rat) : Bool :=
  let mine := l.filter fun s => s.obs.system == 2 && d.authenticated s.obs.prn 0
  let enough := decide (d.get Dict.gnssAuthMinSats ≤ mine.length)
  let utc := d.osnma.any fun o => o.adkd == 4 && !o.failed && decide (80 ≤ o.bits)
  let ws := mine.map fun s => d.satWeight s.sigma 0
  let b := if ws.sum = 0 then 0 else ((mine.zip ws).map fun p => p.2 * p.1.r).sum / ws.sum
  let x' := b + d.utcTerm e.galileoA0 e.galileoA1 e.galileoTot epoch
  match d.get Dict.gnssAuthPolicy with
  | 1 => enough && utc && decide (absRat (x' - x) * 10 ^ 12 ≤ ((d.get Dict.gnssAuthAgreeLimit : Nat) : Rat))
  | 2 => enough && utc
  | _ => false

/-- The position that residuals are formed at, in 0.1 mm: the held one, or while surveying the survey's mean. -/
def workingPosition (d : Dev) (e : GnssEpoch) : Int × Int × Int :=
  if d.get Dict.gnssState = 3 ∨ !d.holdsPosition then
    match d.survey with
    | w :: x :: y :: z :: _ => if w = 0 then (0, 0, 0) else (roundNear (x / w), roundNear (y / w), roundNear (z / w))
    | _ => match e.position with
      | some p => (p.1, p.2.1, p.2.2.1)
      | none => (0, 0, 0)
  else (d.getI (Dict.gnssHeldPosition 0), d.getI (Dict.gnssHeldPosition 1), d.getI (Dict.gnssHeldPosition 2))

/-- The satellites a solution may use after smoothing, the ionosphere check and the exclusions it makes (R306, R328). -/
def prepareSats (d : Dev) (e : GnssEpoch) (epoch bands : Nat) : Dev × List SatResidual :=
  let tracks := e.sats.map fun o => (o, d.smoothSat bands epoch o)
  let consistent := d.get Dict.gnssInterferenceMode == 2 || d.get Dict.gnssInterferenceMode == 3
  let old := d
  let pos := d.workingPosition e
  let good := tracks.filter fun p => old.usable bands epoch p.1
  let bad := if consistent && bands == 3 then good.filter fun p => d.ionoFails p.2 else []
  let isBad (p : SatObs × SatTrack) : Bool := bad.any fun q => q.2.key == p.2.key
  let d := { d with sats := tracks.map fun p => if isBad p then { p.2 with outUntil := epoch + 300 } else p.2 }
  let d := bad.foldl (fun d p => d.excludeSat p.1 2) d
  let d := (tracks.filter fun p => !old.usable bands epoch p.1).foldl (fun d p => d.markExcluded p.1 0) d
  let d := (good.filter fun p => !old.posts p.1).foldl (fun d p => d.markExcluded p.1 3) d
  (d, (good.filter fun p => !isBad p).map fun p => d.residualOf bands pos p.1 p.2)

/-- Satellites enough for a solution (R301, R316): GnssMinSats, one of the time system, and while surveying 5 plus one for
each other system whose bias is estimated. -/
def enoughSats (d : Dev) (l : List SatResidual) : Bool :=
  let l := l.filter fun s => d.posts s.obs
  let others := ((List.range 4).filter fun k => k + 1 != systemNumber (d.get Dict.gnssTimeSystem) &&
    l.any fun s => s.obs.system == k + 1).length
  let extra := if d.get Dict.gnssIsbMode = 0 then others else 0
  decide (d.get Dict.gnssMinSats ≤ l.length) && l.any (fun s => s.obs.system == systemNumber (d.get Dict.gnssTimeSystem)) &&
    (d.get Dict.gnssState != 3 || decide (5 + extra ≤ l.length))

/-- Source 78 when an announcement of a broadcast leap, of its kind and date, first appears (R310). -/
def announceBroadcast (d : Dev) (time kind : Nat) : Dev :=
  if kind = d.get Hid.leapSeen ∧ time = d.get Hid.leapSeenAt then d
  else
    let d := (d.set Hid.leapSeen kind).set Hid.leapSeenAt time
    if kind = 0 then d else d.post 78 [(1, kind), (12, time * 2 ^ 48)]

/-- The solution's satellites are shown as used (R336). -/
def markUsed (d : Dev) (l : List SatResidual) : Dev :=
  forUnits 192 (fun k d =>
    let v := d.get (Dict.gnssChannelStatus k)
    if v / 2 ^ 61 = 0 then d
    else
      let used := l.any fun s => s.obs.system == v / 2 ^ 61 && s.obs.prn == v / 2 ^ 51 % 64
      let auth := v / 2 ^ 61 == 2 && d.authenticated (v / 2 ^ 51 % 64) 0
      d.set (Dict.gnssChannelStatus k) (v / 2 ^ 21 * 2 ^ 21 + (if used then 2 ^ 20 else 0) + (if auth then 2 ^ 19 else 0) +
        (if used then 0 else v / 2 ^ 16 % 8 * 2 ^ 16) + v % 2 ^ 16)) d

/-- Bits [13] to [9] of G0Flags (R313): PositionHold, Bands, ClockCheckActive, NotchActive. -/
def commonFlags (d : Dev) (bands : Nat) (ran : Bool) : Nat :=
  let flag (c : Bool) (i : Nat) : Nat := if c then 2 ^ i else 0
  flag (d.get Dict.gnssState != 3) 13 + bands * 2 ^ 11 + flag ran 10 +
    flag ((List.range 2).any fun k => d.get (Dict.gsNotchActive k) != 0) 9

/-- The record of a solution that passed its checks (R309, R310, R313). -/
def formRecord (d : Dev) (e : GnssEpoch) (epoch bands : Nat) (l : List SatResidual) (ws : List Rat) (x : Rat) (ran : Bool) : Dev :=
  let surveying := d.get Dict.gnssState == 3
  let sigma := Config.sqrt (1 / ws.sum) * 10 ^ 15
  -- the correlation with the estimated height has no stated form: a free addition (DESIGN CHOICE, log entry 40)
  let sigma := if surveying then sigma + ((d.freeNat 129 : Nat) : Rat) else sigma
  let uPos : Rat := if surveying then coverage * ((d.get Dict.gnssSurveySigma : Nat) : Rat)
    else ((d.get Dict.gnssPositionUnc : Nat) : Rat)
  let auth := d.osnmaTimeHolds && d.authAgrees e epoch l x
  let flags := 2 ^ 15 + (if auth then 2 ^ 14 else 0) + d.commonFlags bands ran
  let (leapTime, leapKind) := d.broadcastLeap e
  let d := d.announceBroadcast leapTime leapKind
  let systems := (List.range 4).foldl (fun m k => if l.any (fun s => s.obs.system == k + 1) then setBit m k else m) 0
  let biases := (List.range 4).map fun k => roundNear (((d.biasOf e (k + 1)).getD (0, 0)).1 * (secondUnits : Nat))
  let d := ((d.markUsed l).set Hid.gnssKept 7).set Hid.ephemerisAt epoch
  { d with g0Formed := some ⟨epoch, roundNear (x * (secondUnits : Nat)), (roundUp sigma).toNat, toPs32 (d.systematicOf bands l ws uPos),
      flags, l.length, systems, e.leapSeconds + (systemOffset (d.get Dict.gnssTimeSystem) : Nat), leapKind, leapTime,
      d.get Dict.discontinuityCount, biases⟩ }

/-- The residual and system checks of an epoch (R328): the satellites that remain, and whether every one of them passes the
residual check. -/
def checkSats (d : Dev) (e : GnssEpoch) (l : List SatResidual) : Dev × List SatResidual × Bool :=
  let consistent := d.get Dict.gnssInterferenceMode == 2 || d.get Dict.gnssInterferenceMode == 3
  if !consistent then (d, l, true)
  else
    let (kept, out) := d.excludeResiduals e l (l.length / 6)
    let d := out.foldl (fun d s => d.excludeSat s.obs 1) d
    let b := (d.weightedMean e kept).1
    let failed := d.failedSystems e kept b
    let d := failed.foldl (fun d f => d.post 73 [(1, f)]) d
    let kept := kept.filter fun s => !failed.contains s.obs.system
    (d, kept, (d.worstResidual e (d.weightedMean e kept).1 kept).isNone)

/-- What becomes of an epoch whose solution is formed (R308, R309, R328 to R330): withheld while Suspended or by the clock checks,
else a record. -/
def judgeEpoch (d : Dev) (e : GnssEpoch) (epoch bands : Nat) (kept : List SatResidual) : Dev :=
  let (b, w) := d.weightedMean e kept
  let before := d
  let d := d.learnBiases kept b
  let used := kept.filter fun s => before.posts s.obs && (before.biasOf e s.obs.system).isSome
  let x := b + d.utcTerm e.a0 e.a1 e.tot epoch + d.weekTerm e
  -- too few with a known bias withhold the epoch
  if used.length < d.get Dict.gnssMinSats ∨ w = 0 ∨ d.get Dict.gnssState = 5 then d.withhold epoch (d.commonFlags bands false)
  else
    let ran := d.clockChecksRun
    let result := ran && d.clockCheckFails x epoch
    let d := if ran then d.countClockCheck result
      else (d.set Dict.gnssClockCheckState 0).clearAll [Hid.clockBad, Hid.clockGood]
    if result then d.withhold epoch (d.commonFlags bands ran)
    else d.formRecord e epoch bands used (before.weightsOf e used) x ran

/-- A solution is formed (R301): in Acquiring its unconstrained position is checked once, where a held position is in use
(R314); in Surveying a dual-frequency one enters the survey (R303). -/
def solved (d : Dev) (e : GnssEpoch) (bands : Nat) : Dev :=
  let d := d.setB Hid.gnssSolved true
  match d.get Dict.gnssState, e.position with
  | 2, some p => if d.holdsPosition && d.get Hid.gnssPosResult == 0 then d.checkPosition (p.1, p.2.1, p.2.2.1) else d
  | 3, some p => if bands = 3 then d.surveySecond p else d
  | _, _ => d

/-- GNSS_SOLUTION (R301 to R310): the epoch at the second just begun. A second without a solution posts nothing; where the
exclusions of the checks leave fewer than GnssMinSats, or a satellite still fails the residual check, the epoch is withheld
(R291, R328). -/
def gnssSolution (d : Dev) (e : GnssEpoch) : Dev :=
  let state := d.get Dict.gnssState
  if state = 0 ∨ state = 1 ∨ state = 6 then d
  else
    let epoch := d.second
    let bands := d.bandsInUse
    let d := ({ d with g0Formed := none }).showCalibration
    let rate := ofFrac64 (d.getI (Dict.refFrequency 16)) - d.q Q.rTot
    let d := { d with g0Rates := (rate :: d.g0Rates).take 64 }
    let (d, l) := d.prepareSats e epoch bands
    if !d.enoughSats l then d
    else
      let (d, kept, clean) := d.checkSats e l
      let few := decide ((kept.filter fun s => d.posts s.obs).length < d.get Dict.gnssMinSats)
      if !clean || few then (if state = 2 then d else d.withhold epoch (d.commonFlags bands false))
      else if !d.enoughSats kept then d
      else
        let d := d.solved e bands
        if state = 2 then d else d.judgeEpoch e epoch bands kept

/-! ### The post port (R311, R312, R335) -/

/-- A record has missed its S0, or more than one jump (R311, R312). -/
def recordLate (d : Dev) : Dev := (d.inc Dict.g0LateCount).post 77 []

/-- G0_RECORD_POST (R311): the formed record reaches the post port; after the S0 of frame 0 of the next second it is
discarded as late. -/
def postRecord (d : Dev) : Dev :=
  match d.g0Formed with
  | none => d
  | some r =>
    let d := { d with g0Formed := none }
    if r.epoch < d.second then d.recordLate else { d with g0Posted := some r }

/-- S0 consumes the posted record (R312, R335): it becomes G0's measurement, with its UTC data, once referred to the
timescale in force. -/
def consumeRecord (d : Dev) : Dev :=
  match d.g0Posted with
  | none => d
  | some r =>
    -- it waits for the S0 of frame 0 of the next second
    if d.frame ≠ 0 ∧ d.second ≤ r.epoch then d else
    let d := { d with g0Posted := none }
    let jumps := (d.get Dict.discontinuityCount + 2 ^ 32 - r.disc) % 2 ^ 32
    if 1 < jumps then d.recordLate
    else
      let shift := if jumps = 1 then d.getI Dict.lastDiscontinuitySize else 0
      let d := (d.set Dict.g0Epoch (r.epoch * 2 ^ 48)).set Dict.g0Flags r.flags
      if !bit r.flags 15 then d
      else
        let x := r.offset + shift
        let d := (d.setI Dict.g0Offset x).set Dict.g0RandomSigma (min r.sigma 0xFFFFFFFF)
        let d := (d.set Dict.g0SystematicBound r.bound).set Dict.g0SatsUsed r.sats
        let d := (d.set Dict.g0SystemsUsed r.systems).setI Dict.g0UtcOffset r.utcOffset
        let d := (d.set Dict.g0LeapTime (r.leapTime * 2 ^ 48)).set Dict.g0LeapKind r.leapKind
        let d := forUnits 4 (fun k d => d.setI (Dict.g0SystemBias k) (r.biases.getD k 0)) d
        let d := (d.set (Dict.refInputBound 16) r.bound).set (Dict.refQlRaw 16) r.flags
        let d := (d.set (Hid.utcReport 16) (utcCode r.utcOffset)).set (Hid.utcLeapKind 16) r.leapKind
        let d := d.set (Hid.utcLeapTime 16) (r.leapTime * 2 ^ 48)
        let t := (((r.epoch * secondUnits : Nat) : Int) + shift).toNat
        { d with measures := d.measures ++ [⟨16, (x : Rat), t, bit r.flags 14, min r.sigma 0xFFFFFFFF, false⟩] }

/-! ### Commands (R301, R336) -/

/-- GnssRelease 0x01. -/
def gnssRelease (d : Dev) : Dev := d.setB Hid.gnssReleaseWanted true

/-- GnssSurveyRestart 0x01. -/
def gnssSurveyRestart (d : Dev) : Dev := d.setB Hid.gnssRestartWanted true

/-- GnssBankRelease: a Removed bank returns to service. -/
def bankRelease (d : Dev) (b : Nat) : Dev := d.restore (.bank b)

/-- GsSampleRate is within R294. -/
def sampleRateOk (rate : Nat) : Bool := decide (24000000 ≤ rate ∧ rate ≤ 81920000) && rate % 1000 == 0

/-- |GsIfFrequency| ≤ GsSampleRate / 2 − H (R294). -/
def ifFrequencyOk (b rate : Nat) (hz : Int) : Bool :=
  decide (hz.natAbs + (if b = 0 then 4092000 else 10230000) ≤ rate / 2)

end Dev

end Sys2Proof.Machine
end

