-- ==== Sys2Proof/Machine/Keys.lean ====
section
/-!
DEFINITION. Sessions' end, the key store, the derivation tree, dispatch checks and the life cycle (R472 to R507).
-/
namespace Sys2Proof.Machine

/-- Octets `o` to `o + n - 1` of a `size`-octet value (R12). -/
def fieldAt (size v o n : Nat) : Nat := v / 256 ^ (size - o - n) % 256 ^ n

/-- The parsed specification of a working slot (R486). -/
structure SlotSpec where
  kind : Nat
  usage : Nat
  parent : Nat
  expiryKind : Nat
  limit : Nat
  notAfter : Nat
  label : List Nat
  context : List Nat

/-- The fields of a specification value (R486). -/
def SlotSpec.ofValue (v : Nat) : SlotSpec :=
  let f := fieldAt 96 v
  ⟨f 0 1, f 1 1, f 2 2, f 4 1, f 8 8, f 16 12, (octetsOf 24 (f 32 24)).take (f 5 1), (octetsOf 32 (f 56 32)).take (f 6 1)⟩

/-- Permitted usage of a key kind (R475, R476). -/
def permittedUsage (kind : Nat) : Nat :=
  match kind with
  | 1 => 0x02
  | 2 => 0x01
  | 3 => 0x0C
  | 4 => 0x30
  | 5 => 0x04
  | 6 => 0x40
  | 7 => 0x0C
  | _ => 0

/-- A usage mask is a non-empty subset of what a kind permits (R475). -/
def usageOk (kind usage : Nat) : Bool := usage != 0 && (List.range 8).all fun i => !bit usage i || bit (permittedUsage kind) i

/-- Octets of material of a kind at an index (R475). -/
def materialLength (kind index : Nat) : Nat := if kind = 6 ∧ index = 8 then 64 else 32

/-- Kind and index agree (R474). -/
def roleOk (index kind : Nat) : Bool :=
  if index ≤ 5 then kind == 1
  else if index = 6 then false
  else if index = 7 ∨ index = 8 then kind == 6
  else decide (index < 64) && [2, 3, 4, 5, 7].contains kind

/-- KeyCheck of material (R487, R505). -/
def keyCheckOf (kind index material : Nat) : Nat :=
  if kind = 6 then sha256 (octetsOf (materialLength kind index) material) / 2 ^ 224 % 2 ^ 32
  else hmacSha256 material [0x5A, 0x54, 0x37, 0x34, 0x34, 0x30, 0x2D, 0x4B, 0x43, 0x56] / 2 ^ 224 % 2 ^ 32

namespace Dev

/-! ### Sessions -/

/-- SessionState of a slot (R96 and its layout). -/
def showSession (d : Dev) (slot : Nat) : Dev :=
  match d.sessions.find? fun s => s.slot == slot with
  | some s =>
    d.set (Dict.sessionState slot) (s.id * 2 ^ 16 + (if s.onSpi then 2 ^ 14 else 0) + s.level * 2 ^ 12 +
      (if s.unauthenticated then 2 ^ 11 else 0) + (if s.isOpen then 2 ^ 10 else 2 ^ 9) + min s.subs.length 15 * 2 ^ 5)
  | none => d.clear (Dict.sessionState slot)

/-- A session replaces the one in its slot. -/
def putSession (d : Dev) (s : Session) : Dev :=
  let d := { d with sessions := s :: d.sessions.filter fun t => t.slot != s.slot }
  d.showSession s.slot

/-- The binding of the exception path ends (R407). -/
def unbindException (d : Dev) : Dev := d.clearAll [Dict.excBoundAddress, Dict.excBoundPort, Hid.excSession]

/-- A session ends with its subscriptions and its binding of the exception path (R76, R407). -/
def endSession (d : Dev) (slot : Nat) : Dev :=
  match d.sessions.find? fun s => s.slot == slot with
  | some s =>
    let d := { d with sessions := d.sessions.filter fun t => t.slot != slot }
    let d := if d.get Hid.excSession = s.id then d.unbindException else d
    d.showSession slot
  | none => d

/-- Every session that satisfies a test ends. -/
def endSessions (d : Dev) (p : Session → Bool) : Dev := ((d.sessions.filter p).map (·.slot)).foldl endSession d

/-! ### Records and their published entries -/

/-- The stored key at an index. -/
def key (d : Dev) (i : Nat) : Option KeyRec := d.keys.find? fun k => k.index == i

/-- The entries of a stored key (R505). -/
def showKey (d : Dev) (i : Nat) : Dev :=
  let live := d.key i
  let shown := match live with
    | some k => some k
    | none => d.stagedKeys.find? fun k => k.index == i
  match shown with
  | some k =>
    let d := ((d.set (Dict.keyKind i) k.kind).set (Dict.keyUsage i) k.usage).set (Dict.keyState i) k.state
    -- a staged key has no generation of its own: the index keeps what it has (R496)
    let d := if live.isSome then d.set (Dict.keyGeneration i) k.generation else d
    let d := (d.set (Dict.keyUseCount i) k.uses).set (Dict.keyUseLimit i) k.limit
    let d := ((d.set (Dict.keyUseCeiling i) k.ceiling).set (Dict.keyExpiryKind i) k.expiryKind).set (Dict.keyNotAfter i) k.notAfter
    let check := if k.state = 1 ∨ k.state = 4 then keyCheckOf k.kind i k.material else 0
    (d.set (Dict.keyLoadTime i) k.loadTime).set (Dict.keyCheck i) check
  | none =>
    d.clearAll [Dict.keyKind i, Dict.keyUsage i, Dict.keyState i, Dict.keyUseCount i, Dict.keyUseLimit i,
      Dict.keyUseCeiling i, Dict.keyExpiryKind i, Dict.keyNotAfter i, Dict.keyLoadTime i, Dict.keyCheck i]

/-- A stored key takes a record. -/
def putKey (d : Dev) (k : KeyRec) : Dev :=
  { d with keys := k :: d.keys.filter fun x => x.index != k.index }.showKey k.index

/-- A stored key is gone; its generation stays published. -/
def dropKey (d : Dev) (i : Nat) (generation : Nat) : Dev :=
  ({ d with keys := d.keys.filter fun x => x.index != i }.showKey i).set (Dict.keyGeneration i) generation

/-- The specification entry of a working slot (R486). -/
def specEntry (n : Nat) : Entry := Dict.keySlotSpec (n / 128) (n % 128)

/-- The specification of a slot in force; nothing when its Parent is 0xFFFF. -/
def slotSpec (d : Dev) (n : Nat) : Option SlotSpec :=
  let s := SlotSpec.ofValue (d.get (specEntry n))
  if s.parent = 0xFFFF then none else some s

/-- The working slot's record. -/
def slotRec (d : Dev) (n : Nat) : WorkSlot := (d.slots.find? fun s => s.slot == n).getD ⟨n, 0, 0, 0, 0, 0, 0, 0, 0, [], 0⟩

/-- WorkingSlotsValid (R504). -/
def countSlots (d : Dev) : Dev := d.set Dict.workingSlotsValid (d.slots.filter fun s => s.state == 2).length

/-- A working slot takes a record, and its status entry shows it (R487). -/
def putSlot (d : Dev) (s : WorkSlot) : Dev :=
  let d := { d with slots := s :: d.slots.filter fun x => x.slot != s.slot }
  let os := [s.state, s.cause, s.depth, 0] ++ octetsOf 4 s.generation ++ octetsOf 8 s.uses ++ octetsOf 12 s.derivedAt ++
    octetsOf 4 (if s.state = 2 then s.check else 0)
  (d.set (Dict.keySlotStatus (s.slot / 128) (s.slot % 128)) (ofOctets os)).countSlots

/-! ### The tree (R485, R488, R496, R497) -/

/-- A node's parent: nothing for a stored key. -/
def nodeParent (d : Dev) (node : Nat) : Option Nat := if node < 0x8000 then none else (d.slotSpec (node - 0x8000)).map (·.parent)

/-- The ancestors of a node, nearest first; at most four (R473). -/
def ancestors (d : Dev) (node : Nat) : Nat → List Nat
  | 0 => []
  | fuel + 1 => match d.nodeParent node with
    | some p => p :: d.ancestors p fuel
    | none => []

/-- The generation of a node. -/
def nodeGeneration (d : Dev) (node : Nat) : Nat :=
  if node < 0x8000 then d.get (Dict.keyGeneration node) else (d.slotRec (node - 0x8000)).generation

/-- The node by itself is Valid; a slot in derivation counts where `deriving_` (R488), unless its derivation still waits. -/
def nodeValid (d : Dev) (node : Nat) (deriving_ : Bool) : Bool :=
  if node < 0x8000 then (d.key node).any fun k => k.state == 1
  else
    let s := (d.slotRec (node - 0x8000)).state
    s == 2 || (deriving_ && s == 1 && !(d.slotRec (node - 0x8000)).lineage.isEmpty)

/-- The node and its ancestors are Valid, with the generations held at its derivation (R473, R497). -/
def nodeUsable (d : Dev) (node : Nat) : Bool :=
  d.nodeValid node false && (d.ancestors node 5).all (fun a => d.nodeValid a false) &&
    (decide (node < 0x8000) || (d.slotRec (node - 0x8000)).lineage.all fun p => d.nodeGeneration p.1 == p.2)

/-- The material of a node. -/
def nodeMaterial (d : Dev) (node : Nat) : Nat :=
  if node < 0x8000 then ((d.key node).map (·.material)).getD 0 else (d.slotRec (node - 0x8000)).material

/-- The slots that consumer entries name (R486, R496). -/
def consumers (d : Dev) : List Nat :=
  (List.range 32).flatMap (fun s => [d.get (Dict.saSlotCurrent s), d.get (Dict.saSlotPrevious s)]) ++
    [d.get Dict.ntsSlotCurrent, d.get Dict.ntsSlotPrevious, d.get Dict.keyAuditSlot]

/-- Source 108 for a stored key or a slot a consumer names (R496). -/
def announceInvalid (d : Dev) (node cause generation : Nat) : Dev :=
  if node < 0x8000 ∨ d.consumers.contains (node - 0x8000) then d.post 108 [(2, node), (1, cause), (4, generation)] else d

/-- A descendant becomes Stale (R496). -/
def makeStale (d : Dev) (n cause : Nat) : Dev :=
  let s := d.slotRec n
  if s.state = 0 ∨ s.state = 4 ∨ s.state = 5 then d
  else
    let g := (s.generation + 1) % 2 ^ 32
    -- a lost count stays one until the specification is written again (R491, R492)
    let cause := if s.state = 3 ∧ s.cause = 6 then 6 else cause
    let d := d.putSlot { s with state := 3, cause := cause, generation := g, material := 0 }
    (d.inc Dict.keyStaleCount).announceInvalid (0x8000 + n) cause g

/-- Slots below a node: its children, and the rest. -/
def descendants (d : Dev) (node : Nat) : List Nat × List Nat :=
  let all := (d.slots.map (·.slot)).filter fun n => (d.ancestors (0x8000 + n) 5).contains node
  (all.filter fun n => d.nodeParent (0x8000 + n) == some node, all.filter fun n => d.nodeParent (0x8000 + n) != some node)

/-- The descendants of an invalidated node become Stale: children with the cause given, the others with 0x05; all with
0x07 at a zeroisation (R496). -/
def staleBelow (d : Dev) (node cause : Nat) : Dev :=
  let (children, rest) := d.descendants node
  let d := children.foldl (fun d n => d.makeStale n cause) d
  rest.foldl (fun d n => d.makeStale n (if cause = 7 then 7 else 5)) d

/-- Slots in ancestor order: by depth. -/
def byDepth (d : Dev) (l : List Nat) : List Nat :=
  [1, 2, 3, 4].flatMap fun k => l.filter fun n => (d.ancestors (0x8000 + n) 5).length == k

/-! ### Use, expiry and invalidation (R489 to R496) -/

/-- A node's fields for its use: kind, usage, limit, expiry. -/
def nodeUse (d : Dev) (node : Nat) : Nat × Nat × Nat × Nat × Nat :=
  if node < 0x8000 then
    match d.key node with
    | some k => (k.kind, k.usage, k.limit, k.expiryKind, k.notAfter)
    | none => (0, 0, 0, 0, 0)
  else match d.slotSpec (node - 0x8000) with
    | some s => (s.kind, s.usage, s.limit, s.expiryKind, s.notAfter)
    | none => (0, 0, 0, 0, 0)

/-- The QOP sessions opened under a stored key (R499). -/
def underKey (index : Nat) (s : Session) : Bool := !s.unauthenticated && s.level + (if s.onSpi then 3 else 0) == index

/-- A node is invalidated to a state, its descendants with a cause (R496, R499): 2 or 4 Expired, 3 or 5 Exhausted, by
node. -/
def invalidate (d : Dev) (node : Nat) (expired : Bool) : Dev :=
  let g := (d.nodeGeneration node + 1) % 2 ^ 32
  let cause := if expired then 3 else 4
  let d :=
    if node < 0x8000 then
      match d.key node with
      | some k =>
        let d := d.putKey { k with state := if expired then 2 else 3, generation := g }
        -- an exhaustion falls inside a frame: its sessions end at the next frame start (R499)
        if 6 ≤ node then d
        else if expired then d.endSessions (underKey node)
        else d.set Hid.keyEnds (setBit (d.get Hid.keyEnds) node)
      | none => d
    else
      let s := d.slotRec (node - 0x8000)
      d.putSlot { s with state := if expired then 4 else 5, generation := g, material := 0 }
  (d.staleBelow node cause).announceInvalid node cause g

/-- A use is counted; the one that reaches UseLimit invalidates the key as Exhausted (R489), and a stored key near its
ceiling asks for a new one (R490). -/
def countUse (d : Dev) (node : Nat) : Dev :=
  let (_, _, limit, _, _) := d.nodeUse node
  if node < 0x8000 then
    match d.key node with
    | some k =>
      let n := k.uses + 1
      let d := d.putKey { k with uses := n }
      let d := if limit ≠ 0 ∧ n + 32 = k.ceiling ∧ k.ceiling < limit then
          { d with keyJobs := d.keyJobs ++ [KeyJob.ceiling node (min limit (n + 96))] } else d
      if limit ≠ 0 ∧ n = limit then
        let d := { d with keyJobs := d.keyJobs ++ [KeyJob.ceiling node limit] }
        d.invalidate node false
      else d
    | none => d
  else
    let s := d.slotRec (node - 0x8000)
    let d := d.putSlot { s with uses := s.uses + 1 }
    if limit ≠ 0 ∧ s.uses + 1 = limit then d.invalidate node false else d

/-- A stored key's next use would pass its committed ceiling and waits for the commit (R490). -/
def mustWait (d : Dev) (node : Nat) : Bool :=
  decide (node < 64) && (d.key node).any fun k => k.limit != 0 && decide (k.ceiling ≤ k.uses)

/-! ### Derivation (R485, R488) -/

/-- The slot's derivation waits for a committed ceiling of its parent (R490), or for a parent that waits so. -/
def slotWaits (d : Dev) (node : Nat) : Bool :=
  decide (0x8000 ≤ node) && (d.slotRec (node - 0x8000)).state == 1 && (d.slotRec (node - 0x8000)).lineage.isEmpty

/-- The StaleCause of a slot that is not derived, from what its parent is (R487, R496; DEDUCED, log entry 81). -/
def staleReason (d : Dev) (parent : Nat) : Nat :=
  let state := if parent < 0x8000 then (match d.key parent with | some k => k.state | none => 0)
    else match (d.slotRec (parent - 0x8000)).state with
      | 4 => 2
      | 5 => 3
      | _ => 1
  if state = 0 then 2 else if state = 2 then 3 else if state = 3 then 4 else 5

/-- The slot may be derived again (R488, R491, R493): Stale, and not for a lost count. -/
def rederivable (d : Dev) (n : Nat) : Bool := (d.slotRec n).state == 3 && (d.slotRec n).cause != 6

/-- A slot is derived in this frame, with class 1 work (R460, R485, R488): its material and lineage now, Valid from the next frame
start. The derivation is a dispatch under the parent (R476, R489, R490; DEDUCED, log entry 114): refused without the Derive usage,
counted, and kept waiting at the ceiling in force. -/
def derive (d : Dev) (n : Nat) : Dev :=
  match d.slotSpec n with
  | none => d
  | some sp =>
    let s := d.slotRec n
    let lineage := (d.ancestors (0x8000 + n) 5).map fun a => (a, d.nodeGeneration a)
    let stale : WorkSlot := { s with state := 3, cause := if s.state = 3 then s.cause else d.staleReason sp.parent,
                                     depth := lineage.length, material := 0, lineage := lineage }
    let waiting : WorkSlot := { s with state := 1, cause := 0, depth := lineage.length, derivedAt := 0, material := 0, lineage := [] }
    if d.slotWaits sp.parent then d.putSlot waiting
    else if !d.nodeValid sp.parent true then d.putSlot stale
    else if !bit (d.nodeUse sp.parent).2.1 0 then
      (((d.putSlot stale).inc Dict.keyRefusedCount).post 110 [(2, sp.parent), (1, 1)])
    else if d.mustWait sp.parent then d.putSlot waiting
    else
      let material := kdf (d.nodeMaterial sp.parent) sp.label (sp.kind :: sp.context) 256 % 2 ^ 256
      let d := d.classOne (10 + sp.label.length + sp.context.length)
      (d.putSlot ⟨n, 1, 0, lineage.length, s.generation, s.uses, 0, keyCheckOf sp.kind n material, material, lineage, s.warned⟩).countUse
        sp.parent

/-- Slots derived in the frame before are Valid from this frame start (R488); those that waited are tried again. -/
def finishDerivations (d : Dev) : Dev :=
  (d.byDepth ((d.slots.filter fun s => s.state == 1).map (·.slot))).foldl (fun d n =>
    if d.slotWaits (0x8000 + n) then d.derive n
    else d.putSlot { d.slotRec n with state := 2, derivedAt := toTime96 d.view.frameStart }) d

/-- A new specification takes effect at its S0 (R488, R496): the slot is invalidated with its descendants and derived. -/
def applySlotSpec (d : Dev) (n : Nat) : Dev :=
  let s := d.slotRec n
  let g := (s.generation + 1) % 2 ^ 32
  let had := s.state != 0
  let d := d.staleBelow (0x8000 + n) 1
  let d := if had then d.announceInvalid (0x8000 + n) 1 g else d
  let fresh : WorkSlot := ⟨n, 0, 0, 0, if had then g else s.generation, 0, 0, 0, 0, [], 0⟩
  match d.slotSpec n with
  | none => d.putSlot fresh
  | some _ => (d.putSlot fresh).derive n

/-- The expiry of a key has come and its invalidation is not yet done (R493). -/
def expiryDue (d : Dev) (node : Nat) : Bool :=
  let (_, _, _, kind, notAfter) := d.nodeUse node
  d.nodeValid node true && kind == 1 && decide (ofTime96 notAfter ≤ d.view.frameStart)

/-- KEY_EXPIRY (R493): the timescale has reached a key's NotAfter; a stored key's expiry is committed. -/
def keyExpiry (d : Dev) (node : Nat) : Dev :=
  if !d.expiryDue node then d
  else
    let d := d.invalidate node true
    if node < 0x8000 then { d with keyJobs := d.keyJobs ++ [.expire node] } else d

/-- Warnings of R495: NotAfter within KeyWarnTime of a Valid key, and seven-eighths of UseLimit, once each. -/
def keyWarning (d : Dev) (node : Nat) : Dev :=
  let (_, _, limit, kind, notAfter) := d.nodeUse node
  let (uses, warned) :=
    if node < 0x8000 then ((d.key node).map fun k => (k.uses, k.warned)).getD (0, 3)
    else ((d.slotRec (node - 0x8000)).uses, (d.slotRec (node - 0x8000)).warned)
  let near := kind == 1 && d.nodeValid node false && decide (ofTime96 notAfter ≤ d.view.frameStart + d.get Dict.keyWarnTime * secondUnits)
  let used := limit != 0 && decide (limit * 7 < uses * 8)
  let fresh := (if near && !bit warned 0 then 1 else 0) + (if used && !bit warned 1 then 2 else 0)
  if fresh = 0 ∨ (!d.nodeValid node false ∧ uses < limit) then d
  else
    let d :=
      if node < 0x8000 then (match d.key node with | some k => d.putKey { k with warned := warned + fresh } | none => d)
      else
        let s := d.slotRec (node - 0x8000)
        d.putSlot { s with warned := warned + fresh }
    let d := if bit fresh 0 then d.post 111 [(2, node), (12, notAfter)] else d
    if bit fresh 1 then d.post 111 [(2, node), (8, uses)] else d

end Dev

/-- What the check at a dispatch answers (R464, R473, R476, R490). -/
inductive Dispatch where
  | key (material : Nat)
  | refused
  | wait
  deriving DecidableEq, Repr

namespace Dev

/-- A dispatch under a node for a use, a bit of R476 (R464, R473, R476, R489). -/
def dispatch (d : Dev) (node usage : Nat) : Dev × Dispatch :=
  let stale (d : Dev) : Dev := (d.inc Dict.keyStaleDrops).post 104 [(2, node), (4, d.nodeGeneration node)]
  if !d.nodeUsable node then (stale d, .refused)
  else if !bit (d.nodeUse node).2.1 usage then
    (stale ((d.inc Dict.keyRefusedCount).post 110 [(2, node), (1, 2 ^ usage)]), .refused)
  else if d.mustWait node then (d, .wait)
  else
    let m := d.nodeMaterial node
    (d.countUse node, .key m)

/-! ### Commits (R479 to R483) -/

/-- A key store command is under way (R483). -/
def keyBusy (d : Dev) : Bool := [1, 2, 4].contains (d.get Dict.keyStoreStatus)

/-- The generation of a key just loaded: one more where it replaces another, else as the index had it (R496). -/
def loadedGeneration (d : Dev) (i : Nat) : Nat := (d.nodeGeneration i + (if (d.key i).isSome then 1 else 0)) % 2 ^ 32

/-- The stored keys after a job (R480, R500). -/
def keysAfter (d : Dev) (job : KeyJob) : List KeyRec :=
  match job with
  | .load k _ => { k with generation := d.loadedGeneration k.index } :: d.keys.filter fun x => x.index != k.index
  | .delete i => d.keys.filter fun x => x.index != i
  | .ceiling i v => d.keys.map fun x => if x.index = i then { x with ceiling := v } else x
  | .expire i => d.keys.map fun x => if x.index = i then { x with state := 2 } else x
  | .lifeCycle 2 => d.stagedKeys.map fun k => { k with state := 1, generation := d.loadedGeneration k.index }
  | .lifeCycle _ => []

/-- The generations of the records that a job leaves Empty (R480, R496): a deleted or zeroised key's is one more. -/
def emptyAfter (d : Dev) (job : KeyJob) : List (Nat × Nat) :=
  let live := d.keysAfter job
  (List.range 64).filterMap fun i =>
    let g := d.loadedGeneration i
    if live.any (fun k => k.index == i) || g == 0 then none else some (i, g)

/-- The life-cycle state after a job. -/
def lifeCycleAfter (d : Dev) (job : KeyJob) : Nat :=
  match job with
  | .lifeCycle s => s
  | _ => d.lifeCycle

/-- The next waiting job starts its commit, paced 1 s after the last (R483). A supply episode defers it (R92). -/
def startKeyCommit (d : Dev) : Dev :=
  match d.keyCommit, d.keyJobs with
  | none, job :: rest =>
    let done := d.get Hid.keyDone
    if done ≠ 0 ∧ d.view.frames + 1 < done + framesPerSecond then d.set Dict.keyStoreStatus 4
    else
      let image : KeyImage := ⟨(d.get Hid.keyPosition + 1) % 32, d.get Dict.keyStoreGeneration + 1, false, d.lifeCycleAfter job, d.keysAfter job,
        d.emptyAfter job⟩
      let d := { d with keyCommit := some (image, job), keyJobs := rest }
      let d := d.set Hid.nvWanted (setBit (d.get Hid.nvWanted) 1)
      d.set Dict.keyStoreStatus (if d.is Hid.supplyHold then 2 else 1)
  | _, _ => d

/-- KEY_STORE_PACING_END (R483). -/
def pacingEnd (d : Dev) : Dev := if d.get Dict.keyStoreStatus = 4 then d.startKeyCommit else d

/-- The material that a commit replaced, deleted or invalidated is overwritten in the other positions (R481, R500,
R501). -/
def scrubImages (d : Dev) (job : KeyJob) : List KeyImage :=
  let gone (k : KeyRec) : Bool :=
    match job with
    | .load n _ => k.index == n.index
    | .delete i => k.index == i
    | .expire i => k.index == i
    | .ceiling _ _ => false
    | .lifeCycle _ => true
  d.images.map fun i => { i with keys := i.keys.filter fun k => !gone k }

/-- KEY_STORE_COMMIT_DONE for an image read back (R480, R482): current when its CRC checks, its effect at the next frame
start; else source 109, whose kind of fault has no code here (R722, DESIGN CHOICE, log entry 35). -/
def keyCommitDone (d : Dev) (ok : Bool) : Dev :=
  match d.keyCommit with
  | none => d
  | some (image, job) =>
    if !d.passHeld 0 ∨ d.get Dict.keyStoreStatus = 2 then d
    else
      let d := d.set Hid.nvWanted (clearBit (d.get Hid.nvWanted) 1)
      let d := ({ d with keyCommit := none }).set Hid.keyDone (d.view.frames + 1)
      if !ok then
        let d := { d with images := d.images.filter fun i => i.position != image.position }
        (d.set Dict.keyStoreStatus 3).post 109 []
      else
        let image := { image with valid := true }
        let others := (d.scrubImages job).filter fun i => i.position != image.position
        let others := if image.lifeCycle = 4 then [] else others
        let d := { d with images := image :: others, keyEffect := some job }
        let d := (d.set Hid.keyPosition image.position).set Dict.keyStoreGeneration image.generation
        ((d.inc Dict.keyStoreCommits).set Dict.keyStoreStatus 0).startKeyCommit

/-- Zeroisation of everything derived or received (R5, R501): slots, session keys, staged set, a received OSNMA key. -/
def zeroise (d : Dev) : Dev :=
  let d := d.slots.foldl (fun d s => d.makeStale s.slot 7) d
  let staged := d.stagedKeys.map (·.index)
  let d := staged.foldl showKey { d with stagedKeys := [], osnmaKey := none }
  d.endSessions fun _ => true

/-- The live keys take the contents of the image just committed (R496). -/
def loadKeys (d : Dev) (l : List KeyRec) : Dev :=
  let gone := d.keys.filter fun k => !l.any fun x => x.index == k.index
  let d := gone.foldl (fun d k => d.dropKey k.index ((k.generation + 1) % 2 ^ 32)) d
  l.foldl putKey d

/-- The life-cycle change at its frame start (R5, R78, R500, R501). -/
def changeLifeCycle (d : Dev) (state : Nat) (fresh : List KeyRec) : Dev :=
  let old := d.keys
  let d := old.foldl (fun d k =>
    (d.dropKey k.index ((k.generation + 1) % 2 ^ 32)).announceInvalid k.index 7 ((k.generation + 1) % 2 ^ 32)) d
  let d := d.zeroise
  let d := (fresh.foldl (fun d k => d.putKey { k with loadTime := toTime96 d.view.frameStart }) d).set Dict.lifeCycleState state
  if state = 0 then
    let d := { d with copyA := none, copyB := none, slots := [] }.clear Dict.auditLastMac
    (forUnits 1024 (fun n d => (d.clear (specEntry n)).clear (Dict.keySlotStatus (n / 128) (n % 128))) d).showStore
  else if state = 2 then (d.byDepth ((d.slots.map (·.slot)).filter d.rederivable)).foldl derive d
  else d

/-- The effect of a completed commit at the first frame start after its read-back (R480, R488, R496, R499). -/
def applyKeyEffect (d : Dev) : Dev :=
  match d.keyEffect with
  | none => d
  | some job =>
    let d := { d with keyEffect := none }
    match job with
    | .load k rederive =>
      let had := (d.key k.index).isSome
      let g := d.loadedGeneration k.index
      let below := (d.descendants k.index).1 ++ (d.descendants k.index).2
      let d := if had then (d.staleBelow k.index 1).announceInvalid k.index 1 g else d
      let d := d.putKey { k with state := 1, generation := g, uses := 0, loadTime := toTime96 d.view.frameStart }
      let d := if had && decide (k.index < 6) then d.endSessions (underKey k.index) else d
      -- a received OSNMA key serves until the store is updated (R319)
      let d := if k.index = 8 then { d with osnmaKey := none } else d
      if rederive then (d.byDepth (below.filter d.rederivable)).foldl derive d else d
    | .delete i =>
      let g := (d.nodeGeneration i + 1) % 2 ^ 32
      let d := ((d.staleBelow i 2).dropKey i g).announceInvalid i 2 g
      if i < 6 then d.endSessions (underKey i) else d
    | .ceiling i v => match d.key i with
      | some k => d.putKey { k with ceiling := v }
      | none => d
    | .expire _ => d
    | .lifeCycle s =>
      let fresh := ((d.images.find? fun i => i.position == d.get Hid.keyPosition).map (·.keys)).getD []
      d.changeLifeCycle s fresh

/-! ### Commands (R477 to R479, R488, R500) -/

/-- The record a KeyLoad value describes (R478). -/
def keyOfValue (v : Nat) : KeyRec :=
  let f := fieldAt 96 v
  let len := materialLength (f 1 1) (f 0 1)
  ⟨f 0 1, f 1 1, f 2 1, 4, 0, 0, f 8 8, min 96 (f 8 8), f 3 1, f 16 12, 0, f 32 64 / 256 ^ (64 - len), 0⟩

/-- A KeyLoad value is in range (R17, R474, R475, R478). -/
def keyLoadOk (d : Dev) (v : Nat) : Bool :=
  let f := fieldAt 96 v
  roleOk (f 0 1) (f 1 1) && time96Ok (f 16 12) && f 4 1 == materialLength (f 1 1) (f 0 1) && usageOk (f 1 1) (f 2 1) && decide (f 3 1 ≤ 2) &&
    (f 3 1 != 1 || decide (d.view.frameStart + frameUnits < ofTime96 (f 16 12)))

/-- KeyDelete names an occupied index other than 6 (R479). -/
def keyDeleteOk (d : Dev) (i : Nat) : Bool := decide (i < 64) && i != 6 && (d.key i).isSome

/-- Keys may be loaded or deleted in this life-cycle state (R477). -/
def keyStateOk (d : Dev) : Bool := [1, 2, 3].contains d.lifeCycle

/-- KEY_LOAD accepted (R479): staged in Provisioning, else a commit. -/
def keyLoad (d : Dev) (v : Nat) : Dev :=
  let k := keyOfValue v
  if d.lifeCycle = 1 then
    { d with stagedKeys := k :: d.stagedKeys.filter fun x => x.index != k.index }.showKey k.index
  else ({ d with keyJobs := .load k (bit (fieldAt 96 v 5 1) 0) :: d.keyJobs }).startKeyCommit

/-- KEY_DELETE accepted (R479). In Provisioning a staged key is removed from the set (DEDUCED, log entry 41). -/
def keyDelete (d : Dev) (i : Nat) : Dev :=
  if d.lifeCycle = 1 then { d with stagedKeys := d.stagedKeys.filter fun x => x.index != i }.showKey i
  else ({ d with keyJobs := .delete i :: d.keyJobs }).startKeyCommit

/-- KeyRederiveAll at the S0 after it (R488). -/
def rederiveAll (d : Dev) : Dev :=
  let held := d.slots.filter fun s => s.state == 3 && s.cause != 6
  (d.byDepth (held.map (·.slot))).foldl (fun d n =>
    match d.slotSpec n with
    | some sp => if d.nodeValid sp.parent true then d.derive n else d
    | none => d) (d.setB Hid.rederiveWanted false)

/-- A specification value is in range (R17, R475, R486). -/
def slotSpecOk (d : Dev) (n v : Nat) : Bool :=
  let sp := SlotSpec.ofValue v
  let f := fieldAt 96 v
  let parentKind := (d.nodeUse sp.parent).1
  let above := sp.parent :: d.ancestors sp.parent 5
  time96Ok (f 16 12) && (sp.parent == 0xFFFF ||
    (sp.kind != 1 && sp.kind != 6 && usageOk sp.kind sp.usage && decide (1 ≤ f 5 1 ∧ f 5 1 ≤ 24) && decide (f 6 1 ≤ 32) &&
      (decide (sp.parent < 64) || decide (0x8000 ≤ sp.parent ∧ sp.parent < 0x8000 + 1024)) && parentKind == 2 &&
      !above.contains (0x8000 + n) && decide (above.length ≤ 4)))

/-- A specification write conflicts (R486, R492): it changes the Kind of a slot in use, or repeats the Label and Context
of a slot whose count was lost. -/
def slotSpecConflict (d : Dev) (n v : Nat) : Bool :=
  let new := SlotSpec.ofValue v
  let old := SlotSpec.ofValue (d.get (specEntry n))
  (d.consumers.contains n && new.kind != old.kind) ||
    ((d.slotRec n).state == 3 && (d.slotRec n).cause == 6 && new.label == old.label && new.context == old.context)

/-- A LifeCycleRequest is among the listed ones (R500). -/
def lifeCycleOk (d : Dev) (toward : Nat) : Bool :=
  match d.lifeCycle, toward with
  | 0, 1 => true
  | 1, 2 => d.stagedKeys.any fun k => k.index == 5
  | 1, 0 => true
  | 2, 3 => true
  | 3, 1 => true
  | 4, _ => false
  | _, 4 => true
  | _, _ => false

/-- LIFE_CYCLE_TO_… accepted (R500): one commit. -/
def lifeCycleRequest (d : Dev) (toward : Nat) : Dev :=
  ({ d with keyJobs := .lifeCycle toward :: d.keyJobs }).startKeyCommit

/-- The commit in hand changes the life-cycle state. -/
def lifeCycleCommit (d : Dev) : Bool :=
  match d.keyCommit with
  | some (_, .lifeCycle _) => true
  | _ => false

/-- LIFE_CYCLE_CHANGE (R500): the image with the new state has been read back. -/
def lifeCycleChange (d : Dev) (ok : Bool) : Dev := if d.lifeCycleCommit then d.keyCommitDone ok else d

/-! ### The frame's share and boot -/

/-- What a frame start does to the keys (R480, R488, R493, R495, R499): sessions of exhausted keys end, derivations of the frame before
are done, commits take effect, keys expire, warnings are raised. -/
def keyEdge (d : Dev) : Dev :=
  let d := forUnits 6 (fun i d => if bit (d.get Hid.keyEnds) i then d.endSessions (underKey i) else d) d
  let d := (d.clear Hid.keyEnds).finishDerivations.applyKeyEffect
  let nodes := d.keys.map (·.index) ++ d.slots.map fun s => 0x8000 + s.slot
  let d := nodes.foldl keyExpiry d
  nodes.foldl keyWarning d

/-- The keys in S0 (R483, R488): KeyRederiveAll, and a commit that may start. -/
def keyFrame (d : Dev) : Dev := (if d.is Hid.rederiveWanted then d.rederiveAll else d).startKeyCommit

/-- The current bank at boot (R484): the valid image with the highest generation. -/
def currentImage (d : Dev) : Option KeyImage :=
  d.images.foldl (fun a i => if i.valid then
    match a with
    | some b => if b.generation < i.generation then some i else a
    | none => some i else a) none

/-- The entries of stored keys show an empty store. -/
def hideKeys (d : Dev) : Dev := forUnits 64 (fun i d => if d.get (Dict.keyState i) = 0 then d else d.showKey i) d

/-- Stored keys whose UseCount has resumed from the ceiling (R490): at UseLimit the key is Exhausted, below it a new ceiling
is committed (DEDUCED, log entry 114). -/
def resumeCeiling (d : Dev) (k : KeyRec) : Dev :=
  if k.limit = 0 ∨ k.state ≠ 1 then d
  else
    let d := { d with keyJobs := d.keyJobs ++ [KeyJob.ceiling k.index (min k.limit (k.ceiling + 96))] }
    if k.limit ≤ k.ceiling then d.invalidate k.index false else d

/-- The key store at boot (R482, R484, R488, R490, R491, R494), after a reset that lost the K state or kept it. -/
def bootKeys (d : Dev) (countsLost : Bool) : Dev :=
  let lost := d.is Hid.keyLost
  let d := (({ d with keys := [], stagedKeys := [], keyCommit := none, keyEffect := none, keyJobs := [] }).set Dict.keyStoreStatus
    (if lost then 3 else 0)).setB Hid.keyLost false
  match d.currentImage with
  | none => ((d.hideKeys.set Dict.lifeCycleState 1).set Dict.keyStoreBootStatus 2).post 109 [(1, 2)]
  | some i =>
    let d := i.empties.foldl (fun d p => d.set (Dict.keyGeneration p.1) p.2) d.hideKeys
    let older := d.images.any fun x => !x.valid && decide (i.generation < x.generation)
    let d := if older && !lost then (d.set Dict.keyStoreBootStatus 1).post 109 [(1, 1)] else d
    let d := ((d.set Hid.keyPosition i.position).set Dict.keyStoreGeneration i.generation).set Dict.lifeCycleState i.lifeCycle
    let d := i.keys.foldl (fun d k => d.putKey { k with uses := if k.limit = 0 then 0 else k.ceiling, warned := 0 }) d
    -- a key that expires at the reset is committed as Expired before any derivation (R494)
    let gone := i.keys.filter fun k => k.expiryKind == 2 && k.state == 1
    let d := gone.foldl (fun d k => { d.invalidate k.index true with keyJobs := d.keyJobs ++ [.expire k.index] }) d
    let d := (i.keys.filter fun k => !(k.expiryKind == 2 && k.state == 1)).foldl resumeCeiling d
    let specified := (List.range 1024).filter fun n => (d.slotSpec n).isSome
    let d := (d.byDepth specified).foldl (fun d n =>
      match d.slotSpec n with
      | none => d
      | some sp =>
        let s := d.slotRec n
        if s.state = 4 ∨ s.state = 5 then d.putSlot s
        else if sp.expiryKind = 2 then d.invalidate (0x8000 + n) true
        else if (countsLost && sp.limit != 0) || (s.state == 3 && s.cause == 6) then
          d.putSlot { s with state := 3, cause := 6, material := 0, uses := if countsLost then 0 else s.uses }
        else d.derive n) d
    -- boot derivations are done before the first frame of time service (R488)
    d.finishDerivations

end Dev

end Sys2Proof.Machine
end

