-- ==== Sys2Proof/Machine/Audit.lean ====
section
/-!
DEFINITION. The audit trail: records fixed, keyed, stored, lost, checkpointed (R366 to R371).
-/
namespace Sys2Proof.Machine
namespace Dev

/-- The node that keys audit records (R504). -/
def auditNode (d : Dev) : Nat := 0x8000 + d.get Dict.keyAuditSlot

/-- The Sequence that the record of the current second will carry (R364, R366, R369). -/
def nextSequence (d : Dev) : Nat :=
  let last := if d.is Hid.auditRestart then ((d.nvAudit.map (·.1)).getD 0) + 65535 else d.get Dict.auditSequence
  (last + 1) % 2 ^ 32

/-- The record of the second just left is fixed in S5 (R366, R369): it waits, with its flags and contents, for its Mac.
A restart record takes the checkpointed Mac as its chaining input. -/
def auditFix (d : Dev) : Dev :=
  match d.auditDraft with
  | none => d
  | some (flags, body) =>
    let d := { d with auditDraft := none }
    if !d.is Dict.auditEnable then d
    else
      let restart := d.is Hid.auditRestart
      let seq := d.nextSequence
      let d := if restart then
          let c := d.nvAudit.getD (0, 0, 0)
          ((d.set Dict.auditLastMac c.2.2).set Hid.auditKeyed c.1).set Hid.auditKeyedGen c.2.1
        else d
      let d := (d.set Dict.auditSequence seq).setB Hid.auditRestart false
      let d := d.set Dict.auditKeyGeneration (d.nodeGeneration d.auditNode)
      let record := ofOctets ([1, if restart then 2 else 1, flags, 0] ++ octetsOf 4 seq ++ octetsOf 44 body)
      { d with auditWaiting := d.auditWaiting ++ [(d.view.frames, record)] }

/-- A stored record enters the ring (R370): the oldest beyond the size leave. -/
def archiveRecord (d : Dev) (seq record : Nat) : Dev :=
  let size := d.get Dict.auditArchiveDays * 86400
  let all := d.archive ++ [(seq, record)]
  let kept := all.drop (all.length - size)
  let d := { d with archive := kept }
  (d.set Dict.auditOldest ((kept.head?.map (·.1)).getD 0)).set Dict.auditLastRecord record

/-- AUDIT_RECORD_STORE (R366 to R368, R370): the oldest waiting record is keyed, or stored unkeyed, within 64 frames. -/
def auditStore (d : Dev) : Dev :=
  match d.auditWaiting with
  | [] => d
  | (frame, record) :: rest =>
    if 64 < d.framesSince frame ∨ !d.powered .crypt ∨ !d.powered .mem then d
    else
      let d := { d with auditWaiting := rest }
      let octets := octetsOf 52 record
      let seq := ofOctets ((octets.drop 4).take 4)
      let node := d.auditNode
      let gen := d.nodeGeneration node % 256
      let gap := seq != (d.get Hid.auditKeyed + 1) % 2 ^ 32
      let change := gen != d.get Hid.auditKeyedGen
      let flags := octets.getD 2 0 + (if gap then 2 else 0) + (if change then 1 else 0)
      let octets := octets.take 2 ++ [flags, gen] ++ octets.drop 4
      let (d, key) := if d.nodeUsable node then d.dispatch node 2 else (d, .refused)
      match key with
      | .key m =>
        let mac := hmacSha256 m (octetsOf 12 (d.get Dict.auditLastMac) ++ octets) / 2 ^ 160 % 2 ^ 96
        let d := (((d.classOne 64).set Dict.auditLastMac mac).set Hid.auditKeyed seq).set Hid.auditKeyedGen gen
        d.archiveRecord seq (ofOctets (octets ++ octetsOf 12 mac))
      | _ =>
        let d := (d.inc Dict.auditUnkeyedCount).post 82 [(4, seq)]
        d.archiveRecord seq (ofOctets (octets ++ List.replicate 12 0))

/-- AUDIT_RECORD_LOST (R368): a record was not stored within 64 frames. -/
def auditLost (d : Dev) : Dev :=
  match d.auditWaiting with
  | [] => d
  | (frame, record) :: rest =>
    if d.framesSince frame ≤ 64 then d
    else
      let d := { d with auditWaiting := rest }
      (d.inc Dict.auditLostCount).post 82 [(4, ofOctets (((octetsOf 52 record).drop 4).take 4))]

/-- Each second counts toward the next checkpoint, which asks for the NvWrite pass when it is due (R369, R579). -/
def auditCheckpointFrame (d : Dev) : Dev :=
  if d.frame ≠ 0 then d
  else if d.get Hid.auditClock + 1 < d.get Dict.auditCheckpointInterval then d.inc Hid.auditClock
  else (d.set Hid.auditClock 0).set Hid.nvWanted (setBit (d.get Hid.nvWanted) 2)

/-- AUDIT_CHECKPOINT (R369): the last stored keyed record goes to the NV store while the NvWrite pass is held. -/
def auditCheckpoint (d : Dev) : Dev :=
  if !bit (d.get Hid.nvWanted) 2 || !d.passHeld 0 then d
  else
    let d := d.set Hid.nvWanted (clearBit (d.get Hid.nvWanted) 2)
    { d with nvAudit := some (d.get Hid.auditKeyed, d.get Hid.auditKeyedGen, d.get Dict.auditLastMac) }

/-- A record of the archive by Sequence, or zeros (R371). -/
def auditRecord (d : Dev) (seq : Nat) : Nat := ((d.archive.find? fun r => r.1 == seq).map (·.2)).getD 0

end Dev

end Sys2Proof.Machine
end

