-- ==== Sys2Proof/Machine/GnssAuth.lean ====
section
/-!
DEFINITION. OSNMA verification and trusted time (R316 to R322).
-/
namespace Sys2Proof.Machine
namespace Dev

/-- The OSNMA public key in use, as octets: the received one, else stored key 8 (R319). -/
def osnmaPublic (d : Dev) : Option (List Nat) :=
  match d.osnmaKey with
  | some k => some k.2
  | none => match d.key 8 with
    | some k => if k.state = 1 then some (octetsOf 64 k.material) else none
    | none => none

/-- GnssOsnmaState (R318, R319, R322, R334). -/
def showOsnma (d : Dev) : Dev :=
  let status := d.get Hid.osnmaStatus
  let state :=
    if d.get Dict.gnssState = 0 ∨ d.get Dict.gnssAuthPolicy = 0 then 0
    else if !d.osnmaTimeHolds then 6
    else if d.osnmaPublic.isNone then 1
    else if status = 3 then 5
    else if d.is Hid.osnmaBad then 4
    else if status = 0 then 2
    else 3
  d.set Dict.gnssOsnmaState state

/-- GnssOsnmaAuthSats, with source 75 when it leaves or reaches zero (R320). -/
def countAuthenticated (d : Dev) : Dev :=
  let n := (d.osnma.filter fun o => o.adkd == 0 && !o.failed && decide (80 ≤ o.bits)).length
  let d := (d.set Dict.gnssOsnmaAuthSats n).showOsnma
  if (n != 0) = d.is Hid.osnmaHad then d else (d.setB Hid.osnmaHad (n != 0)).post 75 [(1, d.get Dict.gnssOsnmaState)]

/-- A key or chain that the message revokes authenticates nothing from here on: what it authenticated is dropped, and a held public key
with it (R319). -/
def takeRevocation (d : Dev) (t : OsnmaTag) : Dev :=
  let mark (e : Entry) (x : Option Nat) (d : Dev) : Dev := match x with
    | some k => d.set e (setBit (d.get e) k)
    | none => d
  let d := mark Hid.revokedChains t.revokedChain (mark Hid.revokedKeys t.revokedKey d)
  let d := match d.osnmaKey with
    | some k => if bit (d.get Hid.revokedKeys) k.1 then { d with osnmaKey := none } else d
    | none => d
  { d with osnma := d.osnma.filter fun o => !bit (d.get Hid.revokedKeys) o.keyId && !bit (d.get Hid.revokedChains) o.chainId }

/-- OSNMA_TAG_VERIFY (R318 to R320, R322): the tag counts toward the data it covers, or discards them. A status of
don't use ends all authentication; a test status counts only with GnssOsnmaAcceptTest; a revocation ends it for the key or chain
named. -/
def osnmaVerify (d : Dev) (t : OsnmaTag) : Dev :=
  if d.get Dict.gnssState = 0 ∨ d.get Dict.gnssState = 6 then d
  else
    let d := (d.set Hid.osnmaStatus t.status).setB Hid.osnmaBad (!t.supported)
    let d := (d.set Dict.gnssOsnmaKeyId t.keyId).set Dict.gnssOsnmaChainId t.chainId
    let d := d.takeRevocation t
    let allowed := (t.status == 2 || (t.status == 1 && d.is Dict.gnssOsnmaAcceptTest)) &&
      !bit (d.get Hid.revokedKeys) t.keyId && !bit (d.get Hid.revokedChains) t.chainId
    let d := if t.status = 3 ∨ !t.supported ∨ (t.status = 1 ∧ !d.is Dict.gnssOsnmaAcceptTest) then { d with osnma := [] } else d
    match d.osnmaPublic with
    | none => d.countAuthenticated
    | some pub =>
      if !allowed || !t.supported || !d.osnmaTimeHolds then d.countAuthenticated
      else
        let mine (o : OsnmaData) : Bool := o.prn == t.prn && o.adkd == t.adkd
        let old := d.osnma.find? fun o => mine o && o.data == t.data
        let rest := d.osnma.filter fun o => !mine o
        if Config.osnmaTag pub t.teslaKey t.prn t.adkd t.data t.tag t.bits then
          let o := match old with
            | some o => { o with bits := o.bits + t.bits }
            | none => ⟨t.prn, t.adkd, t.data, t.bits, false, t.keyId, t.chainId⟩
          { d with osnma := o :: rest }.countAuthenticated
        else
          let d := { d with osnma := ⟨t.prn, t.adkd, t.data, 0, true, t.keyId, t.chainId⟩ :: rest }
          ((d.inc Dict.gnssOsnmaFailCount).post 74 [(1, t.prn), (1, t.adkd)]).countAuthenticated

/-- DSM_PKR_RECEIVE (R319, R473, R489): a new public key is held when its Merkle proof verifies against the stored root, a use of that
key. -/
def dsmPkr (d : Dev) (keyId : Nat) (material proof : List Nat) : Dev :=
  if (d.key 7).isNone then d
  else
    let (d, use) := d.dispatch 7 6
    match use with
    | .key root =>
      if Config.merkleProof (octetsOf 32 root) keyId material proof then
        (({ d with osnmaKey := some (keyId, material) }).set Dict.gnssOsnmaKeyId keyId).showOsnma
      else d
    | _ => d

/-- Item 1 of R321 holds. -/
def trustFromTimescale (d : Dev) : Bool :=
  let r := d.get Hid.lastRef
  d.get Dict.boundTimescale != unbounded && (d.state == 3 || d.state == 4) && decide (r < 18) && d.carriesTime r &&
    d.is (Hid.refAuth r)

/-- GnssTrustedTimeUnc in ms, rounded up; 0xFFFFFFFF while undefined (R321, R334). -/
def showTrust (d : Dev) : Dev :=
  d.set Dict.gnssTrustedTimeUnc
    (if d.is Hid.trustKnown then min ((d.get Hid.trustNs + 999999) / 1000000) 0xFFFFFFFE else 0xFFFFFFFF)

/-- U_trust grows by 2 × 10^-4 of an elapsed time in ns (R321). -/
def growTrust (d : Dev) (ns : Nat) : Dev := if d.is Hid.trustKnown then d.add Hid.trustNs ((ns * 2 + 9999) / 10000) else d

/-- The episode of source 76 (R322). -/
def watchTrust (d : Dev) : Dev := (d.showTrust.postOnce Hid.osnmaTimeLost (!d.osnmaTimeHolds) 76 []).showOsnma

/-- TRUSTED_TIME_UPDATE (R321, R322): each second. -/
def trustedSecond (d : Dev) : Dev :=
  let d := if d.get Dict.selectedRef < 18 then d.set Hid.lastRef (d.get Dict.selectedRef) else d
  let d := if d.trustFromTimescale then
      (d.setB Hid.trustKnown true).set Hid.trustNs ((d.get Dict.boundTimescale + 999) / 1000)
    else d.growTrust 1000000000
  d.watchTrust

/-- GNSS_TRUSTED_TIME_SET accepted (R321): 2 s at acceptance. -/
def trustedTimeSet (d : Dev) : Dev := ((d.setB Hid.trustKnown true).set Hid.trustNs 2000000000).watchTrust

/-- The written time lies within 2 s of the timescale (R321). -/
def trustedTimeOk (d : Dev) (v : Nat) : Bool := decide (((ofTime96 v : Int) - d.now).natAbs ≤ 2 * secondUnits)

end Dev

end Sys2Proof.Machine
end

