-- ==== Sys2Proof/Machine/Ports.lean ====
section
/-!
DEFINITION. Network ports: modes, pin calibration, states, received frames, the exception path to the host, received ESMC,
the management port (R376 to R392, R402 to R410, R414).
-/
namespace Sys2Proof.Machine

/-- Region of a port: 0 WEST, 1 EAST (R379). -/
def portRegion (q : Nat) : Nat := if q < 2 then 0 else 1

/-- Lanes of a port (R379). -/
def portLanes (q : Nat) : Nat := if q < 2 then 4 else 1

/-- A mode and FEC stand in the port modes table (R379, R380). -/
def portModeOk (q mode fec : Nat) : Bool :=
  if q < 2 then mode == 1 && (fec == 1 || fec == 0)
  else (mode == 2 && (fec == 2 || fec == 3 || fec == 0)) || (mode == 3 && (fec == 3 || fec == 0))

/-- PortCommitLead in ns (R393). -/
def commitLead (mode : Nat) : Nat := if mode = 1 then 2048 else if mode = 2 then 4096 else 8192

/-- e_pcal in ps (R388). -/
def pinTerm (mode fec status : Nat) : Nat :=
  if status ≠ 1 then 400
  else if mode = 1 then (if fec = 1 then 120 else 100)
  else if fec = 2 then 100 else if fec = 3 then 80 else 70

/-- A per-device SPAN64 value of the factory data (R11). -/
def factorySpan (index sub : Nat) : Int :=
  let v : Nat := Config.deviceData index sub % 2 ^ 64
  if v < 2 ^ 63 then (v : Int) else (v : Int) - 2 ^ 64

/-- Femtoseconds as CT64 units, to the nearest. -/
def fsToUnits (x : Int) : Int := roundNear ((x : Rat) * 65536 / 1000000)

namespace Dev

/-- At most one raising in a second of a place (R399, R400, R404, R408, R444, R460). -/
def postSecond (d : Dev) (place source : Nat) (fields : List (Nat × Nat)) : Dev :=
  if d.get (Hid.raisedSecond place) = d.second + 1 then d
  else (d.set (Hid.raisedSecond place) (d.second + 1)).post source fields

/-- The PCT of a region (R418): 0 WEST, 1 EAST. -/
def pctState (p : Nat) : Entry := if p = 0 then Dict.pctStateWest else Dict.pctStateEast

/-- |T_R − T_cal| in 0.001 °C. -/
def portDeparture (d : Dev) (q : Nat) : Nat :=
  (d.getI (Dict.regionTemp (portRegion q)) - d.getI (Dict.portCalTemp q)).natAbs

/-- A reference carried on the port is Selected (R387, R390). -/
def portCarries (d : Dev) (q : Nat) : Bool :=
  d.get (Dict.refState (8 + q)) == 4 ||
    (List.range 2).any fun r => d.get (Dict.refState (14 + r)) == 4 && d.get (Dict.nrefPort r) == q

/-! ### States (R384, R390) -/

/-- A change of PortState: entry to Training starts the hold anew, leaving Up raises source 84. -/
def enterPort (d : Dev) (q state : Nat) : Dev :=
  let d := if d.get (Dict.portState q) = 3 then d.post 84 [(1, q)] else d
  let d := d.set (Dict.portState q) state
  if state = 2 then d.set (Hid.portLockAt q) (d.now + 1) else d

/-- Entry to Calibrating (R384). -/
def startPortCal (d : Dev) (q : Nat) : Dev :=
  let d := (d.clear (Hid.portCalTry q)).setB (Dict.portCalPending q) false
  (d.set (Hid.portCalAt q) (d.now + 1)).enterPort q 1

/-- The rows of the port states table that configuration and power decide (R390). -/
def configurePort (d : Dev) (q : Nat) : Dev :=
  let mode := d.get (Dict.portMode q)
  let fec := d.get (Dict.portFec q)
  let state := d.get (Dict.portState q)
  let inForce := mode * 16 + fec + 1
  if state = 4 then d
  else
    let up := d.is (Dict.portEnable q) && d.powered .net
    let changed := d.get (Hid.portConfig q) != inForce
    let d := if state ≠ 0 ∧ (!up ∨ changed) then d.enterPort q 0 else d
    let d := d.set (Hid.portConfig q) inForce
    if d.get (Dict.portState q) = 0 && up && portModeOk q mode fec then d.startPortCal q else d

/-- A link that went down calibrates before it trains (R384, R390): nothing calibrated since the reset, or more than 5 °C
from T_cal, which on factory delays is 25.000 °C (R388). -/
def needsCal (d : Dev) (q : Nat) : Bool := d.get (Dict.portCalStatus q) == 0 || decide (5000 < d.portDeparture q)

/-- A receiver that gains lock in Training calibrates first (R384). A port on factory delays, whose calibration has just
failed, trains on (R386, R387; DEDUCED, log entry 42). -/
def trainsAnew (d : Dev) (q : Nat) : Bool :=
  d.get (Dict.portCalStatus q) == 0 || (d.get (Dict.portCalStatus q) == 1 && decide (5000 < d.portDeparture q))

/-- PCS_STATUS_CHANGE (R384, R390, R419): a receiver's condition changes. -/
def pcsStatus (d : Dev) (q : Nat) (s : PcsStatus) : Dev :=
  let good := s.signal && s.locked && !s.hiBer
  let was := d.is (Hid.portLocked q)
  let d := if s.hiBer && !d.is (Hid.portHiBer q) then (d.inc (Dict.hiBerEpisodes q)).post 97 [] else d
  let d := d.setB (Hid.portHiBer q) s.hiBer
  let d := (d.add (Dict.fecCorrected q) s.fecCorrected).add (Dict.pcsBlockErrors q) s.blockErrors
  let d := if s.fecUncorrected = 0 then d
    else (d.add (Dict.fecUncorrected q) s.fecUncorrected).postSecond (8 + q) 96 []
  if good == was then d
  else
    let d := (d.setB (Hid.portLocked q) good).set (Hid.portLockAt q) (d.now + 1)
    if good && d.get (Dict.portState q) == 2 && d.trainsAnew q then d.startPortCal q else d

/-- The condition of the receiver has held for so many ms. -/
def heldFor (d : Dev) (q ms : Nat) : Bool :=
  let at_ := d.get (Hid.portLockAt q)
  at_ != 0 && decide (at_ - 1 + ms * (1000000 * unitsPerNs) ≤ d.now)

/-- PORT_UP (R390): lock held on all lanes for PortUpHold. -/
def portUp (d : Dev) (q : Nat) : Dev :=
  if d.get (Dict.portState q) ≠ 2 ∨ !d.is (Hid.portLocked q) ∨ !d.heldFor q (d.get (Dict.portUpHold q)) then d
  else
    let d := (d.set (Dict.portState q) 3).set (Dict.portUpSince q) (toTime96 d.now)
    let d := d.set (Dict.portCommitLead q) (commitLead (d.get (Dict.portMode q)))
    (if d.get (Hid.esmcAt q) = 0 then d.set (Hid.esmcAt q) (d.now + 1) else d).post 85 []

/-- PORT_DOWN (R384, R390): loss of signal, lock loss or hi_ber held for PortDownHold. -/
def portDown (d : Dev) (q : Nat) : Dev :=
  if d.get (Dict.portState q) ≠ 3 ∨ d.is (Hid.portLocked q) ∨ !d.heldFor q (d.get (Dict.portDownHold q)) then d
  else
    let d := (d.inc (Dict.linkDownCount q)).enterPort q 2
    if d.needsCal q then d.startPortCal q else d

/-- PortRecalibrate is in place (R390). -/
def portRecalibrateOk (d : Dev) (q : Nat) : Bool := !d.portCarries q

/-- PORT_RECALIBRATE accepted (R390): from Up the link goes down into Calibrating; a port elsewhere in service
calibrates too, and a Disabled or Removed one stays. -/
def portRecalibrate (d : Dev) (q : Nat) : Dev :=
  if [1, 2, 3].contains (d.get (Dict.portState q)) then d.startPortCal q else d

/-! ### Pin calibration (R385 to R389) -/

/-- The port goes to Training on its factory delays (R386 to R388). -/
def useFactory (d : Dev) (q : Nat) : Dev :=
  let d := forUnits (portLanes q) (fun l d =>
    (d.setI (Dict.portTxDelay q l) (factorySpan (0x5820 + q) (6 + l))).setI (Dict.portRxDelay q l)
      (factorySpan (0x5820 + q) (10 + l))) d
  ((d.set (Dict.portCalStatus q) 2).setI (Dict.portCalTemp q) 25000).enterPort q 2

/-- A calibration has failed a check (R386, R387). -/
def failPortCal (d : Dev) (q code : Nat) : Dev :=
  let d := (d.set (Dict.portCalLastFail q) code).set (Dict.portCalTime q) (toTime96 d.now)
  if code = 1 then (d.useFactory q).setB (Dict.portCalPending q) true
  else if d.get (Hid.portCalTry q) = 0 then (d.set (Hid.portCalTry q) 1).set (Hid.portCalAt q) (d.now + 1)
  else (d.useFactory q).post 86 [(1, q), (1, code)]

/-- The 8 ms of the calibration under way have run (R385). -/
def portCalLate (d : Dev) (q : Nat) : Bool := decide (d.get (Hid.portCalAt q) - 1 + 8000000 * unitsPerNs < d.now)

/-- The first failing check of a calibration whose markers were stamped (R385); 0 when all pass. -/
def portCalCheck (d : Dev) (q : Nat) (lanes : List LaneDelays) : Nat :=
  let limit := Term.ofPs32 (d.get Dict.portCalFactoryLimit)
  let far (x : Int) (sub : Nat) : Bool :=
    match limit with
    | .value l => decide (l < absRat ((x : Rat) / 1000 - unitsToPs ((factorySpan (0x5820 + q) sub : Int) : Rat)))
    | _ => false
  if d.get (pctState (portRegion q)) ≠ 1 then 1
  else if lanes.length < portLanes q ∨ d.portCalLate q then 2
  else if lanes.any fun l => decide (5000 < l.txSpread) || decide (5000 < l.rxSpread) then 3
  else if (lanes.zipIdx.take (portLanes q)).any fun l => far l.1.tx (6 + l.2) || far l.1.rx (10 + l.2) then 4
  else 0

/-- PORT_CALIBRATION_DONE (R377, R385 to R387, R669): the markers are stamped and the checks are applied. A PCT that does
not measure fails the calibration before any other check (DEDUCED, log entry 42). -/
def portCalDone (d : Dev) (q : Nat) (lanes : List LaneDelays) : Dev :=
  if d.get (Dict.portState q) ≠ 1 then d
  else
    match d.portCalCheck q lanes with
    | 0 =>
      let temp := d.getI (Dict.regionTemp (portRegion q))
      let d := forUnits (portLanes q) (fun l d =>
        let x := lanes.getD l ⟨0, 0, 0, 0⟩
        let d := (d.setI (Dict.portTxDelay q l) (fsToUnits x.tx)).setI (Dict.portRxDelay q l) (fsToUnits x.rx)
        (d.firstLive (0x50 + q) (0x10 + l) x.tx).firstLive (0x50 + q) (0x20 + l) x.rx) d
      let spread := lanes.foldl (fun a l => max a (max l.txSpread l.rxSpread)) 0
      let d := ((d.set (Dict.portCalSpread q) spread).setI (Dict.portCalTemp q) temp).set (Dict.portCalTime q) (toTime96 d.now)
      ((d.set (Dict.portCalStatus q) 1).setB (Hid.portAged q) false).enterPort q 2
    | code => d.failPortCal q code

/-- PORT_CAL_INCOMPLETE (R385, R386): 4,096 markers were not stamped within 8 ms. -/
def portCalIncomplete (d : Dev) (q : Nat) : Dev :=
  if d.get (Dict.portState q) ≠ 1 ∨ !d.portCalLate q then d
  else d.failPortCal q (if d.get (pctState (portRegion q)) ≠ 1 then 1 else 2)

/-- The state of a PCT changes; leaving Measuring raises source 86 for its region, named 6 and 7 (R386, DESIGN CHOICE, log entry 35). -/
def enterPct (d : Dev) (p state : Nat) : Dev :=
  let left := d.get (pctState p) == 1 && state != 1
  let d := d.set (pctState p) state
  if left then d.post 86 [(1, 6 + p), (1, 1)] else d

/-- A PCT line fails its calibration, as a channel's does (R161; DEDUCED, log entry 43). -/
def pctFail (d : Dev) (p line : Nat) : Dev :=
  let d := d.set (Hid.pctResult (p * 2 + line)) 2
  if d.get (pctState p) = 0 then
    if d.get (Hid.pctResult (p * 2 + (1 - line))) = 2 then d.enterPct p 3
    else if d.get (Hid.pctResult (p * 2 + (1 - line))) = 1 then (d.set (Hid.pctFailRun p) 1).enterPct p 2
    else d
  else if d.get (Hid.pctFailRun p) = 0 then (d.set (Hid.pctFailRun p) 1).enterPct p 2
  else d.enterPct p 3

/-- CAL_COLLECTION_COMPLETE of a PCT line (R157, R385): the checks of a channel. The line's next collection begins with it: the spec
gives the PCTs no schedule of their own (DESIGN CHOICE, log entry 115). -/
def pctComplete (d : Dev) (p line : Nat) (hist : List (List Nat)) (first : List Nat) : Dev :=
  if 2 ≤ p ∨ 2 ≤ line ∨ d.get (pctState p) = 3 ∨ !wholeCollection hist first then d
  else
  let late := decide (collectionFrames < d.framesSince (d.get (Hid.pctStart (p * 2 + line))))
  let d := d.set (Hid.pctStart (p * 2 + line)) d.view.frames
  if late ∨ histogramCheck hist first ≠ 0 then d.pctFail p line
  else
    let d := d.set (Hid.pctResult (p * 2 + line)) 1
    let other := d.get (Hid.pctResult (p * 2 + (1 - line)))
    if d.get (pctState p) = 0 ∧ other = 0 then d
    else if d.get (pctState p) = 0 ∧ other = 2 then (d.set (Hid.pctFailRun p) 1).enterPct p 2
    else (d.set (Hid.pctFailRun p) 0).enterPct p 1

/-- CAL_TIMEOUT of a PCT line (R157). -/
def pctTimeout (d : Dev) (p line : Nat) : Dev :=
  let due := decide (collectionFrames ≤ d.framesSince (d.get (Hid.pctStart (p * 2 + line))))
  if 2 ≤ p ∨ 2 ≤ line ∨ d.get (pctState p) = 3 ∨ !due then d
  else (d.set (Hid.pctStart (p * 2 + line)) d.view.frames).pctFail p line

/-- The terms of a port in Up, and source 87 (R388, R389). -/
def portTerm (d : Dev) (q : Nat) : Dev :=
  let far := d.portDeparture q
  let pair : Rat := (((d.getI (Dict.pairDifference (portPair q))).natAbs : Nat) : Rat) / 1000
  let d := d.set (Dict.portTermCal q) (pinTerm (d.get (Dict.portMode q)) (d.get (Dict.portFec q)) (d.get (Dict.portCalStatus q)))
  let d := d.set (Dict.portTermTemp q) (toPs32 (2 + (far : Rat) / 4000 + pair / 20))
  let d := d.set (Dict.portTermExt q) (max (d.get (Dict.portTxExtDelayUnc q)) (d.get (Dict.portRxExtDelayUnc q)))
  let d := d.set (Dict.portStampRandom q) 2000
  if d.get (Dict.portRecalAlarmDelta q) < far ∧ !d.is (Hid.portAged q) then
    (d.setB (Hid.portAged q) true).post 87 []
  else d

/-- A received QL takes effect (R193, R410). -/
def takeEsmc (d : Dev) (q : Nat) : Dev :=
  match d.get (Hid.esmcNext q) with
  | 0 => d
  | v + 1 => ((d.set (Dict.refQlRaw (8 + q)) v).set (Dict.esmcRxState q) 1).clear (Hid.esmcNext q)

/-- S0's work for the ports (R387 to R390, R410). -/
def portFrame (d : Dev) : Dev :=
  forUnits 6 (fun q d =>
    let d := (d.configurePort q).takeEsmc q
    let d := if d.is (Dict.portCalPending q) && d.get (pctState (portRegion q)) == 1 && !d.portCarries q &&
        [2, 3].contains (d.get (Dict.portState q)) then d.startPortCal q else d
    if d.get (Dict.portState q) = 3 then d.portTerm q else d) d

/-! ### Receive stamps (R382, R383) -/

/-- D(L) less D_cal(L), in fs: k × (T_R − T_cal). -/
def portDrift (d : Dev) (q : Nat) (k : Entry) : Rat :=
  (d.getI k : Rat) * ((d.getI (Dict.regionTemp (portRegion q)) - d.getI (Dict.portCalTemp q) : Int) : Rat) / 1000

/-- t_rx (R382), in CT64 units since the epoch, to the nearest. -/
def rxTime (d : Dev) (x : Rx) : Nat :=
  let fs : Rat := d.portDrift x.port (Dict.portRxTempCoeff x.port) + (x.drx : Rat)
  let delay : Rat := (d.getI (Dict.portRxDelay x.port x.lane) : Rat) + (d.getI (Dict.portRxExtDelay x.port) : Rat) + fs * 65536 / 1000000
  (roundNear ((d.view.frameStart : Rat) + ((x.ti : Nat) : Rat) / (subUnits : Nat) - delay)).toNat

/-! ### Exception path to the host (R401, R406 to R408) -/

/-- The counts of R408 start anew in each second. -/
def excWindow (d : Dev) (q : Nat) : Dev :=
  if d.get (Hid.excSecond q) = d.second + 1 then d
  else (d.clearAll [Hid.excSent q, Hid.excTaken q]).set (Hid.excSecond q) (d.second + 1)

/-- A datagram is dropped (R408). -/
def excDrop (d : Dev) (q : Nat) : Dev := (d.inc (Dict.excDropped q)).postSecond (16 + q) 93 []

/-- A host is bound and MGT is up. -/
def excReady (d : Dev) : Bool := d.get Dict.excBoundPort != 0 && d.is Dict.mgtLinkUp

/-- A datagram leaves on MGT. -/
def sendDatagram (d : Dev) (kind q reason length tag stamp : Nat) (entries : List StampEntry) : Dev :=
  (d.inc Dict.mgtTxFrames).out
    (.datagram ⟨d.get Dict.excBoundAddress, d.get Dict.excBoundPort, kind, q, reason, length, tag, stamp, entries⟩)

/-- A received frame goes to the host (R406, R408): its octets run to the last before the FCS. Without a bound host or
MGT it goes nowhere. -/
def frameToHost (d : Dev) (q reason octets stamp : Nat) : Dev :=
  if !d.excReady then d
  else
    let d := d.excWindow q
    if d.get (Dict.portExcRateLimit q) ≤ d.get (Hid.excSent q) ∨ d.get Dict.excMaxDatagram < 24 + (octets - 4) then d.excDrop q
    else ((d.inc (Hid.excSent q)).inc (Dict.excToHost q)).sendDatagram 1 q reason (octets - 4) 0 (toTime96 stamp) []

/-! ### Received frames (R402 to R406) -/

/-- The tags of a frame match PortTagMode (R402, R403). ESMC, PAUSE and PFC frames are accepted untagged. -/
def tagsMatch (d : Dev) (f : RxFrame) : Bool :=
  let q := f.rx.port
  let s := (0x88A8, d.get (Dict.portSVid q))
  let c := (0x8100, d.get (Dict.portCVid q))
  let want := match d.get (Dict.portTagMode q) with
    | 0 => []
    | 1 => [c]
    | 2 => [s, c]
    | _ => [s]
  let control := f.ethertype == 0x8808 || (f.ethertype == 0x8809 && f.subtype == 0x0A)
  let plain := f.tags.isEmpty || (f.tags.length == 1 && f.tags.all fun t => t.2 == 0)
  (control && f.tags.isEmpty) || f.tags == want || (plain && d.is (Dict.portAcceptUntagged q))

/-- Transport of a PTP frame by its IP version: L2, UDP over IPv4 or over IPv6 (R424). -/
def transportOf (ip : Nat) : Nat := if ip = 4 then 1 else if ip = 6 then 2 else 0

/-- An instance serves the message (R423's instances): enabled, on the port, with its domain and transport; Delay_Req, and
Signalling in unicast (R435). -/
def instanceServes (d : Dev) (q type domain ip : Nat) : Bool :=
  (List.range 8).any fun i =>
    d.is (Dict.instEnable i) && bit (d.get (Dict.instPortMask i)) q && d.get (Dict.instDomain i) == domain &&
      d.get (Dict.instTransport i) == transportOf ip && (type == 1 || (type == 12 && d.get (Dict.instMode i) == 1))

/-- An NREF takes the message: Sync, Follow_Up, Delay_Resp, Announce and Signalling of its port, domain and transport. -/
def nrefTakes (d : Dev) (q type domain ip : Nat) : Bool :=
  [0, 8, 9, 11, 12].contains type && (List.range 2).any fun r =>
    d.is (Dict.nrefEnable r) && d.get (Dict.nrefPort r) == q && d.get (Dict.nrefDomain r) == domain &&
      d.get (Dict.nrefTransport r) == transportOf ip

/-- The frame matches a used ExcFilter (R416). -/
def filterMatch (d : Dev) (f : RxFrame) : Bool :=
  (List.range 8).any fun k =>
    let v := d.get (Dict.excFilter k)
    v != 0 && (v / 65536 == 0 || v / 65536 == f.ethertype) && (v % 65536 == 0 || v % 65536 == f.udpPort)

/-- The reason for delivery to the host, or 0 (R406). The first that applies is taken (DEDUCED, log entry 44). -/
def hostReason (d : Dev) (f : RxFrame) : Nat :=
  let q := f.rx.port
  match f.ptp with
  | some (type, domain) =>
    if type = 13 then 1
    else if !d.instanceServes q type domain f.ip && !d.nrefTakes q type domain f.ip then 2
    else if d.filterMatch f then 6 else 0
  | none =>
    let claimed := f.udpPort == 319 || f.udpPort == 320 ||
      (f.udpPort == 123 && d.is Dict.ntpEnable && bit (d.get Dict.ntpPortMask) q)
    if f.ip ≠ 0 && f.toPort && !claimed then 3 else if d.filterMatch f then 6 else 0

/-- RECEIVED_FRAME (R402 to R406, R419): length, FCS and tags are checked, the frame counted and classified. What the
protocol engine does with it is the message's own row (DESIGN CHOICE, log entry 45). -/
def receivedFrame (d : Dev) (f : RxFrame) : Dev :=
  let q := f.rx.port
  if d.get (Dict.portState q) ≠ 3 ∨ 6 ≤ q then d
  else
    let limit := d.get (Dict.portMaxFrame q) + 4 * f.tags.length
    if f.length < 64 then d.inc (Dict.rxUndersize q)
    else if limit < f.length then
      let d := (d.inc (Dict.rxOversize q)).postSecond (24 + q) 92 []
      if d.is (Dict.portOversizeToHost q) then d.frameToHost q 7 (limit + 4) (d.rxTime f.rx) else d
    else if !f.fcsOk then d.inc (Dict.rxFcsErrors q)
    else
      let d := (d.inc (Dict.rxFrames q)).add (Dict.rxOctets q) f.length
      if f.ethertype = 0x8808 then d
      else if !d.tagsMatch f then d.inc (Dict.rxTagDrops q)
      else
        match d.hostReason f with
        | 0 => d
        | r => d.frameToHost q r f.length (d.rxTime f.rx)

/-! ### Binding (R407) -/

/-- ExcBind accepted (R407): the path is bound to the session's peer at the UDP port written. -/
def excBind (d : Dev) (session : Session) (port : Nat) : Dev :=
  ((d.set Dict.excBoundAddress session.peer.address).set Dict.excBoundPort port).set Hid.excSession session.id

/-! ### Received ESMC (R410) -/

/-- ESMC_PDU_RECEIVE (R410): the QL takes effect in the next frame. -/
def esmcReceive (d : Dev) (q ssm : Nat) (enhanced : Option Nat) : Dev :=
  if d.get (Dict.portState q) ≠ 3 ∨ 6 ≤ q then d
  else
    let d := (d.inc (Dict.esmcRx q)).set (Hid.esmcAt q) (d.now + 1)
    d.set (Hid.esmcNext q) (ssm % 256 * 256 + (enhanced.getD 0xFF) % 256 + 1)

/-- ESMC_TIMEOUT (R193, R410): 5 s without a valid PDU, counted from the first entry to Up while none has come. -/
def esmcTimeout (d : Dev) (q : Nat) : Dev :=
  let at_ := d.get (Hid.esmcAt q)
  if 6 ≤ q ∨ d.get (Dict.esmcRxState q) = 2 ∨ at_ = 0 ∨ d.now < at_ - 1 + 5 * secondUnits then d
  else ((d.set (Dict.esmcRxState q) 2).gradeReference (8 + q)).post 95 []

/-! ### Management port (R414) -/

/-- MGT_LINK_CHANGE (R414): the link comes up or goes down; an SGMII control word naming another speed than 1,000 Mb/s
holds it down. -/
def mgtLink (d : Dev) (up : Bool) (speed : Nat) : Dev :=
  let now := up && (d.get Dict.mgtMode != 1 || speed == 1000)
  if now == d.is Dict.mgtLinkUp then d else (d.setB Dict.mgtLinkUp now).post 98 []

/-- PortCountersClear at its S0 (R416): the counters of the masked ports, bit 6 MGT. -/
def clearPortCounters (d : Dev) (mask : Nat) : Dev :=
  let d := if bit mask 6 then d.clearAll [Dict.mgtRxFrames, Dict.mgtTxFrames, Dict.mgtRxErrors] else d
  forUnits 6 (fun q d => if bit mask q then d.resetWhere fun i s => i == 0x5830 + q && decide (1 ≤ s) else d) d

end Dev

end Sys2Proof.Machine
end

