-- ==== Sys2Proof/Machine/Transmit.lean ====
section
/-!
DEFINITION. Transmission: egress times, messages completed and authenticated at their commit, pauses, the transmit
time-stamp queue, host frames, sent ESMC, answers to address requests (R376, R382, R393 to R402, R406 to R408, R411, R412,
R427, R428, R443, R545).
-/
namespace Sys2Proof.Machine

/-- The 34 octets of a PTP header for a message of the given length (R428). -/
def PtpMessage.header (m : PtpMessage) : List Nat :=
  let control := match m.type with
    | 0 => 0
    | 9 => 3
    | 8 => 2
    | _ => 5
  [m.type, 0x12] ++ octetsOf 2 (34 + m.body.length) ++ [m.domain, 0] ++ octetsOf 2 m.flags ++
    octetsOf 8 (m.correction % 2 ^ 64).toNat ++ octetsOf 4 0 ++ octetsOf 8 m.identity ++ octetsOf 2 m.portNumber ++
    octetsOf 2 m.sequence ++ [control, (m.interval % 256).toNat]

/-- The octets of a PTP message. -/
def PtpMessage.octets (m : PtpMessage) : List Nat := m.header ++ m.body

/-- The 48 octets of an NTP response's header (R450). -/
def NtpMessage.header (m : NtpMessage) : List Nat :=
  [m.leap * 64 + m.version * 8 + 4, m.stratum, (m.poll % 256).toNat, 0xE0] ++ octetsOf 4 0 ++ octetsOf 4 m.rootDispersion ++
    octetsOf 4 m.referenceId ++ octetsOf 8 m.reference ++ octetsOf 8 m.origin ++ octetsOf 8 m.receive ++ octetsOf 8 m.transmit

/-- An NREF keeps the predicted egress time of a Delay_Req (R394). -/
def NrefRun.asked (n sequence time : Nat) (x : NrefRun) : NrefRun :=
  if x.ref = n then { x with requests := ((sequence, time) :: x.requests).take 16 } else x

/-- The first held frame of a port gets its deadline. -/
def startDeadline (q deadline : Nat) : List HeldFrame → List HeldFrame
  | [] => []
  | h :: t => if h.job.port = q then { h with deadline := deadline } :: t else h :: startDeadline q deadline t

/-- Octets of a frame with FCS: MAC header, tags, network headers by transport, content. -/
def frameOctets (tags transport content : Nat) : Nat :=
  max 64 (14 + 4 * tags + (if transport = 0 then 0 else if transport = 1 then 28 else 48) + content + 4)

/-- A PTP timestamp of 10 octets: seconds and nanoseconds of an instant in CT64 units (R428). -/
def ptpTimestamp (u : Nat) : List Nat := octetsOf 6 (u / secondUnits) ++ octetsOf 4 (u % secondUnits / unitsPerNs)

/-- The fraction of an instant, in 2^-16 ns (R428). -/
def ptpFraction (u : Nat) : Nat := u % unitsPerNs

/-- An NTP timestamp of a timescale value with the UTC offset in force (R451). -/
def ntpTimestamp (u : Nat) (utcOffset : Int) : Nat :=
  let frac := (roundNear (((u % secondUnits : Nat) : Rat) * 2 ^ 32 / ((secondUnits : Nat) : Rat))).toNat
  let secs : Int := ((u / secondUnits : Nat) : Int) - utcOffset + 2208988800 + ((frac / 2 ^ 32 : Nat) : Int)
  (secs % 2 ^ 32).toNat * 2 ^ 32 + frac % 2 ^ 32

namespace Dev

/-! ### Egress time (R382, R393) -/

/-- The timescale value, in 2^-56 ns, so many TCLK cycles from now, with the increments of the frames spanned and a
correction that applies at the boundary between them (R393). -/
def timescaleAfter (d : Dev) (cycles : Nat) : Nat :=
  let t := d.now * subUnits
  let edge := (d.view.frameStart / frameUnits + 1) * frameUnits
  let inc := max 1 (d.get Dict.incrementActive)
  let first := (edge * subUnits - t + inc - 1) / inc
  if cycles ≤ first then t + cycles * inc
  else
    let jump : Int := match d.corr with
      | some c => if c.due ≤ edge then c.size * (subUnits : Int) else 0
      | none => 0
    ((t + first * inc + (cycles - first) * d.get Hid.incNext : Nat) + jump).toNat

/-- The predicted t_tx of a frame committed now (R382, R393), in CT64 units, to the nearest. The lane and the variable
delay come from PCS state and are free (DESIGN CHOICE, log entry 46). -/
def egressTime (d : Dev) (q : Nat) : Nat :=
  let ti := d.timescaleAfter (commitLead (d.get (Dict.portMode q)) * 5 / 4)
  let lane := d.freeNat 30 % portLanes q
  let fs : Rat := d.portDrift q (Dict.portTxTempCoeff q) + (d.freeNat 31 : Rat)
  (roundNear ((ti : Rat) / (subUnits : Nat) + (d.getI (Dict.portTxDelay q lane) : Rat) +
    (d.getI (Dict.portTxExtDelay q) : Rat) + fs * 65536 / 1000000)).toNat

/-- An egress time lies in the next frame (R365). -/
def leavesNext (d : Dev) (time : Nat) : Bool := decide ((d.view.frameStart / frameUnits + 1) * frameUnits ≤ time)

/-- An entry as published for the frame in which a message leaves (R365). -/
def published (d : Dev) (next : Bool) (e : Entry) : Nat := if next then d.upcoming e else d.get e

/-- Start of the frame in which a message leaves, in CT64 units. -/
def publicationStart (d : Dev) (next : Bool) : Nat :=
  if next then
    let edge := (d.view.frameStart / frameUnits + 1) * frameUnits
    match d.corr with
    | some c => if c.due ≤ edge then ((edge : Int) + c.size).toNat else edge
    | none => edge
  else d.view.frameStart

/-- The Ziestari bound TLV of a port for a message (R364). -/
def boundTlv (d : Dev) (q : Nat) (next : Bool) : List Nat :=
  let bound := d.published next (Dict.portBound q)
  let state := d.published next Dict.boundState
  let region := d.published next Hid.pubRegion
  let followed := d.boundRef
  let flags := (if bound = unbounded then 128 else 0) + (if state = 3 then 64 else 0) +
    (if state = 4 ∨ state = 5 then 32 else 0) + (if d.published next Dict.supplyTermActive ≠ 0 then 16 else 0) +
    (if bit region q || bit region 7 then 8 else 0) + (if d.get Dict.driftCoverageSelected < 2 then 4 else 0) +
    (match followed with | some r => if d.is (Hid.refAuth r) then 2 else 0 | none => 0)
  let start := d.publicationStart next
  octetsOf 2 3 ++ octetsOf 2 44 ++ octetsOf 3 (d.get Dict.boundTlvOrgId) ++ octetsOf 3 1 ++ [1, flags] ++ octetsOf 4 bound ++
    octetsOf 4 (d.published next (Dict.portBoundSys q)) ++ octetsOf 4 (d.published next (Dict.portBoundRand q)) ++
    octetsOf 4 (d.published next Dict.boundGrowthRate) ++ ptpTimestamp start ++
    octetsOf 4 d.nextSequence ++ [d.get Dict.selectedRef, d.state] ++
    octetsOf 2 (d.get Dict.discontinuityCount) ++ [0, 0]

/-- The bound carried by a message enters the audit record (R366). -/
def carriedBound (d : Dev) (bound : Nat) : Dev := d.set Hid.auditEgress (max (d.get Hid.auditEgress) bound)

/-! ### Authentication (R443) -/

/-- A message with the AUTHENTICATION TLV of an SA appended, or none when the dispatch refuses it (R443, R464). -/
def authenticate (d : Dev) (sa : Nat) (m : PtpMessage) : Dev × Option PtpMessage :=
  let (d, r) := d.dispatch (0x8000 + d.get (Dict.saSlotCurrent sa)) 2
  match r with
  | .key material =>
    let tlv := octetsOf 2 0x8000 ++ octetsOf 2 22 ++ [d.get (Dict.saSpp sa), 0] ++ octetsOf 4 (d.get (Dict.saKeyIdCurrent sa))
    let full := { m with body := m.body ++ tlv ++ List.replicate 16 0 }
    let masked := if d.is (Dict.saMaskCorrection sa) then { full with correction := 0 } else full
    let icv := hmacSha256 material (masked.octets.take (masked.octets.length - 16)) / 2 ^ 128 % 2 ^ 128
    (d, some { m with body := m.body ++ tlv ++ octetsOf 16 icv })
  | _ => (d, none)

/-! ### Announce (R429) -/

/-- clockClass of an instance for the frame of publication (R361). -/
def instanceClass (d : Dev) (i : Nat) (next : Bool) : Nat :=
  d.published next (if d.get (Dict.instProfile i) = 0 then Dict.clockClassDefault else Dict.clockClassTelecom)

/-- LeapPending with LeapTime no more than 86,400 s ahead (R429, R450). -/
def leapNear (d : Dev) (kind : Nat) : Bool :=
  let t := ofTime96 (d.get Dict.leapTime)
  d.get Dict.leapPending == kind && decide (d.now < t) && decide (t ≤ d.now + daySeconds * secondUnits)

/-- timeSource (R429). -/
def timeSource (d : Dev) : Nat :=
  match d.boundRef with
  | some r => if r = 16 then 0x20 else if r = 14 ∨ r = 15 ∨ r = 17 then 0x40 else 0x90
  | none => 0xA0

/-- The body of an Announce (R429). -/
def announceBody (d : Dev) (i q : Nat) (next : Bool) : List Nat :=
  let class_ := d.instanceClass i next
  List.replicate 10 0 ++ octetsOf 2 (d.utcOffsetAt (d.publicationStart next) % 65536).toNat ++ [0, d.get (Dict.instPriority1 i), class_,
    d.accuracyOf (d.published next (Dict.portBound q))] ++ octetsOf 2 (if class_ = 6 then 0x4E5D else 0xFFFF) ++
    [d.get (Dict.instPriority2 i)] ++ octetsOf 8 (d.get (Dict.instClockIdentity i)) ++ [0, 0, d.timeSource]

/-- The Announce flags (R429): leap61, leap59, currentUtcOffsetValid, ptpTimescale, the traceable flags. -/
def announceFlags (d : Dev) (i : Nat) (next : Bool) : Nat :=
  let class_ := d.instanceClass i next
  (if d.leapNear 1 then 1 else 0) + (if d.leapNear 2 then 2 else 0) + (if d.is Dict.utcValid then 4 else 0) + 8 +
    (if class_ = 6 ∨ class_ = 7 then 0x30 else 0)

/-! ### Commit (R393 to R395) -/

/-- The tags that a device-originated frame of a port carries (R402), each with PCP PortPcp and DEI 0. -/
def insertedTags (d : Dev) (q : Nat) : List (Nat × Nat) :=
  let pcp := d.get (Dict.portPcp q) * 8192
  let s := (0x88A8, pcp + d.get (Dict.portSVid q))
  let c := (0x8100, pcp + d.get (Dict.portCVid q))
  match d.get (Dict.portTagMode q) with
  | 0 => []
  | 1 => [c]
  | 2 => [s, c]
  | _ => [s]

/-- A frame leaves a port and is counted (R419). -/
def sendFrame (d : Dev) (f : SentFrame) : Dev :=
  ((d.inc (Dict.txFrames f.port)).add (Dict.txOctets f.port) f.octets).out (.frame f)

/-- Time service to clients has begun (R114); NREF traffic does not count (R684). -/
def servedTime (d : Dev) : Dev := d.setB Dict.clientServiceStarted true

/-- The bit of BoundTlvMessages for a message type (R365), if it has one. -/
def boundTlvBit (type : Nat) : Option Nat :=
  match type with
  | 0 => some 0
  | 8 => some 1
  | 9 => some 2
  | 11 => some 3
  | _ => none

/-- A scheduled message of an instance is not sent (R461). -/
def skipped (d : Dev) (sender : Nat) : Dev := if sender < 8 then d.inc (Dict.instSyncSkipped sender) else d

/-- Counters of a sent PTP message (R467). -/
def countSent (d : Dev) (sender type : Nat) : Dev :=
  if 8 ≤ sender then d
  else match type with
    | 0 => d.inc (Dict.instSyncSent sender)
    | 11 => d.inc (Dict.instAnnounceSent sender)
    | 9 => d.inc (Dict.instDelayRespSent sender)
    | _ => d

/-- A PTP message is completed at its commit and leaves (R364, R365, R394, R395, R428, R429). -/
def commitPtp (d : Dev) (q sender sa : Nat) (r : Route) (m : PtpMessage) (fill : Fill) (late : Bool) : Dev :=
  let time := d.egressTime q
  let next := d.leavesNext time
  let m := match fill with
    | .origin => { m with body := ptpTimestamp time, correction := (ptpFraction time : Int) }
    | _ => m
  let m := if m.type = 11 then
      { m with body := d.announceBody sender q next, flags := m.flags + d.announceFlags sender next } else m
  let m := match boundTlvBit m.type with
    | some b => if sender < 8 && bit (d.get Dict.boundTlvMessages) b then { m with body := m.body ++ d.boundTlv q next } else m
    | none => m
  let (d, done) := if sa < 32 then d.authenticate sa m else (d, some m)
  match done with
  | none => if m.type = 9 then d else d.skipped sender
  | some m =>
    let tags := d.insertedTags q
    let octets := frameOctets tags.length r.transport m.octets.length
    let stomped := late && decide (sa < 32) && fill == .origin
    let d := if fill == .origin then d.inc (Dict.oneStepFrames q) else d
    let d := if stomped then (d.inc (Dict.oneStepStomped q)).post 90 [] else d.countSent sender m.type
    let d := if sender < 8 then d.carriedBound (d.published next (Dict.portBound q)) else d
    let d := if sender < 8 && [0, 8, 9].contains m.type then d.servedTime else d
    let d := match fill with
      | .keep k => { d with sentNow := d.sentNow ++ [(2 * k + 1, time * 65536 + m.sequence % 65536)] }
      | .exchange n => { d with nrefs := d.nrefs.map (NrefRun.asked n m.sequence time) }
      | _ => d
    d.sendFrame ⟨q, octets, time, d.get (Dict.portMacAddress q), tags, .ptp r m, stomped⟩

/-- The extension fields of an NTS response after its Unique Identifier: the Authenticator sealed under the S2C key over
the header, the Unique Identifier and a nonce, around the new cookies (R453, R454). -/
def ntsSeal (d : Dev) (m : NtpMessage) (a : NtsAnswer) : List Nat :=
  let uid := octetsOf 2 0x0104 ++ octetsOf 2 (4 + a.id.length) ++ a.id
  let nonce := octetsOf 16 (Config.random 128 (d.free * 16 + 8))
  let plain := a.cookies.flatMap fun c => octetsOf 2 0x0204 ++ octetsOf 2 (4 + c.length) ++ c
  let cipher := sivSeal a.key [m.header ++ uid, nonce] plain
  let body := octetsOf 2 nonce.length ++ octetsOf 2 cipher.length ++ nonce ++ cipher
  uid ++ octetsOf 2 0x0404 ++ octetsOf 2 (4 + body.length) ++ body

/-- An NTP response is completed at its commit and leaves (R363, R394, R395, R450, R454). A kiss carries no times; one whose
authentication is late is stomped. -/
def commitNtp (d : Dev) (q : Nat) (r : Route) (m : NtpMessage) (nts : Option NtsAnswer) (late : Bool) : Dev :=
  let time := d.egressTime q
  let next := d.leavesNext time
  let kiss := decide (m.stratum = 0)
  let bound := d.published next (Dict.portBound q)
  let dispersion := if bound = unbounded then 0xFFFFFFFF
    else max 1 (roundUp ((bound : Rat) * 65536 / 1000000000000)).toNat
  let m := if kiss then m
    else
      let unbound := decide (bound = unbounded)
      { m with leap := if unbound then 3 else if d.leapNear 1 then 1 else if d.leapNear 2 then 2 else 0,
               stratum := if unbound then 16 else m.stratum,
               transmit := ntpTimestamp time (d.utcOffsetAt time), rootDispersion := dispersion }
  let m := match nts with
    | some a => { m with extensions := d.ntsSeal m a }
    | none => m
  let tags := d.insertedTags q
  let octets := frameOctets tags.length r.transport (48 + m.extensions.length)
  let stomped := late && nts.isSome
  let d := if kiss then d
    else
      let d := ((d.inc (Dict.oneStepFrames q)).carriedBound bound).servedTime
      if stomped then (d.inc (Dict.oneStepStomped q)).post 90 []
      else (d.inc Dict.ntpResponses).add Dict.ntsCookiesIssued (match nts with | some a => a.cookies.length | none => 0)
  d.sendFrame ⟨q, octets, time, d.get (Dict.portMacAddress q), tags, .ntp r m, stomped⟩

/-- Free entries of a port's time-stamp queue (R398). -/
def stampFree (d : Dev) (q : Nat) : Nat := 512 - (d.stampQueue.filter fun e => e.port == q).length

/-- StampQueueFree (R418). -/
def showStamps (d : Dev) (q : Nat) : Dev := d.set (Dict.stampQueueFree q) (d.stampFree q)

/-- A frame leaves without the stamp it asked for (R400). -/
def loseStamp (d : Dev) (q tag : Nat) : Dev :=
  let d := match d.openMarkers.find? fun m => m.port == q with
    | some m =>
      let longer : StampEntry := { m with value := tag, count := min 65535 (m.count + 1) }
      { d with openMarkers := longer :: d.openMarkers.filter fun x => x.port != q }
    | none =>
      let opened : StampEntry := ⟨2, q, tag, tag, 1, d.now⟩
      { d with openMarkers := opened :: d.openMarkers }.inc (Dict.lossMarkers q)
  let first := ((d.openMarkers.find? fun m => m.port == q).map (·.tag)).getD tag
  (d.inc (Dict.stampsLost q)).postSecond (32 + q) 89 [(1, q), (2, first)]

/-- A host frame leaves; one that asks for a stamp gets it while an entry is free (R398 to R400). -/
def commitHost (d : Dev) (q octets tag : Nat) (stamp : Bool) : Dev :=
  let time := d.egressTime q
  let d := d.sendFrame ⟨q, octets, time, 0, [], .host tag, false⟩
  if !stamp then d
  else if d.stampFree q = 0 then d.loseStamp q tag
  else
    let e : StampEntry := ⟨1, q, tag, time, 0, d.now⟩
    ({ d with stampQueue := d.stampQueue ++ [e] }.inc (Dict.stampsQueued q)).showStamps q

/-- A frame enters the transmit pipeline (R393). -/
def commit (d : Dev) (j : TxJob) : Dev :=
  if d.get (Dict.portState j.port) ≠ 3 then d
  else match j.what with
    | .ptp sender sa r m fill => d.commitPtp j.port sender sa r m fill j.late
    | .ntp r m nts => d.commitNtp j.port r m nts j.late
    | .host tag stamp => d.commitHost j.port j.octets tag stamp
    | .plain p =>
      let tags := match p with
        | .esmc _ _ _ => []
        | _ => d.insertedTags j.port
      d.sendFrame ⟨j.port, j.octets, d.egressTime j.port, d.get (Dict.portMacAddress j.port), tags, p, false⟩

/-! ### Pauses (R396, R397) -/

/-- Commits of a priority are stopped. -/
def stopped (d : Dev) (q prio : Nat) : Bool := decide (d.now < d.get (Hid.pauseUntil q prio))

/-- A frame is committed, or waits for its priority. -/
def submit (d : Dev) (j : TxJob) : Dev :=
  if d.stopped j.port j.priority then { d with txWaiting := d.txWaiting ++ [j] } else d.commit j

/-- The first stamp-requesting frame of a port starts its hold (R399). -/
def startHold (d : Dev) (q : Nat) : Dev :=
  match d.held.find? fun h => h.job.port == q with
  | some first =>
    if first.deadline ≠ 0 then d
    else
      let d := { d with held := startDeadline q (d.now + 64000 * unitsPerNs) d.held }
      (d.inc (Dict.stampHolds q)).postSecond (40 + q) 88 []
  | none => d

/-- A frame is committed, waits for its priority, or, while it asks for a stamp that fewer than 16 free entries leave doubtful, is held
behind those held before it (R396, R399). -/
def offerFrame (d : Dev) (j : TxJob) : Dev :=
  if d.stopped j.port j.priority then { d with txWaiting := d.txWaiting ++ [j] }
  else match j.what with
    | .host _ true =>
      if d.stampFree j.port < 16 ∨ (d.held.any fun h => h.job.port == j.port) then
        let h : HeldFrame := ⟨j, 0⟩
        { d with held := d.held ++ [h] }.startHold j.port
      else d.commit j
    | _ => d.commit j

/-- The last instant to which any commit of the port is stopped. -/
def pauseEnd (d : Dev) (q : Nat) : Nat := ((List.range 8).map fun k => d.get (Hid.pauseUntil q k)).foldl max 0

/-- PausedTime and source 91 up to now (R397, R419). -/
def countPause (d : Dev) (q : Nat) : Dev :=
  let mark := d.get (Hid.pauseMark q)
  if mark = 0 then d
  else
    let upTo := min d.now (d.pauseEnd q)
    let ns := (upTo - (mark - 1)) / unitsPerNs
    let d := (d.add (Dict.pausedTime q) ns).set (Hid.pauseMark q) (mark + ns * unitsPerNs)
    let d := if d.get (Hid.pauseSince q) - 1 + 1000000 * unitsPerNs < upTo ∧ !d.is (Hid.pauseLong q) then
        (d.setB (Hid.pauseLong q) true).post 91 [] else d
    if d.pauseEnd q ≤ d.now then d.clearAll [Hid.pauseMark q, Hid.pauseSince q, Hid.pauseLong q] else d

/-- Frames whose priority is no longer stopped are committed, the device's before the host's (R408). -/
def resume (d : Dev) (q : Nat) : Dev :=
  let go (j : TxJob) : Bool := j.port == q && !d.stopped q j.priority
  let ready := d.txWaiting.filter go
  let d := { d with txWaiting := d.txWaiting.filter fun j => !go j }
  ((ready.filter fun j => !j.fromHost) ++ ready.filter (·.fromHost)).foldl offerFrame d

/-- CT64 units of so many pause quanta of 512 bit times at the port's rate (IEEE 802.3; PRESUMED, log entry 47). -/
def pauseUnits (d : Dev) (q quanta : Nat) : Nat :=
  let mode := d.get (Dict.portMode q)
  let gbit : Rat := if mode = 1 then 100 else if mode = 2 then 25 else 10
  (roundNear ((quanta : Rat) * 512 / gbit * 65536)).toNat

/-- A received PAUSE or PFC frame sets the stop of the priorities it names (R396). -/
def pausePriorities (d : Dev) (q : Nat) (times : List (Nat × Nat)) : Dev :=
  let d := d.countPause q
  let d := times.foldl (fun d t => d.set (Hid.pauseUntil q t.1) (d.now + d.pauseUnits q t.2)) d
  let d := if d.pauseEnd q ≤ d.now then d.clearAll [Hid.pauseMark q, Hid.pauseSince q, Hid.pauseLong q]
    else if d.get (Hid.pauseMark q) = 0 then (d.set (Hid.pauseMark q) (d.now + 1)).set (Hid.pauseSince q) (d.now + 1)
    else d
  d.resume q

/-- PAUSE_RECEIVE (R396, R397). -/
def pauseReceive (d : Dev) (q quanta : Nat) : Dev :=
  if 6 ≤ q ∨ d.get (Dict.portState q) ≠ 3 then d
  else
    let d := d.inc (Dict.rxPauseFrames q)
    if d.get (Dict.portPauseMode q) ≠ 0 then d
    else d.pausePriorities q ((List.range 8).map fun k => (k, quanta % 65536))

/-- PFC_RECEIVE (R396, R397): the time of each priority that the frame enables. -/
def pfcReceive (d : Dev) (q enable : Nat) (times : List Nat) : Dev :=
  if 6 ≤ q ∨ d.get (Dict.portState q) ≠ 3 then d
  else
    let d := d.inc (Dict.rxPfcFrames q)
    if d.get (Dict.portPauseMode q) ≠ 0 then d
    else d.pausePriorities q (((List.range 8).filter (bit enable)).map fun k => (k, times.getD k 0 % 65536))

/-- PAUSE_EXPIRY (R396). -/
def pauseExpiry (d : Dev) (q : Nat) : Dev := if 6 ≤ q then d else (d.countPause q).resume q

/-- Instants of the ports move with a step or set: stops, holds and queue ages are durations (DEDUCED, log entry 48). -/
def shiftPorts (d : Dev) (units : Int) : Dev :=
  let move (e : Entry) (d : Dev) : Dev := if d.get e = 0 then d else d.set e ((d.get e : Int) + units).toNat
  let d := forUnits 6 (fun q d =>
    let d := [Hid.portLockAt q, Hid.portCalAt q, Hid.pauseSince q, Hid.pauseMark q, Hid.esmcAt q].foldl (fun d e => move e d) d
    forUnits 8 (fun k d => move (Hid.pauseUntil q k) d) d) d
  let later (t : Nat) : Nat := ((t : Int) + units).toNat
  let heldThen := d.held.map fun h => if h.deadline = 0 then h else ⟨h.job, later h.deadline⟩
  let queueThen : List StampEntry := d.stampQueue.map fun e => { e with made := later e.made }
  { d with held := heldThen, stampQueue := queueThen }

/-! ### Host frames and the time-stamp queue (R398 to R401, R406 to R408) -/

/-- Held frames of a port are committed in order while 16 entries are free (R399). -/
def releaseHeld (d : Dev) (q : Nat) : Nat → Dev
  | 0 => d
  | fuel + 1 =>
    match d.held.find? fun h => h.job.port == q with
    | some first =>
      if d.stampFree q < 16 then d.startHold q
      else ({ d with held := d.held.eraseP fun h => h.job.port == q }.submit first.job).releaseHeld q fuel
    | none => d

/-- HOST_FRAME_FOR_TRANSMISSION (R399, R405 to R408). A frame for a port that is not Up is dropped (DEDUCED, log entry 49). -/
def hostFrame (d : Dev) (f : HostFrame) : Dev :=
  let q := f.port
  if !d.is Dict.mgtLinkUp then d
  else if 6 ≤ q then d.inc Dict.mgtRxFrames
  else
    let d := (d.inc Dict.mgtRxFrames).excWindow q
    let long := decide (d.get (Dict.portMaxFrame q) + 4 * f.tags.length < f.octets + 4)
    if d.get Dict.excBoundPort = 0 ∨ f.address ≠ d.get Dict.excBoundAddress ∨ f.version ≠ 1 ∨ f.kind ≠ 2 ∨
        f.length ≠ f.octets ∨ f.octets < 14 then d.inc (Dict.excDropped q)
    else if d.get (Dict.portExcRateLimit q) ≤ d.get (Hid.excTaken q) ∨ d.get Dict.excMaxDatagram < 24 + f.octets then d.excDrop q
    else
      let d := d.inc (Hid.excTaken q)
      if long ∨ d.get (Dict.portState q) ≠ 3 then d.inc (Dict.excDropped q)
      else
        let d := d.inc (Dict.excFromHost q)
        let prio := match f.tags with
          | t :: _ => t.2 % 8
          | [] => 0
        let stamp := bit f.flags 0
        d.offerFrame ⟨q, prio, max 64 (f.octets + 4), true, false, .host f.tag stamp⟩

/-- STAMP_HOLD_EXPIRY (R399, R400): the first held frame has waited 64 µs and leaves. -/
def stampHoldExpiry (d : Dev) (q : Nat) : Dev :=
  match d.held.find? fun h => h.job.port == q with
  | some first =>
    if d.now < first.deadline then d
    else ({ d with held := d.held.eraseP fun h => h.job.port == q }.submit first.job).releaseHeld q 512
  | none => d

/-- STAMP_QUEUE_DRAIN (R400, R401): 32 entries wait, or the oldest is 1 ms old; the entries sent are freed, an open
marker takes the first free entry, and held frames go on. -/
def stampDrain (d : Dev) (q : Nat) : Dev :=
  let mine := d.stampQueue.filter fun e => e.port == q
  let due := decide (32 ≤ mine.length) || mine.any fun e => decide (e.made + 1000000 * unitsPerNs ≤ d.now)
  if !due || !d.excReady then d
  else
    let sent := mine.take 32
    let d := d.sendDatagram 3 q 0 (16 * sent.length) sent.length 0 sent
    let rest : List StampEntry := (d.stampQueue.filter fun e => e.port != q) ++ mine.drop 32
    let d := { d with stampQueue := rest }
    let d := match d.openMarkers.find? fun m => m.port == q with
      | some m =>
        let e : StampEntry := { m with made := d.now }
        let open_ : List StampEntry := d.openMarkers.filter fun x => x.port != q
        { d with stampQueue := rest ++ [e], openMarkers := open_ }
      | none => d
    (d.releaseHeld q 512).showStamps q

/-! ### Sent ESMC (R411, R412) -/

/-- The transmitted QL (R411). -/
def esmcQl (d : Dev) (q : Nat) : Nat :=
  let state := d.get Dict.boundState
  let qc := match d.boundRef with
    | some r => if d.state = 3 then d.get (Dict.refQc r) else 0
    | none => 0
  if d.get (Dict.refState (8 + q)) = 4 then 0x0FFF
  else if d.get (Dict.esmcTxMode q) = 1 then d.get (Dict.esmcTxFixedQl q)
  else if d.state = 0 ∨ d.state = 5 then 0x0FFF
  else if state = 4 ∨ state = 5 ∨ d.state = 1 ∨ !d.is Dict.holdoverInSpec then 0x0BFF
  else if qc = 1 then 0x0221
  else if qc = 2 then 0x0220
  else if qc = 3 then 0x02FF
  else d.get (Dict.esmcHoldoverQl q)

/-- An ESMC PDU leaves the port (R412). -/
def sendEsmc (d : Dev) (q : Nat) (event : Bool) : Dev :=
  let identity := if d.is (Dict.esmcExtended q) then some (d.get (Dict.instClockIdentity 0)) else none
  (d.inc (Dict.esmcTx q)).submit
    ⟨q, d.get (Dict.portPcp q), 64, false, false, .plain (.esmc event (d.get (Dict.esmcTxQl q)) identity)⟩

/-- The QL of each port that transmits it, with the event PDU and source 94 of a change (R411, R412). The QL that a port
first transmits is no change (DEDUCED, log entry 50). -/
def esmcFrame (d : Dev) : Dev :=
  forUnits 6 (fun q d =>
    let sending := d.get (Dict.portState q) == 3 && d.is (Dict.esmcEnable q)
    let was := d.is (Hid.esmcSending q)
    let d := d.setB (Hid.esmcSending q) sending
    if !sending then d
    else
      let old := d.get (Dict.esmcTxQl q)
      let ql := d.esmcQl q
      let d := d.set (Dict.esmcTxQl q) ql
      if was && old != ql then (d.post 94 [(1, q), (2, old), (2, ql)]).sendEsmc q true else d) d

/-- ESMC_INFORMATION_PDU (R412): one each second. -/
def esmcInformation (d : Dev) (q : Nat) : Dev :=
  if 6 ≤ q ∨ !d.is (Hid.esmcSending q) ∨ d.get (Dict.portState q) ≠ 3 ∨ d.get (Hid.esmcSecond q) = d.second + 1 then d
  else (d.set (Hid.esmcSecond q) (d.second + 1)).sendEsmc q false

/-! ### Addresses (R81, R427, R545) -/

/-- The unit carries client service: it has no Keeper partner, or is Active (R270, R545). -/
def keeperCarries (d : Dev) : Bool := d.get Dict.keeperRole ≤ 1

/-- An answer about an address leaves a data port, or MGT as port 6. -/
def sendResolved (d : Dev) (q ip address toward : Nat) : Dev :=
  if q < 6 then
    d.submit ⟨q, d.get (Dict.portPcp q), 64 + (if ip = 4 then 0 else 26), false, false,
      .plain (.resolved ip address (d.get (Dict.portMacAddress q)) toward)⟩
  else (d.inc Dict.mgtTxFrames).out
    (.frame ⟨6, 64, d.now, d.get Dict.mgtMacAddress, [], .resolved ip address (d.get Dict.mgtMacAddress) toward, false⟩)

/-- ARP_REQUEST and NEIGHBOUR_SOLICITATION (R81, R427, R545): the port's service address, while this unit carries it, or
an MGT address, is answered to the source MAC of the request. Port 6 is MGT. -/
def answerAddress (d : Dev) (q ip address toward : Nat) : Dev :=
  if address = 0 ∨ 6 < q then d
  else if q = 6 then
    let d := d.inc Dict.mgtRxFrames
    let own := if ip = 4 then d.get Dict.mgtIpv4Address else d.get Dict.mgtIpv6Address
    if own = address && d.is Dict.mgtLinkUp then d.sendResolved 6 ip address toward else d
  else
    let own := if ip = 4 then d.get (Dict.svcIpv4Address q) else d.get (Dict.svcIpv6Address q)
    if own = address && d.keeperCarries && d.get (Dict.portState q) == 3 then d.sendResolved q ip address toward else d

end Dev

end Sys2Proof.Machine
end

