-- ==== Sys2Proof/Machine/Clients.lean ====
section
/-!
DEFINITION. The client table, budgets and admission of the protocol engine (R421, R432, R433, R436, R437, R439 to R442,
R456 to R462, R466).
-/
namespace Sys2Proof.Machine

/-- No grant (R439). -/
abbrev noGrant : Int := 0x7F

/-- Frames in an interval of 2^L s (R430). -/
def intervalFrames (l : Int) : Nat := if 0 ≤ l then framesPerSecond * 2 ^ l.toNat else framesPerSecond / 2 ^ l.natAbs

/-- Messages per second at an interval of 2^L s. -/
def messageRate (l : Int) : Rat := if l = noGrant then 0 else (framesPerSecond : Rat) / ((max 1 (intervalFrames l) : Nat) : Rat)

/-- Two's complement octet of an interval. -/
def logOctet (l : Int) : Nat := (l % 256).toNat

/-- Blocks of an AES-SIV operation (R458): whether a C2S or S2C key, the lengths of its components, and of its plaintext. -/
def sivBlocks (session : Bool) (parts : List Nat) (plain : Nat) : Nat :=
  let blocks (n : Nat) : Nat := (n + 15) / 16
  (if session then 1 else 0) + 1 + (parts.map fun n => max 1 (blocks n)).sum + max 1 (blocks plain) + blocks plain

/-- The key of a record (R439): instance, port, transport and address as octets. -/
def clientKey (inst port transport address : Nat) : List Nat := (inst * 32 + port * 4 + transport) :: octetsOf 16 address

/-- A record's 64 octets (R439). -/
def Client.octets (c : Client) : Nat :=
  ofOctets ([128 + (if 1048576 ≤ c.slot then 64 else 0) + (if c.authSeen then 32 else 0), c.inst * 32 + c.port * 4 + c.transport] ++
    octetsOf 6 c.mac ++ octetsOf 16 c.address ++ octetsOf 10 c.identity ++
    [logOctet c.logAnnounce, logOctet c.logSync, logOctet c.logDelayResp, 0] ++ octetsOf 2 c.sendPhase ++
    octetsOf 4 c.announceExpiry ++ octetsOf 4 c.syncExpiry ++ octetsOf 4 c.delayRespExpiry ++ octetsOf 2 c.syncSeqBase ++
    octetsOf 2 c.lastDelayReqSeq ++ octetsOf 2 c.lastSignallingSeq ++ [0, 0] ++ octetsOf 4 c.grantSecond)

/-- The record holds no grant. -/
def Client.idle (c : Client) : Bool := c.logAnnounce == noGrant && c.logSync == noGrant && c.logDelayResp == noGrant

namespace Dev

/-! ### The table (R439 to R442) -/

/-- ClientCount, ClientStashCount and InstClients (R466, R467). -/
def countClients (d : Dev) : Dev :=
  let d := d.set Dict.clientCount d.clients.length
  let d := d.set Dict.clientStashCount (d.clients.filter fun c => 1048576 ≤ c.slot).length
  forUnits 8 (fun i d => d.set (Dict.instClients i) (d.clients.filter fun c => c.inst == i).length) d

/-- A record is found by its key (R440). -/
def lookup (d : Dev) (inst port transport address : Nat) : Option Client :=
  d.clients.find? fun c => c.inst == inst && c.port == port && c.transport == transport && c.address == address

/-- A lookup that the stash resolved is counted (R440, R674). -/
def countStash (d : Dev) (c : Option Client) : Dev :=
  match c with
  | some c => if 1048576 ≤ c.slot then d.inc Hid.stashHits else d
  | none => d

/-- A record replaces the one in its slot. -/
def putClient (d : Dev) (c : Client) : Dev :=
  let l : List Client := d.clients.map fun x => if x.slot = c.slot then c else x
  { d with clients := l }.inc Hid.clientChanges

/-- A record is freed (R436, R466). -/
def freeClient (d : Dev) (slot : Nat) : Dev :=
  let l : List Client := d.clients.filter fun c => c.slot != slot
  let r : List ClientRate := d.rates.filter fun x => x.slot != slot
  ({ d with clients := l, rates := r }.inc Hid.clientChanges).countClients

/-- The bucket that a hash of a key names (R440): 0 and 1 in the table, 2 in the stash. -/
def bucketOf (d : Dev) (which : Nat) (key : List Nat) : Nat :=
  Config.tableHash d.tableKeys which key % (if which = 2 then 1024 else 131072)

/-- The first free slot of a bucket whose slots start at `base`. -/
def freeSlot (l : List Client) (base : Nat) : Option Nat :=
  ((List.range 8).map (base + ·)).find? fun s => !l.any fun c => c.slot == s

/-- Residents move to their other bucket, at most `fuel` times, until the homeless one finds a free slot (R440). Which
resident of a full bucket moves is free (DESIGN CHOICE, log entry 51). -/
def displace (d : Dev) (homeless : Client) (bucket : Nat) : Nat → List Client → Option (List Client)
  | 0, _ => none
  | fuel + 1, l =>
    match freeSlot l (bucket * 8) with
    | some s => some ({ homeless with slot := s } :: l)
    | none =>
      let s := bucket * 8 + Config.freeValue 32 (d.free * 128 + fuel) % 8
      match l.find? fun c => c.slot == s with
      | none => none
      | some victim =>
        let key := clientKey victim.inst victim.port victim.transport victim.address
        let b1 := d.bucketOf 0 key
        let other := if b1 = bucket then d.bucketOf 1 key else b1
        d.displace victim other fuel ({ homeless with slot := s } :: l.filter fun c => c.slot != s)

/-- The frame offset that holds the fewest records, the lowest of several (R442). -/
def emptiestPhase (d : Dev) : Nat :=
  let held (k : Nat) : Nat := (d.clients.filter fun c => c.sendPhase == k).length
  let level := (List.range (d.clients.length / 4096 + 1)).find? fun n => (List.range 4096).any fun k => held k == n
  match level with
  | some n => ((List.range 4096).find? fun k => held k == n).getD 0
  | none => 0

/-- A new record enters the table (R440 to R442), or nothing when it is full or MEM is down (R608). -/
def insertClient (d : Dev) (c : Client) : Option Dev :=
  if 1048576 ≤ d.clients.length || !d.powered .mem then none
  else
    let key := clientKey c.inst c.port c.transport c.address
    let c := { c with sendPhase := d.emptiestPhase }
    let b1 := d.bucketOf 0 key
    let b2 := d.bucketOf 1 key
    let placed : Option (List Client) :=
      match freeSlot d.clients (b1 * 8) with
      | some s => some ({ c with slot := s } :: d.clients)
      | none =>
        match freeSlot d.clients (b2 * 8) with
        | some s => some ({ c with slot := s } :: d.clients)
        | none =>
          match d.displace c b1 128 d.clients with
          | some l => some l
          | none => (freeSlot d.clients (1048576 + d.bucketOf 2 key * 8)).map fun s => { c with slot := s } :: d.clients
    placed.map fun l => ({ d with clients := l }.inc Hid.clientChanges).countClients

/-- Rate state of a slot; full where nothing is kept (R442). -/
def rateOf (d : Dev) (slot : Nat) : ClientRate := (d.rates.find? fun r => r.slot == slot).getD ⟨slot, 4, d.now, 0, 0, noGrant, 0⟩

/-- Rate state of a slot takes a value. -/
def putRate (d : Dev) (r : ClientRate) : Dev :=
  let l : List ClientRate := r :: d.rates.filter fun x => x.slot != r.slot
  { d with rates := l }

/-- Item w of ClientWindow (R466). -/
def clientWindowAt (d : Dev) (slot : Nat) : Nat := ((d.clients.find? fun c => c.slot == slot).map Client.octets).getD 0

/-! ### Service (R421, R684) -/

/-- The engine serves clients (R421, R684). -/
def serving (d : Dev) : Bool :=
  d.lifeCycle == 2 && d.is Dict.outputsPermitted && !d.is Dict.startServiceHoldActive && d.powered .proto

/-- An instance is bound to removed ports only, so it has stopped (R52). -/
def instStopped (d : Dev) (i : Nat) : Bool :=
  let ports := (List.range 6).filter (bit (d.get (Dict.instPortMask i)))
  !ports.isEmpty && ports.all fun q => d.removed (.port q)

/-- InstState of every instance (R421, R467). One that has stopped with its ports reads Silent (R52; DESIGN CHOICE, log entry 116). -/
def showInstances (d : Dev) : Dev :=
  forUnits 8 (fun i d =>
    d.set (Dict.instState i) (if !d.is (Dict.instEnable i) || !d.powered .proto then 0
      else if d.serving && !d.instStopped i then 1 else 2)) d

/-- The instance serves (R421, R52). -/
def instServes (d : Dev) (i : Nat) : Bool := d.is (Dict.instEnable i) && d.serving && !d.instStopped i

/-- The SA that authenticates an instance's messages; 0xFF none (R445). -/
def instSaOf (d : Dev) (i : Nat) : Nat := if d.get (Dict.instAuthMode i) = 0 then 0xFF else d.get (Dict.instSa i)

/-- A port's service address of a transport, as 16 octets (R426, R439). -/
def serviceAddress (d : Dev) (q transport : Nat) : Nat :=
  if transport = 1 then 0xFFFF * 2 ^ 32 + d.get (Dict.svcIpv4Address q)
  else if transport = 2 then d.get (Dict.svcIpv6Address q) else 0

/-- The port serves the transport: L2 always, UDP with a service address (R467). -/
def transportReady (d : Dev) (q transport : Nat) : Bool :=
  transport == 0 || (transport == 1 && d.get (Dict.svcIpv4Address q) != 0) || (transport == 2 && d.get (Dict.svcIpv6Address q) != 0)

/-! ### Costs and budgets (R456 to R460) -/

/-- HMAC blocks of a message an instance sends, from its octets before the bound and AUTHENTICATION TLVs. -/
def sendBlocks (d : Dev) (i type octets : Nat) : Nat :=
  if d.get (Dict.instAuthMode i) = 0 then 0
  else
    let tlv := match boundTlvBit type with
      | some b => if bit (d.get Dict.boundTlvMessages) b then 48 else 0
      | none => 0
    hmacBlocks (octets + tlv + 10)

/-- Octets of the message kinds before their TLVs (R428). -/
def plainOctets (type : Nat) : Nat := if type = 11 then 64 else if type = 9 then 54 else 44

/-- Pipeline messages, HMAC blocks and AES blocks per second at an operating point with so many lanes (R458, R459). -/
def budgetAt (point hmacLanes aesLanes : Nat) : Nat × Nat × Nat :=
  let k := point + 2
  (16000000 * k, 37500000 * k * hmacLanes / 32, 120000000 * k * aesLanes / 16)

/-- The budget per second now (R459); a third of OP0's while system clocks run from ROSC (R568). -/
def budget (d : Dev) : Nat × Nat × Nat :=
  let lanes := (d.get Dict.hmacLanesInService, d.get Dict.aesLanesInService)
  if d.get Dict.sysClockSource = 0 then
    let b := budgetAt 0 lanes.1 lanes.2
    (b.1 / 3, b.2.1 / 3, b.2.2 / 3)
  else budgetAt (min 2 (d.get Dict.opActive)) lanes.1 lanes.2

/-- Work fits what is left of the frame's budget beside so much reserved (R459, R460). -/
def fits (d : Dev) (msgs hmac aes : Nat) (reserved : Nat × Nat) : Bool :=
  let d := d.budgetFrame
  let b := d.budget
  decide ((d.get Hid.protoMsgs + msgs + reserved.1) * framesPerSecond ≤ b.1) &&
    (hmac == 0 || decide ((d.get Hid.protoHmac + hmac + reserved.2) * framesPerSecond ≤ b.2.1)) &&
    (aes == 0 || decide ((d.get Hid.protoAes + aes) * framesPerSecond ≤ b.2.2))

/-- A pair unit has room for another client-record change in the frame (R539). -/
def changesLeft (d : Dev) : Bool := d.get Dict.keeperRole == 0 || decide (d.budgetFrame.get Hid.clientChanges < 2048)

/-- Messages and HMAC and AES blocks take their share of the frame's budget, and the messages enter the second's count (R456,
R459, R466). -/
def take (d : Dev) (msgs hmac aes : Nat) : Dev :=
  (((d.budgetFrame.add Hid.protoMsgs msgs).add Hid.protoHmac hmac).add Hid.protoAes aes).add Hid.protoSecondMsgs msgs

/-- Admitted work takes its share under its class (R459, R460). -/
def spend (d : Dev) (cls msgs hmac aes : Nat) : Dev := (d.take msgs hmac aes).add (Hid.classAdmitted cls) msgs

/-- Source 101 for work that is shed (R460, R461, R471). -/
def overload (d : Dev) (cls : Nat) : Dev := (d.inc (Hid.classShed cls)).postSecond 48 101 [(1, cls), (2, min 0xFFFF (d.get Dict.protoShedCount))]

/-- The messages of the last second, and the pipeline's capacity (R466). -/
def showLoad (d : Dev) : Dev :=
  let d := d.set Dict.protoPipelineCapacity d.budget.1
  if d.get Hid.protoSecond = d.second + 1 then d
  else ((d.set Dict.protoLoadLastSecond (d.get Hid.protoSecondMsgs)).set Hid.protoSecondMsgs 0).set Hid.protoSecond (d.second + 1)

/-! ### Admission (R462) -/

/-- Load of one record's grants per second: class 2 messages and blocks, class 3 messages and blocks (R462). Delay_Resp
load takes a Delay_Req with each response. -/
def clientLoad (d : Dev) (c : Client) : Rat × Rat × Rat × Rat :=
  let i := c.inst
  let steps : Rat := if d.get (Dict.instStepMode i) = 1 then 2 else 1
  let syncBlocks : Rat := (d.sendBlocks i 0 44 : Nat) + (if steps = 2 then ((d.sendBlocks i 8 44 : Nat) : Rat) else 0)
  let respBlocks : Rat := ((d.sendBlocks i 9 54 : Nat) : Rat) +
    (if d.get (Dict.instAuthMode i) = 0 then 0 else ((hmacBlocks 54 : Nat) : Rat))
  let s := messageRate c.logSync
  let r := messageRate c.logDelayResp
  (s * steps, s * syncBlocks, 2 * r, r * respBlocks)

/-- Unicast Announce load: one message for each instance, port and interval (R456). -/
def announceLoad (d : Dev) (l : List Client) : Rat × Rat :=
  let pairs := (l.filter fun c => c.logAnnounce != noGrant).map fun c => (c.inst, c.port)
  let loads := pairs.eraseDups.map fun p =>
    let rate := messageRate (d.getI (Dict.instLogAnnounce p.1))
    (rate, rate * ((d.sendBlocks p.1 11 64 : Nat) : Rat))
  ((loads.map (·.1)).sum, (loads.map (·.2)).sum)

/-- The two conditions of R462 on a set of records. -/
def admitted (d : Dev) (l : List Client) : Bool :=
  let lanes := d.get Dict.hmacLanesInService
  let aes := d.get Dict.aesLanesInService
  let loads := l.map d.clientLoad
  let a := d.announceLoad l
  let m2 := (loads.map (·.1)).sum + a.1
  let h2 := (loads.map (·.2.1)).sum + a.2
  let m3 := (loads.map (·.2.2.1)).sum
  let h3 := (loads.map (·.2.2.2)).sum
  let low := budgetAt 0 lanes aes
  let high := budgetAt 2 lanes aes
  let share : Rat := ((d.get Dict.protoGrantLoadLimit : Nat) : Rat) / 100
  decide (m2 ≤ (low.1 : Rat)) && decide (h2 ≤ (low.2.1 : Rat)) &&
    decide (m2 + m3 ≤ share * (high.1 : Rat)) && decide (h2 + h3 ≤ share * (high.2.1 : Rat))

/-! ### Sequence bases (R432, R433) -/

/-- The first interval of a new rate that starts at least 2 frames after this one: its index, and the global frame at
which it starts (R433). -/
def firstInterval (d : Dev) (l : Int) : Nat × Nat :=
  let f := max 1 (intervalFrames l)
  let n := (d.globalFrame + 2 + f - 1) / f
  (n, n * f)

/-- The base after a change of interval (R432): it continues the numbers of the last old interval that starts before. -/
def newBase (d : Dev) (old new : Int) (base : Nat) : Nat :=
  let (n, start) := d.firstInterval new
  let f := max 1 (intervalFrames old)
  let last := (start + f - 1) / f - 1 + base
  ((last + 1 : Nat) + (65536 - n % 65536 : Nat)) % 65536

/-- A written InstLogSync or InstLogAnnounce takes the numbering on (R432). -/
def followRate (d : Dev) (log seen old oldBase from_ base : Entry) : Dev :=
  let now := d.getI log
  let was := d.getI seen
  if was = now then d
  else if was = noGrant then d.setI seen now
  else
    let d := (d.setI old was).set oldBase (d.get base)
    let d := d.set from_ (d.firstInterval now).2
    let d := d.set base (d.newBase was now (d.get base))
    d.setI seen now

/-- Both rates of every instance (R432). -/
def followRates (d : Dev) : Dev :=
  forUnits 8 (fun i d =>
    let d := d.followRate (Dict.instLogSync i) (Hid.syncLog i) (Hid.syncOld i) (Hid.syncOldBase i) (Hid.syncFrom i)
      (Dict.instSyncSeqBase i)
    d.followRate (Dict.instLogAnnounce i) (Hid.announceLog i) (Hid.announceOld i) (Hid.announceOldBase i)
      (Hid.announceFrom i) (Dict.instAnnounceSeqBase i)) d

/-- The interval and base in force in this frame: the old ones until the new interval starts (R432, R433). -/
def rateInForce (d : Dev) (log : Int) (base from_ : Nat) (old : Int) (oldBase : Nat) : Option (Int × Nat) :=
  if from_ ≤ d.globalFrame then (if log = noGrant then none else some (log, base))
  else if old = noGrant then none else some (old, oldBase)

/-- The interval index and sequenceId of a message whose frame this is (R430): G ≡ P modulo F, its interval started
after service began (R434, R685). -/
def dueNow (d : Dev) (rate : Option (Int × Nat)) (phase : Nat) (fresh : Bool) : Option (Nat × Nat) :=
  match rate with
  | none => none
  | some (l, base) =>
    let f := max 1 (intervalFrames l)
    let g := d.globalFrame
    let n := g / f
    if g % f = phase % f ∧ (!fresh ∨ d.get Hid.serveFrom ≤ n * f) then some (n, (n + base) % 65536) else none

/-! ### Lapse (R436) -/

/-- A grant of a record ends (R436): type 11 Announce, 0 Sync, 9 Delay_Resp; the record of the last is freed. -/
def endGrant (d : Dev) (slot type : Nat) : Dev :=
  match d.clients.find? fun c => c.slot == slot with
  | none => d
  | some c =>
    let c := if type = 11 then { c with logAnnounce := noGrant } else if type = 0 then { c with logSync := noGrant }
      else if type = 9 then { c with logDelayResp := noGrant } else c
    if c.idle then d.freeClient slot else d.putClient c

/-- The grant of a record has passed the end of its expiry second (R436, R439). -/
def grantOver (d : Dev) (c : Client) (type : Nat) : Bool :=
  let (l, e) := if type = 11 then (c.logAnnounce, c.announceExpiry) else if type = 0 then (c.logSync, c.syncExpiry)
    else (c.logDelayResp, c.delayRespExpiry)
  let past := (d.second + 2 ^ 32 - e) % 2 ^ 32
  l != noGrant && past != 0 && decide (past < 2 ^ 31)

/-- GRANT_LAPSE (R436): the named grant, when its time has come. -/
def grantLapse (d : Dev) (slot type : Nat) : Dev :=
  match d.clients.find? fun c => c.slot == slot with
  | some c => if [0, 9, 11].contains type && d.grantOver c type then d.endGrant slot type else d
  | none => d

/-- Every grant that is over, once each second (R436). -/
def lapseAll (d : Dev) : Dev :=
  d.clients.foldl (fun d c => [0, 9, 11].foldl (fun d t => d.grantLapse c.slot t) d) d

/-- CLIENT_DELETE accepted (R466): the named record is freed. -/
def clientDelete (d : Dev) (v : Nat) : Dev :=
  let f (o n : Nat) : Nat := v / 256 ^ (24 - o - n) % 256 ^ n
  match d.lookup (f 0 1) (f 1 1) (f 2 1) (f 8 16) with
  | some c => d.freeClient c.slot
  | none => d

end Dev

end Sys2Proof.Machine
end

