-- ==== Sys2Proof/Machine/Ptp.lean ====
section
/-!
DEFINITION. The PTP instances: scheduled messages, Delay_Req, unicast negotiation, received authentication, the order of
work (R422 to R438, R443 to R445, R460 to R464).
-/
namespace Sys2Proof.Machine

/-- Multicast destination of an instance: MAC and address (R426). -/
def multicastTo (transport l2 : Nat) : Nat × Nat :=
  if transport = 0 then (if l2 = 0 then 0x011B19000000 else 0x0180C200000E, 0)
  else if transport = 1 then (0x01005E000181, 0xFFFFE0000181)
  else (0x333300000181, 0xFF0E0000000000000000000000000181)

/-- UDP port of a message type (R426). -/
def ptpPort (type : Nat) : Nat := if type = 0 ∨ type = 1 then 319 else 320

/-- flagField of a sent message before Announce flags (R428): twoStepFlag, unicastFlag. -/
def flagField (twoStep unicast : Bool) : Nat := (if twoStep then 0x0200 else 0) + (if unicast then 0x0400 else 0)

/-- GRANT_UNICAST_TRANSMISSION with renewalInvited (R435). -/
def grantTlv (type : Nat) (period : Int) (duration : Nat) : List Nat :=
  octetsOf 2 5 ++ octetsOf 2 8 ++ [type * 16, logOctet period] ++ octetsOf 4 duration ++ [0, 1]

/-- ACKNOWLEDGE_CANCEL_UNICAST_TRANSMISSION (R436). -/
def ackCancelTlv (type : Nat) : List Nat := octetsOf 2 7 ++ octetsOf 2 2 ++ [type * 16, 0]

/-- REQUEST_UNICAST_TRANSMISSION (R445). -/
def requestTlv (type : Nat) (period : Int) (duration : Nat) : List Nat :=
  octetsOf 2 4 ++ octetsOf 2 6 ++ [type * 16, logOctet period] ++ octetsOf 4 duration

/-- CANCEL_UNICAST_TRANSMISSION (R445). -/
def cancelTlv (type : Nat) : List Nat := octetsOf 2 6 ++ octetsOf 2 2 ++ [type * 16, 0]

/-- The number of a message among those that fall due in a frame. -/
def sendKey (s : Send) : Nat := ((s.kind * 16 + s.sender) * 8 + s.port) * 2 ^ 22 + s.slot

namespace Dev

/-! ### Received authentication (R444, R445) -/

/-- A TLV's SA and the slot that verifies it (R444), when its form, SPP and keyID are in order. -/
def tlvKey (d : Dev) (t : AuthTlv) : Option (Nat × Nat) :=
  match (List.range 32).find? fun s => d.is (Dict.saEnable s) && d.get (Dict.saSpp s) == t.spp with
  | none => none
  | some s =>
    if !t.last || t.length != 22 || t.indicator != 0 then none
    else if t.keyId = d.get (Dict.saKeyIdCurrent s) then some (s, d.get (Dict.saSlotCurrent s))
    else if t.keyId = d.get (Dict.saKeyIdPrevious s) ∧ d.now < ofTime96 (d.get (Dict.saPreviousUntil s)) then
      some (s, d.get (Dict.saSlotPrevious s))
    else none

/-- A received TLV fails (R444): counted, source 103 at most once a second. The capture names the instance, or 8 + r. -/
def authFail (d : Dev) (sender : Nat) (t : AuthTlv) : Dev :=
  let d := if sender < 8 then d.inc (Dict.instAuthFailRx sender) else d
  let d := match (List.range 32).find? fun s => d.is (Dict.saEnable s) && d.get (Dict.saSpp s) == t.spp with
    | some s => d.inc (Dict.saVerifyFail s)
    | none => d
  d.postSecond 49 103 [(1, sender), (1, t.spp)]

/-- A message's TLV is verified (R443, R444, R464): nothing when the message is dropped, else whether it is
authenticated. -/
def verify (d : Dev) (sender : Nat) (m : PtpRx) : Dev × Option Bool :=
  match m.auth with
  | none => (d, some false)
  | some t =>
    match d.tlvKey t with
    | none => (d.authFail sender t, none)
    | some (s, slot) =>
      let (d, r) := d.dispatch (0x8000 + slot) 3
      match r with
      | .key material =>
        let octets := if d.is (Dict.saMaskCorrection s) then m.octets.take 8 ++ List.replicate 8 0 ++ m.octets.drop 16 else m.octets
        if hmacSha256 material octets / 2 ^ 128 % 2 ^ 128 = t.icv % 2 ^ 128 then (d, some true)
        else (d.authFail sender t, none)
      | _ => (d, none)

/-- Acceptance of a received message by an instance (R445): mode 0 ignores a TLV, mode 2 drops the unauthenticated. -/
def accept (d : Dev) (i : Nat) (m : PtpRx) : Dev × Option Bool :=
  match d.get (Dict.instAuthMode i) with
  | 0 => (d, some false)
  | mode =>
    let (d, r) := d.verify i m
    if mode = 2 && r == some false then (d, none) else (d, r)

/-- The instance that a received message belongs to (R424 to R426). -/
def instanceFor (d : Dev) (m : PtpRx) : Option Nat :=
  (List.range 8).find? fun i =>
    d.is (Dict.instEnable i) && bit (d.get (Dict.instPortMask i)) m.rx.port && d.get (Dict.instDomain i) == m.domain &&
      d.get (Dict.instTransport i) == m.transport && (d.get (Dict.instMode i) == 0 || m.unicast) &&
      (m.transport == 0 || !m.unicast || m.destination == d.serviceAddress m.rx.port m.transport)

/-! ### Messages (R426, R428) -/

/-- The route to a unicast destination (R426). -/
def unicastRoute (d : Dev) (q transport mac address type : Nat) : Route :=
  ⟨transport, mac, d.serviceAddress q transport, address, ptpPort type, d.get (Dict.svcHopLimit q), d.get (Dict.svcDscp q)⟩

/-- The route of an instance's multicast messages (R426). -/
def multicastRoute (d : Dev) (i q type : Nat) : Route :=
  let t := d.get (Dict.instTransport i)
  let (mac, address) := multicastTo t (d.get (Dict.instL2Address i))
  d.unicastRoute q t mac address type

/-- A PTP message goes to its port's transmit pipeline. -/
def submitPtp (d : Dev) (q sender sa : Nat) (r : Route) (m : PtpMessage) (fill : Fill) (late : Bool) : Dev :=
  d.submit ⟨q, d.get (Dict.portPcp q), 0, false, late, .ptp sender sa r m fill⟩

/-- A message of an instance from a port with an empty body (R428). -/
def instMessage (d : Dev) (i q type : Nat) (unicast : Bool) (sequence : Nat) (interval : Int) : PtpMessage :=
  ⟨type, d.get (Dict.instDomain i), flagField (type == 0 && d.get (Dict.instStepMode i) == 1) unicast, 0,
    d.get (Dict.instClockIdentity i), q + 1, sequence % 65536, interval, []⟩

/-! ### What falls due (R430, R431, R434) -/

/-- The ports an instance sends on. -/
def instPorts (d : Dev) (i : Nat) : List Nat :=
  (List.range 6).filter fun q =>
    bit (d.get (Dict.instPortMask i)) q && d.get (Dict.portState q) == 3 && d.transportReady q (d.get (Dict.instTransport i))

/-- A message has been submitted in this frame. -/
def submitted (d : Dev) (key : Nat) : Bool := d.sentNow.any fun p => p.1 == 2 * key

/-- The two-step Sync of a key that left in this frame: its egress time and sequenceId (R394). -/
def syncLeft (d : Dev) (key : Nat) : Option (Nat × Nat) :=
  (d.sentNow.find? fun p => p.1 == 2 * key + 1).map fun p => (p.2 / 65536, p.2 % 65536)

/-- Multicast Sync or Announce of an instance due in this frame (R430). -/
def multicastDue (d : Dev) (i kind : Nat) : Option (Nat × Nat × Int) :=
  let rate := if kind = 2 then
      d.rateInForce (d.getI (Dict.instLogAnnounce i)) (d.get (Dict.instAnnounceSeqBase i)) (d.get (Hid.announceFrom i))
        (d.getI (Hid.announceOld i)) (d.get (Hid.announceOldBase i))
    else
      d.rateInForce (d.getI (Dict.instLogSync i)) (d.get (Dict.instSyncSeqBase i)) (d.get (Hid.syncFrom i))
        (d.getI (Hid.syncOld i)) (d.get (Hid.syncOldBase i))
  match rate with
  | some (l, _) => (d.dueNow rate 0 true).map fun p => (p.1, p.2, l)
  | none => none

/-- Unicast Sync or Announce of a record due in this frame (R430, R433). -/
def unicastDue (d : Dev) (c : Client) (kind : Nat) : Option (Nat × Nat × Int) :=
  let r := d.rateOf c.slot
  let rate := if kind = 2 then
      d.rateInForce c.logAnnounce (d.get (Dict.instAnnounceSeqBase c.inst)) r.announceFrom noGrant 0
    else d.rateInForce c.logSync c.syncSeqBase r.syncFrom r.oldLog r.oldBase
  match rate with
  | some (l, _) => (d.dueNow rate c.sendPhase true).map fun p => (p.1, p.2, l)
  | none => none

/-- NREF Delay_Req due in this frame (R430): in Receiving, at the granted interval, in every Keeper role. -/
def nrefDue (d : Dev) (r : Nat) : Option (Nat × Nat × Int) :=
  match d.nrefs.find? fun x => x.ref == r with
  | some x =>
    match x.grants.find? fun g => g.1 == 9 with
    | some g =>
      if d.get (Dict.nrefState r) = 2 then (d.dueNow (some (g.2.1, 0)) 0 false).map fun p => (p.1, p.2, g.2.1) else none
    | none => none
  | none => none

/-- A message falls due in this frame: interval index, sequenceId, interval (R430, R431). -/
def due (d : Dev) (s : Send) : Option (Nat × Nat × Int) :=
  let i := s.sender
  let found : Option (Nat × Nat × Int) :=
    if s.kind = 4 then (if 8 ≤ i ∧ i < 10 ∧ s.port = d.get (Dict.nrefPort (i - 8)) then d.nrefDue (i - 8) else none)
    else if s.kind = 3 then
      match d.signals[s.slot]? with
      | some x =>
        if x.sender = i ∧ x.port = s.port ∧ !x.tlvs.isEmpty ∧ (8 ≤ i ∨ d.instServes i) ∧
            (x.lastFrame = 0 ∨ x.lastFrame - 1 + 256 ≤ d.globalFrame) then
          some (0, d.globalFrame / 256 % 65536, noGrant)
        else none
      | none => none
    else if 8 ≤ i ∨ 2 < s.kind ∨ !d.instServes i ∨ !(d.instPorts i).contains s.port then none
    else if s.kind = 1 then
      let interval := ((d.clients.find? fun c => c.slot + 1 == s.slot).map (·.logSync)).getD (d.getI (Dict.instLogSync i))
      (d.syncLeft (sendKey { s with kind := 0 })).map fun p => (0, p.2, interval)
    else if s.slot = 0 then (if d.get (Dict.instMode i) = 0 then d.multicastDue i s.kind else none)
    else
      match d.clients.find? fun c => c.slot + 1 == s.slot with
      | some c => if c.inst = i ∧ c.port = s.port ∧ d.get (Dict.instMode i) = 1 then d.unicastDue c s.kind else none
      | none => none
  if d.submitted (sendKey s) || d.get (Dict.portState s.port) != 3 then none else found

/-- Every message that could fall due in a frame, for the reserve of R460. -/
def sendCandidates (d : Dev) : List Send :=
  (List.range 8).flatMap (fun i => if d.is (Dict.instEnable i) then
    (d.instPorts i).flatMap fun q => [⟨0, i, q, 0⟩, ⟨1, i, q, 0⟩, ⟨2, i, q, 0⟩] else []) ++
  d.clients.flatMap (fun c => [⟨0, c.inst, c.port, c.slot + 1⟩, ⟨1, c.inst, c.port, c.slot + 1⟩, ⟨2, c.inst, c.port, c.slot + 1⟩]) ++
  (List.range d.signals.length).map (fun k => match d.signals[k]? with
    | some x => ⟨3, x.sender, x.port, k⟩
    | none => ⟨3, 15, 7, k⟩) ++
  (List.range 2).map fun r => ⟨4, 8 + r, d.get (Dict.nrefPort r), 0⟩

/-- Pipeline messages and HMAC blocks of a scheduled message (R456, R457). Copies of a unicast Announce after the first of
their interval cost nothing. -/
def sendCost (d : Dev) (s : Send) (n : Nat) : Nat × Nat :=
  let copy := s.kind == 2 && s.slot != 0 && d.get (Hid.announceMade s.sender s.port) == n + 1
  if copy then (0, 0)
  else if 8 ≤ s.sender then (1, if d.get (Dict.nrefSa (s.sender - 8)) < 32 then hmacBlocks 54 else 0)
  else
    let type := if s.kind = 0 then 0 else if s.kind = 1 then 8 else if s.kind = 2 then 11 else 12
    let octets := if s.kind = 3 then 44 + ((d.signals[s.slot]?.map fun x => x.tlvs.flatten.length).getD 0) else plainOctets type
    (1, d.sendBlocks s.sender type octets)

/-- What class 2 still needs in this frame (R460). -/
def reserved (d : Dev) : Nat × Nat :=
  d.sendCandidates.foldl (fun acc s =>
    match d.due s with
    | some (n, _, _) =>
      let c := d.sendCost s n
      (acc.1 + c.1, acc.2 + c.2)
    | none => acc) (0, 0)

/-! ### Signalling (R431) -/

/-- TLVs wait for a destination; those that fall due in 256 frames leave in one message (R431). -/
def signal (d : Dev) (sender q : Nat) (route : Route) (target : Nat) (tlv : List Nat) : Dev :=
  let same (x : Signalling) : Bool := x.sender == sender && x.port == q && x.route.address == route.address && x.route.mac == route.mac
  if d.signals.any same then
    let l : List Signalling := d.signals.map fun x =>
      if same x then { x with tlvs := x.tlvs ++ [tlv], route := route, target := target } else x
    { d with signals := l }
  else
    let x : Signalling := ⟨sender, q, route, target, [tlv], 0⟩
    { d with signals := d.signals ++ [x] }

/-- Destinations with nothing waiting, 256 frames after the last message, are forgotten. -/
def pruneSignals (d : Dev) : Dev :=
  let l : List Signalling := d.signals.filter fun x => !x.tlvs.isEmpty || decide (d.globalFrame < x.lastFrame - 1 + 256)
  { d with signals := l }

/-- The Signalling message of a destination leaves (R428, R431). -/
def sendSignalling (d : Dev) (k sequence : Nat) (x : Signalling) : Dev :=
  let l : List Signalling := d.signals.set k { x with tlvs := [], lastFrame := d.globalFrame + 1 }
  let d := { d with signals := l }
  let body := octetsOf 10 x.target ++ x.tlvs.flatten
  if x.sender < 8 then
    let m := d.instMessage x.sender x.port 12 true sequence noGrant
    d.submitPtp x.port x.sender (d.instSaOf x.sender) x.route { m with body := body } .none false
  else
    let r := x.sender - 8
    let m : PtpMessage := ⟨12, d.get (Dict.nrefDomain r), flagField false true, 0, d.get (Dict.instClockIdentity 0), x.port + 1,
      sequence, noGrant, body⟩
    d.submitPtp x.port x.sender (d.get (Dict.nrefSa r)) x.route m .none false

/-! ### Scheduled messages (R430, R456, R460, R461) -/

/-- The route of an NREF's messages (R445). -/
def nrefRoute (d : Dev) (r type : Nat) : Route :=
  let q := d.get (Dict.nrefPort r)
  ⟨d.get (Dict.nrefTransport r), d.get (Dict.nrefNextHopMac r), d.get (Dict.nrefLocalAddress r),
    d.get (Dict.nrefMasterAddress r), ptpPort type, d.get (Dict.svcHopLimit q), d.get (Dict.svcDscp q)⟩

/-- A due message is built and submitted (R394, R426, R428, R430). -/
def sendDue (d : Dev) (s : Send) (sequence : Nat) (interval : Int) (late : Bool) : Dev :=
  let i := s.sender
  let q := s.port
  if s.kind = 4 then
    let r := i - 8
    let m : PtpMessage := ⟨1, d.get (Dict.nrefDomain r), flagField false true, 0, d.get (Dict.instClockIdentity 0), q + 1,
      sequence, interval, List.replicate 10 0⟩
    d.submitPtp q i (d.get (Dict.nrefSa r)) (d.nrefRoute r 1) m (.exchange r) late
  else if s.kind = 3 then
    match d.signals[s.slot]? with
    | some x => d.sendSignalling s.slot sequence x
    | none => d
  else
    let type := if s.kind = 0 then 0 else if s.kind = 1 then 8 else 11
    let unicast := s.slot != 0
    let route := match d.clients.find? fun c => c.slot + 1 == s.slot with
      | some c => d.unicastRoute q c.transport c.mac c.address type
      | none => d.multicastRoute i q type
    let m := d.instMessage i q type unicast sequence interval
    let sa := d.instSaOf i
    if s.kind = 1 then
      let t := ((d.syncLeft (sendKey { s with kind := 0 })).map (·.1)).getD 0
      d.submitPtp q i sa route { m with body := ptpTimestamp t, correction := (ptpFraction t : Int) } .none late
    else if s.kind = 2 then d.submitPtp q i sa route m .none late
    else if d.get (Dict.instStepMode i) = 1 then
      d.submitPtp q i sa route { m with body := List.replicate 10 0 } (.keep (sendKey s)) late
    else d.submitPtp q i sa route m .origin late

/-- SCHEDULED_SEND (R430, R434, R460, R461): a message that falls due in this frame and has not been sent is admitted and
committed, or is not sent at all. -/
def scheduledSend (d : Dev) (s : Send) (late : Bool) : Dev :=
  match d.due s with
  | none => d
  | some (n, sequence, interval) =>
    let cost := d.sendCost s n
    let d := { d with sentNow := d.sentNow ++ [(2 * sendKey s, 0)] }
    if !d.fits cost.1 cost.2 0 (0, 0) then (d.skipped s.sender).overload 2
    else
      let d := d.spend 2 cost.1 cost.2 0
      let d := if s.kind = 2 ∧ s.slot ≠ 0 then d.set (Hid.announceMade s.sender s.port) (n + 1) else d
      d.sendDue s sequence interval late

/-! ### Delay_Req (R431, R437, R438) -/

/-- The Delay_Resp to a Delay_Req (R428, R431). -/
def sendDelayResp (d : Dev) (i : Nat) (m : PtpRx) (interval : Int) : Dev :=
  let t := d.rxTime m.rx
  let r := d.unicastRoute m.rx.port m.transport m.rx.mac m.source 9
  let x := d.instMessage i m.rx.port 9 true m.sequence interval
  let x := { x with body := ptpTimestamp t ++ octetsOf 10 m.identity, correction := m.correction - (ptpFraction t : Int) }
  d.submitPtp m.rx.port i (d.instSaOf i) r x .none false

/-- Delay_Req tokens of a client now (R437): twice the granted rate, at most 4. -/
def tokensNow (d : Dev) (c : Client) : Rat :=
  let r := d.rateOf c.slot
  min 4 (r.tokens + 2 * messageRate c.logDelayResp * (((d.now : Int) - r.time : Int) : Rat) / ((secondUnits : Nat) : Rat))

/-- An accepted Delay_Req is answered, or dropped and counted (R437, R438). -/
def answerDelayReq (d : Dev) (i : Nat) (m : PtpRx) : Dev :=
  let (d, ok) := d.accept i m
  match ok with
  | none => d
  | some auth =>
    if d.get (Dict.instMode i) = 0 then
      let q := m.rx.port
      let d := if d.get (Hid.mcastSecond i q) = d.second + 1 then d
        else (d.set (Hid.mcastSecond i q) (d.second + 1)).set (Hid.mcastCount i q) 0
      if d.get (Dict.instMcastDelayReqLimit i) ≤ d.get (Hid.mcastCount i q) then d.inc (Dict.instDelayReqDropped i)
      else (d.inc (Hid.mcastCount i q)).sendDelayResp i m (d.getI (Dict.instLogDelayResp i))
    else
      let found := d.lookup i m.rx.port m.transport m.source
      let d := d.countStash found
      match found with
      | none => d
      | some c =>
        let ahead := (m.sequence + 65536 - c.lastDelayReqSeq) % 65536
        if c.logDelayResp = noGrant then d
        else if ahead = 0 ∨ 32768 ≤ ahead then d.inc (Dict.instDelayReqDropped i)
        else
          let tokens := d.tokensNow c
          let rate := d.rateOf c.slot
          if tokens < 1 then (d.putRate { rate with tokens := tokens, time := d.now }).inc (Dict.instDelayReqDropped i)
          else
            let d := d.putRate { rate with tokens := tokens - 1, time := d.now }
            let d := d.putClient { c with lastDelayReqSeq := m.sequence, mac := m.rx.mac, identity := m.identity, authSeen := auth }
            d.sendDelayResp i m c.logDelayResp

/-! ### Unicast negotiation (R435, R436) -/

/-- A record with a request's grant made (R432, R433, R435, R439), and its rate state. -/
def grantInto (d : Dev) (c : Client) (t : UnicastTlv) (duration : Nat) : Client × ClientRate :=
  let r := d.rateOf c.slot
  let expiry := (d.second + duration) % 2 ^ 32
  let c := { c with grantSecond := d.second % 2 ^ 32 }
  if t.type = 11 then
    let from_ := if c.logAnnounce = t.period then r.announceFrom else (d.firstInterval t.period).2
    ({ c with logAnnounce := t.period, announceExpiry := expiry }, { r with announceFrom := from_ })
  else if t.type = 0 then
    let c' := { c with syncExpiry := expiry }
    if c.logSync = t.period then (c', r)
    else if c.logSync = noGrant then
      ({ c' with logSync := t.period }, { r with syncFrom := (d.firstInterval t.period).2, oldLog := noGrant })
    else
      ({ c' with logSync := t.period, syncSeqBase := d.newBase c.logSync t.period c.syncSeqBase },
        { r with syncFrom := (d.firstInterval t.period).2, oldLog := c.logSync, oldBase := c.syncSeqBase })
  else ({ c with logDelayResp := t.period, delayRespExpiry := expiry }, r)

/-- A request's interval may be granted (R435). -/
def periodOk (d : Dev) (i : Nat) (t : UnicastTlv) : Bool :=
  if t.type = 11 then t.period == d.getI (Dict.instLogAnnounce i)
  else if t.type = 0 then decide (d.getI (Dict.instLogSync i) ≤ t.period ∧ t.period ≤ 30)
  else if t.type = 9 then decide (d.getI (Dict.instLogDelayResp i) ≤ t.period ∧ t.period ≤ 30)
  else false

/-- One REQUEST TLV is decided (R435, R440 to R442, R462): granted, or denied with durationField 0. -/
def decide1 (d : Dev) (i : Nat) (m : PtpRx) (auth : Bool) (t : UnicastTlv) : Dev :=
  let q := m.rx.port
  let route := d.unicastRoute q m.transport m.rx.mac m.source 12
  let deny (d : Dev) : Dev := (d.inc (Dict.instGrantsRefused i)).signal i q route m.identity (grantTlv t.type t.period 0)
  if !d.periodOk i t then deny d
  else
    let duration := max (d.get (Dict.instGrantMin i)) (min t.duration (d.get (Dict.instGrantMax i)))
    let had := d.lookup i q m.transport m.source
    let d := d.countStash had
    let fresh : Client := ⟨0, auth, i, q, m.transport, m.rx.mac, m.source, m.identity, noGrant, noGrant, noGrant, 0, 0, 0, 0, 0, 0,
      m.sequence, 0⟩
    let c := had.getD fresh
    let others := d.clients.filter fun x => !(x.inst == i && x.port == q && x.transport == m.transport && x.address == m.source)
    let wanted := (d.grantInto c t duration).1
    if t.type ≠ 11 && !d.admitted (wanted :: others) then deny d
    else
      let placed := match had with
        | some _ => some d
        | none => d.insertClient fresh
      match placed with
      | none => deny ((d.inc Dict.clientInsertFailCount).post 102 [(1, i), (1, q)])
      | some d =>
        let c := (d.lookup i q m.transport m.source).getD fresh
        let (c, r) := d.grantInto c t duration
        let c := { c with mac := m.rx.mac, identity := m.identity, authSeen := auth, lastSignallingSeq := m.sequence }
        ((d.putClient c).putRate r).signal i q route m.identity (grantTlv t.type t.period duration)

/-- An accepted Signalling message enters its client's record (R439). -/
def noteSignalling (d : Dev) (i : Nat) (m : PtpRx) (auth : Bool) : Dev :=
  match d.lookup i m.rx.port m.transport m.source with
  | some c => d.putClient { c with mac := m.rx.mac, identity := m.identity, authSeen := auth, lastSignallingSeq := m.sequence }
  | none => d

/-- A Signalling message with REQUEST TLVs is handled (R435). -/
def answerRequest (d : Dev) (i : Nat) (m : PtpRx) (tlvs : List UnicastTlv) : Dev :=
  let (d, ok) := d.accept i m
  match ok with
  | none => d
  | some auth => tlvs.foldl (fun d t => d.decide1 i m auth t) (d.noteSignalling i m auth)

/-- A Signalling message with CANCEL TLVs is handled (R436). -/
def answerCancel (d : Dev) (i : Nat) (m : PtpRx) (types : List Nat) : Dev :=
  let (d, ok) := d.accept i m
  match ok with
  | none => d
  | some auth =>
    let d := d.noteSignalling i m auth
    types.foldl (fun d t =>
      let d := match d.lookup i m.rx.port m.transport m.source with
        | some c => (d.countStash (some c)).endGrant c.slot t
        | none => d
      d.signal i m.rx.port (d.unicastRoute m.rx.port m.transport m.rx.mac m.source 12) m.identity (ackCancelTlv t)) d

/-! ### Classes 3 and 4 (R460) -/

/-- HMAC blocks of a received message's verification. -/
def verifyBlocks (d : Dev) (i : Nat) (m : PtpRx) : Nat :=
  if d.get (Dict.instAuthMode i) = 0 ∨ m.auth.isNone then 0 else hmacBlocks m.octets.length

/-- A client's PTP work and its cost: pipeline messages and HMAC blocks (R456, R457, R460). -/
def ptpWorkCost (d : Dev) (i : Nat) (w : ProtoWork) : Nat × Nat :=
  match w with
  | .delayReq m => (2, d.verifyBlocks i m + d.sendBlocks i 9 54)
  | .request m _ => (1, d.verifyBlocks i m)
  | .cancel m _ => (1, d.verifyBlocks i m)
  | _ => (0, 0)

/-- Class 3 work is done for its instance. -/
def doPtpWork (d : Dev) (i : Nat) (w : ProtoWork) : Dev :=
  match w with
  | .delayReq m => d.answerDelayReq i m
  | .request m tlvs => d.answerRequest i m tlvs
  | .cancel m types => d.answerCancel i m types
  | _ => d

/-- Class 3 work is admitted when the frame has room beside class 2, or waits (R460). -/
def offerPtp (d : Dev) (m : PtpRx) (w : ProtoWork) (counter : Nat → Entry) : Dev :=
  match d.instanceFor m with
  | none => d
  | some i =>
    if !d.instServes i || d.get (Dict.portState m.rx.port) != 3 then d
    else
      let d := d.inc (counter i)
      let cost := d.ptpWorkCost i w
      if d.protoQueue.isEmpty && d.changesLeft && d.fits cost.1 cost.2 0 d.reserved then (d.spend 3 cost.1 cost.2 0).doPtpWork i w
      else { d with protoQueue := d.protoQueue ++ [(3, d.view.frames, w)] }

/-- DELAY_REQ (R437, R438, R460). -/
def delayReq (d : Dev) (m : PtpRx) : Dev := d.offerPtp m (.delayReq m) Dict.instDelayReqRx

/-- REQUEST_UNICAST_TRANSMISSION (R435, R460): only a unicast instance negotiates. -/
def unicastRequest (d : Dev) (m : PtpRx) (tlvs : List UnicastTlv) : Dev :=
  match d.instanceFor m with
  | some i => if d.get (Dict.instMode i) = 1 then d.offerPtp m (.request m tlvs) Dict.instSignallingRx else d
  | none => d

/-- CANCEL_UNICAST_TRANSMISSION (R436, R460). -/
def unicastCancel (d : Dev) (m : PtpRx) (types : List Nat) : Dev :=
  match d.instanceFor m with
  | some i => if d.get (Dict.instMode i) = 1 then d.offerPtp m (.cancel m types) Dict.instSignallingRx else d
  | none => d

/-! ### Writes (R424, R425, R445) -/

/-- The profile settings of an instance stand in the table of R424. -/
def profileOk (d : Dev) (i : Nat) : Bool :=
  let t := d.get (Dict.instTransport i)
  let mode := d.get (Dict.instMode i)
  let dom := d.get (Dict.instDomain i)
  let s := d.getI (Dict.instLogSync i)
  let r := d.getI (Dict.instLogDelayResp i)
  let a := d.getI (Dict.instLogAnnounce i)
  match d.get (Dict.instProfile i) with
  | 0 => decide (t ≤ 2) && decide (mode ≤ 1) && decide (dom ≤ 127) && decide (-7 ≤ s ∧ s ≤ 1) && decide (-7 ≤ r ∧ r ≤ 5) &&
      decide (-3 ≤ a ∧ a ≤ 4)
  | 1 => t == 0 && mode == 0 && decide (24 ≤ dom ∧ dom ≤ 43) && s == -4 && r == -4 && a == -3
  | 2 => (t == 1 || t == 2) && mode == 1 && decide (44 ≤ dom ∧ dom ≤ 63) && decide (-7 ≤ s ∧ s ≤ 0) && decide (-7 ≤ r ∧ r ≤ 0) &&
      decide (-3 ≤ a ∧ a ≤ 0)
  | _ => false

/-- Two enabled instances that share a port differ in domain or transport (R425). -/
def instancesApart (d : Dev) : Bool :=
  (List.range 8).all fun i => (List.range i).all fun j =>
    !(d.is (Dict.instEnable i) && d.is (Dict.instEnable j) &&
      (List.range 6).any (fun q => bit (d.get (Dict.instPortMask i)) q && bit (d.get (Dict.instPortMask j)) q) &&
      d.get (Dict.instDomain i) == d.get (Dict.instDomain j) && d.get (Dict.instTransport i) == d.get (Dict.instTransport j))

/-- An authenticating instance names an enabled SA whose current slot holds a key of the SA kind (R445). -/
def authModeOk (d : Dev) (i : Nat) : Bool :=
  let s := d.get (Dict.instSa i)
  d.get (Dict.instAuthMode i) == 0 ||
    (decide (s < 32) && d.is (Dict.saEnable s) && decide (d.get (Dict.saSlotCurrent s) < 1024) &&
      (d.nodeUse (0x8000 + d.get (Dict.saSlotCurrent s))).1 == 3)

end Dev

end Sys2Proof.Machine
end

