-- ==== Sys2Proof/Machine/Ntp.lean ====
section
/-!
DEFINITION. NTP and NTS service, and the engine's work at a frame start (R450 to R455, R458, R460).
-/
namespace Sys2Proof.Machine

/-- Four ASCII octets of a Reference ID or kiss code (R450, R452, R455), padded with 0x00. -/
def asciiId (l : List Nat) : Nat := ofOctets (l ++ List.replicate (4 - l.length) 0)

/-- Where a reply to an NTP request goes (R426, R450). -/
def ntpRoute (d : Dev) (m : NtpRx) : Route :=
  let q := m.rx.port
  ⟨if m.ip = 4 then 1 else 2, m.rx.mac, m.destination, m.source, 123, d.get (Dict.svcHopLimit q), d.get (Dict.svcDscp q)⟩

namespace Dev

/-- Reference ID (R450). -/
def ntpReferenceId (d : Dev) : Nat :=
  match d.boundRef with
  | none => asciiId [0x48, 0x4F, 0x4C, 0x44]
  | some r =>
    if r = 16 then asciiId [0x47, 0x4E, 0x53, 0x53]
    else if r = 17 then asciiId [0x4C, 0x49, 0x4E, 0x4B]
    else if r = 14 ∨ r = 15 then asciiId [0x50, 0x54, 0x50]
    else if r < 8 ∧ d.get (Dict.refMode r) ≠ 0 then asciiId [0x50, 0x50, 0x53]
    else asciiId [0x46, 0x52, 0x45, 0x51]

/-- The response to an NTP request before its commit (R450, R451), which completes what the bound and the egress decide. -/
def ntpResponse (d : Dev) (m : NtpRx) : NtpMessage :=
  let last := match d.boundRef with
    | some r =>
      let u := ofTime96 (d.get (Dict.refLastMeasurement r))
      ntpTimestamp u (d.utcOffsetAt u)
    | none => 0
  ⟨0, m.version, d.get Dict.ntpStratum,
    clampInt (d.getI Dict.ntpMinPoll) (d.getI Dict.ntpMaxPoll) m.poll, 0, d.ntpReferenceId, last, m.transmit,
    ntpTimestamp (d.rxTime m.rx) (d.utcOffsetAt (d.rxTime m.rx)), 0, []⟩

/-- A kiss-o'-death response (R452, R455). -/
def ntpKiss (d : Dev) (m : NtpRx) (code : List Nat) (extensions : List Nat) : NtpMessage :=
  ⟨3, m.version, 0, clampInt (d.getI Dict.ntpMinPoll) (d.getI Dict.ntpMaxPoll) m.poll, 0, asciiId code, 0, m.transmit, 0, 0,
    extensions⟩

/-- An NTP message goes to its port's transmit pipeline. -/
def submitNtp (d : Dev) (m : NtpRx) (x : NtpMessage) (nts : Option NtsAnswer) (late : Bool) : Dev :=
  d.submit ⟨m.rx.port, d.get (Dict.portPcp m.rx.port), 0, false, late, .ntp (ntpRoute d m) x nts⟩

/-! ### Rate table (R452) -/

/-- The bucket of a source: IPv4 /32 or IPv6 /64 (R452). -/
def bucketFor (d : Dev) (m : NtpRx) : NtpBucket :=
  let source := if m.ip = 4 then m.source else m.source / 2 ^ 64
  let n := Config.tableHash d.tableKeys 3 (octetsOf 16 source) % 4194304
  let full : NtpBucket := ⟨n, (d.get Dict.ntpRateBurst : Nat), d.now, 0, 0⟩
  let b := (d.buckets.find? fun b => b.bucket == n).getD full
  let gained : Rat := ((d.get Dict.ntpRateLimit : Nat) : Rat) * (((d.now : Int) - b.time : Int) : Rat) / ((secondUnits : Nat) : Rat)
  { b with tokens := min ((d.get Dict.ntpRateBurst : Nat) : Rat) (b.tokens + gained), time := d.now }

/-- A bucket takes a value. -/
def putBucket (d : Dev) (b : NtpBucket) : Dev :=
  let l : List NtpBucket := b :: d.buckets.filter fun x => x.bucket != b.bucket
  { d with buckets := l }

/-- A second has passed since an instant kept plus one, or there was none. -/
def secondPassed (d : Dev) (kept : Nat) : Bool := kept == 0 || decide (kept - 1 + secondUnits ≤ d.now)

/-! ### Requests -/

/-- The request comes to a served address of a served port (R421, R450). -/
def ntpServed (d : Dev) (m : NtpRx) : Bool :=
  d.is Dict.ntpEnable && d.serving && d.powered .mem && bit (d.get Dict.ntpPortMask) m.rx.port && d.get (Dict.portState m.rx.port) == 3 &&
    d.transportReady m.rx.port (if m.ip = 4 then 1 else 2) && m.destination == d.serviceAddress m.rx.port (if m.ip = 4 then 1 else 2)

/-- A plain request is answered (R450, R452). -/
def answerNtp (d : Dev) (m : NtpRx) : Dev :=
  let b := d.bucketFor m
  if b.tokens < 1 then
    if d.is Dict.ntpKissEnable && d.secondPassed b.kissed then
      ((d.putBucket { b with kissed := d.now + 1 }).inc Dict.ntpKissSent).submitNtp m (d.ntpKiss m [0x52, 0x41, 0x54, 0x45] []) none false
    else (d.putBucket b).inc Dict.ntpRateDrops
  else (d.putBucket { b with tokens := b.tokens - 1 }).submitNtp m (d.ntpResponse m) none false

/-- An NTS NAK, at most one per second per bucket (R455). -/
def ntsNak (d : Dev) (m : NtsRx) (b : NtpBucket) (keyId : Nat) : Dev :=
  if !d.secondPassed b.refused then d.putBucket b
  else
    let uid := m.ids.headD []
    let ext := octetsOf 2 0x0104 ++ octetsOf 2 (4 + uid.length) ++ uid
    (((d.putBucket { b with refused := d.now + 1 }).inc Dict.ntsNakSent).post 105 [(2, keyId)]).submitNtp m.base
      (d.ntpKiss m.base [0x4E, 0x54, 0x53, 0x4E] ext) none false

/-- The form of an NTS request (R454, step 1). -/
def ntsFormOk (m : NtsRx) : Bool :=
  m.base.version == 4 && m.base.mode == 3 && m.ids.length == 1 && decide (32 ≤ (m.ids.headD []).length) &&
    decide ((m.ids.headD []).length ≤ 64) && m.cookies.length == 1 &&
    m.placeholders.all (fun n => n == (m.cookies.headD []).length) && m.authLast

/-- The working slot that a cookie's KeyId names (R453). -/
def cookieSlot (d : Dev) (keyId : Nat) : Option Nat :=
  if keyId = d.get Dict.ntsKeyIdCurrent then some (d.get Dict.ntsSlotCurrent)
  else if keyId = d.get Dict.ntsKeyIdPrevious ∧ d.get Dict.ntsSlotPrevious ≠ 0xFFFF then some (d.get Dict.ntsSlotPrevious)
  else none

/-- A cookie opened (R453, R454): its C2S and S2C keys. -/
def openCookie (key : Nat) (c : List Nat) : Option (Nat × Nat) :=
  if c.length ≠ 104 ∨ c.getD 0 0 ≠ 1 then none
  else
    match sivOpen key [c.take 4, (c.drop 4).take 16] (c.drop 20) with
    | some p => if p.length = 68 ∧ ofOctets (p.take 2) = 0x000F then
        some (ofOctets ((p.drop 4).take 32), ofOctets ((p.drop 36).take 32)) else none
    | none => none

/-- New cookies under the current cookie key (R453, R454, step 5): none when its dispatch is refused. -/
def newCookies (d : Dev) (c2s s2c n : Nat) : Dev × Option (List (List Nat)) :=
  (List.range n).foldl (fun (acc : Dev × Option (List (List Nat))) i =>
    match acc.2 with
    | none => acc
    | some l =>
      let (d, r) := acc.1.dispatch (0x8000 + acc.1.get Dict.ntsSlotCurrent) 4
      match r with
      | .key material =>
        let head := [1, 0] ++ octetsOf 2 (d.get Dict.ntsKeyIdCurrent)
        let nonce := octetsOf 16 (Config.random 128 (d.free * 16 + i))
        let plain := octetsOf 2 0x000F ++ [0, 0] ++ octetsOf 32 c2s ++ octetsOf 32 s2c
        (d, some (l ++ [head ++ nonce ++ sivSeal material [head, nonce] plain]))
      | _ => (d, none)) (d, some [])

/-- An NTS request is answered (R454). -/
def answerNts (d : Dev) (m : NtsRx) : Dev :=
  if !ntsFormOk m then d.inc Dict.ntpMalformed
  else
    let b := d.bucketFor m.base
    if b.tokens < 1 then (d.putBucket b).inc Dict.ntpRateDrops
    else
      let b := { b with tokens := b.tokens - 1 }
      let d := d.putBucket b
      let cookie := m.cookies.headD []
      let keyId := ofOctets ((cookie.drop 2).take 2)
      match d.cookieSlot keyId with
      | none => d.ntsNak m b keyId
      | some slot =>
        if !d.nodeUsable (0x8000 + slot) then d.ntsNak m b keyId
        else
          let (d, r) := d.dispatch (0x8000 + slot) 5
          match r with
          | .key material =>
            match openCookie material cookie with
            | none => d.ntsNak m b keyId
            | some (c2s, s2c) =>
              if (sivOpen c2s [m.covered, m.nonce] m.sealedPart).isNone then
                (d.inc Dict.ntsAuthFail).postSecond 50 103 [(1, 0), (2, keyId)]
              else
                let (d, made) := d.newCookies c2s s2c (min (1 + m.placeholders.length) 2)
                match made with
                | some l => d.submitNtp m.base (d.ntpResponse m.base) (some ⟨m.ids.headD [], s2c, l⟩) m.late
                | none => d
          | _ => d

/-- AES blocks of an NTS exchange (R458, R460). -/
def ntsBlocks (m : NtsRx) : Nat :=
  let n := min (1 + m.placeholders.length) 2
  let uid := 4 + (m.ids.headD []).length
  sivBlocks false [4, 16] 68 + sivBlocks true [m.covered.length, m.nonce.length] (m.sealedPart.length - 16) +
    n * sivBlocks false [4, 16] 68 + sivBlocks true [48 + uid, 16] (108 * n)

/-- Cost of waiting work: pipeline messages, HMAC and AES blocks (R456 to R458). -/
def workCost (d : Dev) (w : ProtoWork) : Nat × Nat × Nat :=
  match w with
  | .ntp _ => (2, 0, 0)
  | .nts m => (2, 0, ntsBlocks m)
  | .delayReq m | .request m _ | .cancel m _ =>
    let c := d.ptpWorkCost ((d.instanceFor m).getD 0) w
    (c.1, c.2, 0)

/-- Admitted work is done. -/
def doWork (d : Dev) (w : ProtoWork) : Dev :=
  match w with
  | .ntp m => if d.ntpServed m then d.answerNtp m else d
  | .nts m => if d.ntpServed m.base then d.answerNts m else d
  | .delayReq m | .request m _ | .cancel m _ =>
    match d.instanceFor m with
    | some i => if d.instServes i then d.doPtpWork i w else d
    | none => d

/-- Class 4 work is admitted when the frame has room beside class 2 and what waits, or waits (R460). -/
def offerNtp (d : Dev) (w : ProtoWork) : Dev :=
  let c := d.workCost w
  if d.protoQueue.isEmpty && d.fits c.1 c.2.1 c.2.2 d.reserved then (d.spend 4 c.1 c.2.1 c.2.2).doWork w
  else { d with protoQueue := d.protoQueue ++ [(4, d.view.frames, w)] }

/-- NTP_REQUEST (R450, R452, R460). -/
def ntpRequest (d : Dev) (m : NtpRx) : Dev :=
  if !d.ntpServed m then d
  else
    let d := d.inc Dict.ntpRequests
    if m.mode ≠ 3 ∨ (m.version ≠ 3 ∧ m.version ≠ 4) then d
    else if !d.is Dict.ntpAllowPlain then d.inc Dict.ntpPlainRefused
    else d.offerNtp (.ntp m)

/-- NTS_REQUEST (R454, R460). -/
def ntsRequest (d : Dev) (m : NtsRx) : Dev :=
  if !d.ntpServed m.base || !d.is Dict.ntsEnable then d
  else ((d.inc Dict.ntpRequests).inc Dict.ntsRequests).offerNtp (.nts m)

/-! ### Frame starts (R459, R460) -/

/-- Work of a class that waits is admitted oldest first while it fits, shed when it is too old (R460). -/
def serveClass (d : Dev) (cls : Nat) (l : List (Nat × Nat × ProtoWork)) : Dev :=
  l.foldl (fun d w =>
    if w.1 ≠ cls then d
    else if d.get Dict.protoQueueFrames < d.framesSince w.2.1 then
      let d := (d.inc Dict.protoShedCount).overload cls
      if cls = 4 then d.inc Dict.ntpShed else d
    else
      let c := d.workCost w.2.2
      if (cls ≠ 3 ∨ d.changesLeft) && d.fits c.1 c.2.1 c.2.2 d.reserved then (d.spend cls c.1 c.2.1 c.2.2).doWork w.2.2
      else { d with protoQueue := d.protoQueue ++ [w] }) d

/-- The engine at a frame start: nothing sent yet, instance states, rates, lapses, and the work that waits in class order. -/
def protoFrame (d : Dev) : Dev :=
  let d := { d with sentNow := [] }
  let d := (d.showInstances.showLoad).followRates
  let d := if d.frame = 0 then d.lapseAll else d
  let d := d.pruneSignals
  let l := d.protoQueue
  let d := { d with protoQueue := [] }
  (d.serveClass 3 l).serveClass 4 l

/-- ProtoCountersClear at its S0 (R466): every saturating count of 0x6000 to 0x6310. -/
def clearProtoCounters (d : Dev) : Dev :=
  let d := d.clearAll [Dict.protoShedCount, Dict.keyStaleDrops, Dict.clientInsertFailCount]
  let d := forUnits 8 (fun i d => d.clearAll [Dict.instSyncSent i, Dict.instAnnounceSent i, Dict.instDelayReqRx i,
    Dict.instDelayRespSent i, Dict.instSignallingRx i, Dict.instGrantsRefused i, Dict.instAuthFailRx i,
    Dict.instDelayReqDropped i, Dict.instSyncSkipped i]) d
  let d := forUnits 32 (fun s d => d.clear (Dict.saVerifyFail s)) d
  let d := forUnits 2 (fun r d => d.clear (Dict.nrefExchanges r)) d
  d.resetWhere fun i s => i == 0x6310 && decide (1 ≤ s)

end Dev

end Sys2Proof.Machine
end

