-- ==== Sys2Proof/Machine/Nref.lean ====
section
/-!
DEFINITION. The NREF client role: states, exchanges, upstream bound, Announce (R445 to R449).
-/
namespace Sys2Proof.Machine

/-- L(c) of a clockAccuracy code in ps (R362, R448); unbounded outside 0x17 to 0x2B. -/
def accuracyLimit (c : Nat) : Term :=
  if c < 0x17 ∨ 0x2B < c then .infinite
  else
    let i := c - 0x17
    if i % 2 = 0 then .value ((10 ^ (i / 2) : Nat) : Rat) else .value (5 / 2 * ((10 ^ (i / 2) : Nat) : Rat))

namespace Dev

/-- What an NREF holds. -/
def nrefRun (d : Dev) (r : Nat) : NrefRun := (d.nrefs.find? fun x => x.ref == r).getD ⟨r, 0, [], [], [], [], false, none⟩

/-- What an NREF holds takes a value. -/
def putNref (d : Dev) (x : NrefRun) : Dev :=
  let l : List NrefRun := x :: d.nrefs.filter fun y => y.ref != x.ref
  { d with nrefs := l }

/-- The message types of the three grants with their configured intervals. -/
def nrefWanted (d : Dev) (r : Nat) : List (Nat × Int) :=
  [(11, d.getI (Dict.nrefLogAnnounce r)), (0, d.getI (Dict.nrefLogSync r)), (9, d.getI (Dict.nrefLogDelayReq r))]

/-- A TLV for the master waits for the next Signalling message; its target is every port of it. -/
def nrefSignal (d : Dev) (r : Nat) (tlv : List Nat) : Dev :=
  d.signal (8 + r) (d.get (Dict.nrefPort r)) (d.nrefRoute r 12) (2 ^ 80 - 1) tlv

/-- Requests for grants (R445's states table). -/
def nrefAsk (d : Dev) (r : Nat) (types : List Nat) : Dev :=
  ((d.nrefWanted r).filter fun p => types.contains p.1).foldl
    (fun d p => d.nrefSignal r (requestTlv p.1 p.2 (d.get (Dict.nrefGrantDuration r)))) d

/-- A change of NrefState, with its time. -/
def enterNref (d : Dev) (r state : Nat) : Dev :=
  let x := d.nrefRun r
  (d.set (Dict.nrefState r) state).putNref { x with since := d.now }

/-- Disabled: grants cancelled when the port is Up, everything forgotten. -/
def disableNref (d : Dev) (r : Nat) : Dev :=
  let x := d.nrefRun r
  let d := if d.get (Dict.portState (d.get (Dict.nrefPort r))) = 3 then
      x.grants.foldl (fun d g => d.nrefSignal r (cancelTlv g.1)) d else d
  (d.putNref ⟨r, d.now, [], [], [], [], false, none⟩).set (Dict.nrefState r) 0

/-- The rows of the NREF states table that enables and the port decide, at each frame start and at PORT_UP and PORT_DOWN. -/
def nrefEnables (d : Dev) (r : Nat) : Dev :=
  let up := d.is (Dict.nrefEnable r) && d.is (Dict.refEnable (14 + r)) && d.get (Dict.portState (d.get (Dict.nrefPort r))) == 3 &&
    d.powered .proto
  if !up then (if d.get (Dict.nrefState r) = 0 then d else d.disableNref r)
  else if d.get (Dict.nrefState r) = 0 then (d.enterNref r 1).nrefAsk r [11, 0, 9]
  else d

/-- Fault, or the loss of a grant, raises source 106. -/
def nrefFault (d : Dev) (r state type : Nat) : Dev := (d.enterNref r state).post 106 [(1, r), (1, type)]

/-- The message comes from the NREF's master on its port (R445). -/
def fromMaster (d : Dev) (r : Nat) (m : PtpRx) : Bool :=
  decide (r < 2) && m.rx.port == d.get (Dict.nrefPort r) && m.transport == d.get (Dict.nrefTransport r) &&
    m.domain == d.get (Dict.nrefDomain r) && m.source == d.get (Dict.nrefMasterAddress r) && d.get (Dict.nrefState r) != 0

/-- A message of the master takes its slot and is verified (R444, R447, R456, R457): nothing when it is dropped, else whether a valid
TLV under NrefSa came with it. Without an SA a TLV is ignored. -/
def verifyMaster (d : Dev) (r : Nat) (m : PtpRx) : Dev × Option Bool :=
  let sa := d.get (Dict.nrefSa r)
  let d := d.take 1 (if 32 ≤ sa ∨ m.auth.isNone then 0 else hmacBlocks m.octets.length) 0
  if 32 ≤ sa then (d, some false)
  else
    let (d, v) := d.verify (8 + r) m
    let own := m.auth.any fun t => t.spp == d.get (Dict.saSpp sa)
    (d, v.map fun b => b && own)

/-- NREF_GRANT_RECEIVE (R445): grants and denials of the master. -/
def nrefGrant (d : Dev) (r : Nat) (m : PtpRx) (tlvs : List UnicastTlv) : Dev :=
  if !d.fromMaster r m then d
  else
    let (d, ok) := d.verifyMaster r m
    if ok.isNone then d
    else tlvs.foldl (fun d t =>
      if t.duration = 0 then (if d.get (Dict.nrefState r) = 1 then d.nrefFault r 3 t.type else d)
      else if !([11, 0, 9].contains t.type) || !([1, 2].contains (d.get (Dict.nrefState r))) then d
      else
        let x := d.nrefRun r
        let grants := (t.type, t.period, d.second, t.duration) :: x.grants.filter fun g => g.1 != t.type
        let d := d.putNref { x with grants := grants, renewed := x.renewed.filter (· != t.type) }
        let d := if t.type = 0 then d.set (Hid.refPeriod (14 + r)) (intervalFrames t.period * frameUnits) else d
        if d.get (Dict.nrefState r) = 1 ∧ 3 ≤ grants.length then d.enterNref r 2 else d) d

/-- NREF_NEGOTIATION_TIMEOUT (R445): no answer within 4 s. -/
def nrefTimeout (d : Dev) (r : Nat) : Dev :=
  let x := d.nrefRun r
  if 2 ≤ r ∨ d.get (Dict.nrefState r) ≠ 1 ∨ d.now < x.since + 4 * secondUnits then d
  else
    let missing := ([11, 0, 9].find? fun t => !x.grants.any fun g => g.1 == t).getD 11
    d.nrefFault r 3 missing

/-- NREF_FAULT_RETRY (R445): after 8 s the requests are sent again. -/
def nrefRetry (d : Dev) (r : Nat) : Dev :=
  if 2 ≤ r ∨ d.get (Dict.nrefState r) ≠ 3 ∨ d.now < (d.nrefRun r).since + 8 * secondUnits then d
  else (d.enterNref r 1).nrefAsk r [11, 0, 9]

/-- NREF_RENEWAL (R445): half of a granted duration has elapsed. -/
def nrefRenewal (d : Dev) (r type : Nat) : Dev :=
  let x := d.nrefRun r
  match x.grants.find? fun g => g.1 == type with
  | some g =>
    if 2 ≤ r ∨ d.get (Dict.nrefState r) ≠ 2 ∨ x.renewed.contains type ∨ 2 * (d.second - g.2.2.1) < g.2.2.2 then d
    else (d.putNref { x with renewed := type :: x.renewed }).nrefAsk r [type]
  | none => d

/-- NREF_GRANT_LOSS (R445): a grant lapses, or the master cancels it. -/
def nrefLoss (d : Dev) (r type : Nat) (cancelled : Bool) : Dev :=
  let x := d.nrefRun r
  match x.grants.find? fun g => g.1 == type with
  | some g =>
    if 2 ≤ r ∨ d.get (Dict.nrefState r) ≠ 2 ∨ (!cancelled ∧ d.second < g.2.2.1 + g.2.2.2) then d
    else (d.putNref { x with grants := x.grants.filter fun h => h.1 != type }).nrefFault r 1 type
  | none => d

/-- A bound TLV of an authenticated message is held (R448). -/
def holdBound (d : Dev) (r : Nat) (auth : Bool) (b : Option BoundTlv) : Dev :=
  match b with
  | some t => if auth then (let x := d.nrefRun r; d.putNref { x with bound := some t }) else d
  | none => d

/-- NREF_SYNC_RECEIVE (R446, R447): a Sync, two-step or not, or its Follow_Up. The Sync is activity (R189). -/
def nrefSync (d : Dev) (r : Nat) (m : PtpRx) (followUp twoStep : Bool) (t1 : Nat) (bound : Option BoundTlv) : Dev :=
  if !d.fromMaster r m || d.get (Dict.nrefState r) != 2 then d
  else
    let (d, ok) := d.verifyMaster r m
    match ok with
    | none => d
    | some auth =>
      let d := d.holdBound r auth bound
      let x := d.nrefRun r
      if followUp then
        let l := x.syncs.map fun s => if s.waiting && s.sequence == m.sequence then
          { s with t1 := t1, correction := s.correction + m.correction, auth := s.auth && auth, waiting := false } else s
        d.putNref { x with syncs := l }
      else
        let s : NrefSync := ⟨m.sequence, d.rxTime m.rx, t1, m.correction, auth, twoStep⟩
        let d := d.putNref { x with syncs := (s :: x.syncs).take 16 }
        if d.is (Dict.refRequireAuth (14 + r)) && !auth then d.set (Hid.refUnauth (14 + r)) (d.now + 1)
        else d.set (Hid.refSeen (14 + r)) (d.now + 1)

/-- e_up in ps (R448). -/
def upstreamTerm (d : Dev) (r : Nat) : Term :=
  let x := d.nrefRun r
  match d.get (Dict.nrefBoundSource r) with
  | 0 =>
    match x.bound, x.syncs.head? with
    | some t, some s =>
      match Term.ofPs32 t.systematic with
      | .value v => .value (v + (t.growth : Rat) * (((s.t2 : Int) - t.epoch : Int) : Rat) / ((secondUnits : Nat) : Rat))
      | u => u
    | _, _ => .infinite
  | 1 => accuracyLimit (d.get (Hid.nrefAccuracy r))
  | _ => Term.ofPs32 (d.get (Dict.nrefUpstreamBoundFixed r))

/-- NrefUpstreamBound and RefInputBound (R448). -/
def showUpstream (d : Dev) (r : Nat) : Dev :=
  let q := d.get (Dict.nrefPort r)
  let up := d.upstreamTerm r
  let d := d.set (Dict.nrefUpstreamBound r) (termsPs32 [up])
  d.set (Dict.refInputBound (14 + r)) (termsPs32 [up, Term.ofPs32 (d.get (Dict.portTermCal q)),
    Term.ofPs32 (d.get (Dict.portTermTemp q)), Term.ofPs32 (d.get (Dict.portTermExt q)), Term.ofPs32 (d.get (Dict.portAsymmetryUnc q))])

/-- NREF_DELAY_RESP_RECEIVE (R446 to R448): the exchange is complete and its measurement waits for S1. -/
def nrefDelayResp (d : Dev) (r : Nat) (m : PtpRx) (t4 : Nat) : Dev :=
  if !d.fromMaster r m || d.get (Dict.nrefState r) != 2 then d
  else
    let (d, ok) := d.verifyMaster r m
    let x := d.nrefRun r
    match ok, x.requests.find? fun p => p.1 == m.sequence with
    | some auth, some (_, t3) =>
      match x.syncs.find? fun s => !s.waiting && decide (s.t2 < t3) with
      | none => d
      | some s =>
        let back : Int := (t4 : Int) - t3 - m.correction
        let there : Int := (s.t2 : Int) - s.t1 - s.correction
        let a := d.getI (Dict.portAsymmetry (d.get (Dict.nrefPort r)))
        let off : Rat := ((back - there : Int) : Rat) / 2 + (a : Rat)
        let mean : Rat := ((there + back : Int) : Rat) / 2
        let random := if d.get (Dict.nrefBoundSource r) = 0 then ((x.bound.map (·.random)).getD 0) else 0
        let d := d.putNref { x with requests := x.requests.filter fun p => p.1 != m.sequence }
        let d := (d.setI (Dict.nrefOffset r) (roundNear off)).setI (Dict.nrefMeanPathDelay r) (roundNear mean)
        let d := d.inc (Dict.nrefExchanges r)
        let post : Measurement := ⟨14 + r, off, d.now, auth && s.auth && x.announceAuth, random, false⟩
        { d with measures := d.measures ++ [post] }
    | _, _ => d

/-- NREF_ANNOUNCE_RECEIVE (R117, R448, R449): quality and UTC data of the master. Without a valid currentUtcOffset, the device's own tells
the end of the UTC day of a leap flag, while it is valid (DEDUCED, log entry 122). -/
def nrefAnnounce (d : Dev) (r : Nat) (m : PtpRx) (a : AnnounceRx) (bound : Option BoundTlv) : Dev :=
  if !d.fromMaster r m || d.get (Dict.nrefState r) != 2 then d
  else
    let (d, ok) := d.verifyMaster r m
    match ok with
    | none => d
    | some auth =>
      let d := d.holdBound r auth bound
      let x := d.nrefRun r
      let d := d.putNref { x with announceAuth := auth }
      let n := 14 + r
      let d := ((d.set (Dict.refQlRaw n) a.clockClass).set (Dict.nrefUpstreamClass r) a.clockClass).set (Hid.nrefAccuracy r) a.accuracy
      let known := a.utcValid || d.is Dict.utcValid
      let offset : Int := if a.utcValid then a.utcOffset else d.getI Dict.utcOffset
      let kind := if !known then 0 else if a.leap61 then 1 else if a.leap59 then 2 else 0
      let posix : Int := (d.second : Int) - offset
      let midnight : Int := (posix / 86400 + 1) * 86400
      let leap : Int := midnight + offset + (if kind = 1 then 1 else -1)
      let d := (d.set (Hid.utcReport n) (if a.utcValid then utcCode offset else 0)).set (Hid.utcLeapKind n) kind
      d.set (Hid.utcLeapTime n) (if kind = 0 then 0 else leap.toNat * 2 ^ 48)

/-- The NREFs at a frame start. -/
def nrefFrame (d : Dev) : Dev := forUnits 2 (fun r d => (d.nrefEnables r).showUpstream r) d

/-- Instants of the protocols move with a step or set: they are durations (DEDUCED, log entry 48). -/
def shiftProtocols (d : Dev) (units : Int) : Dev :=
  let later (t : Nat) : Nat := ((t : Int) + units).toNat
  let runs : List NrefRun := d.nrefs.map fun x =>
    { x with since := later x.since, syncs := x.syncs.map fun s => { s with t2 := later s.t2 },
             requests := x.requests.map fun p => (p.1, later p.2) }
  let rates : List ClientRate := d.rates.map fun x => { x with time := later x.time }
  let later1 (t : Nat) : Nat := if t = 0 then 0 else later t
  let buckets : List NtpBucket := d.buckets.map fun b => { b with time := later b.time, kissed := later1 b.kissed, refused := later1 b.refused }
  { d with nrefs := runs, rates := rates, buckets := buckets }

end Dev

end Sys2Proof.Machine
end

