-- ==== Sys2Proof/Machine/Skovwin.lean ====
section
/-!
DEFINITION. Skovwin ports: states, calibration, packets, markers, the two-way transfer and K0, the checks of the upstream
link (R510 to R524, R546 to R549).
-/
namespace Sys2Proof.Machine

/-- Octets of a SPAN64 or I16 value. -/
def signedOctets (n : Nat) (i : Int) : List Nat := octetsOf n (i % (256 ^ n : Nat)).toNat

/-- Octets 8 to 103 of a Beat (R517). -/
def beatOctets (b : Beat) : List Nat :=
  [b.role, b.position] ++ octetsOf 2 b.flags ++ octetsOf 4 b.innings ++ octetsOf 12 b.frameStart ++ octetsOf 8 b.markerTx ++
    octetsOf 8 b.markerRx ++ octetsOf 4 b.bound ++ octetsOf 4 b.growth ++ [b.deviceState, b.qc, b.leapKind, 0] ++
    signedOctets 2 b.utcOffset ++ octetsOf 6 b.leapSeconds ++ signedOctets 8 b.stepSize ++ octetsOf 8 b.stepAt ++
    octetsOf 4 b.discontinuity ++ octetsOf 4 b.health ++ octetsOf 4 b.ack ++ octetsOf 8 b.handOverAt ++ octetsOf 4 b.digest

/-- The 8-octet header of a packet (R514): type 1 Beat, 2 Replication. -/
def skHeader (type length sequence : Nat) : List Nat := [1, type] ++ octetsOf 2 length ++ octetsOf 4 sequence

/-- Octets 0 to Length − 21 of a Beat (R514). -/
def beatCovered (sequence : Nat) (b : Beat) : List Nat := skHeader 1 124 sequence ++ beatOctets b

/-- Octets of an item (R519). -/
def itemOctets (i : ReplItem) : List Nat := [i.op, 0, 0, 0] ++ octetsOf 4 i.slot ++ octetsOf 64 i.data

/-- Octets 0 to Length − 21 of a Replication packet (R514, R519). -/
def replCovered (sequence : Nat) (r : Replication) : List Nat :=
  skHeader 2 (36 + 72 * r.items.length) sequence ++ octetsOf 4 r.frame ++
    octetsOf 2 (r.index % 32768 + (if r.last then 32768 else 0)) ++ octetsOf 2 r.items.length ++ (r.items.map itemOctets).flatten

namespace Dev

/-! ### Port states (R520) -/

/-- The unit belongs to a Keeper pair (R511): its mode at the last reset that reached TIME. -/
def paired (d : Dev) : Bool := d.get Dict.keeperRole != 0

/-- Source 117 for a port (R515, R520, R547) with its cause as SkFaultCause codes it; a cause without a code there reads
zero (R722). -/
def postLink (d : Dev) (m cause : Nat) : Dev := d.post 117 [(1, m), (1, cause)]

/-- Entry to Training: the sequence baseline is set anew (R515, R520). -/
def skTrain (d : Dev) (m : Nat) : Dev :=
  (d.set (Dict.skState m) 2).clearAll [Hid.skSequence m, Hid.skValidRun m, Hid.skMissRun m, Dict.skFaultCause m]

/-- Entry to Calibrating. -/
def skCalibrate (d : Dev) (m : Nat) : Dev :=
  ((d.set (Dict.skState m) 1).clear (Hid.skCalTry m)).setB (Dict.skCalPending m) false

/-- A port leaves Up or Faulty for Training; from Up on port 2 of a pair unit source 114 is raised (R520). -/
def skLinkLost (d : Dev) (m : Nat) : Dev :=
  let up := d.get (Dict.skState m) == 3
  let d := d.skTrain m
  if up && m == 2 && d.paired then
    d.post 114 [(1, 1), (1, d.get Dict.keeperInterlockIn), (2, d.get Dict.keeperMissedCount)] else d

/-- The rows of the port states table that configuration and power decide (R520). -/
def configureSk (d : Dev) (m : Nat) : Dev :=
  let state := d.get (Dict.skState m)
  let on := d.is (Dict.skEnable m) && d.powered .net
  if state = 5 then d
  else if !on then (if state = 0 then d else (d.set (Dict.skState m) 0).clear (Dict.skFaultCause m))
  else if state = 0 then d.skCalibrate m
  else d

/-- A Selected K0 is carried on the port (R387). -/
def skCarries (d : Dev) (m : Nat) : Bool := d.get (Dict.refState 17) == 4 && d.get Dict.k0Port == m

/-- The port goes to Training on its factory delays (R387, R520, R521). -/
def skFactory (d : Dev) (m : Nat) : Dev :=
  let d := d.setI (Dict.skTxDelay m) (factorySpan (0x7010 + m) 4)
  let d := (d.setI (Dict.skRxDelay m) (factorySpan (0x7010 + m) 5)).set (Dict.skCalStatus m) 2
  (d.set (Dict.skEndTerm m) 40).skTrain m

/-- The first failing check of R385 on the port's single lane; 0 when all pass. -/
def skCheck (d : Dev) (m : Nat) (lane : Option LaneDelays) : Nat :=
  let limit := Term.ofPs32 (d.get Dict.portCalFactoryLimit)
  let far (x : Int) (sub : Nat) : Bool :=
    match limit with
    | .value l => decide (l < absRat ((x : Rat) / 1000 - unitsToPs ((factorySpan (0x7010 + m) sub : Int) : Rat)))
    | _ => false
  if d.get Dict.pctStateEast ≠ 1 then 1
  else
    match lane with
    | none => 2
    | some l => if 5000 < l.txSpread ∨ 5000 < l.rxSpread then 3 else if far l.tx 4 || far l.rx 5 then 4 else 0

/-- SKOVWIN_CAL_DONE (R520, R521): the calibration of a port ends; no lane when its markers were not all stamped. The
distribution delay is in fs. -/
def skovwinCalDone (d : Dev) (m : Nat) (lane : Option LaneDelays) (distribution : Int) : Dev :=
  if 3 ≤ m ∨ d.get (Dict.skState m) ≠ 1 then d
  else
    match d.skCheck m lane with
    | 0 =>
      let x := lane.getD ⟨0, 0, 0, 0⟩
      let d := (d.setI (Dict.skTxDelay m) (fsToUnits x.tx)).setI (Dict.skRxDelay m) (fsToUnits x.rx)
      let d := (d.setI (Dict.linkChPathDelay0 m) (fsToUnits distribution)).set (Dict.skCalStatus m) 1
      (d.set (Dict.skEndTerm m) 3).skTrain m
    | 1 => (d.skFactory m).setB (Dict.skCalPending m) true
    | _ =>
      if d.get (Hid.skCalTry m) = 0 then d.set (Hid.skCalTry m) 1
      else (d.skFactory m).postLink m 0

/-- SKOVWIN_PORT_UP (R520): 64 consecutive valid Beats in Training, with block lock. -/
def skovwinPortUp (d : Dev) (m : Nat) : Dev :=
  if 3 ≤ m ∨ d.get (Dict.skState m) ≠ 2 ∨ d.get (Hid.skValidRun m) < 64 then d
  else (d.set (Dict.skState m) 3).clear (Hid.skMissRun m)

/-- SKOVWIN_LINK_DOWN (R520): loss of signal or lock for 16 µs, or 16 consecutive missed Beats in Up. Loss of signal also
takes a Faulty port to Training. -/
def skovwinLinkDown (d : Dev) (m : Nat) (loss : Bool) : Dev :=
  let state := d.get (Dict.skState m)
  if 3 ≤ m then d
  else if state = 3 ∧ (loss ∨ 16 ≤ d.get (Hid.skMissRun m)) then d.skLinkLost m
  else if state = 4 ∧ loss then d.skTrain m
  else d

/-- SkFaultClear 0x01 (R520). -/
def skFaultClear (d : Dev) (m : Nat) : Dev := if d.get (Dict.skState m) = 4 then d.skTrain m else d

/-- The port is declared Faulty (R513, R520, R547). -/
def skFault (d : Dev) (m cause : Nat) : Dev :=
  ((d.set (Dict.skState m) 4).set (Dict.skFaultCause m) cause).postLink m cause

/-! ### Packets (R514 to R516) -/

/-- The node that SkLinkKey or SkLinkKeyPrevious names. -/
def linkNode (d : Dev) (previous : Bool) : Option Nat :=
  let v := d.get (if previous then Dict.skLinkKeyPrevious else Dict.skLinkKey)
  if v = 0xFFFF then none else some v

/-- A node may serve as the link key: usable, and of Kind 0x07 (R473, R516). -/
def linkUsable (d : Dev) (n : Nat) : Bool := d.nodeUsable n && (d.nodeUse n).1 == 7

/-- A tag verifies under a link key (R473, R515, R516). -/
def tagUnder (d : Dev) (node : Option Nat) (octets : List Nat) (tag : Nat) : Dev × Bool :=
  match node with
  | none => (d, false)
  | some n =>
    if !d.linkUsable n then (d, false)
    else
      match d.dispatch n 3 with
      | (d, .key k) => (d, hmacSha256 k octets / 2 ^ 128 % 2 ^ 128 == tag % 2 ^ 128)
      | (d, _) => (d, false)

/-- The tag of a received packet verifies (R515). -/
def tagVerifies (d : Dev) (octets : List Nat) (tag : Nat) : Dev × Bool :=
  let (d, ok) := d.tagUnder (d.linkNode false) octets tag
  if ok then (d, true)
  else if d.now < ofTime96 (d.get Dict.skLinkPreviousUntil) then d.tagUnder (d.linkNode true) octets tag
  else (d, false)

/-- An invalid packet is discarded and counted; source 117 at most once per second (R515). -/
def skInvalid (d : Dev) (m : Nat) (counter : Nat → Entry) : Dev :=
  ((d.inc (counter m)).clear (Hid.skValidRun m)).postSecond (56 + m) 117 [(1, m)]

/-- The checks of a received packet (R514, R515): whether it is valid. -/
def skAccept (d : Dev) (p : SkPacket) (octets : List Nat) : Dev × Bool :=
  let state := d.get (Dict.skState p.port)
  if 3 ≤ p.port ∨ ¬(state = 2 ∨ state = 3) then (d, false)
  else if !p.crcOk then (d.skInvalid p.port Dict.skCrcErrorCount, false)
  else if d.get (Hid.skSequence p.port) ≠ 0 ∧ p.sequence + 1 ≤ d.get (Hid.skSequence p.port) then
    (d.skInvalid p.port Dict.skAuthFailCount, false)
  else
    let (d, ok) := if d.is Dict.skAuthRequired then d.tagVerifies octets p.tag else (d, true)
    if ok then (d.set (Hid.skSequence p.port) (p.sequence + 1), true) else (d.skInvalid p.port Dict.skAuthFailCount, false)

/-- BEAT_RECEIVE (R514, R515, R517, R520): a valid Beat waits for S0. Of two that wait on a port, the earlier came after
its S0 and is discarded. -/
def beatReceive (d : Dev) (p : SkPacket) (b : Beat) : Dev :=
  let (d, ok) := d.skAccept p (beatCovered p.sequence b)
  if !ok then d
  else
    let l : List BeatIn := d.beatsIn.filter fun x => x.port != p.port
    let e : BeatIn := ⟨p.port, b, d.is Dict.skAuthRequired, d.view.frames⟩
    { d with beatsIn := l ++ [e] }.inc (Hid.skValidRun p.port)

/-- REPLICATION_PACKET (R514, R515, R519): a valid packet waits for S0. -/
def replicationPacket (d : Dev) (p : SkPacket) (r : Replication) : Dev :=
  let (d, ok) := d.skAccept p (replCovered p.sequence r)
  if ok ∧ p.port = 2 then { d with replIn := d.replIn ++ [r] } else d

/-- The tag of a packet this unit sends (R515, R516): zero without authentication or without a usable link key. -/
def skTag (d : Dev) (octets : List Nat) : Dev × Nat :=
  match d.linkNode false with
  | none => (d, 0)
  | some n =>
    if !d.is Dict.skAuthRequired || !d.linkUsable n then (d, 0)
    else
      match d.dispatch n 2 with
      | (d, .key k) => (d, hmacSha256 k octets / 2 ^ 128 % 2 ^ 128)
      | (d, _) => (d, 0)

/-! ### Markers (R513) -/

/-- The stamp of the peer's marker joins the marks of the frame it belongs to. -/
def markStamp (d : Dev) (s : Stamp) : Dev :=
  if s.source < 0x40 ∨ 0x43 ≤ s.source then d
  else
    let l : List Marks := d.marks.map fun x =>
      if x.port = s.source - 0x40 ∧ x.frame + 1 = d.view.frames then { x with got := s.time + 1 } else x
    { d with marks := l }

/-- t_tx of a marker: the first block boundary at or after 2,000 ns past the frame start; a block lasts 2.56 ns, and where
in it the frame start falls is free (DESIGN CHOICE, log entry 46). -/
def markerTime (d : Dev) (m : Nat) : Nat :=
  d.view.frameStart + 2000 * unitsPerNs + Config.freeValue 52 (d.free * 4 + m) % 167772

/-- S0's work on markers: the stamps of the last frame are kept, and each port in Up sends its marker in this frame. -/
def markFrame (d : Dev) (stamps : List Stamp) : Dev :=
  let d := stamps.foldl markStamp d
  let l : List Marks := d.marks.filter fun x => decide (d.view.frames ≤ x.frame + 4)
  let new : List Marks := ((List.range 3).filter fun m => d.get (Dict.skState m) == 3).map fun m => ⟨m, d.view.frames, d.markerTime m, 0⟩
  { d with marks := l ++ new }

/-- A frame's marks on a port. -/
def marksOf (d : Dev) (m frame : Nat) : Option Marks := d.marks.find? fun x => x.port == m && x.frame == frame

/-- Own stamps move with a step or set (R112). -/
def shiftMarks (d : Dev) (units : Int) : Dev :=
  let later (t : Nat) : Nat := ((t : Int) + units).toNat
  let l : List Marks := d.marks.map fun x => { x with sent := later x.sent, got := if x.got = 0 then 0 else later x.got }
  { d with marks := l }

/-! ### K0 (R512, R522, R523) -/

/-- The last Beat consumed on a port. -/
def peerBeat (d : Dev) (m : Nat) : Option BeatIn := d.peers.find? fun x => x.port == m

/-- The port of K0 (R512). -/
def k0PortOf (d : Dev) : Nat :=
  let position := d.get Dict.cascadePosition
  if position < 2 then (if d.paired then 2 else 0xFF)
  else if position = 2 then (if d.get (Hid.k0Heard 0) < d.get (Hid.k0Heard 1) then 2 else 0)
  else 0

/-- K0Port follows R512; on a change the next transfer re-bases K0, and the link check starts anew (R188, R547). -/
def chooseK0 (d : Dev) : Dev :=
  let m := d.k0PortOf
  let old := d.get Dict.k0Port
  let d := if m = old then d
    else
      let d := (d.set Dict.k0Port m).clearAll [Hid.k0Start, Hid.k0Shift]
      if old = 0xFF then d else d.setB Hid.k0Moved true
  let up := m < 3 && d.get (Dict.skState m) == 3
  let rides := d.get Dict.cascadePosition == 2 && d.is (Dict.skEnable 0) && d.is (Dict.skEnable 2)
  d.setB Hid.k0Up (up || rides)

/-- e_kend of the peer: the Beat carries none, so which of the two values it is stays free (R521, R523; DESIGN CHOICE, log entry 52). -/
def peerEndTerm (d : Dev) : Nat := if Config.freeValue 53 d.free % 2 = 0 then 3 else 40

/-- The transfer on the K0 port (R513, R522, R523): from the markers of the frame before last and the Beat consumed in this
S0. -/
def transfer (d : Dev) (m : Nat) (b : Beat) (auth : Bool) : Dev :=
  if !bit b.flags 7 then d
  else
    match d.marksOf m (d.view.frames - 2) with
    | none => d
    | some k =>
      if k.got = 0 then d
      else
        let there := ctDiff (toCt64 (k.got - 1)) b.markerTx
        let back := ctDiff b.markerRx (toCt64 k.sent)
        let x : Rat := ((there - back : Int) : Rat) / 2 - (d.getI (Dict.skMediumAsymmetry m) : Rat)
        let mean : Rat := ((there + back : Int) : Rat) / 2
        let d := (d.setI (Dict.skOffset m) (roundNear x)).setI (Dict.skMeanDelay m) (roundNear mean)
        if ((100000 * unitsPerNs : Nat) : Rat) < mean then d.skFault m 2
        else
          let link := (d.get (Dict.skEndTerm m) + d.peerEndTerm + d.get (Dict.skMediumAsymmetryUnc m) : Nat)
          let growth := (b.growth * 15625 + 31999999) / 32000000
          let bound := if b.bound = unbounded then unbounded else min (unbounded : Nat) (b.bound + growth + link)
          let d := d.set (Dict.refInputBound 17) bound
          let e : Measurement := ⟨17, x, k.got - 1, auth, 2121, d.is Hid.k0Moved⟩
          { d with measures := d.measures ++ [e] }.setB Hid.k0Moved false

/-- What the K0 port's Beat reports: quality, UTC data (R115, R193, R536). -/
def k0Reports (d : Dev) (b : Beat) : Dev :=
  let d := d.set (Dict.refQlRaw 17) b.qc
  let d := d.setB Hid.k0Own (b.role == 2 || b.role == 3)
  let d := d.set (Hid.utcReport 17) (if bit b.flags 12 then utcCode b.utcOffset else 0)
  (d.set (Hid.utcLeapKind 17) b.leapKind).set (Hid.utcLeapTime 17) (b.leapSeconds * 2 ^ 48)

/-- A step of that size is permitted to this unit (R106, R548). -/
def stepPermitted (d : Dev) (size : Int) : Bool :=
  decide ((d.get Dict.stepThreshold : Int) * 65536 < size) && d.is Dict.stepEnable && d.corr.isNone

/-- A follower whose K0 is Selected adopts an announced step at the same StepPendingAt (R548), once for each
announcement. -/
def adoptStep (d : Dev) (b : Beat) : Dev :=
  let at_ := ofCt64 d.view.frameStart b.stepAt
  if b.stepAt = 0 ∨ d.get Hid.adoptedAt = b.stepAt + 1 ∨ at_ ≤ d.view.frameStart ∨ d.get (Dict.refState 17) ≠ 4 ∨
      !d.stepPermitted b.stepSize then d
  else
    let d := { d with corr := some ⟨false, b.stepSize, at_⟩ }
    let d := (d.setI Dict.stepPendingSize b.stepSize).set Dict.stepPendingAt (toCt64 at_)
    d.set Hid.adoptedAt (b.stepAt + 1)

/-- The check of consecutive Beats on the K0 port (R191, R547): over the frames since the last one, an announced step may
have moved FrameStart by its size and Discontinuity by one. -/
def upstreamCheck (d : Dev) (m : Nat) (b : Beat) : Dev :=
  let start := ofTime96 b.frameStart
  let seen := d.get Hid.k0Start
  let d' := (d.set Hid.k0Start (start + 1)).set Hid.k0Frame d.view.frames
  let d' := d'.set Hid.k0Disc b.discontinuity
  let d' := (d'.setI Hid.k0StepSize b.stepSize).set Hid.k0StepAt b.stepAt
  if seen = 0 then d'
  else
    let wanted : Nat := seen - 1 + (d.view.frames - d.get Hid.k0Frame) * frameUnits
    let size := d.getI Hid.k0StepSize
    let at_ := ofCt64 wanted (d.get Hid.k0StepAt)
    let announced := d.get Hid.k0StepAt != 0 && decide (seen - 1 < at_) && decide (at_ ≤ wanted)
    let jumped := announced && decide ((start : Int) = wanted + size)
    let startOk := decide (wanted ≤ start) || jumped
    let discOk := b.discontinuity == d.get Hid.k0Disc || (announced && b.discontinuity == d.get Hid.k0Disc + 1)
    if startOk && discOk then (if jumped then d'.setI Hid.k0Shift size else d')
    else
      let f := d'.skFault m 1
      let f := f.clear Hid.k0Start
      if [0, 1].contains (f.get (Dict.refState 17)) then f else f.enterFailed 17 3

/-- An announced step of the upstream shifts K0 by −S from the first transfer after it (R188, R548; DEDUCED, log entry 53). -/
def k0Step (d : Dev) : Dev :=
  let s := d.getI Hid.k0Shift
  if s = 0 then d else (d.shiftEstimate 17 (-s : Int)).clear Hid.k0Shift

/-- What the Beat of the K0 port gives K0 in S0. -/
def k0Beat (d : Dev) (b : BeatIn) : Dev :=
  let m := b.port
  let d := if d.get (Dict.skState m) = 3 then (d.k0Step).upstreamCheck m b.beat else d
  if d.get (Dict.skState m) ≠ 3 then d
  else ((d.k0Reports b.beat).adoptStep b.beat).transfer m b.beat b.auth

/-! ### S0 -/

/-- A Beat is consumed (R512, R517, R551). -/
def consumeBeat (d : Dev) (b : BeatIn) : Dev :=
  let l : List BeatIn := d.peers.filter fun x => x.port != b.port
  let e : BeatIn := { b with frame := d.view.frames }
  let d := { d with peers := e :: l }
  let d := (d.set (Dict.skPeerPosition b.port) b.beat.position).clear (Hid.skMissRun b.port)
  if b.beat.role ≤ 1 ∧ b.port ≠ 1 then d.set (Hid.k0Heard (b.port / 2)) (b.beat.innings + 1) else d

/-- A port in Up without a Beat in this S0 counts a missed one; the 16th in a row takes it to Training (R517, R520). -/
def missBeat (d : Dev) (m : Nat) : Dev :=
  let d := d.clear (Hid.skValidRun m)
  if d.get (Dict.skState m) ≠ 3 then d
  else ((d.inc (Dict.skBeatsMissed m)).inc (Hid.skMissRun m)).skovwinLinkDown m false

/-- S0's work on the Skovwin ports: markers, Beats, K0 (R513, R517, R520 to R523). -/
def skovwinFrame (d : Dev) (stamps : List Stamp) : Dev :=
  let d := forUnits 3 (fun m d =>
    let d := d.configureSk m
    if d.is (Dict.skCalPending m) && d.get Dict.pctStateEast == 1 && !d.skCarries m && [2, 3].contains (d.get (Dict.skState m)) then
      d.skCalibrate m else d) d
  let waiting := d.beatsIn
  let d := { d with beatsIn := [] }
  let d := waiting.foldl consumeBeat d
  let d := forUnits 3 (fun m d => if waiting.any fun b => b.port == m then d else d.missBeat m) d
  let d := (d.markFrame stamps).chooseK0
  match waiting.find? fun b => b.port == d.get Dict.k0Port with
  | some b => (d.k0Beat b).chooseK0
  | none => d

end Dev

end Sys2Proof.Machine
end

