-- ==== Sys2Proof/Machine/Keeper.lean ====
section
/-!
DEFINITION. The Keeper pair: roles and innings, interlock, hand-over, health, replication, and slot S6 (R508, R509, R517 to
R519, R525 to R545).
-/
namespace Sys2Proof.Machine

/-- Items of a frame in all (R539). -/
abbrev replItems : Nat := 8192

/-- Client slots (R439). -/
abbrev clientSlots : Nat := 1056768

/-- A record from its 64 octets (R439). -/
def clientOf (slot data : Nat) : Client :=
  let f (o n : Nat) : Nat := fieldAt 64 data o n
  let log (o : Nat) : Int := if f o 1 < 128 then ((f o 1 : Nat) : Int) else ((f o 1 : Nat) : Int) - 256
  ⟨slot, bit (f 0 1) 5, f 1 1 / 32, f 1 1 / 4 % 8, f 1 1 % 4, f 2 6, f 8 16, f 24 10, log 34, log 35, log 36, f 38 2, f 40 4,
    f 44 4, f 48 4, f 52 2, f 54 2, f 56 2, f 60 4⟩

namespace Dev

/-! ### Role changes (R525 to R529, R533) -/

/-- The unit takes a role: source 112 with the cause coded as R722 codes it. -/
def enterRole (d : Dev) (role cause : Nat) : Dev :=
  let old := d.get Dict.keeperRole
  let d := (d.set Dict.keeperRole role).set Dict.keeperLastRoleChange (toTime96 d.view.frameStart)
  d.post 112 [(1, old), (1, role), (4, d.get Dict.keeperInnings), (1, cause)]

/-- No hand-over is under way. -/
def endHandOver (d : Dev) : Dev :=
  d.clearAll [Dict.keeperHandOverState, Hid.handOverAt, Hid.handOverFrame, Hid.handOverActive, Hid.handOverWanted,
    Hid.handOverSource, Hid.handOverCause]

/-- Replication starts from nothing in a new role (R540, R541). -/
def freshReplication (d : Dev) : Dev :=
  let d := { d with replIn := [], replSent := [] }
  d.clearAll [Dict.replicationState, Dict.replicationBulkSlot, Hid.replStarted, Hid.replClear, Hid.replEnd]

/-- KHOLD goes from released to asserted only while the peer's reads Released (R529). -/
def assertKhold (d : Dev) : Dev := if d.get Dict.keeperInterlockIn = 0 then d.setB Dict.keeperInterlockOut true else d

/-- The unit becomes Active (R356, R434, R526, R533, R545); its announcements start in the frame `from_`. -/
def becomeActive (d : Dev) (cause from_ : Nat) : Dev :=
  let d := d.set Dict.keeperInnings (max (d.get Dict.keeperInnings) (d.get Dict.keeperPeerInnings) + 1)
  let d := ((d.enterRole 1 cause).endHandOver.freshReplication).assertKhold
  let d := d.set Hid.serveFrom (d.globalFrame + 1)
  let d := if d.is Hid.peerSeen then d.set Hid.takeoverBound (d.get Dict.keeperPeerBound) else d
  let d := d.clearAll [Hid.readyFrames, Dict.keeperRevertRemaining, Hid.higherBeats]
  (d.set Hid.announceLeft (d.get Dict.keeperAnnounceCount)).set Hid.announceDue from_

/-- The unit becomes Standby: KHOLD released. -/
def becomeStandby (d : Dev) (cause : Nat) : Dev :=
  let d := (d.enterRole 2 cause).endHandOver.freshReplication
  d.clearAll [Dict.keeperInterlockOut, Hid.announceLeft, Hid.readyFrames, Dict.keeperRevertRemaining, Hid.higherBeats,
    Hid.contention]

/-- The unit stands down: KHOLD released (R527, R529, R640). -/
def standDown (d : Dev) (cause : Nat) : Dev :=
  let d := (d.enterRole 3 cause).endHandOver.freshReplication
  let d := d.clearAll [Dict.keeperInterlockOut, Hid.announceLeft, Hid.readyFrames, Dict.keeperRevertRemaining, Hid.higherBeats,
    Hid.contention]
  if cause = 9 then d else d.post 115 [(4, d.get Dict.keeperInnings), (4, d.get Dict.keeperPeerInnings)]

/-- Source 114 (R722): path 1 heartbeat, 2 interlock, 3 contention, 4 hand-over abandoned. -/
def postPath (d : Dev) (path : Nat) : Dev :=
  d.post 114 [(1, path), (1, d.get Dict.keeperInterlockIn), (2, d.get Dict.keeperMissedCount)]

/-! ### Interlock (R529, R530) -/

/-- KeeperPeerHolds (R530). -/
def judgeHolds (d : Dev) : Dev :=
  let released := match d.peerBeat 2 with
    | some b => decide (d.view.frames < b.frame + d.get Dict.keeperMissLimit) && (b.beat.role == 2 || b.beat.role == 3) &&
        !bit b.beat.flags 15
    | none => false
  d.setB Dict.keeperPeerHolds (d.get Dict.keeperInterlockIn == 1 || (d.get Dict.keeperInterlockIn == 2 && !released))

/-- KHOLD_INPUT_CHANGE (R528 to R530): the pair KHOLD_I, KHOLD_IB reads (1, 0) Asserted, (0, 1) Released, else Fault. -/
def kholdInput (d : Dev) (i ib : Bool) : Dev :=
  (d.set Dict.keeperInterlockIn (if i && !ib then 1 else if !i && ib then 0 else 2)).judgeHolds

/-- The hardware releases KHOLD when S6 has completed in neither of the last 2 frames (R529). -/
def kholdWatch (d : Dev) : Dev :=
  if d.view.frames ≤ d.get Hid.lastKeeperFrame + 1 then d else d.clear Dict.keeperInterlockOut

/-! ### Hand-over (R542) -/

/-- A hand-over is abandoned (R533, R542, R639): source 114; the action of every fault that asked for it or joined it acts
as Isolate. -/
def abandonHandOver (d : Dev) : Dev :=
  let sources := d.get Hid.handOverSource
  let d := d.endHandOver.postPath 4
  if sources = 0 then d
  else
    forUnits 128 (fun n d =>
      if bit sources n then
        (d.handOverAsIsolate (isolationTarget n (d.get (Dict.evtHistory n 0) / 2 ^ 32 % 2 ^ 64))).1
      else d) d

/-- HAND_OVER_ABANDON (R542): no acceptance by S0 of frame j + 3. -/
def handOverAbandon (d : Dev) : Dev :=
  if d.get Dict.keeperRole = 1 ∧ d.get Dict.keeperHandOverState = 1 ∧ d.get Hid.handOverFrame + 3 ≤ d.view.frames then d.abandonHandOver
  else d

/-- The Active's request in the Beat of this frame (R542). A hand-over that a fault wants and the Standby cannot take acts
as Isolate (R639). -/
def requestHandOver (d : Dev) : Dev :=
  if d.get Dict.keeperRole ≠ 1 ∨ d.get Dict.keeperHandOverState ≠ 0 ∨ !d.is Hid.handOverWanted then d
  else if d.is Dict.keeperStandbyReady then
    let d := (d.set Dict.keeperHandOverState 1).set Hid.handOverAt (d.view.frameStart + 4 * frameUnits)
    ((d.set Hid.handOverFrame d.view.frames).setB Hid.handOverActive true).clear Hid.handOverWanted
  else d.abandonHandOver

/-- The Standby's acceptance, committed with its Beat of this frame (R542). -/
def acceptHandOver (d : Dev) : Dev :=
  match d.peerBeat 2 with
  | none => d
  | some b =>
    if d.get Dict.keeperRole = 2 ∧ d.get Dict.keeperHandOverState = 0 ∧ b.frame = d.view.frames ∧ b.beat.role = 1 ∧
        bit b.beat.flags 11 ∧ b.beat.handOverAt ≠ 0 ∧ d.is Dict.keeperStandbyReady then
      let d := (d.set Dict.keeperHandOverState 2).set Hid.handOverAt (ofCt64 d.view.frameStart b.beat.handOverAt)
      (d.set Hid.handOverFrame d.view.frames).clearAll [Hid.handOverActive, Hid.handOverWanted]
    else d

/-- HAND_OVER_RELEASE (R533): 4 µs before HandOverAt the committed Active becomes Standby. -/
def handOverRelease (d : Dev) : Dev :=
  if d.get Dict.keeperRole = 1 ∧ d.get Dict.keeperHandOverState = 2 ∧ d.get Hid.handOverAt ≤ d.view.frameStart + frameUnits then
    d.becomeStandby (if d.get Hid.handOverCause = 3 then 3 else 2)
  else d

/-- HAND_OVER_AT (R533): the committed Standby becomes Active when the interlock reads Released; else the hand-over is
abandoned. -/
def handOverReached (d : Dev) : Dev :=
  if d.get Dict.keeperRole = 2 ∧ d.get Dict.keeperHandOverState = 2 ∧ d.get Hid.handOverAt ≤ d.view.frameStart + frameUnits then
    if d.get Dict.keeperInterlockIn = 0 then (d.inc Dict.keeperHandOverCount).becomeActive 2 d.view.frames
    else (d.endHandOver.postPath 4).post 112 [(1, 2), (1, 2), (4, d.get Dict.keeperInnings), (1, 0x0A)]
  else d

/-- The hand-over steps due by a frame start (R533). -/
def handOverDue (d : Dev) : Dev :=
  if d.get Dict.keeperHandOverState = 2 ∧ d.get Hid.handOverAt ≤ d.view.frameStart then d.handOverRelease.handOverReached else d

/-- KeeperSwitchover is in place: a ready Standby (R542, R550). -/
def switchoverOk (d : Dev) : Bool := d.is Dict.keeperStandbyReady && [1, 2].contains (d.get Dict.keeperRole)

/-- KeeperSwitchover 0x01 (R542): on the Standby, its next Beats ask the Active. -/
def switchover (d : Dev) : Dev := (d.setB Hid.handOverWanted true).set Hid.handOverCause 2

/-- The preferred unit is a ready Standby, and this Active reverts (R542). -/
def reverting (d : Dev) : Bool :=
  d.get Dict.keeperRole == 1 && d.is Dict.keeperRevertive && d.is Dict.keeperStandbyReady && !d.is Dict.keeperPreferred &&
    (match d.peerBeat 2 with | some b => bit b.beat.flags 14 | none => false)

/-- REVERT_HOLD_EXPIRY (R542). -/
def revertExpiry (d : Dev) : Dev :=
  if d.reverting && d.get Dict.keeperHandOverState == 0 &&
      decide (d.get Dict.keeperRevertHold * framesPerSecond ≤ d.get Hid.readyFrames) then
    (d.setB Hid.handOverWanted true).set Hid.handOverCause 3
  else d

/-- The revert hold counts in S6 (R542, R550). -/
def countRevert (d : Dev) : Dev :=
  if d.reverting then
    let n := d.get Hid.readyFrames + 1
    let left := (d.get Dict.keeperRevertHold * framesPerSecond - n + framesPerSecond - 1) / framesPerSecond
    ((d.set Hid.readyFrames n).set Dict.keeperRevertRemaining left).revertExpiry
  else d.clearAll [Hid.readyFrames, Dict.keeperRevertRemaining]

/-! ### Role rows of S6 (R529, R531 to R533, R640) -/

/-- KEEPER_TAKEOVER (R532, R533). -/
def takeover (d : Dev) : Dev :=
  if d.get Dict.keeperRole = 2 ∧ d.get Dict.keeperMissLimit ≤ d.get Dict.keeperMissedCount ∧ d.get Dict.keeperInterlockIn = 0 ∧
      d.is Hid.peerSeen then
    let d := (d.inc Dict.keeperTakeoverCount).inc Dict.lifeTakeovers
    let d := d.post 113 [(1, d.get Dict.keeperStandbyReady), (2, d.get Dict.keeperMissedCount)]
    d.becomeActive 1 (d.view.frames + 1)
  else d

/-- Seconds since the first frame of time service. -/
def serviceSeconds (d : Dev) : Nat := d.framesSince (d.get Hid.serviceFrame) / framesPerSecond

/-- KEEPER_START_WAIT_EXPIRY (R533): no peer was ever heard, or the peer is Standby too. -/
def startWaitExpiry (d : Dev) : Dev :=
  let wait := d.get Dict.keeperStartWait
  let s := d.serviceSeconds
  if d.get Dict.keeperRole ≠ 2 ∨ s < wait then d
  else if !d.is Hid.peerSeen && d.get Dict.keeperInterlockIn == 0 then d.becomeActive 4 (d.view.frames + 1)
  else if d.get Dict.keeperPeerRole = 2 ∧ (d.is Dict.keeperPreferred ∨ wait + 4 ≤ s) then d.becomeActive 4 (d.view.frames + 1)
  else d

/-- A Stood-down unit returns to Standby after 64 frames with Beats of an Active peer of higher innings (R533). -/
def rejoin (d : Dev) : Dev :=
  if d.get Dict.keeperRole = 3 ∧ 64 ≤ d.get Hid.higherBeats ∧ d.state ≠ 5 then
    (d.set Dict.keeperInnings (d.get Dict.keeperPeerInnings)).becomeStandby 8
  else d

/-- Both units hold KHOLD for 2 frames: the one that is not preferred, else the one at the higher position, releases and
enters Standby (R531). -/
def contentionRow (d : Dev) : Dev :=
  if d.get Hid.contention < 2 then d
  else
    let d := if d.get Hid.contention = 2 then d.postPath 3 else d
    let (peerPreferred, peerPosition) := match d.peerBeat 2 with
      | some b => (bit b.beat.flags 14, b.beat.position)
      | none => (false, 0)
    let own := d.is Dict.keeperPreferred
    let yields := if own = peerPreferred then decide (peerPosition < d.get Dict.cascadePosition) else peerPreferred
    if yields then d.becomeStandby 7 else d

/-- Frames of contention, counted (R531). -/
def countContention (d : Dev) : Dev :=
  if d.is Dict.keeperInterlockOut && d.get Dict.keeperInterlockIn == 1 then d.inc Hid.contention else d.clear Hid.contention

/-- The role rows that S6 evaluates (R533, R640); a committed hand-over runs at its own instants. -/
def roleRows (d : Dev) : Dev :=
  let role := d.get Dict.keeperRole
  if role = 0 then d
  else if d.state = 5 then (if role = 3 then d else d.standDown 9)
  else if role = 1 then
    if !d.is Dict.keeperInterlockOut && d.get Dict.keeperInterlockIn != 0 then d.standDown 6
    else d.assertKhold.countContention.contentionRow
  else if role = 2 then
    if d.get Dict.keeperHandOverState = 2 then d
    else
      let d' := d.takeover
      if d'.get Dict.keeperRole = 1 then d' else d.startWaitExpiry
  else d.rejoin

/-- The path conditions of R532: sources 114 and 116, once per episode. -/
def pathConditions (d : Dev) : Dev :=
  let role := d.get Dict.keeperRole
  if role ≠ 1 ∧ role ≠ 2 then d.clearAll [Hid.pathEpisode 0, Hid.pathEpisode 1]
  else
    let missed := decide (d.get Dict.keeperMissLimit ≤ d.get Dict.keeperMissedCount)
    let input := d.get Dict.keeperInterlockIn
    let idle := d.get Dict.keeperPeerRole == 2 || d.get Dict.keeperPeerRole == 3
    let heartbeat := missed && (input == 1 || (input == 0 && role == 1))
    let interlock := !missed && (input == 2 || (input == 1 && idle))
    let d := if (heartbeat || interlock) && !d.is (Hid.pathEpisode 0) then
        (d.setB (Hid.pathEpisode 0) true).postPath (if heartbeat then 1 else 2)
      else d.setB (Hid.pathEpisode 0) (heartbeat || interlock)
    d.postOnce (Hid.pathEpisode 1) (missed && input == 2) 116 []

/-! ### Health and digests (R518, R537, R538) -/

/-- A number of octets of an entry's value. -/
def entryOctets (d : Dev) (e : Entry) : List Nat := octetsOf (Nat.log2 e.modulus / 8) (d.get e)

/-- Subindices of an index that hold S entries, in order. -/
def storedAt (index : Nat) : List Entry :=
  (List.range 64).filterMap fun s => (Dict.find index (s + 1)).filter fun e => e.keep == .s

/-- ServiceConfigDigest (R518). -/
def configDigest (d : Dev) : Nat :=
  let indices := (List.range 16).map (0x6010 + ·) ++ (List.range 6).map (0x6040 + ·) ++ (List.range 32).map (0x6100 + ·) ++ [0x6300]
  crc32 (((indices.map storedAt).flatten.map d.entryOctets).flatten) % 2 ^ 32

/-- The working slots that R518 names, in ascending order. -/
def digestSlots (d : Dev) : List Nat :=
  let sas := (List.range 32).filterMap fun s => if d.is (Dict.saEnable s) then some (d.get (Dict.saSlotCurrent s)) else none
  let link := match d.linkNode false with
    | some n => if 0x8000 ≤ n then [n - 0x8000] else []
    | none => []
  let named := sas ++ [d.get Dict.ntsSlotCurrent, d.get Dict.ntsSlotPrevious] ++ link
  sortByRank id ((named.filter fun n => decide (n < 1024)).eraseDups)

/-- KeyDigest (R518): over the KeyCheck of each slot as its status shows it (R487). -/
def digestKeys (d : Dev) : Nat :=
  sha256 ((d.digestSlots.map fun n => octetsOf 4 (d.get (Dict.keySlotStatus (n / 128) (n % 128)))).flatten) / 2 ^ 240 % 2 ^ 16

/-- Bit 16 + q for each data port in Up. -/
def portsUp (d : Dev) : Nat := ((List.range 6).map fun q => if d.get (Dict.portState q) = 3 then 2 ^ q else 0).sum

/-- The continuous self-test of a Standby (R537, R658): no privileged unit flagged, no output, lane or channel checker at Fault, every channel on its
schedule, and the Active's data ports up here too. -/
def selfTestPasses (d : Dev) : Bool :=
  let peer := d.get Dict.keeperPeerHealth / 65536 % 64
  d.get Dict.selfTestPrivilegedFlags == 0 && !([63, 100, 16, 17, 18].any fun n => d.get (Dict.evtRailState n) == 1) &&
    ((List.range 16).all fun c => [1, 2].contains (d.get (Dict.chState c))) &&
    ((List.range 3).all fun c => [1, 2].contains (d.get (Dict.linkChState c))) &&
    d.get Dict.pctStateWest == 1 && d.get Dict.pctStateEast == 1 &&
    (d.get Dict.keeperRole != 2 || (List.range 6).all fun q => !bit peer q || d.get (Dict.portState q) == 3)

/-- KeeperHealth, the digests, and KeeperStandbyReady (R517, R518, R538). -/
def judgeHealth (d : Dev) : Dev :=
  let d := (d.set Dict.serviceConfigDigest d.configDigest).set Dict.keyDigest d.digestKeys
  let role := d.get Dict.keeperRole
  let b (n : Nat) (on : Bool) : Nat := if on then 2 ^ n else 0
  let peer := d.peerBeat 2
  let near := d.get (Dict.refState 17) == 4 &&
    decide (unitsToPs (((d.getI (Dict.refOffset 17)).natAbs : Nat) : Rat) ≤ ((d.get Dict.keeperTrackLimit : Nat) : Rat))
  let health :=
    b 31 (role == 1 || d.get Dict.replicationState == 2) +
    b 30 (peer.any fun x => x.beat.health % 65536 == d.get Dict.keyDigest) +
    b 29 (peer.any fun x => x.beat.digest == d.get Dict.serviceConfigDigest) +
    b 28 (d.state == 3 && (role != 2 || near)) +
    b 27 d.selfTestPasses +
    b 26 (d.get Dict.isolatedDomains == 0 && !Removable.all.any d.removed) +
    b 25 (d.lifeCycle == 2) +
    b 24 (d.get Dict.apll0State == 2 && d.get Dict.apll0Source == 1) +
    d.portsUp * 65536 + d.get Dict.keyDigest
  let d := d.set Dict.keeperHealth health
  let peerPorts := d.get Dict.keeperPeerHealth / 65536 % 64
  let ready :=
    if role = 2 then health / 2 ^ 24 == 255 && (List.range 6).all fun q => !bit peerPorts q || bit (d.portsUp) q
    else if role = 1 then
      decide (d.get Dict.keeperMissedCount < d.get Dict.keeperMissLimit) && peer.any fun x => x.beat.role == 2 && bit x.beat.flags 9
    else false
  d.setB Dict.keeperStandbyReady ready

/-! ### Replication (R519, R539 to R541) -/

/-- An item is applied (R519, R540). -/
def applyItem (d : Dev) (i : ReplItem) : Dev :=
  let rest : List Client := d.clients.filter fun c => c.slot != i.slot
  let rates : List ClientRate := d.rates.filter fun x => x.slot != i.slot
  let valid := decide (2 ^ 511 ≤ i.data)
  if i.op = 1 ∨ (i.op = 4 ∧ valid) then { d with clients := clientOf i.slot i.data :: rest }
  else if i.op = 2 ∨ i.op = 4 then { d with clients := rest, rates := rates }
  else if i.op = 3 ∧ i.slot < 8 then
    (d.set (Dict.instSyncSeqBase i.slot) (fieldAt 64 i.data 0 2)).set (Dict.instAnnounceSeqBase i.slot) (fieldAt 64 i.data 2 2)
  else d

/-- Packets 0 to Last of one frame, in sequence (R540). -/
def wholeFrame (l : List Replication) : Bool :=
  match l with
  | [] => false
  | r :: _ => (l.zipIdx.all fun p => p.1.index == p.2 && p.1.frame == r.frame && p.1.last == (p.2 + 1 == l.length))

/-- A frame of replication is discarded (R540). -/
def loseReplication (d : Dev) : Dev := (d.inc Dict.replicationFramesDiscarded).set Dict.replicationState 3

/-- REPLICATION_APPLY in S0 (R540, R541). A frame whose Beat is missing too sent nothing, so it discards nothing (DEDUCED, log entry 54). -/
def applyReplication (d : Dev) : Dev :=
  let l := d.replIn
  let d := { d with replIn := [] }
  if d.get Dict.keeperRole ≠ 2 then d
  else if wholeFrame l then
    let items := (l.map (·.items)).flatten
    let d := (items.foldl applyItem d).countClients
    let d := if items.any fun i => i.op == 4 && i.slot == 0 then d.set Dict.replicationState 1 else d
    let d := match (items.filter fun i => i.op == 4).getLast? with
      | some i => d.set Dict.replicationBulkSlot (i.slot + 1)
      | none => d
    let d := if d.get Dict.replicationState = 1 && items.any fun i => i.op == 4 && i.slot + 1 == clientSlots then
        d.set Dict.replicationState 2 else d
    let d := d.inc Dict.replicationFramesApplied
    match l with
    | r :: _ => d.set Dict.replicationLastFrame r.frame
    | [] => d
  else if l.isEmpty then
    let heard := (d.peerBeat 2).any fun b => b.frame == d.view.frames && b.beat.role == 1
    if heard && [1, 2].contains (d.get Dict.replicationState) then d.loseReplication else d
  else d.loseReplication

/-- A bulk copy starts from slot 0 (R541). -/
def startBulk (d : Dev) : Dev :=
  ((d.set Dict.replicationState 1).setB Hid.replStarted true).clearAll [Dict.replicationBulkSlot, Hid.replClear]

/-- The Active follows the Standby's ReplicationSynced (R541). Its own state reads Lost once the bit stays clear more than
4 frames after a copy has ended (DEDUCED, log entry 54). -/
def followStandby (d : Dev) (b : Beat) : Dev :=
  if d.get Dict.keeperRole ≠ 1 ∨ b.role ≠ 2 then d
  else if !d.is Hid.replStarted then d.startBulk
  else
    let synced := bit b.health 31
    let state := d.get Dict.replicationState
    if state = 2 then (if synced || d.framesSince (d.get Hid.replEnd) ≤ 4 then d else (d.set Dict.replicationState 3).set Hid.replClear 1)
    else if state = 3 then
      if synced then (d.set Dict.replicationState 2).clear Hid.replClear
      else if 1 ≤ d.get Hid.replClear then d.startBulk
      else d.set Hid.replClear 1
    else d

/-- What replication carries, as items: the client records and the instances' bases. -/
def replView (d : Dev) : List ReplItem :=
  (d.clients.map fun c => (⟨1, c.slot, c.octets⟩ : ReplItem)) ++ (List.range 8).map fun i =>
    ⟨3, i, (d.get (Dict.instSyncSeqBase i) * 65536 + d.get (Dict.instAnnounceSeqBase i)) * 256 ^ 60⟩

/-- The replication of a frame leaves port 2 (R516, R519, R539): the changes since the last one, then the bulk copy. -/
def sendReplication (d : Dev) : Dev :=
  if d.get Dict.keeperRole ≠ 1 ∨ d.get (Dict.skState 2) ≠ 3 then d
  else if d.is Dict.skAuthRequired && !(d.linkNode false).any d.linkUsable then d
  else
    let view := d.replView
    let gone := (d.replSent.filter fun o => o.op == 1 && !view.any fun i => i.op == 1 && i.slot == o.slot).map fun o =>
      (⟨2, o.slot, 0⟩ : ReplItem)
    let changes : List ReplItem := (gone ++ view.filter fun i => !d.replSent.contains i).take replItems
    let slot := d.get Dict.replicationBulkSlot
    let bulk := if d.get Dict.replicationState = 1 then min (replItems - changes.length) (clientSlots - slot) else 0
    let packets := max 1 ((changes.length + bulk + 55) / 56)
    let first := d.get (Hid.skSent 2) + 1
    let d : Dev := (List.range packets).foldl (fun d _ => (d.skTag []).1) d
    let same (a b : ReplItem) : Bool := (a.op == 3) == (b.op == 3) && a.slot == b.slot
    let known : List ReplItem := (changes.filter fun i => i.op != 2) ++ d.replSent.filter fun o => !changes.any (same o)
    let d : Dev := { d with replSent := known }
    let d := d.out (.replication first (d.globalFrame % 2 ^ 32) changes slot bulk (!d.is Hid.replWithheld))
    let d := d.set (Hid.skSent 2) (d.get (Hid.skSent 2) + packets)
    let d := (d.set Dict.replicationBulkSlot (slot + bulk)).clear Hid.replWithheld
    if d.get Dict.replicationState = 1 ∧ slot + bulk = clientSlots then
      (d.set Dict.replicationState 2).set Hid.replEnd d.view.frames else d

/-! ### Beats (R517) -/

/-- PublishedQc (R517): of the reference followed. -/
def publishedQc (d : Dev) : Nat :=
  match d.boundRef with
  | some r => if [2, 3].contains (d.get Dict.keeperRole) then 15 else d.get (Dict.refQc r)
  | none => 15

/-- The Beat of a port in this frame (R517). -/
def beatOf (d : Dev) (m : Nat) : Beat :=
  let role := d.get Dict.keeperRole
  let mark := d.marksOf m (d.view.frames - 1)
  let marked := mark.any fun x => x.got != 0
  let upstream := d.get Dict.k0Port
  let f (n : Nat) (on : Bool) : Nat := if on then 2 ^ n else 0
  let asks := role == 2 && d.is Hid.handOverWanted && d.get Dict.keeperHandOverState == 0
  let flags :=
    f 15 (d.is Dict.keeperInterlockOut) + f 14 (d.is Dict.keeperPreferred) + f 13 (d.get Dict.boundTimescale != unbounded) +
    f 12 (d.is Dict.utcValid) + f 11 (asks || (role == 1 && d.get Dict.keeperHandOverState == 1)) +
    f 10 (role == 2 && d.get Dict.keeperHandOverState == 2) + f 9 (role == 2 && d.is Dict.keeperStandbyReady) +
    f 8 (upstream < 3 && d.get (Dict.skState upstream) == 4 && d.get (Dict.skFaultCause upstream) == 1) + f 7 marked
  { role := role, position := d.get Dict.cascadePosition, flags := flags,
    innings := if role = 0 then 0 else d.get Dict.keeperInnings, frameStart := toTime96 d.view.frameStart,
    markerTx := (mark.map fun x => toCt64 x.sent).getD 0,
    markerRx := (mark.map fun x => if x.got = 0 then 0 else toCt64 (x.got - 1)).getD 0,
    bound := d.get Dict.boundTimescale, growth := d.get Dict.boundGrowthRate, deviceState := d.state, qc := d.publishedQc,
    leapKind := d.get Dict.leapPending, utcOffset := d.getI Dict.utcOffset, leapSeconds := d.get Dict.leapTime / 2 ^ 48,
    stepSize := d.getI Dict.stepPendingSize, stepAt := d.get Dict.stepPendingAt, discontinuity := d.get Dict.discontinuityCount,
    health := d.get Dict.keeperHealth, ack := d.get Dict.replicationLastFrame,
    handOverAt := if d.get Dict.keeperHandOverState = 0 then 0 else toCt64 (d.get Hid.handOverAt),
    digest := d.get Dict.serviceConfigDigest }

/-- A Beat leaves each port in Training or Up (R516, R517); a pair unit in Safe sends none (R640). -/
def sendBeats (d : Dev) : Dev :=
  if d.paired && d.state == 5 then d
  else
    forUnits 3 (fun m d =>
      if !([2, 3].contains (d.get (Dict.skState m))) then d
      else
        let b := d.beatOf m
        let sequence := d.get (Hid.skSent m) + 1
        let (d, tag) := d.skTag (beatCovered sequence b)
        (d.set (Hid.skSent m) sequence).out (.beat m sequence tag b)) d

/-! ### Slots -/

/-- What the peer's Beat on port 2 does to a pair unit in S0 (R525, R527, R533, R541, R542). -/
def pairBeat (d : Dev) (b : Beat) : Dev :=
  let d := (d.set Dict.keeperPeerInnings b.innings).set Dict.keeperPeerRole b.role
  let d := ((d.set Dict.keeperPeerHealth b.health).set Dict.keeperPeerBound b.bound).setB Hid.peerSeen true
  let role := d.get Dict.keeperRole
  let higher := b.role == 1 && decide (d.get Dict.keeperInnings < b.innings)
  if role = 1 && higher then d.standDown 5
  else
    let d := if role = 2 && higher then d.set Dict.keeperInnings b.innings else d
    let d := if role = 3 && higher then d.inc Hid.higherBeats else d.clear Hid.higherBeats
    let d := d.followStandby b
    let accepted := role == 1 && d.get Dict.keeperHandOverState == 1 && bit b.flags 10 && b.handOverAt == toCt64 (d.get Hid.handOverAt)
    let d := if accepted then d.set Dict.keeperHandOverState 2 else d
    if role == 1 && b.role == 2 && bit b.flags 11 && d.get Dict.keeperHandOverState == 0 && !d.is Hid.handOverWanted then d.switchover
    else d

/-- S0's work for the pair (R525, R527, R530, R532, R540, R542), after the Skovwin ports have consumed their Beats. -/
def keeperFrame (d : Dev) : Dev :=
  if !d.paired then d
  else
    let heard := (d.peerBeat 2).filter fun b => b.frame == d.view.frames
    let d := match heard with
      | some b => d.pairBeat b.beat
      | none => d.clear Hid.higherBeats
    let d := if heard.isSome && d.get (Dict.skState 2) == 3 then d.clear Dict.keeperMissedCount else d.inc Dict.keeperMissedCount
    ((d.applyReplication).handOverAbandon).judgeHolds

/-- ADDRESS_ANNOUNCE (R545): a new Active's gratuitous ARP and unsolicited Neighbour Advertisement, at 256-frame
intervals. -/
def addressAnnounce (d : Dev) : Dev :=
  if d.get Dict.keeperRole ≠ 1 ∨ d.get Hid.announceLeft = 0 ∨ d.view.frames < d.get Hid.announceDue then d
  else
    let d := forUnits 6 (fun q d =>
      if d.get (Dict.portState q) ≠ 3 then d
      else
        let v4 := d.get (Dict.svcIpv4Address q)
        let v6 := d.get (Dict.svcIpv6Address q)
        let d := if v4 = 0 then d else d.sendResolved q 4 v4 0xFFFFFFFFFFFF
        if v6 = 0 then d else d.sendResolved q 6 v6 0x333300000001) d
    (d.set Hid.announceLeft (d.get Hid.announceLeft - 1)).set Hid.announceDue (d.view.frames + 256)

/-- S6 (R517, R518, R529, R531 to R533, R538, R539, R542). -/
def keeperSlot (d : Dev) : Dev :=
  let d := d.judgeHealth
  let d := d.countRevert.requestHandOver.acceptHandOver
  let d := d.roleRows.pathConditions
  let d := d.set Hid.lastKeeperFrame (d.view.frames + 1)
  d.sendBeats.sendReplication

/-- KeeperRejoin is in place (R533, R550). -/
def rejoinOk (d : Dev) : Bool := d.get Dict.keeperRole == 3

end Dev

end Sys2Proof.Machine
end

