-- ==== Sys2Proof/Machine/Memory.lean ====
section
/-!
DEFINITION. Memories, their codes, the scrubber, test mode and the bus matrix (R597 to R625).

Memory is held as octets by target and offset, zero where nothing is listed (the fill, R606), and as the lines whose
check bits do not fit their data. Line data is a number of 64 octets, the first octet most significant.
-/
namespace Sys2Proof.Machine

/-- A line whose stored check bits are not those of its data (R600 to R602): the data its check bits were computed from,
and what has flipped in the inner and outer check bits. `table` is the client record the line held then (T0). -/
structure LineCheck where
  target : Nat
  line : Nat
  base : Nat
  inner : Nat
  outer : Nat
  table : Nat
  deriving DecidableEq, Repr

/-- The memory targets T0 to T4 (R600): octets in rising order of target and offset, none of them zero. -/
structure Mem where
  cells : List Host.Cell
  checks : List LineCheck
  deriving DecidableEq, Repr

/-! ### Octets -/

/-- The key of an octet: 40 bits of offset below the target (R601). -/
def memKey (target offset : Nat) : Nat := target * 2 ^ 40 + offset

/-- The octet at a key; zero where nothing is listed. -/
def cellAt : List Host.Cell → Nat → BitVec 8
  | [], _ => 0
  | (k, v) :: t, a => if k = a then v else cellAt t a

/-- The list with an octet at a key; a zero octet is not listed. -/
def putCell : List Host.Cell → Nat → BitVec 8 → List Host.Cell
  | [], a, v => if v = 0 then [] else [(a, v)]
  | (k, w) :: t, a, v =>
    if k = a then (if v = 0 then t else (a, v) :: t)
    else if a < k then (if v = 0 then (k, w) :: t else (a, v) :: (k, w) :: t)
    else (k, w) :: putCell t a v

/-- Keys rise from a floor and no octet is zero. -/
def cellsFrom : Nat → List Host.Cell → Bool
  | _, [] => true
  | low, (k, v) :: t => decide (low ≤ k) && decide (v ≠ 0) && cellsFrom (k + 1) t

namespace Mem

/-- The canonical form of the octets. -/
def wf (m : Mem) : Bool := cellsFrom 0 m.cells

/-- One octet of a target. -/
def read (m : Mem) (target offset : Nat) : BitVec 8 := cellAt m.cells (memKey target offset)

/-- One octet of a target takes a value. -/
def write (m : Mem) (target offset : Nat) (v : BitVec 8) : Mem :=
  { m with cells := putCell m.cells (memKey target offset) v }

/-- Octets from an offset up take the values of a list. -/
def writeAll (m : Mem) (target offset : Nat) : List Nat → Mem
  | [] => m
  | v :: t => (m.write target offset (BitVec.ofNat 8 v)).writeAll target (offset + 1) t

/-- The octets of a range. -/
def readAll (m : Mem) (target offset : Nat) : Nat → List Nat
  | 0 => []
  | n + 1 => (m.read target offset).toNat :: m.readAll target (offset + 1) n

/-- The listed octets of a line as a number. -/
def line (m : Mem) (target line : Nat) : Nat := ofOctets (m.readAll target (line * 64) 64)

/-- A line's octets take a number. -/
def setLine (m : Mem) (target line v : Nat) : Mem := m.writeAll target (line * 64) (octetsOf 64 v)

/-- The check entry of a line. -/
def check (m : Mem) (target line : Nat) : Option LineCheck := m.checks.find? fun c => c.target == target && c.line == line

/-- A line's check entry goes. -/
def dropCheck (m : Mem) (target line : Nat) : Mem :=
  { m with checks := m.checks.filter fun c => c.target != target || c.line != line }

/-- The octets and check bits of T0 to T3 hold zero data with valid codes (R606). -/
def fill (m : Mem) : Mem := { cells := m.cells.filter fun c => decide (memKey 4 0 ≤ c.1), checks := [] }

end Mem

/-! ### Codes (R600 to R602) -/

/-- What decoding a line answers: its data, unless it is uncorrectable, and the corrections of the two codes. -/
structure LineRead where
  data : Option Nat
  inner : Nat
  outer : Nat
  deriving DecidableEq, Repr

/-- Word `i` of a line. -/
def wordOf (line i : Nat) : Nat := line / 2 ^ (64 * (7 - i)) % 2 ^ 64

/-- The inner decoder on a word (R602): a single error is corrected, an even number passes. An odd number above one passes
for a single error elsewhere: which bit it flips is free (DESIGN CHOICE, log entry 56). -/
def innerWord (data base check free : Nat) : Nat × Nat :=
  let errors := popCount 64 (data ^^^ base) + popCount 8 check
  if errors = 0 then (data, 0)
  else if errors = 1 then (base, 1)
  else if errors % 2 = 0 then (data, 0)
  else
    let p := Config.freeValue 56 free % 72
    (if p < 64 then data ^^^ 2 ^ p else data, 1)

/-- The inner decoder on a line of T0 or T1; DRAM passes as it is (R602). -/
def innerLine (dram : Bool) (data base check free : Nat) : Nat × Nat :=
  if dram then (data, 0)
  else
    let words := (List.range 8).map fun i => innerWord (wordOf data i) (wordOf base i) (check / 256 ^ (7 - i) % 256) (free * 8 + i)
    (words.foldl (fun a w => a * 2 ^ 64 + w.1) 0, (words.map (·.2)).sum)

/-- Octets of an n-octet number that are not zero. -/
def symbolCount (n v : Nat) : Nat := ((octetsOf n v).filter (· != 0)).length

/-- The two stages of decoding (R601, R602): the outer code corrects one symbol of T0 and T1 and two of T2 and T3, and
detects up to three and six. What it answers beyond is free (DESIGN CHOICE, log entry 56). -/
def decodeLine (dram : Bool) (data : Nat) (c : Option LineCheck) (free : Nat) : LineRead :=
  match c with
  | none => ⟨some data, 0, 0⟩
  | some c =>
    let (d, inner) := innerLine dram data c.base c.inner free
    let symbols := symbolCount 64 (d ^^^ c.base) + symbolCount (if dram then 8 else 4) c.outer
    let corrects := if dram then 2 else 1
    let detects := if dram then 6 else 3
    if symbols = 0 then ⟨some d, inner, 0⟩
    else if symbols ≤ corrects then ⟨some c.base, inner, 1⟩
    else if symbols ≤ detects ∨ Config.freeValue 57 free % 2 = 0 then ⟨none, 0, 0⟩
    else ⟨some (Config.freeValue 58 free % 2 ^ 512), inner, 1⟩

/-! ### Lines of the device -/

/-- A line as it is stored (R600). A line of T0 is a client record (R439), which the protocol engine holds in its table:
flips that came before the engine wrote the record anew are gone (DESIGN CHOICE, log entry 57). -/
def rawLine (m : Mem) (d : Dev) (target line : Nat) : Nat :=
  if target = 0 then
    let record := d.clientWindowAt line
    match m.check 0 line with
    | some c => if c.table = record then record ^^^ m.line 0 line else record
    | none => record
  else m.line target line

/-- The check entry that still counts for a line. -/
def liveCheck (m : Mem) (d : Dev) (target line : Nat) : Option LineCheck :=
  (m.check target line).filter fun c => target != 0 || c.table == d.clientWindowAt line

/-- Data is stored in a line without touching its codes: against those of `base`, with flips in their bits. -/
def markLine (m : Mem) (d : Dev) (target line data base inner outer : Nat) : Mem :=
  let record := if target = 0 then d.clientWindowAt line else 0
  let m := (m.dropCheck target line).setLine target line (data ^^^ record)
  let clean := data == base && inner == 0 && outer == 0
  if !clean || (target == 0 && data != record) then { m with checks := ⟨target, line, base, inner, outer, record⟩ :: m.checks } else m

/-- A client record written as octets into T0 (R439). -/
def Dev.writeRecord (d : Dev) (slot data : Nat) : Dev :=
  let rest : List Client := d.clients.filter fun c => c.slot != slot
  if 2 ^ 511 ≤ data then ({ d with clients := clientOf slot data :: rest }).countClients
  else if d.clients.any fun c => c.slot == slot then
    let rates : List ClientRate := d.rates.filter fun x => x.slot != slot
    ({ d with clients := rest, rates := rates }).countClients
  else d

/-- A whole line is written with its codes (R598). -/
def storeLine (m : Mem) (d : Dev) (target line data : Nat) : Mem × Dev :=
  let d := if target = 0 then d.writeRecord line data else d
  (markLine m d target line data data 0 0, d)

namespace Dev

/-- A correction is counted; source 118 at most once per second per target (R611; the code is log entry
35). -/
def countCorrected (d : Dev) (target line : Nat) (r : LineRead) : Dev :=
  if r.inner + r.outer = 0 then d
  else
    let d := (d.add (Dict.memInnerCorrected target) r.inner).add (Dict.memOuterCorrected target) r.outer
    d.postSecond (60 + target) 118 [(1, target), (1, 0), (8, line)]

/-- An uncorrectable line (R609): requester 0 to 5, or 0x10 the scrubber. -/
def uncorrectable (d : Dev) (target line requester : Nat) : Dev :=
  let d := (d.inc (Dict.memUncorrectable target)).set (Dict.memLastErrorAddress target) line
  (d.set (Dict.memLastErrorRequester target) requester).post 119 [(1, target), (8, line), (1, requester)]

end Dev

/-- A line is decoded for a requester; corrections are written back before anything else (R602, R603, R609, R611). -/
def readLine (m : Mem) (d : Dev) (target line requester : Nat) : Mem × Dev × Option Nat :=
  let r := decodeLine (2 ≤ target) (rawLine m d target line) (liveCheck m d target line) (d.free + line)
  match r.data with
  | none => (m, d.uncorrectable target line requester, none)
  | some v =>
    if r.inner + r.outer = 0 then (m, d, some v)
    else
      let d := d.countCorrected target line r
      let (m, d) := storeLine m d target line v
      (m, d, some v)

/-! ### Bus matrix (R617 to R622) -/

namespace Dev

/-- Domain of a master (R617). -/
def masterDomain (master : Nat) : Domain :=
  if master = 1 then .proto else if master = 2 then .gnss else if master = 4 then .net else .ctrl

/-- Usable octets of a target; DRAM is shared by its two channels (R600, R604). -/
def targetSize (d : Dev) (target : Nat) : Nat :=
  if target = 0 then 2 ^ 26 else if target = 1 then 2 ^ 23 else if target < 4 then d.get Dict.dramUsable / 2
  else if target = 4 then 2 ^ 22 else 2 ^ 40

/-- The window of a master at an offset of a target (R618): 0 outside; 7 a window that is the whole target. -/
def windowAt (master target offset : Nat) : Nat :=
  if 5 < target then 0
  else if master = 0 then 7
  else if target = 0 then (if master = 1 ∨ master = 4 then 7 else 0)
  else if (master = 1 ∧ target ≠ 4) ∨ (master = 2 ∧ target = 1) ∨ (master = 3 ∧ target < 4) ∨ (master = 5 ∧ target = 1) then
    Config.window master target offset
  else 0

/-- The access lies in the master's windows (R618). -/
def reachable (d : Dev) (op : BusOp) (octets : Nat) : Bool :=
  decide (op.target ≤ 5) && decide (op.offset + octets ≤ d.targetSize op.target) && windowAt op.master op.target op.offset != 0 &&
    windowAt op.master op.target (op.offset + octets - 1) != 0

/-- The target answers: MEM in service and filled, the channel trained (R606, R622). -/
def targetUp (d : Dev) (target : Nat) : Bool :=
  decide (4 ≤ target) || (d.powered .mem && (decide (target < 2) || d.get Dict.dramState == 2))

/-- The master's port issues: it runs, its domain is powered and the fill has completed (R606, R623). -/
def portIssues (d : Dev) (master : Nat) : Bool :=
  decide (master < 6) && d.get (Dict.busPortState master) == 0 && d.powered (masterDomain master) &&
    (d.get Dict.fillState == 2 || !d.powered .mem)

/-- A response leaves the matrix (R619): 0 OK, 1 DataError, 2 DecodeError, 3 TargetError. -/
def respond (d : Dev) (op : BusOp) (code : Nat) (data : List Nat) : Dev :=
  let d := if code = 1 then d.inc (Dict.busDataErrors op.master) else d
  d.out (.bus op.master op.id code data)

/-- A transaction is issued: outstanding for the length of the step, its grant wait observed (R620, R626). -/
def issue (d : Dev) (op : BusOp) : Dev :=
  let d := d.set (Dict.busOutstandingPeak op.master) (max 1 (d.get (Dict.busOutstandingPeak op.master)))
  (d.set (Dict.busGrantWaitMax op.master) (max op.wait (d.get (Dict.busGrantWaitMax op.master)))).add (Hid.grantWait op.master) op.wait

/-- An access outside the windows (R618). -/
def violation (d : Dev) (op : BusOp) (isWrite : Bool) : Dev :=
  let target := if op.target ≤ 5 then op.target else 15
  let address := (if op.target ≤ 5 then Config.targetBase op.target + op.offset else op.offset) % 2 ^ 48
  let v := op.master % 16 * 2 ^ 60 + target * 2 ^ 56 + (if isWrite then 2 ^ 55 else 0) + address
  let d := (d.inc Dict.busViolationCount).set Dict.busLastViolation v
  (d.post 120 [(8, v)]).respond op 2 []

/-- What a master counts or withholds on a DataError (R610). What the event logger loses is counted in its BusDataErrors; firmware's
own reaction comes as rows of M0. -/
def dataErrorReaction (d : Dev) (op : BusOp) : Dev :=
  if op.master = 1 ∧ op.target ≠ 0 then
    (if windowAt 1 op.target op.offset = 2 then d.inc Dict.protoShedCount else d)
  else if op.master = 4 then d.setB Hid.replWithheld true
  else if op.master = 5 then d.inc Dict.qopMalformedCount
  else d

end Dev

/-- Lines of a range, read in ascending order until one is uncorrectable: the data of the lines in order. -/
def readLines (m : Mem) (d : Dev) (target line requester : Nat) : Nat → Mem × Dev × Option (List Nat)
  | 0 => (m, d, some [])
  | n + 1 =>
    match readLine m d target line requester with
    | (m, d, none) => (m, d, none)
    | (m, d, some v) =>
      match readLines m d target (line + 1) requester n with
      | (m, d, some l) => (m, d, some (v :: l))
      | (m, d, none) => (m, d, none)

/-- Number of lines that so many octets from an offset touch. -/
def linesOf (offset octets : Nat) : Nat := (offset + octets - 1) / 64 - offset / 64 + 1

/-- What M1 writes over a line that it cannot read (R610): a client record is freed by a zero write, client rate state and NTP
buckets are rewritten full, as octets the spec does not give (DESIGN CHOICE, log entry 55). -/
def rewriteLine (m : Mem) (d : Dev) (target line master : Nat) : Mem × Dev :=
  let w := Dev.windowAt master target (line * 64)
  if master ≠ 1 then (m, d)
  else if target = 0 then storeLine m d 0 line 0
  else if (target = 2 ∨ target = 3) ∧ (w = 3 ∨ w = 4) then storeLine m d target line (Config.fullLine target line % 2 ^ 512)
  else (m, d)

/-- Whether a transaction reaches a register space, which the spec does not describe (R600 T5). -/
def reachesRegisters (d : Dev) (op : BusOp) (octets : Nat) : Bool :=
  d.portIssues op.master && d.reachable op octets && op.target == 5

/-- MEM_READ (R597, R602, R603, R609, R610, R618, R619, R622). -/
def memRead (m : Mem) (d : Dev) (op : BusOp) (octets : Nat) : Mem × Dev :=
  if !d.portIssues op.master ∨ octets = 0 then (m, d)
  else
    let d := d.issue op
    if !d.reachable op octets then (m, d.violation op false)
    else if !d.targetUp op.target then (m, d.respond op 3 [])
    else if op.target = 4 then (m, d.respond op 0 (m.readAll 4 op.offset octets))
    else
      let first := op.offset / 64
      match readLines m d op.target first op.master (linesOf op.offset octets) with
      | (m, d, some l) =>
        let data := (l.map (octetsOf 64)).flatten
        (m, d.respond op 0 ((data.drop (op.offset % 64)).take octets))
      | (m, d, none) =>
        let d := (d.dataErrorReaction op).respond op 1 []
        rewriteLine m d op.target (d.get (Dict.memLastErrorAddress op.target)) op.master

/-- A burst lands, line by line (R598). -/
def landLines (m : Mem) (d : Dev) (target line : Nat) : Nat → List Nat → Mem × Dev
  | 0, _ => (m, d)
  | n + 1, octets =>
    let (m, d) := storeLine m d target line (ofOctets (octets.take 64))
    landLines m d target (line + 1) n (octets.drop 64)

/-- The lines that a burst writes in part are read first (R604): the first and the last, where it does not cover them. -/
def partLines (offset octets : Nat) : List Nat :=
  let first := offset / 64
  let last := (offset + octets - 1) / 64
  (if offset % 64 = 0 ∧ 64 ≤ octets then [] else [first]) ++
    (if (offset + octets) % 64 = 0 ∨ (last = first) then [] else [last])

/-- The lines are read one after the other; whether all could be. -/
def readParts (m : Mem) (d : Dev) (target requester : Nat) : List Nat → Mem × Dev × Bool
  | [] => (m, d, true)
  | l :: t =>
    match readLine m d target l requester with
    | (m, d, none) => (m, d, false)
    | (m, d, some _) => readParts m d target requester t

/-- MEM_WRITE (R598, R604, R618, R619, R622, R623): a burst whose last beat is accepted lands whole; without it nothing
changes. A partial line is read first, in SRAM as in DRAM (DEDUCED, log entry 58). -/
def memWrite (m : Mem) (d : Dev) (op : BusOp) (data : List Nat) (last : Bool) : Mem × Dev :=
  let n := data.length
  if !d.portIssues op.master ∨ n = 0 ∨ !last then (m, d)
  else
    let d := d.issue op
    if !d.reachable op n then (m, d.violation op true)
    else if !d.targetUp op.target then (m, d.respond op 3 [])
    else if op.target = 4 then (m.writeAll 4 op.offset data, d.respond op 0 [])
    else
      let first := op.offset / 64
      match readParts m d op.target op.master (partLines op.offset n) with
      | (m, d, false) => (m, (d.dataErrorReaction op).respond op 1 [])
      | (m, d, true) =>
        let lines := linesOf op.offset n
        let olds := (List.range lines).map fun i => rawLine m d op.target (first + i)
        let old := (olds.map (octetsOf 64)).flatten
        let new := old.take (op.offset % 64) ++ data ++ old.drop (op.offset % 64 + n)
        let (m, d) := landLines m d op.target first lines new
        (m, d.respond op 0 [])

namespace Dev

/-! ### Resets of masters (R623, R624) -/

/-- The port leaves Draining: Held in reset while its domain is, else Running (R623). -/
def portDrained (d : Dev) (master time : Nat) : Dev :=
  let d := (d.set (Dict.busOutstanding master) 0).set (Dict.busLastDrainTime master) time
  d.set (Dict.busPortState master) (if d.powered (masterDomain master) then 0 else 2)

/-- MASTER_RESET (R599, R623): so many transactions are outstanding, and the time they take to drain in ns. Drained within
2 µs the port leaves; else it waits for DRAIN_TIMEOUT. -/
def masterReset (d : Dev) (master outstanding time : Nat) : Dev :=
  if 6 ≤ master ∨ d.get (Dict.busPortState master) = 1 then d
  else if time ≤ 2000 ∨ outstanding = 0 then d.portDrained master (if outstanding = 0 then 0 else time)
  else (d.set (Dict.busPortState master) 1).set (Dict.busOutstanding master) outstanding

/-- DRAIN_TIMEOUT (R624): orphans are completed. -/
def drainTimeout (d : Dev) (master : Nat) : Dev :=
  if 6 ≤ master ∨ d.get (Dict.busPortState master) ≠ 1 then d
  else
    let n := d.get (Dict.busOutstanding master)
    ((d.add Dict.busOrphanCount n).post 122 [(1, master), (2, n)]).portDrained master 2000

/-- Ports of unpowered domains are held in reset, and run again once it is out (R623). -/
def portsFollow (d : Dev) : Dev :=
  forUnits 6 (fun m d =>
    let up := d.powered (masterDomain m)
    if !up && d.get (Dict.busPortState m) == 0 then d.set (Dict.busPortState m) 2
    else if up && d.get (Dict.busPortState m) == 2 then d.set (Dict.busPortState m) 0 else d) d

/-- MemCountersClear at its S0 (R625). -/
def clearMemCounters (d : Dev) : Dev :=
  let d := forUnits 4 (fun t d => d.clearAll [Dict.memInnerCorrected t, Dict.memOuterCorrected t, Dict.memUncorrectable t,
    Dict.scrubLapCount t, Dict.scrubUncorrected t]) d
  let d := forUnits 6 (fun m d => (d.clear (Dict.busDataErrors m)).set (Dict.busOutstandingPeak m) (d.get (Dict.busOutstanding m))) d
  d.clear Dict.busViolationCount

/-! ### Test mode (R615, R616) -/

/-- MemTestWrite and MemTestRead are in place (R615). -/
def memTestState (d : Dev) : Bool := d.lifeCycle == 3

/-- The line and mode are in range (R615). -/
def memTestRange (d : Dev) (writing : Bool) : Bool :=
  let t := d.get Dict.memTestTarget
  let l := d.get Dict.memTestLine
  decide (t < 4) && decide ((l + 1) * 64 ≤ d.targetSize t) && !(2 ≤ t && Config.archiveLine t l (d.get Dict.auditArchiveDays)) &&
    (!writing || d.get Dict.memTestMode != 2 || decide (t < 2))

end Dev

/-- MemTestWrite at its S0 (R615). -/
def memTestWrite (m : Mem) (d : Dev) : Mem × Dev :=
  let t := d.get Dict.memTestTarget
  let l := d.get Dict.memTestLine
  let v := d.get Dict.memTestData
  if !d.targetUp t then (m, d)
  else if d.get Dict.memTestMode = 0 then
    match liveCheck m d t l with
    | some c => (markLine m d t l v c.base c.inner c.outer, d)
    | none => (markLine m d t l v (rawLine m d t l) 0 0, d)
  else
    let (m, d) := storeLine m d t l v
    let inner := if d.get Dict.memTestMode = 2 then d.get Dict.memTestInnerXor else 0
    let outer := if d.get Dict.memTestMode = 1 then (if t < 2 then d.get Dict.memTestOuterXor / 2 ^ 32 else d.get Dict.memTestOuterXor) else 0
    (markLine m d t l v v inner outer, d)

/-- MemTestRead at its S0 (R616): nothing is decoded or counted. -/
def memTestRead (m : Mem) (d : Dev) : Dev :=
  let t := d.get Dict.memTestTarget
  let l := d.get Dict.memTestLine
  if !d.targetUp t then d
  else
    let raw := rawLine m d t l
    let c := (liveCheck m d t l).getD ⟨t, l, raw, 0, 0, 0⟩
    let inner := ofOctets ((List.range 8).map fun i => Config.innerCheck (wordOf c.base i) % 256) ^^^ c.inner
    let outer := Config.outerCheck t l c.base
    let d := (d.set Dict.memTestData raw).set Dict.memTestInnerCheck (if t < 2 then inner else 0)
    d.set Dict.memTestOuterCheck (if t < 2 then (outer % 2 ^ 32 ^^^ c.outer) * 2 ^ 32 else outer % 2 ^ 64 ^^^ c.outer)

/-- The test accesses accepted for this S0 (R615, R616). -/
def memTestFrame (m : Mem) (d : Dev) : Mem × Dev :=
  let v := d.get Hid.memTest
  let d := d.clear Hid.memTest
  let (m, d) := if bit v 0 then memTestWrite m d else (m, d)
  (m, if bit v 1 then memTestRead m d else d)

/-! ### Scrubber and upsets (R612 to R614) -/

/-- A physical upset of a line: its data and check bits flip (R597). -/
def applyUpset (m : Mem) (d : Dev) (u : Upset) : Mem :=
  if 4 ≤ u.target ∨ d.targetSize u.target < (u.line + 1) * 64 then m
  else
    let raw := rawLine m d u.target u.line
    let c := (liveCheck m d u.target u.line).getD ⟨u.target, u.line, raw, 0, 0, 0⟩
    let wide := if u.target < 2 then 2 ^ 32 else 2 ^ 64
    markLine m d u.target u.line (raw ^^^ u.data % 2 ^ 512) c.base (if u.target < 2 then c.inner ^^^ u.inner % 2 ^ 64 else 0)
      (c.outer ^^^ u.outer % wide)

/-- The scrubber's read of one line (R611, R613, R614). -/
def scrubLine (m : Mem) (d : Dev) (target line : Nat) : Mem × Dev :=
  match readLine m d target line 0x10 with
  | (m, d, none) => (m, d.inc (Dict.scrubUncorrected target))
  | (m, d, some _) => (m, d)

/-- One frame of a target's scrubber (R612, R614): the floor and the idle cycles' lines, in ascending order with a wrap.
Only the lines whose codes do not fit are looked at: every other line passes. -/
def scrubTarget (m : Mem) (d : Dev) (target idle : Nat) : Mem × Dev :=
  let total := d.targetSize target / 64
  if total = 0 ∨ !d.targetUp target then (m, d)
  else
    let start := d.get (Dict.scrubPosition target) % total
    let n := min total (d.get (Dict.scrubFloorLines target) + idle)
    let away (l : Nat) : Nat := (l + total - start) % total
    let due := (m.checks.filter fun c => c.target == target && decide (away c.line < n)).map (·.line)
    let order := sortByRank away due
    let (m, d) := order.foldl (fun x l => scrubLine x.1 x.2 target l) (m, d)
    let d := d.set (Dict.scrubPosition target) ((start + n) % total)
    if start + n < total then (m, d)
    else
      let ms := d.framesSince (d.get (Hid.lapFrame target)) * 1000 / framesPerSecond
      let d := ((d.set (Dict.scrubLapTime target) ms).inc (Dict.scrubLapCount target)).set (Hid.lapFrame target) d.view.frames
      (m, if d.get (Dict.scrubLapLimit target) < ms then d.post 121 [(1, target), (4, ms)] else d)

/-- The scrubbers in a frame: ScrubState, and the lines they read while the Scrub pass is held (R612). -/
def scrubFrame (m : Mem) (d : Dev) (idle : List Nat) : Mem × Dev :=
  let on := d.is Dict.scrubEnable && d.powered .mem && d.get Dict.fillState == 2
  let d := d.setB Hid.scrubWanted on
  if !on then (m, d.set Dict.scrubState 0)
  else if !d.passHeld 3 then (m, d.set Dict.scrubState 2)
  else
    let d := d.set Dict.scrubState 1
    (List.range 4).foldl (fun x t => scrubTarget x.1 x.2 t (idle.getD t 0)) (m, d)

end Sys2Proof.Machine
end

