-- ==== Sys2Proof/Machine/PerfCounters.lean ====
section
/-!
DEFINITION. Performance counters (R674 to R677). What happened in a frame is accounted at the next frame start, before its
closes, snapshots and clears (DESIGN CHOICE, log entry 59).
-/
namespace Sys2Proof.Machine

/-- Kind (0x01 edge, 0x02 level, 0x03 bandwidth) and PcUnit range of an event code, for the listed codes (R674). -/
def pcKind (code : Nat) : Option (Nat × Nat × Nat) :=
  if code = 1 ∨ code = 2 then some (1, 0, 6)
  else if code = 3 ∨ code = 4 then some (3, 0, 6)
  else if code = 0x10 ∨ code = 0x11 then some (2, 0, 5)
  else if code = 0x20 ∨ code = 0x21 then some (1, 1, 4)
  else if code = 0x22 then some (2, 0, 31)
  else if code = 0x23 then some (2, 0, 15)
  else if code = 0x24 then some (1, 0, 255)
  else if code = 0x30 then some (2, 0, 5)
  else if code = 0x31 then some (1, 0, 5)
  else if code = 0x40 then some (2, 0, 3)
  else if code = 0x41 then some (2, 0, 4)
  else if code = 0x50 ∨ code = 0x51 then some (1, 0, 15)
  else if 0x100 ≤ code ∧ code ≤ 0x17F then some (1, 0, 255)
  else none

/-- The values in force for a counter fit R674. Mode 0x00 is off under every code; code 0x0000 counts nothing in any mode. -/
def pcConfigOk (code mode unit : Nat) : Bool :=
  if code = 0 then true
  else
    match pcKind code with
    | none => false
    | some (kind, lo, hi) => (mode == 0 || mode == kind) && decide (lo ≤ unit ∧ unit ≤ hi)

namespace Dev

/-- The unit of a counter is in service and its domain powered (R674). -/
def pcLive (d : Dev) (code unit : Nat) : Bool :=
  if code ≤ 0x11 then d.powered .net && (unit == 6 || !d.removed (.port unit))
  else if code ≤ 0x21 then d.powered .proto
  else if code = 0x22 then d.powered .crypt && !d.removed (.hmac unit)
  else if code = 0x23 then d.powered .crypt && !d.removed (.aes unit)
  else if code = 0x24 ∨ code = 0x40 then d.powered .mem
  else if code = 0x30 ∨ code = 0x31 then d.powered (masterDomain unit)
  else if code = 0x50 ∨ code = 0x51 then d.powered .time && !d.removed (.channel unit)
  else true

/-- The running count that a code follows: occurrences, octets or ns since its reset. -/
def pcReading (d : Dev) (code unit : Nat) : Nat :=
  let port (f : Nat → Entry) (mgt : Entry) : Nat := if unit = 6 then d.get mgt else d.get (f unit)
  if code = 1 then port Dict.rxFrames Dict.mgtRxFrames
  else if code = 2 then port Dict.txFrames Dict.mgtTxFrames
  else if code = 3 then port Dict.rxOctets Dict.mgtRxFrames
  else if code = 4 then port Dict.txOctets Dict.mgtTxFrames
  else if code = 0x10 then d.get (Dict.pausedTime unit) / 5 * 5
  else if code = 0x20 then d.get (Hid.classAdmitted unit)
  else if code = 0x21 then d.get (Hid.classShed unit)
  else if code = 0x24 then d.get Hid.stashHits
  else if code = 0x30 then d.get (Hid.grantWait unit) / 5 * 5
  else if code = 0x31 then d.get (Dict.busDataErrors unit)
  else if code = 0x50 then d.get (Dict.chStampCount unit)
  else if code = 0x51 then d.get (Dict.chStrayCount unit)
  else if 0x100 ≤ code then d.get (Dict.evtCount (code - 0x100))
  else 0

/-- 5 ns samples of the frame that ended: 48,828, and one more in every eighth frame. -/
def frameSamples (d : Dev) : Nat := if d.view.frames % 8 = 0 then 48829 else 48828

/-- What a counter adds for the frame that ended (R674). How long a held frame waited, how long a lane was busy and how long
the MGT frames were no row states: free values within the frame (DESIGN CHOICE, log entry 59). -/
def pcGain (d : Dev) (n code unit : Nat) : Nat :=
  let all := 5 * d.frameSamples
  let some_ := 5 * (Config.freeValue 60 (d.free * 64 + n) % (d.frameSamples + 1))
  let moved := d.pcReading code unit - d.get (Hid.pcSeen n)
  if code = 0x11 then (if d.held.any fun h => h.job.port == unit then some_ else 0)
  else if code = 0x22 ∨ code = 0x23 then some_
  else if code = 0x40 then (if d.get Dict.scrubState = 2 then all else 0)
  else if code = 0x41 then (if bit (d.get Dict.passWaiting) unit then all else 0)
  else if (code = 3 ∨ code = 4) ∧ unit = 6 then moved * (64 + Config.freeValue 61 (d.free * 64 + n) % 1459)
  else moved

/-- Every counter takes what its event did in the frame that ended (R674). -/
def pcAccount (d : Dev) : Dev :=
  forUnits 64 (fun n d =>
    let code := d.get (Dict.pcEvent n)
    let unit := d.get (Dict.pcUnit n)
    let d := d.inc (Hid.pcFrames n)
    if d.get (Dict.pcMode n) = 0 ∨ code = 0 then d
    else
      let d := if d.pcLive code unit then d.add (Dict.pcCount n) (d.pcGain n code unit) else d
      d.set (Hid.pcSeen n) (d.pcReading code unit)) d

/-- The counters follow their sources anew, once the clears of this S0 are done. -/
def pcResync (d : Dev) : Dev :=
  forUnits 64 (fun n d =>
    if d.get (Dict.pcMode n) = 0 then d
    else d.set (Hid.pcSeen n) (d.pcReading (d.get (Dict.pcEvent n)) (d.get (Dict.pcUnit n)))) d

/-- A window closes (R675). -/
def pcClose (d : Dev) (n : Nat) : Dev :=
  let count := d.get (Dict.pcCount n)
  let frames := max 1 (d.get (Hid.pcFrames n))
  let rate := if d.get (Dict.pcMode n) = 3 then min (count * 8 * 4096 / frames) (2 ^ 64 - 1) else 0
  let d := (d.set (Dict.pcLastWindow n) count).set (Dict.pcCount n) 0
  let d := (d.set (Dict.pcRate n) rate).set (Hid.pcFrames n) 0
  d.set (Dict.pcWindowEnd n) (toTime96 d.view.frameStart)

/-- PC_WINDOW_CLOSE (R675): the window closes at a frame start whose global frame number its length divides; once. -/
def pcWindowClose (d : Dev) (n : Nat) : Dev :=
  let w := d.get (Dict.pcWindow n)
  if w = 0 ∨ d.globalFrame % w ≠ 0 ∨ d.get (Dict.pcWindowEnd n) = toTime96 d.view.frameStart then d else d.pcClose n

/-- The closes of a frame start (R675): the windows that are due, or every window where a step or set applies. -/
def pcFrame (d : Dev) (jumped : Bool) : Dev :=
  forUnits 64 (fun n d =>
    if jumped && d.get (Dict.pcWindow n) != 0 then d.pcClose n else d.pcWindowClose n) d.pcAccount

/-- A counter whose configuration is written starts again (R675). -/
def pcRestart (d : Dev) (n : Nat) : Dev := (d.clear (Dict.pcCount n)).clear (Hid.pcFrames n)

/-- PcSnapshot 0x01 (R676). -/
def pcSnapshotAll (d : Dev) : Dev := forUnits 64 (fun n d => d.set (Dict.pcSnapshotValue n) (d.get (Dict.pcCount n))) d

/-- PcClearAll 0x01 (R676). -/
def pcClearAllCounts (d : Dev) : Dev := forUnits 64 (fun n d => d.clear (Dict.pcCount n)) d

end Dev

end Sys2Proof.Machine
end

