-- ==== Sys2Proof/Machine/Lifetime.lean ====
section
/-!
DEFINITION. Lifetime records (R668, R670 to R673).
-/
namespace Sys2Proof.Machine

/-- The lifetime entries, which the device alone writes (R673, R718). -/
def lifeEntries : List Entry :=
  [Dict.lifeSeconds, Dict.lifeBootCount, Dict.lifeOrderlyShutdowns, Dict.lifeSupplyEpisodes, Dict.lifeSwitches,
   Dict.lifeHoldovers, Dict.lifeHoldoverSeconds, Dict.lifeTakeovers, Dict.lifeMoscTrips, Dict.lifeMaxTemp,
   Dict.lifeMinTemp, Dict.lifeCommitTime] ++
  (List.range 5).map Dict.lifeResetCount ++ (List.range 5).map Dict.lifeFaultCount ++
  (List.range 18).map Dict.lifeTempSeconds ++ (List.range 6).map Dict.lifeEpisodeDuration

namespace Dev

/-- The newest copy of the lifetime entries that checks (R671). -/
def lifeCopy (d : Dev) : Option StoreCopy := d.nvLife.find? fun c => c.valid

/-- The older of the two copies is written with the live values and a generation one higher (R671). A copy that fails its
read-back does not check; the other stays (R91). -/
def lifeCommit (d : Dev) (ok : Bool) : Dev :=
  let old := d.lifeCopy
  let d' := d.set Dict.lifeCommitTime (toTime96 d.now)
  let image : List (Nat × Nat) := lifeEntries.map fun e => (e.addr, d'.get e)
  let fresh : StoreCopy := ⟨(old.map (·.generation)).getD 0 + 1, ok, image⟩
  let copies : List StoreCopy := fresh :: old.toList
  let d := if ok then d' else d
  { d with nvLife := copies }

/-- The live values are loaded from the newest copy, at a power-on or supply reset (R670). -/
def lifeReload (d : Dev) : Dev :=
  let d := d.clearAll lifeEntries
  match d.lifeCopy with
  | some c => lifeEntries.foldl (fun d e => match Sparse.find c.values e.addr with
      | some v => d.set e v
      | none => d) d
  | none => d

/-- A lifetime commit is wanted (R671). -/
def lifeWanted (d : Dev) : Dev := d.set Hid.nvWanted (setBit (d.get Hid.nvWanted) 3)

/-- The histogram bin of a temperature in 0.001 °C (R673). -/
def lifeBin (t : Int) : Nat := (min 17 (max 0 ((t + 55000) / 10000))).toNat

/-- Frame 0 of a second with CTRL powered (R671, R673). -/
def lifetimeSecond (d : Dev) : Dev :=
  if d.frame ≠ 0 ∨ !d.powered .ctrl then d
  else
    let hot := (List.range 6).foldl (fun t r => max t (d.getI (Dict.regionTemp r))) (-273150)
    let d := (d.inc Dict.lifeSeconds).inc (Dict.lifeTempSeconds (lifeBin hot))
    let d := (d.setI Dict.lifeMaxTemp (max hot (d.getI Dict.lifeMaxTemp))).setI Dict.lifeMinTemp (min hot (d.getI Dict.lifeMinTemp))
    let d := d.inc Hid.lifeClock
    if d.get Dict.lifeCommitInterval ≤ d.get Hid.lifeClock then (d.clear Hid.lifeClock).lifeWanted else d

/-- LIFETIME_COMMIT (R671): the commit that is wanted runs under the NvWrite pass. A commit that fails its read-back is
asked for again at the next interval. -/
def lifetimeCommit (d : Dev) (ok : Bool) : Dev :=
  if !bit (d.get Hid.nvWanted) 3 || !d.passHeld 0 then d
  else
    let d := d.set Hid.nvWanted (clearBit (d.get Hid.nvWanted) 3)
    d.lifeCommit ok

end Dev

end Sys2Proof.Machine
end

