-- ==== Sys2Proof/Machine/Shutdown.lean ====
section
/-!
DEFINITION. Orderly shutdown (R586, R655 to R665): its phases, the tests' results, the shutdown record.
-/
namespace Sys2Proof.Machine

/-- The switched domains, in the order of LastResetDomains (R595). -/
def switchedDomains : List Domain := [.time, .synth, .gnss, .net, .crypt, .proto, .mem, .ctrl]

/-- The units of self-test with their domains; none for the regions, which have analogue items only (R657). -/
def testUnits : List (Nat × Option Domain) :=
  let of_ (lo n : Nat) (x : Domain) : List (Nat × Option Domain) := (List.range n).map fun i => (lo + i, some x)
  [(0, some .time), (1, some .time), (2, some .time), (3, some .aon), (4, some .ctrl)] ++ of_ 0x10 16 .time ++
  of_ 0x20 3 .net ++ of_ 0x24 2 .net ++ of_ 0x28 3 .synth ++ of_ 0x30 30 .synth ++ of_ 0x50 6 .net ++ of_ 0x58 3 .net ++
  of_ 0x60 32 .crypt ++ of_ 0x80 16 .crypt ++ of_ 0x90 12 .gnss ++
  [(0xA0, some .gnss), (0xA1, some .proto), (0xA2, some .mem), (0xA3, some .net), (0xA4, some .ctrl),
   (0xB0, some .mem), (0xB1, some .mem)] ++ (List.range 6).map fun r => (0xF0 + r, none)

/-- Units as a bitmap: bit u is unit code u (R665). -/
def unitMap (l : List Nat) : Nat := l.foldl setBit 0

namespace Dev

/-- Whether a unit is powered for a test. -/
def testable (d : Dev) (x : Option Domain) : Bool :=
  match x with
  | some .aon => true
  | some y => d.powered y
  | none => true

/-- Units that the tests of a shutdown do not reach: those of unpowered domains, and the DRAM channels without
ShutdownDramTest (R660, R663). -/
def unreachedUnits (d : Dev) : List Nat :=
  (testUnits.filter fun u => !d.testable u.2 || ((u.1 == 0xB0 || u.1 == 0xB1) && !d.is Dict.shutdownDramTest)).map (·.1)

/-- SHUTDOWN_REQUEST (R586, R659): SHDN_REQ_N falls. Ignored during a shutdown, in Deep hold and before time service
(DEDUCED, log entry 60). -/
def shutdownRequest (d : Dev) : Dev :=
  if d.get Hid.bootPhase ≠ 5 ∨ d.is Hid.shutdownPin then d
  else (d.setB Hid.shutdownPin true).set Hid.shutdownAt (d.now + 1) |>.set Hid.shutdownAge d.age

/-- A shutdown is under way: every write message receives StateConflict (R659). -/
def shuttingDown (d : Dev) : Bool := d.is Hid.shutdownPin

/-- The shutdown at a frame start (R659): Withdrawing begins, with a commanded hand-over where the pair can make one; once
none is under way the safe stop is asked for; after the commits the operating point falls to OP0 and the Bist pass is
requested. -/
def shutdownFrame (d : Dev) : Dev :=
  if !d.shuttingDown then d
  else
    let state := d.get Dict.shutdownState
    if state = 0 then
      let d := d.set Dict.shutdownState 1
      if d.canHandOver then (if d.is Hid.handOverWanted then d else d.switchover) else d.safeStop
    else if state = 1 then
      if d.is Hid.handOverWanted || d.get Dict.keeperHandOverState != 0 then d else d.safeStop
    else if state = 2 ∧ d.get Hid.nvWanted = 0 then
      let d := (d.releasePass 2).releasePass 1
      if d.get Dict.opActive = 0 then d.setB Hid.bistWanted true else d
    else d

/-- SHUTDOWN_COMMITTING (R659): service is withdrawn; the audit checkpoint and the lifetime commit ask for the NvWrite
pass. -/
def shutdownCommitting (d : Dev) : Dev :=
  if d.get Dict.shutdownState ≠ 1 ∨ d.state ≠ 5 then d
  else (d.set Dict.shutdownState 2).set Hid.nvWanted (setBit (setBit (d.get Hid.nvWanted) 2) 3)

/-- SHUTDOWN_TESTING (R657, R663, R664): with the Bist pass held the tests run. Failures of the units tested are flagged and
raised, once per unit; the pairs of the domains under test read Masked. -/
def shutdownTesting (d : Dev) (r : TestResults) : Dev :=
  if d.get Dict.shutdownState ≠ 2 ∨ !d.passHeld 4 then d
  else
    let out := d.unreachedUnits
    let known := testUnits.map (·.1)
    let runs (u : Nat) : Bool := known.contains u && !out.contains u
    let failed := oncePerUnit (r.failed.filter fun f => runs f.1)
    let items := (r.items.filter fun i => runs i.1).take 115
    let d := (d.set Dict.shutdownState 3).set Hid.shutEpisodes (d.get Dict.supplyEpisodeCount)
    let d := d.set Dict.selfTestFailed (unitMap (failed.map (·.1)))
    let d := d.set Dict.selfTestNotRun (unitMap out)
    let d := failed.foldl (fun d f => d.post 124 [(1, f.1), (1, f.2), (1, 1)]) d
    let d := switchedDomains.foldl (fun d x => if x = .ctrl then d else d.maskPairs x true) d
    { d with testItems := items }

/-- The shutdown record (R665) with its Crc. -/
def recordOf (d : Dev) (truncated : Bool) : Nat :=
  let flags := (if truncated then 0x80 else 0) +
    (if d.get Hid.shutEpisodes ≠ d.get Dict.supplyEpisodeCount then 0x40 else 0) +
    (if d.is Dict.shutdownDramTest && !bit (d.get Dict.selfTestNotRun) 0xB0 then 0x20 else 0)
  let at_ := d.get Hid.shutdownAt - 1
  let item (i : Nat × Nat × Int) : List Nat := [i.1, i.2.1, 0, 0] ++ octetsOf 4 (i.2.2 % 4294967296).toNat
  let items := (d.testItems.map item).flatten
  let body := [1, 1] ++ octetsOf 2 d.testItems.length ++ octetsOf 4 (d.get Dict.lifeBootCount) ++
    octetsOf 12 (toTime96 at_) ++ octetsOf 4 (Config.releaseData 0x1003 1) ++
    octetsOf 4 (min ((d.age - d.get Hid.shutdownAge) / (secondUnits / 1000)) 0xFFFFFFFF) ++ [flags, 0, 0, 0] ++
    octetsOf 32 (d.get Dict.selfTestFailed) ++ octetsOf 32 (d.get Dict.selfTestNotRun) ++ items ++
    List.replicate (924 - items.length) 0
  ofOctets (body ++ octetsOf 4 (crc32 body))

/-- Every switched domain is unpowered (R556, R589, R592): V registers at default, what the domains held lost, removed
units still removed, pairs Masked. -/
def unpowerAll (d : Dev) : Dev :=
  let gone := Removable.all.filter d.removed
  let d := d.endSessions fun _ => true
  let d := d.resetWhere fun i s => Dict.domainOf i s != .aon && keepAt i s == .v
  let d := gone.foldl remove d
  let d := switchedDomains.foldl dropLists d
  let d := d.set Hid.poweredDomains 0
  switchedDomains.foldl (fun d x => d.maskPairs x true) d

/-- The record is written to the older slot and read back, LPDDR5X goes to self-refresh, and only AON stays powered
(R659, R662, R665). A record that fails its read-back does not check. -/
def shutdownRecord (d : Dev) (truncated ok : Bool) (micros : Nat) : Dev :=
  let d := d.set Dict.shutdownState 4
  let failed := popCount 256 (d.get Dict.selfTestFailed)
  let d := d.post 125 [(1, 1), (1, d.get Dict.lastStartKind), (2, failed), (4, micros / 1000)]
  let d := d.pairFault 125 0
  let record := d.recordOf truncated
  let stored := if ok then record else record - record % 2 ^ 32 + (record + 1) % 2 ^ 32
  let d := if ok then d.inc Dict.lifeOrderlyShutdowns else d
  let slots : List Nat := stored :: d.shutRecords.take 1
  let d := { d with shutRecords := slots, testItems := [] }
  d.unpowerAll.set Hid.bootPhase 7

/-- SHUTDOWN_RECORDING (R659, R663, R665): the tests have ended; a test paused by a supply episode has not (R661). -/
def shutdownRecording (d : Dev) (micros : Nat) (ok : Bool) : Dev :=
  if d.get Dict.shutdownState ≠ 3 ∨ !d.passHeld 4 then d else d.shutdownRecord false ok micros

/-- How long the supplies hold after SHDN_REQ_N falls, in ms (R660). -/
def holdTime (d : Dev) : Nat := 900 + (if d.is Dict.shutdownDramTest then 75 * 2 ^ (d.get Dict.dramInstalled + 1) else 0)

/-- The time for tests is over: 30 ms before the supplies may go (R660). -/
def testTimeOver (d : Dev) : Bool := decide ((d.holdTime - 30) * 1000000 * unitsPerNs ≤ d.age - d.get Hid.shutdownAge)

/-- SHUTDOWN_TRUNCATE (R660): the time is over; units not yet tested are marked NotRun and the record is written with Truncated. A
unit that has failed was tested. -/
def shutdownTruncate (d : Dev) (tested micros : Nat) (ok : Bool) : Dev :=
  if d.get Dict.shutdownState ≠ 3 ∨ !d.testTimeOver then d
  else
    let out := (testUnits.map (·.1)).filter fun u => !bit tested u && !bit (d.get Dict.selfTestFailed) u
    let map := (out.foldl setBit (d.get Dict.selfTestNotRun))
    let items : List (Nat × Nat × Int) := d.testItems.filter fun i => !bit map i.1
    let d := { d with testItems := items }
    (d.set Dict.selfTestNotRun map).shutdownRecord true ok micros

end Dev

end Sys2Proof.Machine
end

