-- ==== Sys2Proof/Machine/Start.lean ====
section
/-!
DEFINITION. The configuration store, resets, start-up and low-power states (R9, R54, R78, R90 to R97, R555 to R557, R583 to R592,
R606 to R608, R666 to R669, R680 to R686, R700, R701, R718, R719).
-/
namespace Sys2Proof.Machine

/-- A stored value is valid for its entry (R11, R59, R94). -/
def storedValueOk (addr v : Nat) : Bool :=
  match Dict.find (addr / 256) (addr % 256) with
  | some e => inImage (addr / 256) (addr % 256) && e.wellTyped v && e.inRange v
  | none => false

namespace Dev

/-! ### The configuration store (R90 to R96) -/

/-- StoreCommit 0x01 at its S0: the NvWrite pass is asked for and the image captured (R90, R92). -/
def storeCommitS0 (d : Dev) : Dev :=
  let d := { d with storeImage := some d.image }
  let d := d.set Hid.nvWanted (setBit (d.get Hid.nvWanted) 0)
  d.set Dict.storeStatus (if d.is Hid.supplyHold then 2 else 1)

/-- A copy takes the place of the one with the older generation (R90). -/
def replaceOlder (d : Dev) (c : StoreCopy) : Dev :=
  let gen (x : Option StoreCopy) : Nat := match x with
    | some a => if a.valid then a.generation + 1 else 0
    | none => 0
  if gen d.copyA ≤ gen d.copyB then { d with copyA := some c } else { d with copyB := some c }

/-- STORE_COMMIT_DONE (R90 to R92): a commit that is not Deferred and holds the pass ends: the copy is read back, and current when
its CRC checks. -/
def storeCommitDone (d : Dev) (ok : Bool) : Dev :=
  match d.storeImage with
  | none => d
  | some values =>
    if !d.passHeld 0 ∨ d.get Dict.storeStatus = 2 then d
    else
      let fresh : StoreCopy := ⟨d.get Dict.storeGeneration + 1, ok, values⟩
      let d := { d with storeImage := none }
      let d := d.set Hid.nvWanted (clearBit (d.get Hid.nvWanted) 0)
      let d := d.replaceOlder fresh
      (d.set Dict.storeStatus (if ok then 0 else 3)).showStore

/-- The image entries take the valid values of a list, in ascending order, the others their Blank defaults; values that do
not validate are answered (R94). -/
def applyImage (d : Dev) (values : List (Nat × Nat)) : Dev × List Nat :=
  let good := values.filter fun kv => storedValueOk kv.1 kv.2
  let bad := (values.filter fun kv => !storedValueOk kv.1 kv.2).map (·.1)
  let d := d.resetWhere inImage
  let put (d : Dev) (kv : Nat × Nat) : Dev :=
    match Dict.find (kv.1 / 256) (kv.1 % 256) with
    | some e => d.set e kv.2
    | none => d
  (good.foldl put d, bad)

/-- StoreErase 0x01 at its S0 (R96). -/
def storeErase (d : Dev) : Dev := ({ d with copyA := none, copyB := none }).showStore

/-- The stored configuration is applied at boot (R94, R95): the current copy after a reset that cleared the retention bank,
else the live values. BootStoreStatus: 3 where both copies are erased, 2 where neither is valid, 1 where a newer one fails. -/
def bootStore (d : Dev) : Dev :=
  let fresh := d.is Hid.bootFresh
  let current := d.currentCopy
  let newer (c : Option StoreCopy) : Bool := match c, current with
    | some x, some y => !x.valid && decide (y.generation < x.generation)
    | _, _ => false
  let status := if d.copyA.isNone && d.copyB.isNone then 3 else if current.isNone then 2
    else if newer d.copyA || newer d.copyB then 1 else 0
  let (d, bad) := d.applyImage (if fresh then (current.map (·.values)).getD [] else d.image)
  let d := (d.set Dict.bootStoreStatus status).set Dict.bootStoreRejects (min bad.length 0xFFFF)
  let d := d.set Dict.bootStoreFirstReject (bad.headD 0)
  let d := (d.set Dict.storeStatus (if d.is Hid.storeLost then 3 else 0)).setB Hid.storeLost false
  let d := if fresh then d.setB Hid.hostUtcFresh (d.get Dict.utcSource == 0) else d
  d.showStore

/-- The value that an image entry will have in this start, before it is applied (R94, R666). -/
def bootValue (d : Dev) (e : Entry) : Nat :=
  if d.is Hid.bootFresh then
    match (d.currentCopy.bind fun c => Sparse.find c.values e.addr) with
    | some v => if storedValueOk e.addr v then v else e.reset
    | none => e.reset
  else d.get e

/-! ### Resets (R583 to R585, R592, R701, R719) -/

/-- AON registers that a supply reset leaves: XO, ROSC and the supervisors (R583); a pin or command reset leaves SPLL too. -/
def aonExcluded (pin : Bool) (addr : Nat) : Bool :=
  let e (x : Entry) : Bool := x.addr == addr
  let index := addr / 256
  e Dict.xoState || e Dict.xoRoscEstimate || e Dict.roscFrequency || e Hid.railsBelow ||
    e Hid.supplyTermFrames || e Hid.episodeEndFrame || e Hid.supplyHold || decide (0x7820 ≤ index ∧ index ≤ 0x782A) ||
    (index == 0x7830 && addr % 256 != 6) || (pin && e Dict.spllState)

/-- Referee's kept entries, which a supply reset leaves (R647). -/
def refereeKept (addr : Nat) : Bool :=
  (decide (0x8000 ≤ addr / 256 ∧ addr / 256 ≤ 0x82FF) || decide (0x12000 ≤ addr / 256 ∧ addr / 256 ≤ 0x12FFF)) &&
    keepAt (addr / 256) (addr % 256) == .k

/-- Commits under way are lost in a reset (R91, R482): the flags that the next boot reads. -/
def losingCommits (d : Dev) : Bool × Bool × Option StoreCopy :=
  let half : Option StoreCopy :=
    if d.storeImage.isSome && d.passHeld 0 then some ⟨d.get Dict.storeGeneration + 1, false, []⟩ else none
  -- a StoreCommit accepted and still before its S0
  let accepted := d.staged.any fun g => g.answer.isNone && g.items.any fun it => it.index * 256 + it.sub == Dict.storeCommit.addr
  (d.storeImage.isSome || accepted || d.is Hid.storeLost, d.keyCommit.isSome || d.is Hid.keyLost, half)

/-- Which registers a reset leaves: cause 0x00 none, 0x01 what stands outside its reach, 0x02 and 0x04 K and S values
also (R583, R584, R592, R647). -/
def survives (cause addr : Nat) : Bool :=
  if cause = 0 then false
  else if cause = 1 then aonExcluded false addr || refereeKept addr
  else keepAt (addr / 256) (addr % 256) != .v || aonExcluded true addr

/-- A reset of every switched domain takes hold (R583 to R585, R592, R701): registers, what the domains held, commits
under way, the coarse counter, lifetime values from NV after cause 0x00 or 0x01. The pairs of the domains read Masked. -/
def resetDevice (d : Dev) (cause : Nat) : Dev :=
  let (storeLost, keyLost, half) := d.losingCommits
  let kept := decide (2 ≤ cause)
  let archive := d.archive
  let restart := d.is Hid.auditRestart
  let straps := (d.get Dict.cascadePosition, d.get Dict.keeperPreferred)
  let d := match half with
    | some c => d.replaceOlder c
    | none => d
  let d := { d with regs := d.regs.filter fun kv => survives cause kv.1, shown := [], staged := if kept then d.staged else [] }
  let d := (Domain.aon :: switchedDomains).foldl dropLists d
  let d := { d with storeImage := none, keyCommit := none, keyJobs := [], keyEffect := none, stagedKeys := [], testItems := [] }
  let d := if kept then { d with archive := archive }.setB Hid.auditRestart restart
    else { d with osnmaKey := none, blocks := [], xoDays := [], keys := [], slots := [] }
  let d := if kept then d else d.lifeReload.coarseInvalid
  let d := if cause = 0 then { d with tap := .reset } else d
  let d := (d.setB Hid.storeLost storeLost).setB Hid.keyLost keyLost
  let d := (d.set Dict.cascadePosition straps.1).set Dict.keeperPreferred straps.2
  let d := ((d.set Dict.lastResetCause cause).set Dict.lastResetDomains 0x1FF).clear Dict.latchedDomains
  let coming (e : Entry) : Nat := if kept then d.get e else
    (d.currentCopy.bind fun c => Sparse.find c.values e.addr).getD e.reset
  let d := ((d.setB Hid.bootFresh (!kept)).set Hid.moscFreq (coming Dict.moscNominalFrequency)).set Hid.xoFreq
    (coming Dict.xoNominalFrequency)
  let d := if kept then d.set Dict.dramState 3 else d
  switchedDomains.foldl (fun d x => d.maskPairs x true) d

/-- Reach of a reset cause, wider first (R701). -/
def resetReach (cause : Nat) : Nat := [3, 2, 1, 0, 1].getD cause 0

/-- A reset begins (R583, R701): while an earlier one still holds the device, the wider reach, or of equal reach the
earlier, stands as the cause. -/
def beginReset (d : Dev) (cause : Nat) : Dev :=
  let before := d.get Dict.lastResetCause
  let held := d.get Hid.bootPhase == 0
  let fresh := d.is Hid.bootFresh
  let d := d.resetDevice cause
  if held ∧ resetReach cause ≤ resetReach before then
    (d.set Dict.lastResetCause before).setB Hid.bootFresh (fresh || d.is Hid.bootFresh)
  else d

/-- POWER_ON_RESET (R583, R701): the straps CASC_ID and KEEP_PREF are sampled. -/
def powerOnReset (d : Dev) (cascId : Nat) (keepPref pinLow : Bool) : Dev :=
  let d := d.resetDevice 0
  ((d.set Dict.cascadePosition (cascId % 8)).setB Dict.keeperPreferred keepPref).setB Hid.resetPinLow pinLow

/-- PIN_RESET (R583): RESET_N low for 1 µs. -/
def pinReset (d : Dev) : Dev := (d.beginReset 2).setB Hid.resetPinLow true

/-- The sources start with the device (R565, R567): XO where it is Off; where it already is Qualified, SPLL and MOSC's
qualification. -/
def startSources (d : Dev) : Dev :=
  if d.get Dict.xoState = 0 then d.set Dict.xoState 1
  else if d.get Dict.xoState = 3 then
    let d := if d.get Dict.moscState = 0 then d.set Dict.moscState 1 else d
    if d.get Dict.spllState = 0 then d.set Dict.spllState 1 else d
  else d

/-- The release of a reset: it is counted by its cause, XO starts, and the domains begin to be powered (R556, R670). -/
def releaseReset (d : Dev) : Dev :=
  let d := d.inc (Dict.lifeResetCount (min 4 (d.get Dict.lastResetCause)))
  d.startSources.set Hid.bootPhase 1

/-- RESET_RELEASE (R700, R701): the reset ends; RESET_N is high. -/
def resetRelease (d : Dev) : Dev :=
  if d.get Hid.bootPhase ≠ 0 then d else (d.setB Hid.resetPinLow false).releaseReset

/-- DICTIONARY_COMMAND_RESET (R97, R583): the accepted DeviceReset begins when its Response has left or 10 ms later. -/
def commandReset (d : Dev) : Dev :=
  let elapsed := d.age - (d.get Hid.resetFrame * frameUnits + d.get Hid.resetOffset)
  if d.get Hid.resetRequest = 0 ∨ (d.get Hid.resetAhead ≠ 0 ∧ elapsed < 10000000 * unitsPerNs) then d else (d.beginReset 4).releaseReset

/-- WATCHDOG_RESET (R583, R719): the V entries of CTRL that R719 lists return to default, every session ends, and the key
store and working slots start again. Time service goes on (R100). -/
def watchdogReset (d : Dev) : Dev :=
  if d.get Hid.bootPhase ≠ 5 then d
  else
    let (storeLost, keyLost, half) := d.losingCommits
    let listed (i s : Nat) : Bool :=
      keepAt i s == .v && (decide (0x1400 ≤ i ∧ i ≤ 0x17FF) || (i == 0x1010 && s == 6) || i == 0x1020 || i == 0x6800 ||
        decide (0x6940 ≤ i ∧ i ≤ 0x6947) || i == 0x7C40 || decide (0x7C50 ≤ i ∧ i ≤ 0x7C55) || i == 0x8800)
    let d := match half with
      | some c => d.replaceOlder c
      | none => d
    let d := d.endSessions fun _ => true
    let d := { d with spiQueue := [], qopWaiting := [], opensWaiting := [], storeImage := none, testItems := [] }
    let d := (d.resetWhere listed).clear Hid.uptimeFrames
    let d := d.set Hid.nvWanted (clearBit (clearBit (d.get Hid.nvWanted) 0) 1)
    let d := (d.set Dict.busClock (if d.get Dict.sysClockSource = 1 then 800000 else 200000)).setB Hid.keyLost keyLost
    let d := d.bootKeys false
    let d := (d.set Dict.lastResetCause 3).set Dict.lastResetDomains 0x80
    let d := (d.inc (Dict.lifeResetCount 3)).set Dict.storeStatus (if storeLost then 3 else 0)
    d.showStore.post 0 [(1, 3), (2, 0x80)]

/-! ### Powering, tests, fill (R556, R606 to R608, R666 to R668, R681) -/

/-- A domain may be powered next (R556, R589): at a start CTRL, TIME, SYNTH, MEM, then the rest; at the exit from Warm hold
MEM, then the rest. An isolated domain is passed over. -/
def powerNext (d : Dev) (x : Domain) : Bool :=
  let ready (y : Domain) : Bool := d.powered y || d.isolated y
  let before : List Domain := match x with
    | .ctrl => []
    | .time => [.ctrl]
    | .synth => [.ctrl, .time]
    | .mem => [.ctrl, .time, .synth]
    | .aon => []
    | _ => [.ctrl, .time, .synth, .mem]
  x != .aon && !d.powered x && !d.isolated x && before.all ready &&
    (d.get Hid.bootPhase == 1 || (d.get Hid.bootPhase == 5 && d.get Dict.lowPowerState == 0))

/-- DOMAIN_POWER_GOOD (R556, R631). -/
def domainPowerGood (d : Dev) (x : Domain) : Dev :=
  if !d.powerNext x then d
  else
    let d := d.set Hid.poweredDomains (setBit (d.get Hid.poweredDomains) x.bit)
    let d := d.maskPairs x false
    let d := if x = .mem then d.memPowered else d
    if x = .time then d.sourceQualified.countUnits else d

/-- The status of the newest shutdown record at a start (R668, R678): 0x00 matched, 0x01 none, 0x02 Crc, 0x03 BootCount,
0x04 FirmwareVersion, 0x05 matched but the policy is full. -/
def recordStatus (d : Dev) : Nat :=
  match d.shutRecords with
  | [] => 1
  | r :: _ =>
    let octets := octetsOf 1024 r
    if recordField r 1020 4 ≠ crc32 (octets.take 1020) % 2 ^ 32 then 2
    else if recordField r 4 4 ≠ d.get Dict.lifeBootCount then 3
    else if recordField r 20 4 ≠ Config.releaseData 0x1003 1 % 2 ^ 32 then 4
    else if d.bootValue Dict.startupBistPolicy ≠ 0 then 5
    else 0

/-- START_UP_TEST_END (R657, R666, R667): a quick start tests the record's NotRun units by logic, a full start every unit but
the DRAM channels and the regions' analogue items. Failed units of this start and of the matched record are treated and
raised. The kind of a failure that only the record names is free (DESIGN CHOICE, log entry 4). -/
def startUpTestEnd (d : Dev) (r : TestResults) : Dev :=
  if d.get Hid.bootPhase ≠ 1 ∨ (switchedDomains.any fun x => !d.powered x && !d.isolated x) then d
  else
    let status := if d.is Hid.bootCounted then 2 else d.recordStatus
    let record := d.shutRecords.headD 0
    let quick := status == 0
    let recordFailed := if quick then recordField record 32 32 else 0
    let recordNotRun := if quick then recordField record 64 32 else 0
    let untested (u : Nat) : Bool := u == 0xB0 || u == 0xB1 || decide (0xF0 ≤ u)
    let units := testUnits.map (·.1)
    let tested := units.filter fun u => if quick then bit recordNotRun u && decide (u ≤ 0xA3) else !untested u
    let now := oncePerUnit (r.failed.filter fun f => tested.contains f.1)
    let old := units.filter fun u => bit recordFailed u && !now.any fun f => f.1 == u
    let failed := now ++ old.map fun u => (u, 1 + Config.freeValue 62 (d.free * 256 + u) % 3)
    let d := d.set Dict.selfTestFailed 0
    let d := failed.foldl (fun d f => (d.failUnit f.1).post 124 [(1, f.1), (1, f.2), (1, 2)]) d
    let notRun := if quick then unitMap (units.filter fun u => bit recordNotRun u && !tested.contains u)
      else unitMap (units.filter untested)
    let d := (d.set Dict.selfTestNotRun notRun).set Dict.lastStartKind (if quick then 1 else 2)
    let d := (d.set Dict.lastStartTestTime r.micros).set Dict.shutdownRecordStatus (if d.is Hid.bootCounted then d.get Dict.shutdownRecordStatus else status)
    let d := d.set Dict.shutdownRecord record
    let d := d.post 125 [(1, 2), (1, if quick then 1 else 2), (2, failed.length), (4, r.micros / 1000)]
    d.set Hid.bootPhase 2

/-- DRAM_TRAINING_DONE (R607, R608, R681): a channel that fails twice, or a controller whose self-check fails, makes
DramState Failed with source 123; a first failure trains again. -/
def dramTrainingDone (d : Dev) (first second selfCheck : Bool) : Dev :=
  if d.get Dict.dramState ≠ 1 then d
  else
    let d := if first then d else d.inc (Hid.trainFails 0)
    let d := if second then d else d.inc (Hid.trainFails 1)
    if !selfCheck || decide (2 ≤ d.get (Hid.trainFails 0)) || decide (2 ≤ d.get (Hid.trainFails 1)) then
      (d.set Dict.dramState 4).post 123 []
    else if first && second then d.set Dict.dramState 2
    else d

/-- The fill may end: MEM is powered, being filled, and its DRAM trained or failed; at a start the tests have ended (R606,
R681). With MEM isolated nothing is filled and the start goes on (R608). -/
def fillEnds (d : Dev) : Bool :=
  if d.isolated .mem then d.get Hid.bootPhase == 2
  else d.powered .mem && d.get Dict.fillState == 1 &&
    (if d.get Hid.bootPhase = 2 then d.get Dict.dramState == 2 || d.get Dict.dramState == 4
     else d.get Hid.bootPhase == 5 && decide (2 ≤ d.get Dict.dramState))

/-- DramUsable (R604, R625): seven eighths of DramInstalled, as it takes effect in this reset of MEM. -/
def usableDram (d : Dev) : Nat :=
  let code := if d.get Hid.bootPhase = 2 then d.bootValue Dict.dramInstalled else d.get Dict.dramInstalled
  2 * 2 ^ (code % 4) * 2 ^ 30 / 8 * 7

/-- FILL_COMPLETE (R606, R607): the registers' side; the memories are filled by the caller. -/
def fillComplete (d : Dev) (micros : Nat) : Dev :=
  let d := if d.isolated .mem then d else
    let d := (d.set Dict.fillState 2).set Dict.fillTime micros
    let d := d.set Dict.dramUsable d.usableDram
    let d := forUnits 4 (fun t d => d.set (Hid.lapFrame t) d.view.frames) d
    if d.get Dict.dramState = 3 then d.set Dict.dramState 2 else d
  if d.get Hid.bootPhase = 2 then d.set Hid.bootPhase 3 else d

/-- BOOT_COUNT_COMMIT (R668, R671): LifeBootCount rises and is committed. A commit that fails its read-back zeroes the Crc
of both records, raises source 124 and makes a quick start full. -/
def bootCountCommit (d : Dev) (ok : Bool) : Dev :=
  if d.get Hid.bootPhase ≠ 3 then d
  else
    let d := if d.is Hid.bootCounted then d else (d.inc Dict.lifeBootCount).lifeCommit ok
    let done := d.is Hid.bootCounted || ok
    let d := d.setB Hid.bootCounted true
    if done then d.set Hid.bootPhase 4
    else
      let records : List Nat := d.shutRecords.map fun r => r - r % 2 ^ 32
      let d := { d with shutRecords := records }
      let d := d.post 124 [(1, 0xA4), (1, 5), (1, 2)]
      d.set Hid.bootPhase (if d.get Dict.lastStartKind = 1 then 1 else 4)

/-! ### The first frame of time service (R94, R130, R488, R588, R680, R683, R689, R721) -/

/-- What the first frame of time service sets up, once the timescale has its value (in `view`): the stored configuration, the
key store, the role, the channels, the aligned timers, the service hold. DeviceState leaves Boot in S3 of this frame (R221). -/
def firstFrame (d : Dev) (bootMicros : Nat) : Dev :=
  let fresh := d.is Hid.bootFresh
  let d := d.bootStore.bootKeys fresh
  let d := d.set Dict.bootDuration (min bootMicros 0xFFFFFFFF)
  let d := (d.set Dict.uptimeSeconds (bootMicros / 1000000)).set Hid.uptimeFrames (bootMicros % 1000000 * framesPerSecond / 1000000)
  let d := (d.set Hid.bootPhase 5).set Hid.serviceFrame (d.view.frames + 1)
  let d := (d.set Dict.keeperRole (if d.get Dict.keeperMode = 1 then 2 else 0)).countUnits
  let d := d.startPcts.assignAll.armAtBoot
  let d := d.setB Dict.startServiceHoldActive (d.get Dict.startServiceHold != 0)
  let d := d.setB Hid.boundWake (d.is Hid.bootWake)
  let d := d.showNominal
  { d with shown := d.regs }.post 0 [(1, d.get Dict.lastResetCause), (2, d.get Dict.lastResetDomains)]

/-- The service hold at a frame start (R685): it ends once Locked has been entered or the release was accepted. -/
def serviceHoldFrame (d : Dev) : Dev :=
  if d.is Dict.startServiceHoldActive && (d.is Hid.everLocked || d.is Hid.releaseRequest) then
    let d := (d.setB Dict.startServiceHoldActive false).setB Hid.releaseRequest false
    (d.set Dict.serviceStartTime (toTime96 d.view.frameStart)).set Hid.serveFrom (d.globalFrame + 1)
  else d.setB Hid.releaseRequest false

/-- FirstLockDuration, after the S3 that enters Locked first (R682, R689). -/
def firstLock (d : Dev) : Dev :=
  if d.state = 3 ∧ d.get Dict.firstLockDuration = 0 then
    d.set Dict.firstLockDuration (max 1 (d.framesSince (d.get Hid.serviceFrame) * 1000 / framesPerSecond))
  else d

/-- StartServiceRelease 0x01 accepted (R685). -/
def serviceRelease (d : Dev) : Dev := d.setB Hid.releaseRequest true

/-- UptimeSeconds counts whole seconds of frames from the reset on (R96). -/
def uptimeSecond (d : Dev) : Dev :=
  let n := d.get Hid.uptimeFrames + 1
  if !d.powered .ctrl then d
  else if framesPerSecond ≤ n then (d.set Hid.uptimeFrames 0).inc Dict.uptimeSeconds
  else d.set Hid.uptimeFrames n

/-! ### Low-power states (R589 to R592) -/

/-- The domains that Warm hold unpowers (R589). -/
def warmDomains : List Domain := [.net, .gnss, .crypt, .proto, .mem]

/-- Warm hold is entered at a frame start (R78, R589, R592): the five domains are unpowered, what they held is lost but the
audit archive, MGT sessions end. Their V registers return to default at the exit. -/
def enterWarmHold (d : Dev) : Dev :=
  let archive := d.archive
  let restart := d.is Hid.auditRestart
  let d := d.endSessions fun s => !s.onSpi
  let d := warmDomains.foldl dropLists d
  let d := ({ d with archive := archive }.setB Hid.auditRestart restart).countClients
  let d := warmDomains.foldl (fun d x => (d.set Hid.poweredDomains (clearBit (d.get Hid.poweredDomains) x.bit)).maskPairs x true) d
  let d := (if d.get Dict.dramState = 2 then d.set Dict.dramState 3 else d).set Dict.fillState 0
  (d.set Dict.lowPowerState 1).setB Hid.warmHoldWanted false

/-- Warm hold ends (R589, R592): V registers of the five domains at default, removed units still removed; the domains are
powered one by one (DOMAIN_POWER_GOOD). -/
def exitWarmHold (d : Dev) : Dev :=
  let dram := d.get Dict.dramState
  let d := warmDomains.foldl defaultDomain d
  ((d.set Dict.dramState dram).set Dict.lowPowerState 0).setB Hid.runWanted false

/-- A Deep hold request: the audit checkpoint, the lifetime commit and the expiries of keys that end with the power state
are committed first (R494, R589, R671). -/
def deepHoldRequest (d : Dev) : Dev :=
  let d := (d.setB Hid.deepHoldWanted true).set Hid.nvWanted (setBit (setBit (d.get Hid.nvWanted) 2) 3)
  let gone := d.keys.filter fun k => k.expiryKind == 2 && k.state == 1
  let d := gone.foldl (fun d k => { d.invalidate k.index true with keyJobs := d.keyJobs ++ [.expire k.index] }) d
  d.startKeyCommit

/-- The commits that Deep hold needs have completed (R591). -/
def deepHoldReady (d : Dev) : Bool :=
  d.is Hid.deepHoldWanted && d.get Hid.nvWanted == 0 && d.keyJobs.isEmpty && d.keyCommit.isNone

/-- Deep hold is entered at a frame start (R589, R590): the coarse counter is loaded, every switched domain unpowered, every
session ends. -/
def enterDeepHold (d : Dev) : Dev := (d.coarseLoad.unpowerAll).set Hid.bootPhase 6

/-- The low-power requests at a frame start (R589). -/
def lowPowerFrame (d : Dev) : Dev :=
  if d.deepHoldReady then d.enterDeepHold
  else if d.is Hid.warmHoldWanted then d.enterWarmHold
  else if d.is Hid.runWanted then d.exitWarmHold
  else d

/-- PowerStateRequest is in conflict (R589): Boot, a role Active with KeeperMode 0x01 for a hold, or the state in force. -/
def powerRequestConflict (d : Dev) (v : Nat) (onSpi : Bool) : Bool :=
  v == d.get Dict.lowPowerState || (decide (1 ≤ v) && (d.state == 0 || (d.get Dict.keeperRole == 1 && d.get Dict.keeperMode == 1))) ||
    (v == 0 && !onSpi)

/-- WAKE (R588, R589, R592): RESET_N falls, or the coarse counter, run on over the time since its last load, has reached a
non-zero DeepHoldWakeTime. The device boots as after a pin reset, K kept; removed units stay removed. -/
def wake (d : Dev) (pin : Bool) (ns : Nat) : Dev :=
  if d.get Hid.bootPhase ≠ 6 then d
  else
    let d := d.coarseRun ns
    let target := d.get Dict.deepHoldWakeTime
    let due := target != 0 && decide (0 ≤ ctDiff (toCt64 (d.get Hid.coarse)) target)
    if !pin && !due then d
    else
      let gone := Removable.all.filter d.removed
      let isolated := (d.get Dict.isolatedDomains, d.get Dict.latchedDomains)
      let cause := d.get Dict.lastResetCause
      let d := d.resetDevice 2
      let d := gone.foldl remove d
      let d := (d.set Dict.isolatedDomains isolated.1).set Dict.latchedDomains isolated.2
      let d := ((d.set Dict.lastResetCause cause).inc Dict.powerWakeCount).setB Hid.bootWake true
      let d := d.startSources
      let d := { d with archive := [] }.setB Hid.auditRestart true
      d.set Hid.bootPhase 1

end Dev

end Sys2Proof.Machine
end

