-- ==== Sys2Proof/Machine/State.lean ====
section
/-!
DEFINITION. The machine's state: the timescale counter, the memories, the device's registers and queues, and the commands
that wait; what stops it; and the state after reset.
-/
namespace Sys2Proof.Machine

/-- The timescale counter and the sequencer's place (R33, R101): the count in 2^-56 ns since the epoch, as it stood at the
start of the frame that runs, or after a step or set at the frame start that has been reached; the CT64 value at which
that frame ends; whether a frame start has been reached whose slots have not run; whether a step or set applied there;
whether frames run; frames started since power was applied. -/
structure Clock where
  ts : Nat
  boundary : Nat
  atStart : Bool
  jumped : Bool
  running : Bool
  frames : Nat
  deriving DecidableEq, Repr

/-- The block's whole state. `pending` is the queue of commands, first in, first out. -/
structure State where
  clock : Clock
  mem : Mem
  dev : Dev
  pending : List Instr
  deriving DecidableEq, Repr

/-- What stops the block. No command does: the spec gives every fault of the device an effect on its state. The type has
one constructor, for a reader who runs a queue that the block could not hold; nothing raises it, so it is safe. -/
inductive Fault where
  /-- Raised by no command; safe. -/
  | unreachable
  deriving DecidableEq, Repr

/-- Why a command has no meaning here. -/
inductive Refusal where
  /-- Raised by no command of this model; safe. -/
  | notModelled (mnemonic : String)
  /-- Raised by MEM_READ and MEM_WRITE when the transaction reaches a register space of T5: the spec gives the registers
  behind it no layout (DESIGN CHOICE, log entry 62). Safe: nothing is claimed of what follows. -/
  | registerSpace
  deriving DecidableEq, Repr

/-- The counter before the first frame of time service: at the PTP epoch, no frames (R588). -/
def Clock.reset : Clock := ⟨0, frameUnits, false, false, false, 0⟩

/-- The device with its factory NV contents and nothing powered (DEDUCED, log entry 63): both configuration copies hold nothing valid, the
key store is Blank in both positions, nothing has been recorded. -/
def Dev.factory : Dev where
  regs := []
  rats := []
  emit := []
  free := 0
  view := ⟨0, 0, 0, 0⟩
  slewLeft := 0
  corr := none
  posted := []
  windows := []
  sessions := []
  spiQueue := []
  staged := []
  shown := []
  wrote := []
  copyA := some ⟨0, false, []⟩
  copyB := some ⟨0, false, []⟩
  storeImage := none
  loads := []
  compared := []
  stamps := []
  xoStamps := []
  xoSamples := []
  xoDays := []
  measures := []
  tracks := []
  bases := []
  handover := []
  followed := []
  acquireRuns := []
  freeRuns := []
  blocks := []
  moscReads := []
  frozen := []
  announced := []
  nextBound := []
  auditDraft := none
  auditWaiting := []
  archive := []
  nvAudit := none
  gsStamps := []
  g0Formed := none
  g0Posted := none
  g0Rates := []
  sats := []
  sysBias := []
  jamSums := []
  jamRefs := []
  survey := []
  osnma := []
  osnmaKey := none
  keys := []
  stagedKeys := []
  images := [⟨0, 1, true, 0, [], []⟩, ⟨1, 1, true, 0, [], []⟩]
  keyCommit := none
  keyJobs := []
  keyEffect := none
  slots := []
  txWaiting := []
  held := []
  stampQueue := []
  openMarkers := []
  clients := []
  rates := []
  tableKeys := 0
  sentNow := []
  signals := []
  nrefs := []
  buckets := []
  protoQueue := []
  beatsIn := []
  peers := []
  marks := []
  replIn := []
  replSent := []
  nvLife := []
  shutRecords := []
  testItems := []
  qopWaiting := []
  opensWaiting := []
  eventLog := []
  tap := .reset

/-- The machine held in its power-on reset (R583, R584), with the straps CASC_ID 0 and KEEP_PREF low (DEDUCED, log entry 63): registers at
default, memories with nothing listed, no command waiting. -/
def State.reset : State := ⟨Clock.reset, ⟨[], []⟩, Dev.factory.powerOnReset 0 false false, []⟩

end Sys2Proof.Machine
end

