-- ==== Sys2Proof/Machine/Operands.lean ====
section
/-!
DEFINITION. How a command meets the device: the instant at which it acts, and the state that it leaves.
-/
namespace Sys2Proof.Machine

/-- What the sequencer latched, and an instant (DESIGN CHOICE, log entry 7). -/
def Clock.view (c : Clock) (now : Nat) : View := ⟨now, c.ts / subUnits, c.ts % subUnits, c.frames⟩

/-- The counter follows the power of TIME: without it no frames run. -/
def Clock.follow (c : Clock) (d : Dev) : Clock := { c with running := c.running && d.powered .time }

namespace State

/-- The counter at the start of the frame that runs, in CT64 units since the epoch. -/
def start (s : State) : Nat := s.clock.ts / subUnits

/-- The earliest instant left to a command: that of the last command of this frame, else the frame's start (R99). -/
def earliest (s : State) : Nat :=
  if s.dev.view.frames = s.clock.frames then max s.start (min s.dev.view.now (s.clock.boundary - 1)) else s.start

/-- The instant at which a command that states none acts: any left of the frame that runs (DESIGN CHOICE, log entry 4). -/
def anyInstant (s : State) : Nat := s.earliest + Config.instant s.dev.free % (s.clock.boundary - s.earliest)

/-- The instant at which a received frame's start-of-frame point passed (R382). -/
def arrival (s : State) (x : Rx) : Nat := s.start + x.ti / subUnits

/-- The device as a command finds it at an instant: the outputs of the last command gone, a fresh free value. -/
def begin (s : State) (now : Nat) : Dev := { s.dev with emit := [], free := s.dev.free + 1, view := s.clock.view now }

/-- A command acts on the device at an instant. -/
def onDevAt (s : State) (now : Nat) (f : Dev → Dev) : State :=
  { s with dev := f (s.begin now), clock := s.clock.follow (f (s.begin now)) }

/-- A command acts on the device at an instant that nothing fixes. -/
def onDev (s : State) (f : Dev → Dev) : State := s.onDevAt s.anyInstant f

/-- A command changes nothing but that the outputs of the last one are gone. -/
def quiet (s : State) : State := { s with dev := { s.dev with emit := [] } }

/-- A command acts on the device at an instant where a condition holds, and changes nothing where it does not. -/
def duringAt (s : State) (c : Bool) (now : Nat) (f : Dev → Dev) : State := if c then s.onDevAt now f else s.quiet

/-- A command acts where a condition holds, and changes nothing where it does not. -/
def during (s : State) (c : Bool) (f : Dev → Dev) : State := if c then s.onDev f else s.quiet

end State

end Sys2Proof.Machine
end

