-- ==== Sys2Proof/Machine/Flags.lean ====
section
/-!
DEFINITION. The conditions under which events of a block can come about: time service runs, and the block's domain is powered.
-/
namespace Sys2Proof.Machine

namespace State

/-- Time service runs (R94): the first frame has started and frames run. -/
def inService (s : State) : Bool := s.clock.running && s.dev.get Hid.bootPhase == 5

/-- Time service runs and a domain is powered. -/
def serves (s : State) (x : Domain) : Bool := s.inService && s.dev.powered x

end State

end Sys2Proof.Machine
end

