-- ==== Sys2Proof/Machine/Judge.lean ====
section
/-!
DEFINITION. Judging a host's access to the dictionary: what a session may read, and the status of each item of a Write in the
order of R723 (R6, R7, R11, R20, R38 to R40, R58 to R62, R65, R73 and the write rules of every chapter).
-/
namespace Sys2Proof.Machine

/-- The unit of an entry in a run of units that starts at index `(f 0).index`. -/
def unitOf (f : Nat → Entry) (count : Nat) (e : Entry) : Option Nat :=
  if e.sub = (f 0).sub ∧ (f 0).index ≤ e.index ∧ e.index < (f 0).index + count then some (e.index - (f 0).index) else none

/-- The entry is one of a list. -/
def isOne (e : Entry) (l : List Entry) : Bool := l.any fun x => x.addr == e.addr

/-- The entry is, for some unit below `count`, one of a list of families. -/
def unitAmong (fs : List (Nat → Entry)) (count : Nat) (e : Entry) : Option Nat := fs.findSome? fun f => unitOf f count e

/-- A session of R73's Retired state reads only 0x1000 to 0x10FF; every session needs the entry's read level (R6, R73). -/
def readStatus (d : Dev) (level index sub : Nat) : Nat :=
  match Dict.find index sub with
  | none => 1
  | some e =>
    if level < e.rd.code then 2
    else if d.lifeCycle = 4 ∧ ¬(0x1000 ≤ index ∧ index ≤ 0x10FF) then 2
    else 0

/-- Longest octet string that a steering template can render (R236, R237): template octets left, with the digits that the
command limit allows. -/
def templateLength (digits : Nat) : List Nat → Nat
  | 0x7E :: 0x00 :: _ => 0
  | 0x7E :: 0x01 :: t => 1 + digits + templateLength digits t
  | 0x7E :: 0x02 :: t => 8 + templateLength digits t
  | 0x7E :: 0x03 :: t => 2 + templateLength digits t
  | 0x7E :: _ :: t => 1 + templateLength digits t
  | _ :: t => 1 + templateLength digits t
  | [] => 0

/-- Every code octet of a template stands in the table of R236. -/
def templateCodesOk : List Nat → Bool
  | 0x7E :: 0x00 :: _ => true
  | 0x7E :: c :: t => [1, 2, 3, 0x7E].contains c && templateCodesOk t
  | _ :: t => templateCodesOk t
  | [] => true

/-- A template holds field 0x02 (R237). -/
def templateHex : List Nat → Bool
  | 0x7E :: 0x00 :: _ => false
  | 0x7E :: c :: t => c == 2 || templateHex t
  | _ :: t => templateHex t
  | [] => false

/-- The swing range of a clock output format in mV with its step (the formats table). -/
def swingOk (format swing : Nat) : Bool :=
  match format with
  | 1 => decide (250 ≤ swing ∧ swing ≤ 450) && swing % 50 == 0
  | 2 => decide (600 ≤ swing ∧ swing ≤ 850) && swing % 50 == 0
  | 3 => decide (400 ≤ swing ∧ swing ≤ 1000) && swing % 100 == 0
  | _ => true

namespace Dev

/-- The entry of reference `n` belongs to another kind of reference, for which it is read-only at its default (R216). -/
def otherKind (e : Entry) : Bool :=
  let refin := [Dict.refMode, Dict.refNominalFrequency, Dict.refPulseRate, Dict.refQcFixed]
  match unitAmong refin 18 e with
  | some n => decide (8 ≤ n)
  | none =>
    match unitOf Dict.refRequireAuth 18 e, unitOf Dict.refBuildOutMode 18 e, unitOf Dict.refUpstreamBound 18 e with
    | some n, _, _ => decide (n < 14)
    | _, some n, _ => decide (8 ≤ n ∧ n ≤ 13)
    | _, _, some n => decide (14 ≤ n)
    | _, _, _ => false

/-- The values that the accepted messages and a whole message leave in force (R39, R62): commands change none. -/
def inForce (d : Dev) (items : List Item) : Dev :=
  ((d.staged.map (·.items)).flatten ++ items).foldl (fun d it =>
    match Dict.find it.index it.sub with
    | some e => if e.ty.isCmd || e.wr.isNone || it.octets != e.ty.size || !e.wellTyped it.value then d else d.set e it.value
    | none => d) d

/-- Conditions that do not depend on the value: the session, its port, the device, life-cycle or low-power state
(R723 item 6). `v` is what the whole message leaves in force. -/
def stateRefuses (d v : Dev) (onSpi : Bool) (level : Nat) (e : Entry) : Bool :=
  d.shuttingDown ||
  (isOne e [Dict.steerMode] && (d.state == 2 || d.state == 3)) ||
  (isOne e [Dict.timeSet] && !d.setPermitted) ||
  (isOne e [Dict.timeAdjust] && !(d.state == 1 || d.lifeCycle == 3)) ||
  (isOne e [Dict.hostLeapAnnounce] && v.get Dict.utcSource != 0) ||
  (isOne e [Dict.keyLoad, Dict.keyDelete] && !(onSpi && level == 2 && d.keyStateOk)) ||
  (isOne e [Dict.memTestWrite, Dict.memTestRead, Dict.faultInject] && !(level == 2 && d.memTestState)) ||
  (isOne e [Dict.gnssTrustedTimeSet] && d.lifeCycle != 2) ||
  (isOne e [Dict.storeErase] && d.lifeCycle == 2) ||
  (isOne e [Dict.startServiceRelease] && !d.is Dict.startServiceHoldActive) ||
  (isOne e [Dict.excBind] && onSpi)

/-! ### Rules on values (R723 item 7) -/

/-- Rules on the values of timers, channels and the store (R20, R122, R149, R275). `d` is the device, `v` what the whole message
leaves in force, `x` the value. -/
def coreValueOk (d v : Dev) (e : Entry) (x : Nat) : Bool :=
  let window : Option Nat := unitAmong [Dict.chWinMode, Dict.chPeriod, Dict.chWinOffset, Dict.chWinHalf] 16 e
  match unitOf Dict.tmrTarget 32 e, unitOf Dict.tmrArm 32 e, window with
  | some _, _, _ => inWindow d.now x
  | _, some n, _ => x == 0 || (v.armValuesOk n && v.armTargetOk n)
  | _, _, some c =>
    let mode := v.get (Dict.chWinMode c)
    let period := v.getI (Dict.chPeriod c)
    let offset := v.getI (Dict.chWinOffset c)
    let half := (v.get (Dict.chWinHalf c) : Int)
    let fixed := mode != 1 || (decide (0 < period) && decide ((secondUnits : Int) % max period 1 = 0) && decide (0 ≤ offset ∧ offset < period))
    let halves := mode == 0 || (decide (1 ≤ half) && decide (half * (unitsPerNs : Int) ≤ period / 2 - 8 * (unitsPerNs : Int)))
    fixed && halves
  | _, _, _ =>
    (if isOne e [Dict.timeSet] then Dict.timeNow.wellTyped x else true) &&
    (if isOne e [Dict.hostLeapAnnounce] then d.leapAnnounceOk x else true) &&
    (if isOne e [Dict.deepHoldWakeTime] then x == 0 || inWindow d.now x else true) &&
    (match unitOf Dict.refPulseRate 8 e, unitOf Dict.refMode 8 e with
     | none, none => true
     | a, b => let n := (a.orElse fun _ => b).getD 0
       v.get (Dict.refMode n) != 2 || v.get (Dict.refPulseRate n) == 1)

/-- Rules on servo, steering and oscillator values (R235 to R237, R248 to R250). -/
def servoValueOk (v : Dev) (e : Entry) : Bool :=
  let servo := [Dict.servoLockPhase, Dict.servoUnlockPhase, Dict.servoLockedStage, Dict.servoFinalStage,
    Dict.servoReacquireStage] ++ (List.range 7).map Dict.servoStageBandwidth
  let spi := [Dict.steerCodeMin, Dict.steerCodeMax, Dict.steerSpiWordBits, Dict.steerSpiCodeShift, Dict.steerSpiCodeBits]
  let tpl := [Dict.steerTemplate, Dict.steerBaud, Dict.steerTplScale, Dict.steerCommandLimit, Dict.steerReplyTimeout,
    Dict.steerUpdateFrames]
  let bandwidths := (List.range 7).map fun i => v.get (Dict.servoStageBandwidth i)
  if isOne e servo then
    decide (v.get Dict.servoLockPhase < v.get Dict.servoUnlockPhase) &&
    decide (v.get Dict.servoLockedStage ≤ v.get Dict.servoFinalStage) &&
    decide (v.get Dict.servoReacquireStage ≤ v.get Dict.servoFinalStage) &&
    (bandwidths.zip (bandwidths.drop 1)).all fun p => decide (p.2 ≤ p.1)
  else if isOne e spi then
    decide (v.get Dict.steerCodeMin < v.get Dict.steerCodeMax) &&
    decide (v.get Dict.steerCodeMax < 2 ^ v.get Dict.steerSpiCodeBits) &&
    decide (v.get Dict.steerSpiCodeShift + v.get Dict.steerSpiCodeBits ≤ v.get Dict.steerSpiWordBits)
  else if isOne e tpl then
    let octets := v.templateOctets
    let scale := 10 ^ v.get Dict.steerTplScale
    let limit := v.get Dict.steerCommandLimit * scale
    let digits := (Nat.toDigits 10 (roundNear ((limit : Rat) / (2 ^ 64 : Nat))).toNat).length
    let ms : Rat := (v.get Dict.steerReplyTimeout : Nat)
    let wire : Rat := ((templateLength digits octets * 10 : Nat) : Rat) * 1000 / ((max 1 (v.get Dict.steerBaud) : Nat) : Rat)
    templateCodesOk octets && (!templateHex octets || decide (limit < 2 ^ 31 * 2 ^ 64)) &&
    decide (wire + ms ≤ ((v.get Dict.steerUpdateFrames : Nat) : Rat) * 1000 / 4096)
  else if isOne e [Dict.oscLearnTime, Dict.oscLearnWindow] then decide (v.get Dict.oscLearnTime ≤ v.get Dict.oscLearnWindow)
  else true

/-- f_out of an enabled output lies within its format's limit (R260; judged while OutEnable is true: DESIGN CHOICE, log entry 118). -/
def rateOk (v : Dev) (n : Nat) : Bool :=
  let format := v.get (Dict.outFormat n)
  !v.is (Dict.outEnable n) || decide (v.outHz n ≤ if format = 4 ∨ format = 5 then 250000000 else 1400000000)

/-- Rules on synthesiser, output, pulse and ToD values (R259, R275, R281, R287). -/
def outputValueOk (v : Dev) (e : Entry) : Bool :=
  let plan : Option Nat :=
    unitAmong [Dict.apllEnable, Dict.apllRefScale, Dict.apllRefDivider, Dict.apllFeedback, Dict.apllBandwidth] 4 e
  let swing : Option Nat := unitAmong [Dict.outFormat, Dict.outSwing, Dict.outDivider, Dict.outApll, Dict.outEnable] 16 e
  let lead : Option Nat := unitAmong [Dict.todLead, Dict.todBaud] 2 e
  match plan, swing, lead with
  | some a, _, _ => !v.is (Dict.apllEnable a) ||
    (v.planValid a && (List.range 16).all fun n => v.get (Dict.outApll n) != a || v.rateOk n)
  | _, some n, _ =>
    v.rateOk n && (!(isOne e [Dict.outFormat n, Dict.outSwing n]) || swingOk (v.get (Dict.outFormat n)) (v.get (Dict.outSwing n)))
  | _, _, some m =>
    let l : Rat := 480000 / ((max 1 (v.get (Dict.todBaud m)) : Nat) : Rat)
    let t : Rat := ((v.get (Dict.todLead m) : Nat) : Rat)
    decide (1 + l ≤ t) && decide (t ≤ 990 + l)
  | _, _, _ =>
    match unitOf Dict.outPhaseOffset 16 e, unitOf Dict.plsWidth 4 e with
    | some n, _ =>
      let half : Rat := 65536000000000 / (2 * v.outHz n)
      let x : Rat := (v.getI (Dict.outPhaseOffset n) : Rat)
      v.outHz n == 0 || (decide (-half ≤ x) && decide (x ≤ half))
    | _, some p =>
      (List.range 32).all fun n => v.get (Dict.tmrState n) != 1 || v.get (Dict.tmrDestination n) != 0x20 + p || v.pulseWidthOk n
    | _, _ => true

/-- Rules on satellite receiver values (R294, R331, R336 and the table of the interference entries). -/
def gnssValueOk (d v : Dev) (e : Entry) (x : Nat) : Bool :=
  if isOne e [Dict.gnssSystemEnable, Dict.gnssTimeSystem] then
    bit (v.get Dict.gnssSystemEnable) (v.get Dict.gnssTimeSystem)
  else if isOne e [Dict.gnssJamWarn, Dict.gnssJamLimit] then decide (v.get Dict.gnssJamWarn < v.get Dict.gnssJamLimit)
  else if isOne e [Dict.gnssTrustedTimeSet] then Dict.timeNow.wellTyped x && d.trustedTimeOk x
  else
    match unitAmong [Dict.gsSampleRate, Dict.gsIfFrequency] 2 e with
    | some b => sampleRateOk (v.get (Dict.gsSampleRate b)) && ifFrequencyOk b (v.get (Dict.gsSampleRate b)) (v.getI (Dict.gsIfFrequency b))
    | none => true

/-- Rules on port and protocol values (R380, R416, R424, R445, R466). -/
def portValueOk (v : Dev) (e : Entry) : Bool :=
  let inst : Option Nat := unitAmong [Dict.instProfile, Dict.instDomain, Dict.instTransport, Dict.instMode, Dict.instLogSync,
    Dict.instLogDelayResp, Dict.instLogAnnounce] 8 e
  let nref : Option Nat := unitAmong [Dict.nrefProfile, Dict.nrefTransport, Dict.nrefDomain] 2 e
  match unitAmong [Dict.portMode, Dict.portFec] 6 e, inst, nref with
  | some q, _, _ => portModeOk q (v.get (Dict.portMode q)) (v.get (Dict.portFec q))
  | _, some i, _ => v.profileOk i
  | _, _, some r =>
    let dom := v.get (Dict.nrefDomain r)
    let t := v.get (Dict.nrefTransport r)
    if v.get (Dict.nrefProfile r) = 2 then (t == 1 || t == 2) && decide (44 ≤ dom ∧ dom ≤ 63)
    else v.get (Dict.nrefProfile r) == 0 && decide (dom ≤ 127)
  | _, _, _ =>
    match unitAmong [Dict.instGrantMin, Dict.instGrantMax] 8 e, unitAmong [Dict.saEnable, Dict.saSpp] 32 e,
        unitOf Dict.portSyncELane 6 e with
    | some i, _, _ => decide (v.get (Dict.instGrantMin i) ≤ v.get (Dict.instGrantMax i))
    | _, some s, _ => !v.is (Dict.saEnable s) ||
        (List.range 32).all fun t => t == s || !v.is (Dict.saEnable t) || v.get (Dict.saSpp t) != v.get (Dict.saSpp s)
    | _, _, some q => decide (q < 2) || v.get (Dict.portSyncELane q) == 0
    | _, _, _ =>
      if isOne e [Dict.ntpMinPoll, Dict.ntpMaxPoll] then decide (v.getI Dict.ntpMinPoll ≤ v.getI Dict.ntpMaxPoll)
      else if isOne e [Dict.ntsEnable, Dict.ntsSlotCurrent] then !v.is Dict.ntsEnable || decide (v.get Dict.ntsSlotCurrent < 1024)
      else if isOne e [Dict.excUdpPort, Dict.qopUdpPort] then v.get Dict.excUdpPort != v.get Dict.qopUdpPort
      else true

/-- Rules on key, Keeper, power, memory, event and counter values (R474 to R479, R486, R511, R581, R615, R635, R650,
R674). -/
def systemValueOk (d v : Dev) (e : Entry) (x : Nat) : Bool :=
  if isOne e [Dict.keyLoad] then d.keyLoadOk x
  else if isOne e [Dict.keyDelete] then d.keyDeleteOk x || (d.lifeCycle == 1 && x != 6 && d.stagedKeys.any fun k => k.index == x)
  else if isOne e [Dict.keeperMode] then x == 0 || decide (d.get Dict.cascadePosition ≤ 1)
  else if isOne e [Dict.powerBudget, Dict.passBasePower, Dict.passCost 0] then
    decide (v.get Dict.passBasePower + v.get (Dict.passCost 0) ≤ v.get Dict.powerBudget)
  else if isOne e [Dict.memTestWrite] then v.memTestRange true
  else if isOne e [Dict.memTestRead] then v.memTestRange false
  else if isOne e [Dict.faultInject] then faultInjectOk x
  else if isOne e [Dict.evtAcknowledge] then decide (x / 256 ^ 16 ≤ 2)
  else
    match unitOf Dict.evtSeverity 128 e, unitAmong [Dict.pcEvent, Dict.pcMode, Dict.pcUnit] 64 e with
    | some n, _ => !decide (36 ≤ n ∧ n ≤ 47) && (!([14, 107, 127].contains n) || decide (3 ≤ x)) && (n != 116 || decide (1 ≤ x))
    | _, some n => pcConfigOk (v.get (Dict.pcEvent n)) (v.get (Dict.pcMode n)) (v.get (Dict.pcUnit n))
    | _, _ =>
      if 0x6900 ≤ e.index ∧ e.index ≤ 0x6907 then v.slotSpecOk ((e.index - 0x6900) * 128 + (e.sub - 1)) x else true

/-- Every rule on a value, alone or with what the whole message leaves in force (R723 item 7). -/
def valueOk (d v : Dev) (e : Entry) (x : Nat) : Bool :=
  e.wellTyped x && e.inRange x && d.coreValueOk v e x && v.servoValueOk e && v.outputValueOk e && d.gnssValueOk v e x &&
    v.portValueOk e && d.systemValueOk v e x

/-! ### Other conditions (R723 item 8) -/

/-- The unit that a release command names (R54, R336, R466). -/
def releaseUnit (e : Entry) (x : Nat) : Option Removable :=
  match unitOf Dict.chRelease 16 e, unitOf Dict.linkChRelease 3 e, unitOf Dict.apllRelease 4 e with
  | some n, _, _ => some (.channel n)
  | _, some m, _ => some (.link m)
  | _, _, some a => some (.apll a)
  | _, _, _ =>
    match unitOf Dict.outRelease 16 e, unitOf Dict.plsRelease 4 e, unitOf Dict.portRelease 6 e, unitOf Dict.skRelease 3 e with
    | some n, _, _, _ => some (.cko n)
    | _, some p, _, _ => some (.pls p)
    | _, _, some q, _ => some (.port q)
    | _, _, _, some m => some (.skovwin m)
    | _, _, _, _ =>
      if isOne e [Dict.cryptoLaneRelease] then some (if x < 128 then .hmac x else .aes (x - 128))
      else if isOne e [Dict.gnssBankRelease] then some (.bank x)
      else none

/-- The source of a channel feeds the Selected reference (R143). -/
def feedsSelected (d : Dev) (c : Nat) : Bool :=
  let s := d.get (Dict.chAssigned c)
  (decide (1 ≤ s ∧ s ≤ 8) && d.get (Dict.refState (s - 1)) == 4) || ((s == 0x30 || s == 0x31) && d.get (Dict.refState 16) == 4)

/-- A waiting Write, or an item before in the message, arms another timer to a destination (R120). -/
def armedSooner (d v : Dev) (earlier : List Item) (n dest : Nat) : Bool :=
  ((d.staged.map (·.items)).flatten ++ earlier).any fun it =>
    match (Dict.find it.index it.sub).bind (unitOf Dict.tmrArm 32) with
    | some m => m != n && it.value == 1 && v.get (Dict.tmrDestination m) == dest
    | none => false

/-- A timer's arming meets a held destination, or a setting that cannot be armed (R120, R122). `earlier` holds the items
before it in the message. -/
def armConflict (d v : Dev) (earlier : List Item) (n x : Nat) : Bool :=
  let dest := v.get (Dict.tmrDestination n)
  x == 1 && (d.get (Dict.tmrState n) == 1 || v.get (Dict.tmrMode n) == 0 || dest == 0xFF || v.destHeld n dest || d.armedSooner v earlier n dest)

/-- A Done timer's new destination is held by another timer, or an arming before the write takes it (R120; that the write then
receives StateConflict is a DESIGN CHOICE, log entry 115). -/
def moveConflict (d v : Dev) (earlier : List Item) (n : Nat) : Bool :=
  let dest := v.get (Dict.tmrDestination n)
  dest != 0xFF && (v.destHeld n dest || d.armedSooner v earlier n dest)

/-- Conflicts of timers, channels and references (R120, R126, R142, R143, R185, R277, R295). -/
def coreConflict (d v : Dev) (earlier : List Item) (e : Entry) (x : Nat) : Bool :=
  match unitAmong [Dict.tmrMode, Dict.tmrDestination] 32 e, unitOf Dict.tmrArm 32 e, unitOf Dict.chSource 16 e with
  | some n, _, _ => d.get (Dict.tmrState n) == 1 || (d.get (Dict.tmrState n) == 2 && d.moveConflict v earlier n)
  | _, some n, _ => d.armConflict v earlier n x
  | _, _, some c => d.feedsSelected c || (x != 0 && (!d.sourceFree c x || (List.range 16).any fun m => m != c && v.get (Dict.chSource m) == x))
  | _, _, _ =>
    match unitAmong [Dict.chPrescale, Dict.chWinMode, Dict.chEdge] 16 e, unitOf Dict.refTodInput 18 e,
        unitAmong [Dict.plsMode, Dict.plsFollowRef] 4 e with
    | some c, _, _ => d.get Dict.gnssState != 0 && (d.get (Dict.chAssigned c) == 0x30 || d.get (Dict.chAssigned c) == 0x31)
    | _, some n, _ => x != 0xFF && (List.range 18).any fun m => m != n && v.get (Dict.refTodInput m) == x
    | _, _, some p =>
      let r := v.get (Dict.plsFollowRef p)
      v.get (Dict.plsMode p) == 1 && !(decide (r < 8) && (v.get (Dict.refMode r) == 1 || v.get (Dict.refMode r) == 2))
    | _, _, _ =>
      match unitAmong [Dict.gsSampleRate, Dict.gsIfFrequency] 2 e with
      | some _ => d.get Dict.gnssState != 0
      | none => false

/-- Conflicts of the receiver, the ports, the keys, the Keeper, power and Referee (R60 and the entries' own texts). -/
def systemConflict (d v : Dev) (onSpi : Bool) (e : Entry) (x : Nat) : Bool :=
  if isOne e [Dict.gnssBandEnable] then d.get Dict.gnssState != 0
  else if isOne e [Dict.gnssSurveyRestart] then [0, 1, 6].contains (d.get Dict.gnssState)
  else if isOne e [Dict.gnssRelease] then d.get Dict.gnssState != 6
  else if isOne e [Dict.gnssAuthPolicy, Dict.gnssTimeSystem] then v.get Dict.gnssAuthPolicy == 2 && v.get Dict.gnssTimeSystem != 1
  else if isOne e [Dict.moscReturn] then !(d.apll0Locked && d.get Dict.apll0Source == 2 && d.get Dict.moscState == 2)
  else if isOne e [Dict.keeperSwitchover] then !d.switchoverOk
  else if isOne e [Dict.keeperRejoin] then !d.rejoinOk
  else if isOne e [Dict.lifeCycleRequest] then !d.lifeCycleOk x
  else if isOne e [Dict.powerStateRequest] then d.powerRequestConflict x onSpi
  else if isOne e [Dict.domainRelease] then !bit (d.get Dict.latchedDomains) x
  else
    match releaseUnit e x, unitAmong [Dict.instAuthMode, Dict.instSa] 8 e,
        unitAmong [Dict.instEnable, Dict.instPortMask, Dict.instDomain, Dict.instTransport] 8 e, unitOf Dict.portRecalibrate 6 e,
        unitOf Dict.skFaultClear 3 e with
    | some u, _, _, _, _ => !d.removed u
    | _, some i, _, _, _ => !v.authModeOk i
    | _, _, some _, _, _ => !v.instancesApart
    | _, _, _, some q, _ => !d.portRecalibrateOk q
    | _, _, _, _, some m => d.get (Dict.skState m) != 4
    | _, _, _, _, _ =>
      if 0x6900 ≤ e.index ∧ e.index ≤ 0x6907 then d.slotSpecConflict ((e.index - 0x6900) * 128 + (e.sub - 1)) x else false

/-- A command of the same kind is in progress (R93, R110, R111, R483; R723 item 9). -/
def busyWith (d : Dev) (e : Entry) : Bool :=
  (isOne e [Dict.storeCommit, Dict.storeErase] && (d.get Dict.storeStatus == 1 || d.get Dict.storeStatus == 2)) ||
  (isOne e [Dict.timeSet] && d.corr.isSome) ||
  (isOne e [Dict.timeAdjust] && d.corr.isSome && d.lifeCycle == 3) ||
  (isOne e [Dict.keyLoad, Dict.keyDelete, Dict.lifeCycleRequest] && d.keyBusy)

/-- ItemStatus of one item (R723). `v` is what the whole message leaves in force, `earlier` the items before it. -/
def itemStatus (d v : Dev) (onSpi : Bool) (level : Nat) (earlier : List Item) (it : Item) : Nat :=
  match Dict.find it.index it.sub with
  | none => 1
  | some e =>
    if level < e.rd.code then 2
    else
      match e.wr with
      | none => 3
      | some w =>
        if otherKind e then 3
        else if level < w.code then 2
        else if it.octets ≠ e.ty.size then 4
        else if d.stateRefuses v onSpi level e then 6
        else if !d.valueOk v e it.value then 5
        else if d.coreConflict v earlier e it.value || d.systemConflict v onSpi e it.value then 6
        else if d.busyWith e then 8
        else 0

/-- The statuses of a message's items (R65): each judged against what the whole message leaves in force. -/
def itemStatuses (d : Dev) (onSpi : Bool) (level : Nat) (items : List Item) : List Nat :=
  let v := d.inForce items
  (List.range items.length).map fun k => d.itemStatus v onSpi level (items.take k) (items.getD k ⟨0, 0, 0, 0⟩)

/-- Every item is accepted. -/
def allOk (l : List Nat) : Bool := l.all (· == 0)

/-- What the Response shows of the items (R65): in a rejected message each valid item reads NotApplied. -/
def shownStatuses (l : List Nat) : List Nat := if allOk l then l else l.map fun s => if s = 0 then 7 else s

/-- The message status of a Write (R65): the first rejected item's cause, else OK. -/
def messageStatus (l : List Nat) : Nat := (l.find? (· != 0)).getD 0

end Dev

end Sys2Proof.Machine
end

