-- ==== Sys2Proof/Machine/Apply.lean ====
section
/-!
DEFINITION. What an accepted Write does: at its acceptance, and at the S0 that applies it (R38 to R40, R60, R62, and the commands'
own rules).
-/
namespace Sys2Proof.Machine
namespace Dev

/-! ### At acceptance -/

/-- DeviceReset accepted in a session: the instant, and the host SPI frames up to its Response (R97). -/
def resetAccepted (d : Dev) (slot : Nat) : Dev :=
  let onSpi := d.sessions.any fun s => s.slot == slot && s.onSpi
  let d := ((d.set Hid.resetRequest 1).set Hid.resetFrame d.view.frames).set Hid.resetOffset (d.now - d.view.frameStart)
  d.set Hid.resetAhead (if onSpi then d.spiQueue.length else 0)

/-- The part of an item's effect that stands at acceptance: the session's cursors, time corrections, keys, requests and flags
that a later instant acts on (R97, R110, R111, R321, R371, R407, R479, R500, R589, R685). -/
def acceptItem (d : Dev) (slot : Nat) (it : Item) : Dev :=
  let x := it.value
  let inSession (f : Session → Dev) : Dev :=
    match d.sessions.find? fun s => s.slot == slot with
    | some s => f s
    | none => d
  match Dict.find it.index it.sub with
  | none => d
  | some e =>
    if isOne e [Dict.auditCursor] then inSession fun s => d.putSession { s with auditCursor := some x }
    else if isOne e [Dict.clientCursor] then inSession fun s => d.putSession { s with clientCursor := x }
    else if isOne e [Dict.excBind] then inSession fun s => d.excBind s x
    else if isOne e [Dict.timeSet] then d.timeSet x
    else if isOne e [Dict.timeAdjust] then d.timeAdjust (Dict.stepPendingSize.toInt x)
    else if isOne e [Dict.gnssTrustedTimeSet] then d.trustedTimeSet
    else if isOne e [Dict.keyLoad] then d.keyLoad x
    else if isOne e [Dict.keyDelete] then d.keyDelete x
    else if isOne e [Dict.lifeCycleRequest] then d.lifeCycleRequest x
    else if isOne e [Dict.deviceReset] then d.resetAccepted slot
    else if isOne e [Dict.startServiceRelease] then d.serviceRelease
    else if isOne e [Dict.powerStateRequest] then
      if x = 0 then d.setB Hid.runWanted true else if x = 1 then d.setB Hid.warmHoldWanted true else d.deepHoldRequest
    else d

/-! ### At S0: commands -/

/-- An MGT session whose address is no longer configured ends (R98). -/
def endUnaddressed (d : Dev) : Dev :=
  let v4 := d.get Dict.mgtIpv4Address
  let v6 := d.get Dict.mgtIpv6Address
  d.endSessions fun s => !s.onSpi && !((v4 != 0 && s.peer.localAddress == 0xFFFF * 2 ^ 32 + v4) || (v6 != 0 && s.peer.localAddress == v6))

/-- What follows the new value of an entry at its S0: the rules that say what a write of it does. `old` is the value before. -/
def afterWrite (d : Dev) (e : Entry) (old : Nat) : Dev :=
  let x := d.get e
  let plan := unitAmong [Dict.apllEnable, Dict.apllRefScale, Dict.apllRefDivider, Dict.apllFeedback, Dict.apllBandwidth] 4 e
  let port := unitAmong [Dict.portEnable, Dict.portMode, Dict.portFec] 6 e
  let counter := unitAmong [Dict.pcEvent, Dict.pcMode, Dict.pcUnit, Dict.pcWindow] 64 e
  match plan, port, counter with
  | some a, _, _ => if x = old then d else d.applyPlan a
  | _, some q, _ => d.configurePort q
  | _, _, some n => d.pcRestart n
  | _, _, _ =>
    match unitOf Dict.tmrTarget 32 e, unitOf Dict.chSource 16 e, unitOf Dict.chPrescale 16 e, unitOf Dict.chWinMode 16 e,
        unitOf Dict.skEnable 3 e with
    | some n, _, _, _, _ => d.retarget n
    | _, some c, _, _, _ =>
      let d := d.applyChSource c x
      if d.get Dict.gnssState = 0 then d else d.holdClockChannels
    | _, _, some c, _, _ => d.setB (Hid.prescaleArmed c) true
    | _, _, _, some c, _ =>
      if x = 2 ∧ old ≠ 2 then ((d.setB (Dict.chWindowSearch c) true).set (Hid.missRun c) 0).set (Hid.winTaken c) 0
      else if x = 2 then d
      else d.setB (Dict.chWindowSearch c) false
    | _, _, _, _, some m => d.configureSk m
    | _, _, _, _, _ =>
      if isOne e [Dict.hostUtcOffset, Dict.utcSource] then d.setB Hid.hostUtcFresh true
      else if isOne e [Dict.oscHostTemp] then d.set Hid.hostTempFrame (d.view.frames + 1)
      else if isOne e [Dict.watershedForcedRef] then d.forceReference
      else if isOne e ([Dict.powerBudget, Dict.passBasePower] ++ (List.range 5).map Dict.passCost) then d.fitBudget
      else if isOne e [Dict.mgtIpv4Address, Dict.mgtIpv6Address] then d.endUnaddressed
      else if 0x4100 ≤ e.index ∧ e.index < 0x4110 ∧ (e.sub = 2 ∨ e.sub = 3) ∧ x ≠ old then d.requestRealign (e.index - 0x4100)
      else if 0x6900 ≤ e.index ∧ e.index ≤ 0x6907 then d.applySlotSpec ((e.index - 0x6900) * 128 + (e.sub - 1))
      else d

/-- The addresses of the image whose values differ between two lists of values. -/
def changedAddrs (a b : List (Nat × Nat)) : List Nat :=
  ((a.filter fun kv => !b.contains kv) ++ (b.filter fun kv => !a.contains kv)).map (·.1) |>.eraseDups

/-- StoreRevert 0x01 at its S0: every live value of the image becomes the current copy's, in one frame (R96); with no valid copy,
its Blank default. What a write of each changed entry does follows, and the channels of the sample clocks stay held (R295). -/
def storeRevert (d : Dev) : Dev :=
  let before := d
  let values := (d.currentCopy.map (·.values)).getD []
  let (d, _) := d.applyImage values
  let d := (changedAddrs before.image d.image).foldl (fun d a =>
    match Dict.find (a / 256) (a % 256) with
    | some e => d.afterWrite e (before.get e)
    | none => d) d
  (if d.get Dict.gnssState = 0 then d else d.holdClockChannels).showStore

/-- SeqStatsClear at its S0 (R40 and its entry); the slots aborted in the frame that starts with it stay counted. -/
def seqStatsClear (d : Dev) : Dev :=
  let aborted := (List.range 8).filter (bit (d.get Hid.abortedSlots))
  let last := d.get Dict.seqLastOverrunSlot
  let d := d.clearAll [Dict.seqOverrunCount, Dict.seqLastOverrunSlot, Dict.seqMinSlack]
  let d := if aborted.isEmpty then d else (d.set Dict.seqOverrunCount aborted.length).set Dict.seqLastOverrunSlot last
  d.clearAll ((List.range 8).map Dict.seqSlotWorst)

/-- QopCountersClear at its S0 (R98). -/
def qopCountersClear (d : Dev) : Dev :=
  d.clearAll [Dict.qopAuthFailCount, Dict.qopReplayDropCount, Dict.qopMalformedCount, Dict.qopSpiCrcErrorCount,
    Dict.qopNotifyLostCount]

/-- SupplyStatsClear at its S0 (R594). -/
def supplyStatsClear (d : Dev) : Dev := d.clearAll ((List.range 11).map Dict.railMinimum)

/-- A unit returns to the first state of its kind (R54). -/
def comeBack (d : Dev) (u : Removable) : Dev :=
  match u with
  | .channel c => (d.restore u).startBoth c
  | .link m => (d.restore u).startBoth (16 + m)
  | .apll a => d.apllRelease a
  | .cko n => d.outRelease n
  | .pls p => d.plsRelease p
  | .port q => (d.restore u).configurePort q
  | .skovwin m => (d.restore u).configureSk m
  | _ => d.restore u

/-- A released unit returns when its start-up check passes; one that fails it stays out (R54). The check of a channel is the
calibration of both its lines, which Starting then runs (R161). -/
def releaseRemoved (d : Dev) (u : Removable) : Dev :=
  let calibrates := match u with
    | .channel _ => true
    | .link _ => true
    | _ => false
  if !d.removed u then d
  else if calibrates || d.startUpPasses u then d.comeBack u
  else d.startUpFails u

/-- A command without a unit at its S0 (R60). -/
def plainCommand (d : Dev) (e : Entry) (x : Nat) : Dev :=
  let is (y : Entry) : Bool := y.addr == e.addr
  if is Dict.seqStatsClear then d.seqStatsClear
  else if is Dict.storeCommit then d.storeCommitS0
  else if is Dict.storeRevert then d.storeRevert
  else if is Dict.storeErase then d.storeErase
  else if is Dict.qopCountersClear then d.qopCountersClear
  else if is Dict.hostLeapAnnounce then d.announceLeap (x / 256 ^ 15) (x % 256 ^ 12)
  else if is Dict.watershedStatsClear then d.clearSwitchStats
  else if is Dict.oscModelReset then d.resetModel
  else if is Dict.gnssRelease then d.gnssRelease
  else if is Dict.gnssSurveyRestart then d.gnssSurveyRestart
  else if is Dict.portCountersClear then d.clearPortCounters x
  else if is Dict.clientDelete then d.clientDelete x
  else if is Dict.protoCountersClear then d.clearProtoCounters
  else if is Dict.keyRederiveAll then d.setB Hid.rederiveWanted true
  else if is Dict.keeperSwitchover then d.switchover
  else if is Dict.keeperRejoin then d.rejoin
  else if is Dict.moscReturn then d.setB Hid.moscReturnWanted true
  else if is Dict.supplyStatsClear then d.supplyStatsClear
  else if is Dict.memCountersClear then d.clearMemCounters
  else if is Dict.memTestWrite then d.set Hid.memTest (setBit (d.get Hid.memTest) 0)
  else if is Dict.memTestRead then d.set Hid.memTest (setBit (d.get Hid.memTest) 1)
  else if is Dict.evtAcknowledge then d.evtAcknowledge x
  else if is Dict.domainRelease then (if bit (d.get Dict.latchedDomains) x then d.restartDomain (Domain.ofBit x) else d)
  else if is Dict.refereeClearAll then forUnits 128 (fun n d => d.evtClear n) d
  else if is Dict.faultInject then d.faultInject x
  else if is Dict.pcSnapshot then d.pcSnapshotAll
  else if is Dict.pcClearAll then d.pcClearAllCounts
  else d

/-- A command at its S0 (R60): the commands of a unit, the releases, the others. -/
def applyCommand (d : Dev) (e : Entry) (x : Nat) : Dev :=
  match unitOf Dict.tmrArm 32 e, unitOf Dict.outRealign 16 e, unitOf Dict.portRecalibrate 6 e, unitOf Dict.skFaultClear 3 e with
  | some n, _, _, _ => if x = 1 then d.armTimer n else d.disarmTimer n
  | _, some n, _, _ => d.requestRealign n
  | _, _, some q, _ => d.portRecalibrate q
  | _, _, _, some m => d.skFaultClear m
  | _, _, _, _ =>
    match unitOf Dict.evtClear 128 e, unitOf Dict.pcClear 64 e, releaseUnit e x with
    | some n, _, _ => d.evtClear n
    | _, some n, _ => d.clear (Dict.pcCount n)
    | _, _, some u => d.releaseRemoved u
    | _, _, _ => d.plainCommand e x

/-! ### At S0: the writes in order (R38, R39, R62) -/

/-- Entries that the host writes and the device writes too (R40). -/
def contended : List Entry :=
  [Dict.gnssHeldPosition 0, Dict.gnssHeldPosition 1, Dict.gnssHeldPosition 2, Dict.gnssPositionUnc, Dict.memTestData]

/-- The address of an item (R96's packing). -/
def itemAddr (it : Item) : Nat := it.index * 256 + it.sub

/-- The message writes an entry that the device may write too: its Response waits for S0 (R40). -/
def mayContend (items : List Item) : Bool := items.any fun it => contended.any fun e => e.addr == itemAddr it

/-- The device has written the entry in this frame, or a MemTestRead of this S0 will (R40, R616). -/
def contends (d : Dev) (it : Item) : Bool :=
  contended.any (fun e => e.addr == itemAddr it) &&
    (d.wrote.contains (itemAddr it) ||
      (itemAddr it == Dict.memTestData.addr &&
        ((d.staged.map (·.items)).flatten.any fun x => itemAddr x == Dict.memTestRead.addr)))

/-- Default of RefFilterTau of a REFIN reference (R216). -/
def tauDefault (mode : Nat) : Nat := if mode = 0 then 1000 else 8000

/-- A message that changes the kind of a REFIN reference and does not write its RefFilterTau takes the entry's default along: it
becomes the default of the new kind where it stands at that of the old one (R216; DEDUCED, log entry 119). -/
def tauFollows (d before : Dev) (values : List Item) : Dev :=
  forUnits 8 (fun r d =>
    let old := tauDefault (before.get (Dict.refMode r))
    let new := tauDefault (d.get (Dict.refMode r))
    let written := values.any fun it => itemAddr it == (Dict.refFilterTau r).addr
    if old ≠ new ∧ !written ∧ d.get (Dict.refFilterTau r) = old then d.set (Dict.refFilterTau r) new else d) d

/-- The items of one message take effect: every value, then what follows each item, in order. A value that a later message
writes again never takes effect (R62). -/
def applyGroup (d : Dev) (items later : List Item) : Dev :=
  let before := d
  let superseded (it : Item) : Bool := later.any fun x => itemAddr x == itemAddr it
  let values := items.filter fun it =>
    match Dict.find it.index it.sub with
    | some e => !e.ty.isCmd && !superseded it && !isOne e [Dict.auditCursor, Dict.clientCursor]
    | none => false
  let d := values.foldl (fun d it =>
    match Dict.find it.index it.sub with
    | some e => d.set e (e.held it.value)
    | none => d) d
  let d := d.tauFollows before values
  items.foldl (fun d it =>
    match Dict.find it.index it.sub with
    | some e =>
      if e.ty.isCmd then d.applyCommand e it.value
      else if superseded it then d
      else d.afterWrite e (before.get e)
    | none => d) d

/-- Every message of the list takes effect in the order of acceptance (R62). -/
def applyGroups (d : Dev) : List (List Item) → Dev
  | [] => d
  | g :: rest => (d.applyGroup g rest.flatten).applyGroups rest

end Dev

end Sys2Proof.Machine
end

