-- ==== Sys2Proof/Machine/Qop.lean ====
section
/-!
DEFINITION. The Quelys Object Protocol: messages, sessions, requests, subscriptions (R61 to R89, R97, R371).
-/
namespace Sys2Proof.Machine

/-! ### Messages as octets (R63, R82, R85, R87) -/

/-- The addresses of a Read or a Subscribe. -/
def addressOctets (l : List (Nat × Nat)) : List Nat := (l.map fun a => octetsOf 2 a.1 ++ [a.2 % 256, 0]).flatten

/-- Message type of a request body (R63). -/
def Body.code : Body → Nat
  | .read _ => 0x10
  | .write _ => 0x11
  | .subscribe _ _ _ => 0x20
  | .unsubscribe _ => 0x21
  | .keepalive => 0x30
  | .close => 0x31

/-- The octets of a request body (R63, R85). -/
def Body.octets : Body → List Nat
  | .read l => [l.length % 256, 0, 0, 0] ++ addressOctets l
  | .write l => [l.length % 256, 0, 0, 0] ++
      (l.map fun i => octetsOf 2 i.index ++ [i.sub % 256, 0] ++ octetsOf 2 i.octets ++ octetsOf i.octets i.value).flatten
  | .subscribe t p (.entries l) => [t % 256, 0] ++ octetsOf 2 p ++ [l.length % 256, 0, 0, 0] ++ addressOctets l
  | .subscribe t p (.events mask least) => [t % 256, 0] ++ octetsOf 2 p ++ octetsOf 16 mask ++ [least % 256, 0, 0, 0]
  | .unsubscribe id => octetsOf 2 id ++ [0, 0]
  | .keepalive => []
  | .close => []

/-- The header octets of a message (R63). -/
def headerOctets (type length session sequence requestTag : Nat) : List Nat :=
  [1, type % 256] ++ octetsOf 2 length ++ octetsOf 2 session ++ [0, 0] ++ octetsOf 4 sequence ++ octetsOf 4 requestTag

/-- The octets of a Response or Notify item (R63). -/
def ReplyItem.bytes (i : ReplyItem) : List Nat := octetsOf 2 i.index ++ [i.sub, i.status] ++ octetsOf 2 i.octets ++ octetsOf i.octets i.value

/-- The 24 octets of an event record, from its four fields (R87). -/
def eventOctets : List Nat → List Nat
  | n :: severity :: time :: detail :: rest => [n, severity, 0, 0] ++ octetsOf 12 time ++ octetsOf 8 detail ++ eventOctets rest
  | _ => []

/-- The octets of the body of a message that the device sends (R63, R85, R87). -/
def QopMessage.body (m : QopMessage) : List Nat :=
  let e (i : Nat) := m.extra.getD i 0
  let items := (m.items.map ReplyItem.bytes).flatten
  if m.type = 0x02 then octetsOf 16 (e 0)
  else if m.type = 0x04 then [e 0, 0] ++ octetsOf 2 (e 1)
  else if m.type = 0x05 then [m.status, 0, 0, 0]
  else if m.type = 0x22 then octetsOf 2 (e 0) ++ octetsOf 2 (e 1) ++ octetsOf 12 (e 2) ++ items ++ eventOctets (m.extra.drop 3)
  else [m.status, m.items.length, 0, 0] ++ items ++ (if m.extra.isEmpty then [] else octetsOf 2 (e 0) ++ [0, 0])

/-- The octets of a message that the device sends, with its tag (R63). -/
def QopMessage.octets (m : QopMessage) : List Nat :=
  headerOctets m.type (32 + m.body.length) m.session m.sequence m.requestTag ++ m.body ++ octetsOf 16 m.tag

/-- The frame that carries a message on host SPI: Sync, Length, the message and the CRC-32 over Length and message (R82). -/
def Dev.spiFrame (m : QopMessage) : List Nat :=
  let checked := octetsOf 2 m.octets.length ++ m.octets
  [0x5A, 0xC3] ++ checked ++ octetsOf 4 (crc32 checked)

/-- The tag of a message: HMAC-SHA-256 over all octets before it, its first 16 octets (R63). -/
def tagOf (key : Nat) (octets : List Nat) : Nat := hmacSha256 key octets / 2 ^ 128

/-- Octets of a Response that carries items (R63). -/
def responseLength (items : List ReplyItem) : Nat := 36 + (items.map fun i => 6 + i.octets).sum

/-- The frame is a message of QOP's length (R63). -/
def lengthOk (n : Nat) : Bool := decide (32 ≤ n ∧ n ≤ 1400)

/-- The CRC-32 over Length and message of a host SPI frame (R82). -/
def frameCheck (h : Head) (type : Nat) (body : List Nat) : Nat :=
  crc32 (octetsOf 2 h.length ++ headerOctets type h.length h.session h.sequence h.requestTag ++ body ++ octetsOf 16 h.tag)

/-- A message in a host SPI frame that is noise: its Length is out of range, or its Fcs fails (R82, R83). -/
def isNoise (h : Head) (type : Nat) (body : List Nat) : Bool :=
  h.onSpi && (!lengthOk h.length || h.fcs != frameCheck h type body)

/-- The body of an Open (R63). -/
def openBody (level keyRef hostNonce : Nat) : List Nat := [level, keyRef, 0, 0] ++ octetsOf 16 hostNonce

namespace Dev

/-! ### Reads (R61, R65, R66, R371) -/

/-- The entries that the servo frame's slots maintain, whose reads show what stood at the frame start (R61; DEDUCED, log entry 113): device state,
timescale, channels, references, servo, outputs, bounds, Keeper and Referee. -/
def frameMaintained (e : Entry) : Bool :=
  let i := e.index
  e.wr.isNone && ((i == 0x1010 && decide (e.sub ≤ 2)) || decide (0x2000 ≤ i ∧ i ≤ 0x20FF) || i == 0x23F0 || i == 0x23F1 ||
    decide (0x2400 ≤ i ∧ i ≤ 0x37FF) || decide (0x4000 ≤ i ∧ i ≤ 0x43FF) || decide (0x5000 ≤ i ∧ i ≤ 0x53FF) ||
    decide (0x7000 ≤ i ∧ i ≤ 0x73FF) || decide (0x8000 ≤ i ∧ i ≤ 0x83FF))

/-- The value of an entry that an accepted Write has changed since the last S0, or the one in force (R9, R62; DEDUCED, log entry 113). -/
def writtenValue (d : Dev) (e : Entry) : Nat :=
  let items := ((d.staged.filter fun g => g.answer.isNone).map (·.items)).flatten
  ((items.reverse.find? fun it => itemAddr it == e.addr).map (·.value)).getD (d.get e)

/-- The value that a read of an entry shows to a session (R61, R98, R371, R466). -/
def readValue (d : Dev) (s : Session) (e : Entry) : Nat :=
  let cursor := s.auditCursor.getD (d.get Dict.auditOldest)
  if isOne e [Dict.timeNow] then toTime96 d.now
  else if isOne e [Dict.timeNowCt] then toCt64 d.now
  else if isOne e [Dict.frameNumber] then d.frame
  else if isOne e [Dict.coarseTime, Dict.coarseUncertainty] then d.coarseNow.get e
  else if isOne e [Dict.auditCursor] then cursor
  else if e.index = 0x5031 then (if d.powered .mem then d.auditRecord ((cursor + (e.sub - 1)) % 2 ^ 32) else 0)
  else if isOne e [Dict.clientCursor] then s.clientCursor
  else if e.index = 0x6001 then d.clientWindowAt (s.clientCursor + (e.sub - 1))
  else if d.powered .time && frameMaintained e then ({ d with regs := d.shown } : Dev).get e
  else if e.wr.isSome && !e.ty.isCmd then d.writtenValue e
  else d.get e

/-- One item of a Read (R65). -/
def readItem (d : Dev) (s : Session) (a : Nat × Nat) : ReplyItem :=
  let status := readStatus d s.level a.1 a.2
  match Dict.find a.1 a.2 with
  | some e => if status = 0 then ⟨a.1, a.2, 0, e.ty.size, d.readValue s e % e.modulus⟩ else ⟨a.1, a.2, status, 0, 0⟩
  | none => ⟨a.1, a.2, status, 0, 0⟩

/-- Every item of a Read, from one view (R61). -/
def readItems (d : Dev) (s : Session) (l : List (Nat × Nat)) : List ReplyItem := l.map (d.readItem s)

/-- The first failing status of items, in order (R65). -/
def firstStatus (items : List ReplyItem) : Nat := messageStatus (items.map (·.status))

/-! ### Sending (R71, R74, R75, R80, R84) -/

/-- A peer on MGT can be reached: on the link of the device's address, or over a gateway; with the gateway all zero, on-link peers
only (R98). An IPv4 address stands in its IPv4-mapped form. -/
def routable (d : Dev) (p : Peer) : Bool :=
  let onLink (width length here : Nat) : Bool := p.address % 2 ^ width / 2 ^ (width - length) == here / 2 ^ (width - length)
  if p.localAddress / 2 ^ 32 = 0xFFFF then
    d.get Dict.mgtIpv4Gateway != 0 || onLink 32 (d.get Dict.mgtIpv4PrefixLength) (d.get Dict.mgtIpv4Address)
  else d.get Dict.mgtIpv6Gateway != 0 || onLink 128 (d.get Dict.mgtIpv6PrefixLength) (d.get Dict.mgtIpv6Address)

/-- A message leaves: on host SPI it joins the queue, on MGT it goes from the address and port of the Open to the peer of the Open,
where that can be reached (R80, R84, R98). -/
def sendMessage (d : Dev) (onSpi : Bool) (peer : Peer) (m : QopMessage) : Dev :=
  if onSpi then { d with spiQueue := d.spiQueue ++ [m] }
  else if d.routable peer then (d.inc Dict.mgtTxFrames).out (.qop peer m)
  else d

/-- CRYPT cannot serve tags: the control processors do (R79). -/
def cryptDown (d : Dev) : Bool := !d.powered .crypt || d.isolated .crypt

/-- The tag of a session's message of so many octets takes the HMAC lanes, while they serve tags (R79, R460). -/
def tagWork (d : Dev) (s : Session) (octets : Nat) : Dev :=
  if s.unauthenticated || d.cryptDown then d else d.classOne (octets - 16)

/-- A message of an open session: numbered, tagged, sent; a session whose numbers are used up ends (R75, R76). -/
def sendIn (d : Dev) (slot type requestTag status : Nat) (items : List ReplyItem) (extra : List Nat) : Dev :=
  match d.sessions.find? fun s => s.slot == slot with
  | none => d
  | some s =>
    if 0xFFFFFFFF ≤ s.sent then d.endSession slot
    else
      let m : QopMessage := ⟨type, s.id, s.sent + 1, requestTag, status, items, extra, 0⟩
      let octets := headerOctets type (32 + m.body.length) s.id (s.sent + 1) requestTag ++ m.body
      let m := { m with tag := if s.unauthenticated then 0 else tagOf s.deviceKey octets }
      let d := (d.putSession { s with sent := s.sent + 1 }).tagWork s (32 + m.body.length)
      d.sendMessage s.onSpi s.peer m

/-- A Response that the session keeps with its request (R64, R77). -/
def respondTo (d : Dev) (slot requestTag : Nat) (body : Body) (status : Nat) (items : List ReplyItem) (extra : List Nat) : Dev :=
  let d := if status = 0x0C then d.inc Dict.qopMalformedCount else d
  let d := d.sendIn slot 0x12 requestTag status items extra
  match d.sessions.find? fun s => s.slot == slot with
  | none => d
  | some s =>
    let reply : QopMessage := ⟨0x12, s.id, 0, requestTag, status, items, extra, 0⟩
    let kept : List Kept := (⟨requestTag, body, reply⟩ :: s.kept).take 8
    d.putSession { s with kept := kept }

/-- An Open is refused (R68, R71, R73). -/
def rejectOpen (d : Dev) (h : Head) (status : Nat) : Dev :=
  d.sendMessage h.onSpi h.peer ⟨0x05, 0, 0, h.requestTag, status, [], [], 0⟩

/-! ### Arrival (R63, R74, R75, R81, R83, R84) -/

/-- The device's own UDP port that a datagram must name: the port of its session's Open, or QopUdpPort outside a session (R80, R98). -/
def portOk (d : Dev) (h : Head) : Bool :=
  match d.sessions.find? fun s => s.id == h.session && !s.onSpi with
  | some s => h.peer.localPort == s.peer.localPort
  | none => h.peer.localPort == d.get Dict.qopUdpPort

/-- A message comes to QOP: CTRL runs, and on MGT NET is powered and the datagram is for a configured address, for its UDP port and
from a peer that can be reached (R80, R81, R98). -/
def listens (d : Dev) (h : Head) : Bool :=
  let v4 := d.get Dict.mgtIpv4Address
  let v6 := d.get Dict.mgtIpv6Address
  d.powered .ctrl && (h.onSpi || (d.powered .net && d.portOk h && d.routable h.peer &&
    ((v4 != 0 && h.peer.localAddress == 0xFFFF * 2 ^ 32 + v4) || (v6 != 0 && h.peer.localAddress == v6))))

/-- Every place of the host SPI queue is taken: by a frame, or for the Response that a Write accepted on host SPI still owes (R40, R84). -/
def spiFull (d : Dev) : Bool :=
  let owed := d.staged.filter fun g => match g.answer with
    | some (id, _, _) => d.sessions.any fun s => s.slot == g.origin && s.id == id && s.onSpi
    | none => false
  decide (16 ≤ d.spiQueue.length + owed.length)

/-- A message reaches QOP: it comes to it, and on host SPI a queue place is free (R84). -/
def reaches (d : Dev) (h : Head) : Bool := d.listens h && !(h.onSpi && d.spiFull)

/-- A host SPI frame is discarded and counted (R83). -/
def spiDiscard (d : Dev) : Dev := d.inc Dict.qopSpiCrcErrorCount

/-- An arriving message is counted: a received frame on MGT, malformed with a length that QOP does not have (R63). -/
def arrive (d : Dev) (h : Head) : Dev :=
  let d := if h.onSpi then d else d.inc Dict.mgtRxFrames
  if lengthOk h.length then d else d.inc Dict.qopMalformedCount

/-- The replay check of R75. -/
def fresh (s : Session) (sequence : Nat) : Bool :=
  decide (s.highest < sequence) || (decide (s.highest ≤ sequence + 63) && !s.seen.contains sequence)

/-- The session after an accepted message (R75, R76). -/
def accepted (d : Dev) (s : Session) (sequence : Nat) : Session :=
  let high := max s.highest sequence
  { s with highest := high, seen := (sequence :: s.seen).filter (fun q => decide (high ≤ q + 63)), lastFrame := d.view.frames,
           second := d.second, served := if s.second = d.second then s.served + 1 else 1 }

/-- Whether the tag of a message is right for the session (R72, R74). -/
def tagRight (s : Session) (h : Head) (type : Nat) (body : List Nat) : Bool :=
  s.unauthenticated || h.tag == tagOf s.hostKey (headerOctets type h.length h.session h.sequence h.requestTag ++ body)

/-! ### Opening (R68 to R73, R371) -/

/-- Which Opens the life cycle admits without a key: KeyRef 0xFF on host SPI in Blank, Provisioning and Maintenance at any level,
in Retired as Observer (R72, R73). -/
def openUnkeyed (d : Dev) (onSpi : Bool) (level : Nat) : Bool :=
  onSpi && ([0, 1, 3].contains d.lifeCycle || (d.lifeCycle == 4 && level == 0))

/-- The session is set up and challenged (R69 to R71). -/
def challenge (d : Dev) (h : Head) (level : Nat) (unauthenticated : Bool) (hostNonce material : Nat) : Dev :=
  let slots := if h.onSpi then [4, 5, 6, 7] else [0, 1, 2, 3]
  match slots.find? fun k => !d.sessions.any fun s => s.slot == k with
  | none => d.rejectOpen h 0x0B
  | some slot =>
    let start := Config.random 16 d.free
    let used (i : Nat) : Bool := d.sessions.any fun s => s.id == i
    let id := (((List.range 9).map fun i => (start + i) % 65535 + 1).find? fun i => !used i).getD 1
    let nonce := Config.random 128 d.free % 2 ^ 128
    let label := [0x51, 0x4F, 0x50, 0x2D, 0x53, 0x45, 0x53, 0x53, 0x49, 0x4F, 0x4E]
    let context := octetsOf 16 hostNonce ++ octetsOf 16 nonce ++ octetsOf 2 id ++ [level]
    let keys := if unauthenticated then 0 else kdf material label context 512
    let s : Session := ⟨slot, id, h.onSpi, h.peer, level, unauthenticated, false, hostNonce, nonce, keys / 2 ^ 256 % 2 ^ 256,
      keys % 2 ^ 256, 0, [], 0, [], [], d.view.frames, some (d.get Dict.auditOldest), 0, 0, 0⟩
    (d.putSession s).sendMessage h.onSpi h.peer ⟨0x02, id, 0, h.requestTag, 0, [], [nonce], 0⟩

/-- An Open under an access key, within the limits (R68, R71, R72): its use is dispatched here (R473), and one that would pass the use
ceiling in force waits for the commit of the next (R490). -/
def openKeyed (d : Dev) (h : Head) (level hostNonce : Nat) : Dev :=
  let node := level + (if h.onSpi then 3 else 0)
  let mine := d.sessions.filter fun s => s.onSpi == h.onSpi
  if 4 ≤ mine.length ∨ 2 ≤ (mine.filter fun s => !s.isOpen).length then d.rejectOpen h 0x0B
  else if d.lifeCycle = 4 ∨ (d.key node).isNone then d.rejectOpen h 0x0D
  else
    let (d, use) := d.dispatch node 1
    match use with
    | .key m => d.challenge h level false hostNonce m
    | .wait => { d with opensWaiting := d.opensWaiting ++ [(h, level, hostNonce)] }
    | .refused => d.rejectOpen h 0x0D

/-- Opens that waited for a use ceiling are tried again (R490). -/
def drainOpens (d : Dev) : Dev :=
  let all := d.opensWaiting
  all.foldl (fun d w => d.openKeyed w.1 w.2.1 w.2.2) { d with opensWaiting := [] }

/-- OPEN (R68 to R73, R95): limits, then keys. -/
def qopOpen (d : Dev) (h : Head) (level keyRef hostNonce : Nat) : Dev :=
  if !d.listens h then d
  else if isNoise h 0x01 (openBody level keyRef hostNonce) then d.spiDiscard
  else
    let full := !d.reaches h || d.get Hid.bootPhase != 5
    let d := d.arrive h
    let mine := d.sessions.filter fun s => s.onSpi == h.onSpi
    if !lengthOk h.length ∨ full then d
    else if h.length ≠ 52 ∨ h.session ≠ 0 then (d.inc Dict.qopMalformedCount).rejectOpen h 0x0C
    else if (Level.ofCode level).isNone then d.rejectOpen h 5
    else if 4 ≤ mine.length ∨ 2 ≤ (mine.filter fun s => !s.isOpen).length then d.rejectOpen h 0x0B
    else if keyRef = 0xFF then
      if d.openUnkeyed h.onSpi level then d.challenge h level true hostNonce 0 else d.rejectOpen h 0x0D
    else if keyRef ≠ 0 then d.rejectOpen h 0x0D
    else d.openKeyed h level hostNonce

/-- PROVE (R69, R70, R74, R75): the tag under the host-to-device key, Sequence 1, an empty body; Accept answers. A Prove of a session
that is open already is a replay; one that the replay check would pass has no meaning there and changes nothing more (DESIGN CHOICE,
log entry 117). -/
def qopProve (d : Dev) (h : Head) : Dev :=
  if !d.listens h then d
  else if isNoise h 0x03 [] then d.spiDiscard
  else
    let full := !d.reaches h
    let d := d.arrive h
    if !lengthOk h.length ∨ full then d
    else
      match d.sessions.find? fun s => s.id == h.session && s.onSpi == h.onSpi with
      | none => d.inc Dict.qopAuthFailCount
      | some s =>
        let d := d.tagWork s h.length
        if !tagRight s h 0x03 [] then d.inc Dict.qopAuthFailCount
        else if s.isOpen then (if fresh s h.sequence then d.putSession (d.accepted s h.sequence) else d.inc Dict.qopReplayDropCount)
        else if h.length ≠ 32 then d.inc Dict.qopMalformedCount
        else if h.sequence ≠ 1 then d.inc Dict.qopReplayDropCount
        else
          let s := { d.accepted s 1 with isOpen := true }
          (d.putSession s).sendIn s.slot 0x04 h.requestTag 0 [] [s.level, min (d.get Dict.qopIdleTimeout) 0xFFFF]

/-- CHALLENGE_TIMEOUT (R71): 5 s without a valid Prove; the SessionId is freed. -/
def challengeTimeout (d : Dev) (slot : Nat) : Dev :=
  match d.sessions.find? fun s => s.slot == slot with
  | some s => if s.isOpen || decide (d.framesSince s.lastFrame < 5 * framesPerSecond) then d else d.endSession slot
  | none => d

/-- IDLE_TIMEOUT (R76): QopIdleTimeout seconds without an accepted message. -/
def idleTimeout (d : Dev) (slot : Nat) : Dev :=
  match d.sessions.find? fun s => s.slot == slot with
  | some s =>
    if !s.isOpen || decide (d.framesSince s.lastFrame < d.get Dict.qopIdleTimeout * framesPerSecond) then d else d.endSession slot
  | none => d

/-! ### Requests (R64 to R66, R77, R85, R86) -/

/-- The items of a Response to a Write (R65). -/
def writeReply (items : List Item) (statuses : List Nat) : List ReplyItem :=
  (items.zip statuses).map fun p => ⟨p.1.index, p.1.sub, p.2, 0, 0⟩

/-- A Write (R38 to R40, R60, R65): judged whole; accepted, it acts now and is staged for S0; a Response that must wait for S0
waits there. -/
def hostWrite (d : Dev) (s : Session) (requestTag : Nat) (items : List Item) : Dev :=
  let statuses := d.itemStatuses s.onSpi s.level items
  if !allOk statuses then
    d.respondTo s.slot requestTag (.write items) (messageStatus statuses) (writeReply items (shownStatuses statuses)) []
  else if mayContend items then
    let g : Staged := ⟨items, some (s.id, requestTag, .write items), s.slot⟩
    { d with staged := d.staged ++ [g] }
  else
    let d := d.respondTo s.slot requestTag (.write items) 0 (writeReply items statuses) []
    let g : Staged := ⟨items, none, s.slot⟩
    let d := { d with staged := d.staged ++ [g] }
    items.foldl (fun d it => d.acceptItem s.slot it) d

/-- A Read (R61, R65, R66). -/
def hostRead (d : Dev) (s : Session) (requestTag : Nat) (l : List (Nat × Nat)) : Dev :=
  let items := d.readItems s l
  if 1400 < responseLength items then d.respondTo s.slot requestTag (.read l) 9 [] []
  else d.respondTo s.slot requestTag (.read l) (firstStatus items) items []

/-- The values of the subscribed entries as their subscription compares them (R88). -/
def subscribed (d : Dev) (s : Session) (sel : Selection) : List Nat :=
  match sel with
  | .entries l => (d.readItems s l).map (·.value)
  | .events _ _ => []

/-- The selection fits the type, with its count, codes and read access (R85, R86). -/
def subscribeStatus (d : Dev) (s : Session) (subType period : Nat) (sel : Selection) : Nat :=
  let total := (d.sessions.map fun x => x.subs.length).sum
  let limits := if period < 64 then 5 else if 16 ≤ s.subs.length ∨ 64 ≤ total then 0x0B else 0
  match sel with
  | .entries l =>
    if 2 < subType then 5
    else if subType = 2 ∨ l.length = 0 ∨ 16 < l.length then 0x0C
    else
      let access := firstStatus (d.readItems s l)
      if period < 64 then 5 else if access ≠ 0 then access else limits
  | .events _ least => if 2 < subType then 5 else if subType ≠ 2 then 0x0C else if 4 < least then 5 else limits

/-- A Subscribe (R85, R86): the least identifier free in the session. R85 names no identifier for a refused one, whose Response ends
after Count 0 (DESIGN CHOICE, log entry 117). -/
def hostSubscribe (d : Dev) (s : Session) (requestTag subType period : Nat) (sel : Selection) : Dev :=
  let body : Body := .subscribe subType period sel
  let status := d.subscribeStatus s subType period sel
  if status ≠ 0 then d.respondTo s.slot requestTag body status [] []
  else
    let id := (((List.range 17).map (· + 1)).find? fun i => !s.subs.any fun x => x.id == i).getD 1
    let sub : Subscription := ⟨id, subType, period, sel, d.view.frames, 0, d.subscribed s sel, []⟩
    let d := d.putSession { s with subs := s.subs ++ [sub] }
    d.respondTo s.slot requestTag body 0 [] [id]

/-- An Unsubscribe (R64); an identifier that the session does not hold is NoSuchEntry. -/
def hostUnsubscribe (d : Dev) (s : Session) (requestTag id : Nat) : Dev :=
  let held := s.subs.any fun x => x.id == id
  let d := d.putSession { s with subs := s.subs.filter fun x => x.id != id }
  d.respondTo s.slot requestTag (.unsubscribe id) (if held then 0 else 1) [] []

/-- The body agrees with its type, count and length (R63, R67). -/
def bodyOk (h : Head) (b : Body) : Bool :=
  let counted := match b with
    | .read l => decide (1 ≤ l.length ∧ l.length ≤ 64)
    | .write l => decide (1 ≤ l.length ∧ l.length ≤ 64)
    | _ => true
  counted && h.length == 32 + (Body.octets b).length

/-- An accepted request is executed once (R64, R77). -/
def execute (d : Dev) (s : Session) (h : Head) (b : Body) : Dev :=
  if !bodyOk h b then d.respondTo s.slot h.requestTag b 0x0C [] []
  else
    match b with
    | .read l => d.hostRead s h.requestTag l
    | .write items => d.hostWrite s h.requestTag items
    | .subscribe t p sel => d.hostSubscribe s h.requestTag t p sel
    | .unsubscribe id => d.hostUnsubscribe s h.requestTag id
    | .keepalive => d.respondTo s.slot h.requestTag .keepalive 0 [] []
    | .close => (d.sendIn s.slot 0x12 h.requestTag 0 [] []).endSession s.slot

/-- A request of an open session whose tag and Sequence are right (R77): a kept Response again, TagReuse, or the request itself.
A retransmission of a Write whose Response is still owed brings nothing more. -/
def serveOnce (d : Dev) (s : Session) (h : Head) (b : Body) : Dev :=
  let s := d.accepted s h.sequence
  let d := d.putSession s
  let owed := d.staged.findSome? fun g => match g.answer with
    | some (id, tag, body) => if id = s.id ∧ tag = h.requestTag then some body else none
    | none => none
  match s.kept.find? fun k => k.requestTag == h.requestTag, owed with
  | some k, _ =>
    if k.body = b then d.sendIn s.slot 0x12 h.requestTag k.reply.status k.reply.items k.reply.extra
    else d.sendIn s.slot 0x12 h.requestTag 0x0A [] []
  | none, some body => if body = b then d else d.sendIn s.slot 0x12 h.requestTag 0x0A [] []
  | none, none => d.execute s h b

/-- A request is served; the session whose host has used its last Sequence then ends (R76: the next would pass it). -/
def serve (d : Dev) (s : Session) (h : Head) (b : Body) : Dev :=
  let d := d.serveOnce s h b
  if h.sequence = 0xFFFFFFFF then d.endSession s.slot else d

/-- A request passes the session, tag and replay checks, or is discarded and counted (R74, R75). -/
def checkRequest (d : Dev) (h : Head) (b : Body) : Dev :=
  match d.sessions.find? fun s => s.id == h.session && s.onSpi == h.onSpi && s.isOpen with
  | none => d.inc Dict.qopAuthFailCount
  | some s =>
    let d := d.tagWork s h.length
    if !tagRight s h (Body.code b) (Body.octets b) then d.inc Dict.qopAuthFailCount
    else if !fresh s h.sequence then d.inc Dict.qopReplayDropCount
    else d.serve s h b

/-- The session has used its 64 messages of the second, or has messages waiting, while the control processors serve it (R79). -/
def mustQueue (d : Dev) (h : Head) : Bool :=
  d.cryptDown && (d.qopWaiting.any (fun w => w.1.session == h.session && w.1.onSpi == h.onSpi) ||
    d.sessions.any fun s => s.id == h.session && s.onSpi == h.onSpi && s.isOpen && s.second == d.second && decide (64 ≤ s.served))

/-- A Read, Write, Subscribe, Unsubscribe, Keepalive or Close arrives (R63, R64, R74 to R77, R79 to R84). -/
def request (d : Dev) (h : Head) (b : Body) : Dev :=
  if !d.listens h then d
  else if isNoise h (Body.code b) (Body.octets b) then d.spiDiscard
  else
    let full := !d.reaches h
    let d := d.arrive h
    if !lengthOk h.length ∨ full then d
    else if d.mustQueue h then { d with qopWaiting := d.qopWaiting ++ [(h, b)] }
    else d.checkRequest h b

/-- A command entry's Write: one item (R60). -/
def command (d : Dev) (h : Head) (e : Entry) (v : Value) : Dev := d.request h (.write [⟨e.index, e.sub, v.octets, v.value⟩])

/-- Waiting messages are served in order at a frame start, as far as their sessions' second allows (R79). -/
def drainQop (d : Dev) : Dev :=
  let all := d.qopWaiting
  all.foldl (fun d w =>
    let full := d.cryptDown && d.sessions.any fun s => s.id == w.1.session && s.onSpi == w.1.onSpi && s.isOpen && s.second == d.second &&
      decide (64 ≤ s.served)
    let ahead := d.qopWaiting.any fun x => x.1.session == w.1.session && x.1.onSpi == w.1.onSpi
    if full || ahead || (w.1.onSpi && d.spiFull) then { d with qopWaiting := d.qopWaiting ++ [w] }
    else d.checkRequest w.1 w.2) { d with qopWaiting := [] }

/-! ### Notifications (R84 to R89) -/

/-- A subscription of a session takes a new state. -/
def putSub (d : Dev) (slot : Nat) (sub : Subscription) : Dev :=
  match d.sessions.find? fun s => s.slot == slot with
  | some s => d.putSession { s with subs := s.subs.map fun x => if x.id = sub.id then sub else x }
  | none => d

/-- A subscription by its session's slot and its identifier. -/
def subOf (d : Dev) (slot id : Nat) : Option (Session × Subscription) :=
  (d.sessions.find? fun s => s.slot == slot).bind fun s => (s.subs.find? fun x => x.id == id).map fun x => (s, x)

/-- A Notify goes out, or is lost and counted when the host SPI queue is full or it would be too long (R84, R87, R89). `lost` is what
this Notify leaves unsent. A lost on-change Notify counts as its entries' last Notify: its values are not sent again (DESIGN CHOICE,
log entry 117). -/
def notify (d : Dev) (s : Session) (sub : Subscription) (items : List ReplyItem) (events : List (List Nat)) (lost : Nat) : Dev :=
  let size := 48 + (items.map fun i => 6 + i.octets).sum + 24 * events.length
  let missed := max 1 events.length
  if (s.onSpi && d.spiFull) || decide (1400 < size) then
    let d := d.add Dict.qopNotifyLostCount (missed + lost)
    d.putSub s.slot { sub with lost := min 0xFFFF (sub.lost + missed + lost) }
  else
    let d := if lost = 0 then d else d.add Dict.qopNotifyLostCount lost
    let d := d.putSub s.slot { sub with lost := min 0xFFFF lost }
    d.sendIn s.slot 0x22 0 0 items ([sub.id, sub.lost, toTime96 d.view.frameStart] ++ events.flatten)

/-- NOTIFY_PERIODIC (R86, R87): the interval of a periodic subscription has run. -/
def notifyPeriodic (d : Dev) (slot id : Nat) : Dev :=
  match d.subOf slot id with
  | some (s, sub) =>
    match sub.sel with
    | .entries l =>
      if sub.subType ≠ 0 ∨ d.framesSince sub.lastFrame < sub.periodFrames then d
      else d.notify s { sub with lastFrame := d.view.frames } (d.readItems s l) [] 0
    | .events _ _ => d
  | none => d

/-- NOTIFY_EVENT (R86, R87, R89): the oldest waiting event has waited PeriodFrames, the longest that R86 allows; the model sends none
earlier (DESIGN CHOICE, log entry 117). At most 56 records fit; the others are lost. -/
def notifyEvent (d : Dev) (slot id : Nat) : Dev :=
  match d.subOf slot id with
  | some (s, sub) =>
    if sub.waiting.isEmpty || decide (d.framesSince sub.lastFrame < sub.periodFrames) then d
    else d.notify s { sub with waiting := [], lastFrame := d.view.frames } [] (sub.waiting.take 56) (sub.waiting.length - 56)
  | none => d

/-- NOTIFY_ON_CHANGE for one subscription at S0 (R88). The first waits PeriodFrames after its Subscribe, as each later one after the
Notify before it (DESIGN CHOICE, log entry 117). -/
def notifyChange (d : Dev) (slot id : Nat) : Dev :=
  match d.subOf slot id with
  | some (s, sub) =>
    match sub.sel with
    | .entries l =>
      if sub.subType ≠ 1 ∨ d.framesSince sub.lastFrame < sub.periodFrames then d
      else
        let now := d.readItems s l
        let changed := (now.zip sub.lastValues).filter fun p => p.1.value != p.2
        if changed.isEmpty then d
        else d.notify s { sub with lastFrame := d.view.frames, lastValues := now.map (·.value) } (changed.map (·.1)) [] 0
    | .events _ _ => d
  | none => d

/-- Every on-change subscription at S0 (R88). -/
def notifyChanges (d : Dev) : Dev :=
  ((d.sessions.map fun s => s.subs.map fun x => (s.slot, x.id)).flatten).foldl (fun d p => d.notifyChange p.1 p.2) d

/-! ### Host SPI (R83, R84) -/

/-- OUTBOUND_FRAME_SHIFTED_OUT (R82, R84, R97): the oldest queued frame has left; so may the Response to a DeviceReset. -/
def spiShifted (d : Dev) : Dev :=
  match d.spiQueue with
  | m :: rest => (({ d with spiQueue := rest }).set Hid.resetAhead (d.get Hid.resetAhead - 1)).out (.spi (spiFrame m))
  | [] => d

/-! ### The staged writes at S0 (R38 to R40, R62) -/

/-- A Write whose Response waited: refused where the device's value stands, else accepted now (R40). -/
def settleAnswer (d : Dev) (g : Staged) : Dev × Option (List Item) :=
  match g.answer with
  | none => (d, some g.items)
  | some (id, tag, body) =>
    let here := d.sessions.any fun s => s.slot == g.origin && s.id == id && s.isOpen
    let statuses := g.items.map fun it => if d.contends it then 3 else 0
    let reply := writeReply g.items (shownStatuses statuses)
    if allOk statuses then
      let d := if here then d.respondTo g.origin tag body 0 reply [] else d
      (g.items.foldl (fun d it => d.acceptItem g.origin it) d, some g.items)
    else (if here then d.respondTo g.origin tag body 3 reply [] else d, none)

/-- The snapshot of S0 takes every accepted Write in the order of acceptance (R38, R62). -/
def applyStaged (d : Dev) : Dev :=
  let (d, groups) := d.staged.foldl (fun a g =>
    let (d, r) := a.1.settleAnswer g
    (d, a.2 ++ r.toList)) (d, [])
  let d := ({ d with staged := [], wrote := [] }).applyGroups groups
  -- a commit of this S0 holds what every Write of it leaves (R90)
  let d := if groups.flatten.any fun it => itemAddr it == Dict.storeCommit.addr then { d with storeImage := d.storeImage.map fun _ => d.image }
    else d
  if groups.isEmpty then d else d.showStore

end Dev

end Sys2Proof.Machine
end

