-- ==== Sys2Proof/Machine/Frame.lean ====
section
/-!
DEFINITION. The servo frame (R27 to R48): the work of the frame start and of the slots S0 to S7, in order.
-/
namespace Sys2Proof.Machine

namespace Dev

/-- A slot of the frame runs to its end (R44). -/
def slotRuns (d : Dev) (k : Nat) : Bool := !bit (d.get Hid.abortedSlots) k

/-- SEQUENCER_OVERRUN (R44, R47, R56): a slot is aborted in the frame that starts next (DEDUCED, log entry 61), once; source 8
once for the frame, with its number and the slot. -/
def sequencerOverrun (d : Dev) (slot number : Nat) : Dev :=
  if 8 ≤ slot ∨ !d.slotRuns slot then d
  else
    let first := d.get Hid.abortedSlots == 0
    let d := ((d.inc Dict.seqOverrunCount).set Dict.seqLastOverrunSlot slot).set Hid.abortedSlots (setBit (d.get Hid.abortedSlots) slot)
    if first then d.post 8 [(2, number), (1, slot)] else d

/-- The rows of R221 that an event outside S3 decides: VCO hold in Acquire or Locked, return from Holdover, and the
recovery at the close of a window. -/
def stateRowsNow (d : Dev) : Dev :=
  if (d.state = 2 ∨ d.state = 3) ∧ d.vcoHold then d.enterHoldover 2
  else if d.state = 4 then d.holdoverRows
  else if d.state = 1 ∧ d.windowJustClosed ∧ !d.vcoHold then d.recover.enterAcquire 0
  else d

/-- DOMAIN_RESTART (R638): a domain that is isolated and not latched is powered again once its delay has passed. -/
def domainRestart (d : Dev) (x : Domain) : Dev :=
  if bit (d.get Dict.latchedDomains) x.bit || decide (d.view.frames < d.get (Hid.restartDue x.bit)) then d else d.restartDomain x

/-! ### The frame start -/

/-- What ends with the frame that ran, and what the hardware does at a frame start before S0 (R41, R42, R103, R203, R480,
R488, R493, R529, R533, R589, R685). The registers that then stand are what the frame's reads show (R61). -/
def frameEdge (d : Dev) : Dev :=
  let d := (d.kholdWatch.closeWindow).publishBound
  let d := (d.enterFrameIncrement.handOverDue).serviceHoldFrame
  let d := if d.leapDue d.view.frameStart then d.applyLeap else d
  let d := (if d.powered .time then d.keyEdge else d).lowPowerFrame
  { d with shown := d.regs }

/-- Durations of the slots (R35's entries): the longest of each, and the smallest margin of S7's completion. -/
def slotStats (d : Dev) (times : List Nat) : Dev :=
  if times.isEmpty then d
  else
    let d := forUnits 8 (fun k d => d.set (Dict.seqSlotWorst k) (max (d.get (Dict.seqSlotWorst k)) (times.getD k 0))) d
    d.set Dict.seqMinSlack (min (d.get Dict.seqMinSlack) (140000 - times.sum))

/-! ### S0 -/

/-- The snapshot of S0 (R38, R44, R675): closing counter windows, then the accepted Writes take effect. An aborted S0 latches
no snapshot: the Writes wait for the next. -/
def snapshotFrame (d : Dev) (jumped : Bool) : Dev :=
  let d := d.pcFrame jumped
  if d.slotRuns 0 then d.applyStaged else d

/-- A measurement of the MOSC monitor enters the mean of the last 64 frames (R267, R569). -/
def moscMeasured (d : Dev) (y : Int) : Dev :=
  let l := (y :: d.moscReads).take 64
  ({ d with moscReads := l }).setI Hid.moscOffset (roundNear ((l.sum : Rat) / ((l.length : Nat) : Rat)))

/-- The readings of a frame (R105, R163, R165, R267, R582, R594). -/
def readFrame (d : Dev) (i : FrameInput) : Dev :=
  let d := ((d.readRegions i.sensors i.volts).sumRegions).pairLimits
  let d := (d.latchRails i.rails).thermal
  let d := if i.mismatch then d.setB Hid.dupMismatch true else d
  match i.mosc with
  | some y => d.moscMeasured y
  | none => d

/-- A phase meter reading, in 10 ps, becomes a measurement of its SyncE reference (R183, R409): the first after entry to Waiting
sets the grid's origin, and steps and sets since then shift the grid (R188). -/
def syncEMeasure (d : Dev) (q : Nat) (phase : Int) : Dev :=
  let r := 8 + q
  if 6 ≤ q ∨ !d.refPresent r then d
  else
    let big : Int := 2 ^ 120
    let d := if d.get (Hid.refOrigin r) = 0 then (d.set (Hid.refOrigin r) (phase + big).toNat).setQ (Q.gridShift r) 0 else d
    let x : Rat := ((phase + big - (d.get (Hid.refOrigin r) : Int) : Int) : Rat) * 65536 / 100 + d.q (Q.gridShift r)
    let m : Measurement := ⟨r, x, d.view.frameStart, false, 0, false⟩
    { d with measures := d.measures ++ [m] }

/-- The clocks at a frame start (R257, R261, R571). -/
def clocksFrame (d : Dev) : Dev := d.apll0Frame.apllFrame

/-- The channels at a frame start (R144, R156, R158, R166, R171). -/
def channelsFrame (d : Dev) (i : FrameInput) : Dev :=
  let d := i.calro.foldl (fun d x => d.calroFrame x.1 x.2) d
  let d := forUnits 19 (fun c d => d.twinSwap c) d
  let d := d.measureFrame.publishResiduals
  match i.xoEdge with
  | some edge => d.xoSecond edge
  | none => d

/-- The links and the pair in S0 (R48, R513, R517, R525, R540): `stamps` are those of the last frame. -/
def linksFrame (d : Dev) (stamps : List Stamp) : Dev :=
  let d := if d.powered .net then d.skovwinFrame stamps else d
  d.keeperFrame

/-- The satellite receiver's stamps and posted record in S0 (R296, R312). -/
def receiverFrame (d : Dev) (stamps : List Stamp) : Dev :=
  (if d.powered .gnss then d.clockFrame stamps else d).consumeRecord

/-- The ports and protocols at a frame start (R387 to R390, R397, R430, R445, R545). -/
def protocolsFrame (d : Dev) : Dev :=
  let d := if d.powered .net then (forUnits 6 (fun q d => d.countPause q) d.portFrame).addressAnnounce else d
  if d.powered .proto then d.nrefFrame.protoFrame else d

/-- Power, passes, counters of seconds and what NV work falls due (R369, R558, R580, R587, R623, R659, R673). -/
def powerFrame (d : Dev) : Dev :=
  let d := d.countLoad.arbitrate.portsFollow
  let d := (d.shutdownFrame.auditCheckpointFrame).lifetimeSecond.uptimeSecond
  if d.frame = 0 then d.coarseLoad else d

/-- QOP in S0 (R79, R88, R490). -/
def qopFrame (d : Dev) : Dev := if d.powered .ctrl then d.drainOpens.drainQop.notifyChanges else d

/-- What S0 collects (R35, R48): readings, phase meters, the stamps of the last frame, Beats, the posted record. -/
def collect (d : Dev) (i : FrameInput) : Dev × List Stamp :=
  let d := i.syncE.foldl (fun d x => d.syncEMeasure x.1 x.2) d
  let (d, stamps) := d.collectStamps
  ((d.linksFrame stamps).receiverFrame stamps, stamps)

/-- The frame start up to S1, with the stamps of the last frame (R35, R44, R48): what is no work of S0 runs whether or not S0
is aborted. -/
def collectSlot (d : Dev) (i : FrameInput) : Dev × List Stamp :=
  let d := if d.slotRuns 0 then (d.readFrame i).countServed else d
  let d := d.clocksFrame.channelsFrame i
  let (d, stamps) := if d.slotRuns 0 then d.collect i else (d, [])
  (d.keyFrame.protocolsFrame, stamps)

/-! ### S1 to S7 -/

/-- S1 (R35): monitors, and the UTC work. -/
def monitorFrame (d : Dev) (stamps : List Stamp) : Dev := (d.monitorSlot stamps).utcFrame

/-- S3 (R35), or its abort (R45). -/
def servoFrame (d : Dev) : Dev :=
  if !d.slotRuns 3 then d.servoAborted
  else
    let d := d.servoSlot.firstLock
    if d.state = 3 then d.setB Hid.everLocked true else d

/-- S4 (R35): outputs in service, or the permission alone while SYNTH is unpowered. -/
def outputFrame (d : Dev) (vco : List Nat) : Dev :=
  if !d.slotRuns 4 then d else if d.powered .synth then d.outputSlot vco else d.permitOutputs

/-- S5 (R35), or its abort (R46). -/
def boundWork (d : Dev) : Dev := if d.slotRuns 5 then d.boundSlot.auditFix else d.boundAborted

/-- S6 (R35): an aborted one sends no Beat (R47). -/
def keeperWork (d : Dev) : Dev := if d.slotRuns 6 then d.keeperSlot else d

/-- S7 (R35, R105, R633, R642, R650). -/
def refereeWork (d : Dev) (i : FrameInput) : Dev :=
  let d := d.injectFrame.closeWindows
  if !d.slotRuns 7 then d
  else
    let d := d.sweep i.failedPairs
    if i.mismatch then d.post 14 [] else d

/-- S1 to S7 in order, then what each frame sends of ESMC (R35, R412). -/
def laterSlots (d : Dev) (i : FrameInput) (stamps : List Stamp) : Dev :=
  let d := if d.slotRuns 1 then d.monitorFrame stamps else d
  let d := if d.slotRuns 2 then d.selectSlot else d
  let d := ((d.servoFrame).outputFrame i.vco).boundWork.keeperWork.refereeWork i
  let d := if d.powered .net then d.esmcFrame else d
  (d.slotStats i.slotTimes).set Hid.abortedSlots 0

end Dev

end Sys2Proof.Machine
end

