-- ==== Sys2Proof/Machine/Sequencer.lean ====
section
/-!
DEFINITION. The timescale counter and the sequencer over the whole state: reaching a frame start, steps and sets, one frame,
the fill and the first frame of time service (R33, R34, R101, R107, R112, R588, R606).
-/
namespace Sys2Proof.Machine

/-! ### The counter (R33, R101, R107) -/

/-- What `n` TCLK cycles add, when the first `extra` of them take one unit more, or less where the amount slewed is
negative (R107). -/
def advanceOf (inc extra : Nat) (back : Bool) (n : Nat) : Nat :=
  if back then n * inc - min n extra else n * inc + min n extra

/-- Quotient rounded up. -/
def divUp (a b : Nat) : Nat := (a + b - 1) / b

/-- TCLK cycles to the first edge at which the counter has grown by a gap (R33). -/
def cyclesOver (inc extra : Nat) (back : Bool) (gap : Nat) : Nat :=
  let early := if back then divUp gap (inc - 1) else divUp gap (inc + 1)
  if early ≤ extra then early
  else if back then divUp (gap + extra) inc
  else divUp (gap - extra) inc

/-- The end of the frame that a CT64 value lies in. After a step or set less than 140 µs before it, the partial frame merges with
the one that follows (R34). -/
def frameEnd (t : Nat) (jumped : Bool) : Nat :=
  let next := (t / frameUnits + 1) * frameUnits
  if jumped && decide (next - t < 140000 * unitsPerNs) then next + frameUnits else next

namespace State

/-- Cycles of the frame that runs. -/
def cycles (s : State) : Nat :=
  cyclesOver (s.dev.get Dict.incrementActive) (s.dev.get Hid.slewExtra) (s.dev.is Hid.slewBack)
    (s.clock.boundary * subUnits - s.clock.ts)

/-- The counter at the next frame start. -/
def nextStart (s : State) : Nat :=
  s.clock.ts + advanceOf (s.dev.get Dict.incrementActive) (s.dev.get Hid.slewExtra) (s.dev.is Hid.slewBack) s.cycles

/-- The sequencer reaches the next frame start, unless it stands at one whose slots have not run (R33, R107). -/
def reach (s : State) : State :=
  if s.clock.atStart then s
  else
    let n := s.cycles
    let ts := s.nextStart
    let clock : Clock := ⟨ts, frameEnd (ts / subUnits) false, true, false, s.clock.running, s.clock.frames + 1⟩
    { s with clock := clock, dev := { s.dev.settleSlew n with view := clock.view (ts / subUnits) } }

/-- A step or set of a size applies at the frame start that has been reached (R110, R112, R124, R188, R265, R279): the
counter jumps, frames are renumbered, what is kept with the timescale moves. -/
def jump (s : State) (isSet : Bool) (size : Int) : State :=
  let ts := ((s.clock.ts : Int) + size * (subUnits : Int)).toNat
  let t := ts / subUnits
  let clock : Clock := ⟨ts, frameEnd t true, true, true, s.clock.running, s.clock.frames⟩
  let d := s.dev.pulsesAtJump size t
  let d := ({ d with view := clock.view t }).recordDiscontinuity isSet size
  let d := (((d.shiftReferences size).shiftClockStamps size).shiftPorts size).shiftProtocols size
  let d := ((d.shiftMarks size).moveWindows size).movePulses size
  let d := if isSet then d.timersAfterSet.setB Hid.setAppliedNow true else d.timersAfterStep t
  { s with clock := clock, dev := d.realignAfterJump size }

/-- A step or set that is due at the frame start that has been reached (R109, R110). -/
def dueJump (s : State) : State :=
  match s.dev.corr with
  | some c => if decide (c.due ≤ s.clock.ts / subUnits) then s.jump c.isSet c.size else s
  | none => s

/-- A pending step or set, as named, is due at the next frame start, or at the one that has been reached. -/
def jumpDue (s : State) (isSet : Bool) : Bool :=
  match s.dev.corr with
  | some c => c.isSet == isSet && decide (c.due ≤ (if s.clock.atStart then s.clock.ts / subUnits else s.clock.boundary))
  | none => false

/-- Number of the frame whose slots run next, a step or set that is due applied (R32, R34, R56). -/
def nextFrameNumber (s : State) : Nat :=
  let ts := if s.clock.atStart then s.clock.ts else s.nextStart
  let t := match s.dev.corr with
    | some c => if c.due ≤ ts / subUnits then ((ts : Int) + c.size * (subUnits : Int)).toNat / subUnits else ts / subUnits
    | none => ts / subUnits
  t % secondUnits / frameUnits

/-! ### One frame (R35 to R47) -/

/-- The memories' share of S0 (R597, R612, R615, R616): test accesses, upsets, the scrubbers. -/
def memoryFrame (m : Mem) (d : Dev) (i : FrameInput) : Mem × Dev :=
  let (m, d) := memTestFrame m d
  let m := i.upsets.foldl (fun m u => applyUpset m d u) m
  scrubFrame m d i.scrubIdle

/-- The slots of a frame whose start has been reached, S0 aborted or not (R44). -/
def runSlots (s : State) (i : FrameInput) : State :=
  let d := s.dev.frameEdge
  if !d.powered .time then { s with dev := d, clock := { s.clock.follow d with atStart := false, jumped := false } }
  else
    let d := d.snapshotFrame s.clock.jumped
    let (m, d) := memoryFrame s.mem d i
    let (d, stamps) := d.pcResync.collectSlot i
    let d := (d.powerFrame.qopFrame).laterSlots i stamps
    { s with mem := m, dev := d, clock := { s.clock.follow d with atStart := false, jumped := false } }

/-- One frame, from the frame start to the end of S7 (R33, R35). -/
def runFrame (s : State) (i : FrameInput) : State :=
  (({ s with dev := { s.dev with emit := [], free := s.dev.free + 1 } } : State).reach.dueJump).runSlots i

/-! ### Memories and the start of time service -/

/-- The memories are filled (R606). -/
def fill (s : State) : State := { s with mem := s.mem.fill }

/-- The first frame of time service (R94, R588): where the reset or wake reached TIME, the counter takes the coarse counter's
value, run on for the time since its last load, plus its uncertainty, which counts as a set; or 0 where the coarse counter
is not valid. The slots of that frame then run with FRAME_START. -/
def serviceStart (s : State) (bootMicros coarseNs : Nat) : State :=
  let d := s.begin s.start
  let d := d.coarseRun coarseNs
  let unc := d.get Dict.coarseUncertainty
  let valid := decide (unc ≠ 0xFFFFFFFFFFFFFFFF)
  let lead := if valid then unc * unitsPerNs else 0
  let t := if valid then d.get Hid.coarse + lead else 0
  let clock : Clock := ⟨t * subUnits, frameEnd t valid, true, valid, true, s.clock.frames + 1⟩
  let d : Dev := { d with view := clock.view t }
  let d := d.firstFrame bootMicros
  { s with clock := clock, dev := if valid then d.recordDiscontinuity true lead else d }

end State

end Sys2Proof.Machine
end

