-- ==== Sys2Proof/Machine/ChannelsRows.lean ====
section
/-!
DEFINITION. Time-interval measurement: the meanings of the rows of this family.
-/
namespace Sys2Proof.Machine

/-- INPUT_EDGE_STAMP (R147 to R155). -/
def execInputEdgeStamp (c : Nat) (line : Nat) (cycle : Nat) (j : Nat) (f : Nat) (twin : Option (Nat × Nat))
    (s : State) : Host.Outcome State Fault Refusal :=
  .next (s.during (s.serves .time) fun d => d.inputEdge c line cycle j f twin)

/-- WINDOW_MISS (R150, R151). -/
def execWindowMiss (c : Nat) (s : State) : Host.Outcome State Fault Refusal :=
  .next (s.during (s.serves .time) fun d => d.windowMiss c)

/-- TWIN_SWAP (R156, R158). -/
def execTwinSwap (c : Nat) (s : State) : Host.Outcome State Fault Refusal :=
  .next (s.during (s.serves .time) fun d => d.twinSwap c)

/-- CAL_COLLECTION_COMPLETE (R157, R161, R385; unit 0 to 18 a channel, 19 and 20 the PCT of WEST and EAST). -/
def execCalCollectionComplete (unit : Nat) (line : Nat) (hist : List (List Nat)) (first : List Nat) (temp : Int) (volt : Nat)
    (s : State) : Host.Outcome State Fault Refusal :=
  .next (s.during (s.serves .time) fun d =>
    if unit < 19 then d.calComplete unit line hist first (temp, volt) else d.pctComplete (unit - 19) line hist first)

/-- CAL_TIMEOUT (R157; unit as in CAL_COLLECTION_COMPLETE). -/
def execCalTimeout (unit : Nat) (line : Nat) (s : State) : Host.Outcome State Fault Refusal :=
  .next (s.during (s.serves .time) fun d => if unit < 19 then d.calTimeout unit line else d.pctTimeout (unit - 19) line)

/-- CH_SOURCE (R721). -/
def execChSource (h : Head) (items : List Item) (s : State) : Host.Outcome State Fault Refusal :=
  .next (s.onDev fun d => d.request h (.write items))

/-- CH_RELEASE (R54). -/
def execChRelease (h : Head) (c : Nat) (v : Value) (s : State) : Host.Outcome State Fault Refusal :=
  .next (s.onDev fun d => d.command h (if c < 16 then Dict.chRelease c else Dict.linkChRelease (c - 16)) v)

end Sys2Proof.Machine
end

