-- ==== Sys2Proof/Machine/EventsRows.lean ====
section
/-!
DEFINITION. Event timers and time corrections: the meanings of the rows of this family.
-/
namespace Sys2Proof.Machine

/-- TIMER_FIRE (R121, R131): the timescale reaches the target of an armed timer in the frame that runs. -/
def execTimerFire (n : Nat) (s : State) : Host.Outcome State Fault Refusal :=
  let target := (s.begin s.start).pendingTarget n
  .next (s.duringAt (s.serves .time && decide (target < s.clock.boundary)) (max s.start target) fun d => d.fireTimer n)

/-- TRG_PULSE_END (R127, R132): the pulse in progress completes TmrWidth in the frame that runs. -/
def execTrgPulseEnd (m : Nat) (s : State) : Host.Outcome State Fault Refusal :=
  let last := s.dev.get (Hid.trgEnd m)
  .next (s.duringAt (s.serves .synth && s.dev.is (Hid.trgHigh m) && decide (last ≤ s.clock.boundary)) (max s.start (last - 1)) fun d =>
    d.trgPulseEnd m)

/-- TIMER_ARM (R123). -/
def execTimerArm (h : Head) (n : Nat) (s : State) : Host.Outcome State Fault Refusal :=
  .next (s.onDev fun d => d.command h (Dict.tmrArm n) ⟨1, 1⟩)

/-- TIMER_DISARM (R127). -/
def execTimerDisarm (h : Head) (n : Nat) (s : State) : Host.Outcome State Fault Refusal :=
  .next (s.onDev fun d => d.command h (Dict.tmrArm n) ⟨1, 0⟩)

/-- TIME_SET (R110). -/
def execTimeSet (h : Head) (v : Value) (s : State) : Host.Outcome State Fault Refusal :=
  .next (s.onDev fun d => d.command h Dict.timeSet v)

/-- TIME_ADJUST (R111). -/
def execTimeAdjust (h : Head) (v : Value) (s : State) : Host.Outcome State Fault Refusal :=
  .next (s.onDev fun d => d.command h Dict.timeAdjust v)

/-- HOST_LEAP_INSERT (R119). -/
def execHostLeapInsert (h : Head) (time : Nat) (s : State) : Host.Outcome State Fault Refusal :=
  .next (s.onDev fun d => d.command h Dict.hostLeapAnnounce ⟨16, 1 * 2 ^ 120 + time⟩)

/-- HOST_LEAP_DELETE (R119). -/
def execHostLeapDelete (h : Head) (time : Nat) (s : State) : Host.Outcome State Fault Refusal :=
  .next (s.onDev fun d => d.command h Dict.hostLeapAnnounce ⟨16, 2 * 2 ^ 120 + time⟩)

/-- HOST_LEAP_WITHDRAW (R119). -/
def execHostLeapWithdraw (h : Head) (time : Nat) (s : State) : Host.Outcome State Fault Refusal :=
  .next (s.onDev fun d => d.command h Dict.hostLeapAnnounce ⟨16, time⟩)

end Sys2Proof.Machine
end

