-- ==== Sys2Proof/Machine/KeyStoreRows.lean ====
section
/-!
DEFINITION. Keys and life cycle: the meanings of the rows of this family.
-/
namespace Sys2Proof.Machine

/-- LIFE_CYCLE_TO_PROVISIONING (R500). -/
def execLifeCycleToProvisioning (h : Head) (s : State) : Host.Outcome State Fault Refusal :=
  .next (s.onDev fun d => d.command h Dict.lifeCycleRequest ⟨1, 1⟩)

/-- LIFE_CYCLE_TO_SERVICE (R500). -/
def execLifeCycleToService (h : Head) (s : State) : Host.Outcome State Fault Refusal :=
  .next (s.onDev fun d => d.command h Dict.lifeCycleRequest ⟨1, 2⟩)

/-- LIFE_CYCLE_TO_MAINTENANCE (R500). -/
def execLifeCycleToMaintenance (h : Head) (s : State) : Host.Outcome State Fault Refusal :=
  .next (s.onDev fun d => d.command h Dict.lifeCycleRequest ⟨1, 3⟩)

/-- LIFE_CYCLE_TO_BLANK (R500). -/
def execLifeCycleToBlank (h : Head) (s : State) : Host.Outcome State Fault Refusal :=
  .next (s.onDev fun d => d.command h Dict.lifeCycleRequest ⟨1, 0⟩)

/-- LIFE_CYCLE_TO_RETIRED (R500). -/
def execLifeCycleToRetired (h : Head) (s : State) : Host.Outcome State Fault Refusal :=
  .next (s.onDev fun d => d.command h Dict.lifeCycleRequest ⟨1, 4⟩)

/-- LIFE_CYCLE_CHANGE (R500). -/
def execLifeCycleChange (ok : Bool) (s : State) : Host.Outcome State Fault Refusal :=
  .next (s.during (s.dev.powered .ctrl) fun d => d.lifeCycleChange ok)

/-- KEY_LOAD (R479). -/
def execKeyLoad (h : Head) (v : Value) (s : State) : Host.Outcome State Fault Refusal :=
  .next (s.onDev fun d => d.command h Dict.keyLoad v)

/-- KEY_DELETE (R479). -/
def execKeyDelete (h : Head) (v : Value) (s : State) : Host.Outcome State Fault Refusal :=
  .next (s.onDev fun d => d.command h Dict.keyDelete v)

/-- KEY_REDERIVE_ALL (R488). -/
def execKeyRederiveAll (h : Head) (v : Value) (s : State) : Host.Outcome State Fault Refusal :=
  .next (s.onDev fun d => d.command h Dict.keyRederiveAll v)

/-- KEY_SLOT_SPEC (R486, R488). -/
def execKeySlotSpec (h : Head) (items : List Item) (s : State) : Host.Outcome State Fault Refusal :=
  .next (s.onDev fun d => d.request h (.write items))

/-- KEY_STORE_COMMIT_DONE (R480, R482). -/
def execKeyStoreCommitDone (ok : Bool) (s : State) : Host.Outcome State Fault Refusal :=
  .next (s.during (s.dev.powered .ctrl) fun d => d.keyCommitDone ok)

/-- KEY_STORE_PACING_END (R483). -/
def execKeyStorePacingEnd (s : State) : Host.Outcome State Fault Refusal :=
  .next (s.during (s.dev.powered .ctrl) fun d => d.pacingEnd)

/-- KEY_EXPIRY (R493). -/
def execKeyExpiry (node : Nat) (s : State) : Host.Outcome State Fault Refusal :=
  .next (s.during (s.serves .time) fun d => d.keyExpiry node)

end Sys2Proof.Machine
end

