-- ==== Sys2Proof/Machine/LinksRows.lean ====
section
/-!
DEFINITION. Ports and management link: the meanings of the rows of this family.
-/
namespace Sys2Proof.Machine

/-- PORT_CALIBRATION_DONE (R377, R385 to R387). -/
def execPortCalibrationDone (q : Nat) (lanes : List LaneDelays) (s : State) : Host.Outcome State Fault Refusal :=
  .next (s.during (s.serves .net) fun d => d.portCalDone q lanes)

/-- PORT_CAL_INCOMPLETE (R385, R386). -/
def execPortCalIncomplete (q : Nat) (s : State) : Host.Outcome State Fault Refusal :=
  .next (s.during (s.serves .net) fun d => d.portCalIncomplete q)

/-- PORT_UP (R390). -/
def execPortUp (q : Nat) (s : State) : Host.Outcome State Fault Refusal :=
  .next (s.during (s.serves .net) fun d => d.portUp q)

/-- PORT_DOWN (R390). -/
def execPortDown (q : Nat) (s : State) : Host.Outcome State Fault Refusal :=
  .next (s.during (s.serves .net) fun d => d.portDown q)

/-- RECEIVED_FRAME (R402 to R406). -/
def execReceivedFrame (f : RxFrame) (s : State) : Host.Outcome State Fault Refusal :=
  .next (s.duringAt (s.serves .net) (s.arrival f.rx) fun d => d.receivedFrame f)

/-- PAUSE_RECEIVE (R396). -/
def execPauseReceive (q : Nat) (quanta : Nat) (s : State) : Host.Outcome State Fault Refusal :=
  .next (s.during (s.serves .net) fun d => d.pauseReceive q quanta)

/-- PFC_RECEIVE (R396). -/
def execPfcReceive (q : Nat) (enable : Nat) (times : List Nat) (s : State) : Host.Outcome State Fault Refusal :=
  .next (s.during (s.serves .net) fun d => d.pfcReceive q enable times)

/-- PAUSE_EXPIRY (R396). -/
def execPauseExpiry (q : Nat) (s : State) : Host.Outcome State Fault Refusal :=
  .next (s.during (s.serves .net) fun d => d.pauseExpiry q)

/-- STAMP_HOLD_EXPIRY (R400). -/
def execStampHoldExpiry (q : Nat) (s : State) : Host.Outcome State Fault Refusal :=
  .next (s.during (s.serves .net) fun d => d.stampHoldExpiry q)

/-- STAMP_QUEUE_DRAIN (R401). -/
def execStampQueueDrain (q : Nat) (s : State) : Host.Outcome State Fault Refusal :=
  .next (s.during (s.serves .net) fun d => d.stampDrain q)

/-- HOST_FRAME_FOR_TRANSMISSION (R399, R406, R408). -/
def execHostFrameForTransmission (f : HostFrame) (s : State) : Host.Outcome State Fault Refusal :=
  .next (s.during (s.serves .net) fun d => d.hostFrame f)

/-- ARP_REQUEST (R427; q 6 is MGT). -/
def execArpRequest (q : Nat) (address : Nat) (toward : Nat) (s : State) : Host.Outcome State Fault Refusal :=
  .next (s.during (s.serves .net) fun d => d.answerAddress q 4 address toward)

/-- NEIGHBOUR_SOLICITATION (R427; q 6 is MGT). -/
def execNeighbourSolicitation (q : Nat) (address : Nat) (toward : Nat) (s : State) : Host.Outcome State Fault Refusal :=
  .next (s.during (s.serves .net) fun d => d.answerAddress q 6 address toward)

/-- ESMC_PDU_RECEIVE (R410). -/
def execEsmcPduReceive (q : Nat) (ssm : Nat) (enhanced : Option Nat) (s : State) : Host.Outcome State Fault Refusal :=
  .next (s.during (s.serves .net) fun d => d.esmcReceive q ssm enhanced)

/-- ESMC_TIMEOUT (R410). -/
def execEsmcTimeout (q : Nat) (s : State) : Host.Outcome State Fault Refusal :=
  .next (s.during (s.serves .net) fun d => d.esmcTimeout q)

/-- ESMC_INFORMATION_PDU (R412). -/
def execEsmcInformationPdu (q : Nat) (s : State) : Host.Outcome State Fault Refusal :=
  .next (s.during (s.serves .net) fun d => d.esmcInformation q)

/-- PORT_COUNTERS_CLEAR (R416). -/
def execPortCountersClear (h : Head) (v : Value) (s : State) : Host.Outcome State Fault Refusal :=
  .next (s.onDev fun d => d.command h Dict.portCountersClear v)

/-- EXC_BIND (R407). -/
def execExcBind (h : Head) (v : Value) (s : State) : Host.Outcome State Fault Refusal :=
  .next (s.onDev fun d => d.command h Dict.excBind v)

/-- PORT_RECALIBRATE (R390). -/
def execPortRecalibrate (h : Head) (q : Nat) (v : Value) (s : State) : Host.Outcome State Fault Refusal :=
  .next (s.onDev fun d => d.command h (Dict.portRecalibrate q) v)

/-- PORT_RELEASE (R54). -/
def execPortRelease (h : Head) (q : Nat) (v : Value) (s : State) : Host.Outcome State Fault Refusal :=
  .next (s.onDev fun d => d.command h (Dict.portRelease q) v)

/-- PORT_ENABLE_WRITE (R390). -/
def execPortEnableWrite (h : Head) (items : List Item) (s : State) : Host.Outcome State Fault Refusal :=
  .next (s.onDev fun d => d.request h (.write items))

/-- PCS_STATUS_CHANGE (R384, R390, R419). -/
def execPcsStatusChange (q : Nat) (x : PcsStatus) (s : State) : Host.Outcome State Fault Refusal :=
  .next (s.during (s.serves .net) fun d => d.pcsStatus q x)

/-- MGT_LINK_CHANGE (R414; the speed in Mb/s). -/
def execMgtLinkChange (up : Bool) (speed : Nat) (s : State) : Host.Outcome State Fault Refusal :=
  .next (s.during (s.serves .net) fun d => d.mgtLink up speed)

end Sys2Proof.Machine
end

