-- ==== Sys2Proof/Machine/MemoryBusRows.lean ====
section
/-!
DEFINITION. Memories and bus matrix: the meanings of the rows of this family.
-/
namespace Sys2Proof.Machine

/-- MEM_READ (R597, R602, R618, R619): a register space of T5 is refused by name (DESIGN CHOICE, log entry 62). -/
def execMemRead (op : BusOp) (octets : Nat) (s : State) : Host.Outcome State Fault Refusal :=
  let d := s.begin s.anyInstant
  if reachesRegisters d op octets then .refused .registerSpace
  else
    let r := Sys2Proof.Machine.memRead s.mem d op octets
    .next { s with mem := r.1, dev := r.2 }

/-- MEM_WRITE (R598, R618, R619): a register space of T5 is refused by name (DESIGN CHOICE, log entry 62). -/
def execMemWrite (op : BusOp) (data : List Nat) (last : Bool) (s : State) : Host.Outcome State Fault Refusal :=
  let d := s.begin s.anyInstant
  if last && reachesRegisters d op data.length then .refused .registerSpace
  else
    let r := Sys2Proof.Machine.memWrite s.mem d op data last
    .next { s with mem := r.1, dev := r.2 }

/-- MASTER_RESET (R599, R623; the time to drain in ns). -/
def execMasterReset (master : Nat) (outstanding : Nat) (time : Nat) (s : State) : Host.Outcome State Fault Refusal :=
  .next (s.onDev fun d => d.masterReset master outstanding time)

/-- DRAIN_TIMEOUT (R624). -/
def execDrainTimeout (master : Nat) (s : State) : Host.Outcome State Fault Refusal :=
  .next (s.onDev fun d => d.drainTimeout master)

/-- MEM_COUNTERS_CLEAR (R625). -/
def execMemCountersClear (h : Head) (v : Value) (s : State) : Host.Outcome State Fault Refusal :=
  .next (s.onDev fun d => d.command h Dict.memCountersClear v)

/-- MEM_TEST_WRITE (R615). -/
def execMemTestWrite (h : Head) (v : Value) (s : State) : Host.Outcome State Fault Refusal :=
  .next (s.onDev fun d => d.command h Dict.memTestWrite v)

/-- MEM_TEST_READ (R616). -/
def execMemTestRead (h : Head) (v : Value) (s : State) : Host.Outcome State Fault Refusal :=
  .next (s.onDev fun d => d.command h Dict.memTestRead v)

end Sys2Proof.Machine
end

