-- ==== Sys2Proof/Machine/PowerClocksRows.lean ====
section
/-!
DEFINITION. Power and clocks: the meanings of the rows of this family.
-/
namespace Sys2Proof.Machine

/-- OP_STEP_UP (R31, R559): at the boundary of the frame. -/
def execOpStepUp (s : State) : Host.Outcome State Fault Refusal :=
  .next (s.onDevAt s.start fun d => d.opStepUp)

/-- OP_SETTLE_FAIL (R559). -/
def execOpSettleFail (rail : Nat) (s : State) : Host.Outcome State Fault Refusal :=
  .next (s.onDev fun d => d.opSettleFail rail)

/-- OP_STEP_DOWN (R31, R560): at the boundary of the frame. -/
def execOpStepDown (s : State) : Host.Outcome State Fault Refusal :=
  .next (s.onDevAt s.start fun d => d.opStepDown)

/-- PMBUS_FAULT (R562). -/
def execPmbusFault (address : Nat) (s : State) : Host.Outcome State Fault Refusal :=
  .next (s.onDev fun d => d.pmbusFault address)

/-- XO_QUALIFIED (R565). -/
def execXoQualified (estimate : Nat) (s : State) : Host.Outcome State Fault Refusal :=
  .next (s.onDev fun d => d.xoQualifies estimate)

/-- XO_FAIL (R257, R566). -/
def execXoFail (s : State) : Host.Outcome State Fault Refusal :=
  .next (s.onDev fun d => d.xoFails.stateRowsNow)

/-- XO_RESTART (R566). -/
def execXoRestart (s : State) : Host.Outcome State Fault Refusal :=
  .next (s.onDev fun d => d.xoRestart)

/-- SYS_CLOCK_TO_SPLL (R567). -/
def execSysClockToSpll (s : State) : Host.Outcome State Fault Refusal :=
  .next (s.onDev fun d => d.sysClockToSpll)

/-- SYS_CLOCK_FALLBACK (R561, R567). -/
def execSysClockFallback (s : State) : Host.Outcome State Fault Refusal :=
  .next (s.onDev fun d => d.sysClockFallback)

/-- MOSC_QUALIFIED (R569). -/
def execMoscQualified (s : State) : Host.Outcome State Fault Refusal :=
  .next (s.onDev fun d => d.moscQualified)

/-- MOSC_TRIP (R570). -/
def execMoscTrip (cause : Nat) (s : State) : Host.Outcome State Fault Refusal :=
  .next (s.onDev fun d => (d.moscTrip cause).stateRowsNow)

/-- MOSC_RETURN (R571). -/
def execMoscReturn (h : Head) (v : Value) (s : State) : Host.Outcome State Fault Refusal :=
  .next (s.onDev fun d => d.command h Dict.moscReturn v)

/-- FORCED_SWITCH (R573). -/
def execForcedSwitch (mux : Nat) (s : State) : Host.Outcome State Fault Refusal :=
  .next (s.onDev fun d => d.forcedSwitch mux)

/-- SUPPLY_WARNING (R576; the rails beyond their levels as a mask, the lowest voltage in µV). -/
def execSupplyWarning (rails : Nat) (lowest : Nat) (s : State) : Host.Outcome State Fault Refusal :=
  .next (s.onDev fun d => d.supplyWarning rails lowest)

/-- SUPPLY_EPISODE_END (R578). -/
def execSupplyEpisodeEnd (s : State) : Host.Outcome State Fault Refusal :=
  .next (s.onDev fun d => d.supplyEpisodeEnd)

/-- PASS_RESUME (R578). -/
def execPassResume (s : State) : Host.Outcome State Fault Refusal :=
  .next (s.onDev fun d => d.passResume)

/-- THROTTLE_END (R582). -/
def execThrottleEnd (s : State) : Host.Outcome State Fault Refusal :=
  .next (s.onDev fun d => d.throttleEnd)

/-- SUPPLY_STATS_CLEAR (R594). -/
def execSupplyStatsClear (h : Head) (v : Value) (s : State) : Host.Outcome State Fault Refusal :=
  .next (s.onDev fun d => d.command h Dict.supplyStatsClear v)

end Sys2Proof.Machine
end

