-- ==== Sys2Proof/Machine/ProtocolsRows.lean ====
section
/-!
DEFINITION. Time protocols: the meanings of the rows of this family.
-/
namespace Sys2Proof.Machine

/-- SCHEDULED_SEND (R430, R434, R460, R461). -/
def execScheduledSend (m : Send) (late : Bool) (s : State) : Host.Outcome State Fault Refusal :=
  .next (s.during (s.serves .proto) fun d => d.scheduledSend m late)

/-- DELAY_REQ (R437, R438). -/
def execDelayReq (m : PtpRx) (s : State) : Host.Outcome State Fault Refusal :=
  .next (s.duringAt (s.serves .net && s.dev.powered .proto) (s.arrival m.rx) fun d => d.delayReq m)

/-- REQUEST_UNICAST_TRANSMISSION (R435). -/
def execRequestUnicastTransmission (m : PtpRx) (tlvs : List UnicastTlv) (s : State) : Host.Outcome State Fault Refusal :=
  .next (s.duringAt (s.serves .net && s.dev.powered .proto) (s.arrival m.rx) fun d => d.unicastRequest m tlvs)

/-- CANCEL_UNICAST_TRANSMISSION (R436). -/
def execCancelUnicastTransmission (m : PtpRx) (types : List Nat) (s : State) : Host.Outcome State Fault Refusal :=
  .next (s.duringAt (s.serves .net && s.dev.powered .proto) (s.arrival m.rx) fun d => d.unicastCancel m types)

/-- GRANT_LAPSE (R436). -/
def execGrantLapse (slot : Nat) (type : Nat) (s : State) : Host.Outcome State Fault Refusal :=
  .next (s.during (s.serves .proto) fun d => d.grantLapse slot type)

/-- NTP_REQUEST (R450, R452). -/
def execNtpRequest (m : NtpRx) (s : State) : Host.Outcome State Fault Refusal :=
  .next (s.duringAt (s.serves .net && s.dev.powered .proto) (s.arrival m.rx) fun d => d.ntpRequest m)

/-- NTS_REQUEST (R454). -/
def execNtsRequest (m : NtsRx) (s : State) : Host.Outcome State Fault Refusal :=
  .next (s.duringAt (s.serves .net && s.dev.powered .proto) (s.arrival m.base.rx) fun d => d.ntsRequest m)

/-- NREF_GRANT_RECEIVE (R445). -/
def execNrefGrantReceive (n : Nat) (m : PtpRx) (tlvs : List UnicastTlv) (s : State) : Host.Outcome State Fault Refusal :=
  .next (s.duringAt (s.serves .net && s.dev.powered .proto) (s.arrival m.rx) fun d => d.nrefGrant n m tlvs)

/-- NREF_NEGOTIATION_TIMEOUT (R445). -/
def execNrefNegotiationTimeout (n : Nat) (s : State) : Host.Outcome State Fault Refusal :=
  .next (s.during (s.serves .proto) fun d => d.nrefTimeout n)

/-- NREF_FAULT_RETRY (R445). -/
def execNrefFaultRetry (n : Nat) (s : State) : Host.Outcome State Fault Refusal :=
  .next (s.during (s.serves .proto) fun d => d.nrefRetry n)

/-- NREF_RENEWAL (R445). -/
def execNrefRenewal (n : Nat) (type : Nat) (s : State) : Host.Outcome State Fault Refusal :=
  .next (s.during (s.serves .proto) fun d => d.nrefRenewal n type)

/-- NREF_GRANT_LOSS (R445). -/
def execNrefGrantLoss (n : Nat) (type : Nat) (cancelled : Bool) (s : State) : Host.Outcome State Fault Refusal :=
  .next (s.during (s.serves .proto) fun d => d.nrefLoss n type cancelled)

/-- NREF_SYNC_RECEIVE (R446, R447). -/
def execNrefSyncReceive (n : Nat) (m : PtpRx) (followUp : Bool) (twoStep : Bool) (t1 : Nat) (bound : Option BoundTlv)
    (s : State) : Host.Outcome State Fault Refusal :=
  .next (s.duringAt (s.serves .net && s.dev.powered .proto) (s.arrival m.rx) fun d => d.nrefSync n m followUp twoStep t1 bound)

/-- NREF_DELAY_RESP_RECEIVE (R446 to R448). -/
def execNrefDelayRespReceive (n : Nat) (m : PtpRx) (t4 : Nat) (s : State) : Host.Outcome State Fault Refusal :=
  .next (s.duringAt (s.serves .net && s.dev.powered .proto) (s.arrival m.rx) fun d => d.nrefDelayResp n m t4)

/-- NREF_ANNOUNCE_RECEIVE (R449). -/
def execNrefAnnounceReceive (n : Nat) (m : PtpRx) (a : AnnounceRx) (bound : Option BoundTlv)
    (s : State) : Host.Outcome State Fault Refusal :=
  .next (s.duringAt (s.serves .net && s.dev.powered .proto) (s.arrival m.rx) fun d => d.nrefAnnounce n m a bound)

/-- CRYPTO_LANE_RELEASE (R54). -/
def execCryptoLaneRelease (h : Head) (v : Value) (s : State) : Host.Outcome State Fault Refusal :=
  .next (s.onDev fun d => d.command h Dict.cryptoLaneRelease v)

/-- CLIENT_DELETE (R466). -/
def execClientDelete (h : Head) (v : Value) (s : State) : Host.Outcome State Fault Refusal :=
  .next (s.onDev fun d => d.command h Dict.clientDelete v)

/-- PROTO_COUNTERS_CLEAR (R466). -/
def execProtoCountersClear (h : Head) (v : Value) (s : State) : Host.Outcome State Fault Refusal :=
  .next (s.onDev fun d => d.command h Dict.protoCountersClear v)

end Sys2Proof.Machine
end

