-- ==== Sys2Proof/Machine/QuelysRows.lean ====
section
/-!
DEFINITION. Quelys Object Protocol: the meanings of the rows of this family.
-/
namespace Sys2Proof.Machine

/-- OPEN (R68 to R73). -/
def execQopOpen (h : Head) (level : Nat) (keyRef : Nat) (hostNonce : Nat) (s : State) : Host.Outcome State Fault Refusal :=
  .next (s.onDev fun d => d.qopOpen h level keyRef hostNonce)

/-- PROVE (R69, R70, R74). -/
def execQopProve (h : Head) (s : State) : Host.Outcome State Fault Refusal :=
  .next (s.onDev fun d => d.qopProve h)

/-- CHALLENGE_TIMEOUT (R71). -/
def execChallengeTimeout (slot : Nat) (s : State) : Host.Outcome State Fault Refusal :=
  .next (s.onDev fun d => d.challengeTimeout slot)

/-- READ (R61, R65, R66). -/
def execQopRead (h : Head) (l : List (Nat × Nat)) (s : State) : Host.Outcome State Fault Refusal :=
  .next (s.onDev fun d => d.request h (.read l))

/-- WRITE (R38, R39, R65). -/
def execQopWrite (h : Head) (items : List Item) (s : State) : Host.Outcome State Fault Refusal :=
  .next (s.onDev fun d => d.request h (.write items))

/-- SUBSCRIBE (R85, R86). -/
def execQopSubscribe (h : Head) (subType : Nat) (period : Nat) (sel : Selection)
    (s : State) : Host.Outcome State Fault Refusal :=
  .next (s.onDev fun d => d.request h (.subscribe subType period sel))

/-- UNSUBSCRIBE (R64). -/
def execQopUnsubscribe (h : Head) (id : Nat) (s : State) : Host.Outcome State Fault Refusal :=
  .next (s.onDev fun d => d.request h (.unsubscribe id))

/-- KEEPALIVE (R64). -/
def execQopKeepalive (h : Head) (s : State) : Host.Outcome State Fault Refusal :=
  .next (s.onDev fun d => d.request h .keepalive)

/-- CLOSE (R64). -/
def execQopClose (h : Head) (s : State) : Host.Outcome State Fault Refusal :=
  .next (s.onDev fun d => d.request h .close)

/-- IDLE_TIMEOUT (R76). -/
def execIdleTimeout (slot : Nat) (s : State) : Host.Outcome State Fault Refusal :=
  .next (s.onDev fun d => d.idleTimeout slot)

/-- NOTIFY_PERIODIC (R86, R87). -/
def execNotifyPeriodic (slot : Nat) (id : Nat) (s : State) : Host.Outcome State Fault Refusal :=
  .next (s.during (s.serves .ctrl) fun d => d.notifyPeriodic slot id)

/-- NOTIFY_EVENT (R86, R89). -/
def execNotifyEvent (slot : Nat) (id : Nat) (s : State) : Host.Outcome State Fault Refusal :=
  .next (s.during (s.serves .ctrl) fun d => d.notifyEvent slot id)

/-- SPI_FRAME_ABORT (R83). -/
def execSpiFrameAbort (s : State) : Host.Outcome State Fault Refusal :=
  .next (s.during (s.dev.powered .ctrl) fun d => d.spiDiscard)

/-- SEQ_STATS_CLEAR (R40). -/
def execSeqStatsClear (h : Head) (v : Value) (s : State) : Host.Outcome State Fault Refusal :=
  .next (s.onDev fun d => d.command h Dict.seqStatsClear v)

/-- QOP_COUNTERS_CLEAR (R98). -/
def execQopCountersClear (h : Head) (v : Value) (s : State) : Host.Outcome State Fault Refusal :=
  .next (s.onDev fun d => d.command h Dict.qopCountersClear v)

/-- MGT_ADDRESS_WRITE (R98). -/
def execMgtAddressWrite (h : Head) (items : List Item) (s : State) : Host.Outcome State Fault Refusal :=
  .next (s.onDev fun d => d.request h (.write items))

/-- OUTBOUND_FRAME_SHIFTED_OUT (R84). -/
def execOutboundFrameShiftedOut (s : State) : Host.Outcome State Fault Refusal :=
  .next (s.during (s.dev.powered .ctrl) fun d => d.spiShifted)

/-- HOST_SPI_NOISE_FRAME (R83). -/
def execHostSpiNoiseFrame (s : State) : Host.Outcome State Fault Refusal :=
  .next (s.during (s.dev.powered .ctrl) fun d => d.spiDiscard)

end Sys2Proof.Machine
end

