-- ==== Sys2Proof/Machine/ReceiverRows.lean ====
section
/-!
DEFINITION. Satellite receiver: the meanings of the rows of this family.
-/
namespace Sys2Proof.Machine

/-- GNSS_STATE_EVALUATE (R301, R325, R326). -/
def execGnssStateEvaluate (sec : GnssSecond) (s : State) : Host.Outcome State Fault Refusal :=
  .next (s.during (s.serves .time) fun d => d.gnssEvaluate sec)

/-- CHANNEL_ALLOCATION (R298, R299). -/
def execChannelAllocation (sky : List SkySat) (s : State) : Host.Outcome State Fault Refusal :=
  .next (s.during (s.serves .gnss) fun d => d.allocateChannels sky)

/-- SAMPLE_CLOCK_FAULT (R296). -/
def execSampleClockFault (b : Nat) (s : State) : Host.Outcome State Fault Refusal :=
  .next (s.during (s.serves .gnss) fun d => d.sampleClockFault b)

/-- GNSS_SOLUTION (R301 to R310). -/
def execGnssSolution (e : GnssEpoch) (s : State) : Host.Outcome State Fault Refusal :=
  .next (s.during (s.serves .gnss) fun d => d.gnssSolution e)

/-- G0_RECORD_POST (R311). -/
def execG0RecordPost (s : State) : Host.Outcome State Fault Refusal :=
  .next (s.during (s.serves .gnss) fun d => d.postRecord)

/-- POSITION_CHECK (R314; in 0.1 mm). -/
def execPositionCheck (x : Int) (y : Int) (z : Int) (s : State) : Host.Outcome State Fault Refusal :=
  .next (s.during (s.serves .gnss) fun d => d.positionCheck (x, y, z))

/-- NOTCH_ENGAGE (R323, R324). -/
def execNotchEngage (b : Nat) (hz : Int) (s : State) : Host.Outcome State Fault Refusal :=
  .next (s.during (s.serves .gnss) fun d => d.notchEngage b hz)

/-- NOTCH_DISENGAGE (R324). -/
def execNotchDisengage (b : Nat) (k : Nat) (s : State) : Host.Outcome State Fault Refusal :=
  .next (s.during (s.serves .gnss) fun d => d.notchDisengage b k)

/-- OSNMA_TAG_VERIFY (R318 to R320). -/
def execOsnmaTagVerify (t : OsnmaTag) (s : State) : Host.Outcome State Fault Refusal :=
  .next (s.during (s.serves .gnss) fun d => d.osnmaVerify t)

/-- DSM_PKR_RECEIVE (R319). -/
def execDsmPkrReceive (keyId : Nat) (material : List Nat) (proof : List Nat)
    (s : State) : Host.Outcome State Fault Refusal :=
  .next (s.during (s.serves .gnss) fun d => d.dsmPkr keyId material proof)

/-- TRUSTED_TIME_UPDATE (R321, R322). -/
def execTrustedTimeUpdate (s : State) : Host.Outcome State Fault Refusal :=
  .next (s.during (s.serves .time) fun d => d.trustedSecond)

/-- GNSS_RELEASE (R301). -/
def execGnssRelease (h : Head) (v : Value) (s : State) : Host.Outcome State Fault Refusal :=
  .next (s.onDev fun d => d.command h Dict.gnssRelease v)

/-- GNSS_SURVEY_RESTART (R301, R303). -/
def execGnssSurveyRestart (h : Head) (v : Value) (s : State) : Host.Outcome State Fault Refusal :=
  .next (s.onDev fun d => d.command h Dict.gnssSurveyRestart v)

/-- GNSS_TRUSTED_TIME_SET (R321). -/
def execGnssTrustedTimeSet (h : Head) (v : Value) (s : State) : Host.Outcome State Fault Refusal :=
  .next (s.onDev fun d => d.command h Dict.gnssTrustedTimeSet v)

/-- GNSS_BANK_RELEASE (R336). -/
def execGnssBankRelease (h : Head) (v : Value) (s : State) : Host.Outcome State Fault Refusal :=
  .next (s.onDev fun d => d.command h Dict.gnssBankRelease v)

end Sys2Proof.Machine
end

