-- ==== Sys2Proof/Machine/RedundancyRows.lean ====
section
/-!
DEFINITION. Keeper and Skovwin: the meanings of the rows of this family.
-/
namespace Sys2Proof.Machine

/-- BEAT_RECEIVE (R514, R515, R517). -/
def execBeatReceive (p : SkPacket) (b : Beat) (s : State) : Host.Outcome State Fault Refusal :=
  .next (s.during (s.serves .net) fun d => d.beatReceive p b)

/-- REPLICATION_PACKET (R514, R519). -/
def execReplicationPacket (p : SkPacket) (x : Replication) (s : State) : Host.Outcome State Fault Refusal :=
  .next (s.during (s.serves .net) fun d => d.replicationPacket p x)

/-- KHOLD_INPUT_CHANGE (R528 to R530; the levels of KHOLD_I and KHOLD_IB). -/
def execKholdInputChange (high : Bool) (inverse : Bool) (s : State) : Host.Outcome State Fault Refusal :=
  .next (s.during (s.serves .time) fun d => d.kholdInput high inverse)

/-- KEEPER_TAKEOVER (R532, R533). -/
def execKeeperTakeover (s : State) : Host.Outcome State Fault Refusal :=
  .next (s.during (s.serves .time) fun d => d.takeover)

/-- KEEPER_START_WAIT_EXPIRY (R533). -/
def execKeeperStartWaitExpiry (s : State) : Host.Outcome State Fault Refusal :=
  .next (s.during (s.serves .time) fun d => d.startWaitExpiry)

/-- HAND_OVER_RELEASE (R533): the instant 4 µs before HandOverAt falls in the frame that runs. -/
def execHandOverRelease (s : State) : Host.Outcome State Fault Refusal :=
  .next (s.duringAt (s.serves .time && decide (s.dev.get Hid.handOverAt ≤ s.clock.boundary + 4000 * unitsPerNs))
    (max s.start (s.dev.get Hid.handOverAt - 4000 * unitsPerNs)) fun d => d.handOverRelease)

/-- HAND_OVER_AT (R533): HandOverAt falls in the frame that runs. -/
def execHandOverAt (s : State) : Host.Outcome State Fault Refusal :=
  .next (s.duringAt (s.serves .time && decide (s.dev.get Hid.handOverAt ≤ s.clock.boundary))
    (max s.start (s.dev.get Hid.handOverAt)) fun d => d.handOverReached)

/-- HAND_OVER_ABANDON (R542). -/
def execHandOverAbandon (s : State) : Host.Outcome State Fault Refusal :=
  .next (s.during (s.serves .time) fun d => d.handOverAbandon)

/-- REVERT_HOLD_EXPIRY (R542). -/
def execRevertHoldExpiry (s : State) : Host.Outcome State Fault Refusal :=
  .next (s.during (s.serves .time) fun d => d.revertExpiry)

/-- KEEPER_SWITCHOVER (R542). -/
def execKeeperSwitchover (h : Head) (v : Value) (s : State) : Host.Outcome State Fault Refusal :=
  .next (s.onDev fun d => d.command h Dict.keeperSwitchover v)

/-- KEEPER_REJOIN (R533). -/
def execKeeperRejoin (h : Head) (v : Value) (s : State) : Host.Outcome State Fault Refusal :=
  .next (s.onDev fun d => d.command h Dict.keeperRejoin v)

/-- ADDRESS_ANNOUNCE (R545). -/
def execAddressAnnounce (s : State) : Host.Outcome State Fault Refusal :=
  .next (s.during (s.serves .net) fun d => d.addressAnnounce)

/-- SKOVWIN_CAL_DONE (R520, R521). -/
def execSkovwinCalDone (m : Nat) (lane : Option LaneDelays) (distribution : Int)
    (s : State) : Host.Outcome State Fault Refusal :=
  .next (s.during (s.serves .net) fun d => d.skovwinCalDone m lane distribution)

/-- SKOVWIN_PORT_UP (R520). -/
def execSkovwinPortUp (m : Nat) (s : State) : Host.Outcome State Fault Refusal :=
  .next (s.during (s.serves .net) fun d => d.skovwinPortUp m)

/-- SKOVWIN_LINK_DOWN (R520). -/
def execSkovwinLinkDown (m : Nat) (loss : Bool) (s : State) : Host.Outcome State Fault Refusal :=
  .next (s.during (s.serves .net) fun d => d.skovwinLinkDown m loss)

/-- SK_FAULT_CLEAR (R520). -/
def execSkFaultClear (h : Head) (m : Nat) (v : Value) (s : State) : Host.Outcome State Fault Refusal :=
  .next (s.onDev fun d => d.command h (Dict.skFaultClear m) v)

/-- SK_RELEASE (R54). -/
def execSkRelease (h : Head) (m : Nat) (v : Value) (s : State) : Host.Outcome State Fault Refusal :=
  .next (s.onDev fun d => d.command h (Dict.skRelease m) v)

end Sys2Proof.Machine
end

