-- ==== Sys2Proof/Machine/ResetRows.lean ====
section
/-!
DEFINITION. Reset, start-up and low-power states: the meanings of the rows of this family.
-/
namespace Sys2Proof.Machine

/-- DICTIONARY_COMMAND_RESET (R97, R583). -/
def execDictionaryCommandReset (s : State) : Host.Outcome State Fault Refusal :=
  .next (s.onDev fun d => d.commandReset)

/-- POWER_ON_RESET (R583, R584): every domain is reset; the memories lose what they held, but the NV store (R592). -/
def execPowerOnReset (cascId : Nat) (keepPref pinLow : Bool) (s : State) : Host.Outcome State Fault Refusal :=
  .next ((s.onDev fun d => d.powerOnReset cascId keepPref pinLow).fill)

/-- SUPPLY_RESET (R583). -/
def execSupplyReset (s : State) : Host.Outcome State Fault Refusal :=
  .next (s.onDev fun d => d.beginReset 1)

/-- PIN_RESET (R583). -/
def execPinReset (s : State) : Host.Outcome State Fault Refusal :=
  .next (s.onDev fun d => d.pinReset)

/-- WATCHDOG_RESET (R583, R719). -/
def execWatchdogReset (s : State) : Host.Outcome State Fault Refusal :=
  .next (s.onDev fun d => d.watchdogReset)

/-- DOMAIN_POWER_GOOD (R556; domains by their bit (R595)). -/
def execDomainPowerGood (x : Nat) (s : State) : Host.Outcome State Fault Refusal :=
  .next (s.onDev fun d => d.domainPowerGood (Domain.ofBit x))

/-- START_UP_TEST_END (R666, R667). -/
def execStartUpTestEnd (x : TestResults) (s : State) : Host.Outcome State Fault Refusal :=
  .next (s.onDev fun d => d.startUpTestEnd x)

/-- DRAM_TRAINING_DONE (R607, R608). -/
def execDramTrainingDone (first : Bool) (second : Bool) (selfCheck : Bool) (s : State) : Host.Outcome State Fault Refusal :=
  .next (s.onDev fun d => d.dramTrainingDone first second selfCheck)

/-- FILL_COMPLETE (R606): where a fill is under way it ends: the memories hold zero, and in a start the processors run. -/
def execFillComplete (micros : Nat) (s : State) : Host.Outcome State Fault Refusal :=
  .next (if (s.begin s.start).fillEnds then (s.onDev fun d => d.fillComplete micros).fill else s.quiet)

/-- BOOT_COUNT_COMMIT (R668, R671). -/
def execBootCountCommit (ok : Bool) (s : State) : Host.Outcome State Fault Refusal :=
  .next (s.onDev fun d => d.bootCountCommit ok)

/-- FIRST_FRAME_OF_TIME_SERVICE (R94, R588): after the boot count, the stored configuration is applied and frames start. -/
def execFirstFrame (bootMicros coarseNs : Nat) (s : State) : Host.Outcome State Fault Refusal :=
  .next (if s.dev.get Hid.bootPhase == 4 && s.dev.powered .time then s.serviceStart bootMicros coarseNs else s.quiet)

/-- RUN (R589). -/
def execRun (h : Head) (s : State) : Host.Outcome State Fault Refusal :=
  .next (s.onDev fun d => d.command h Dict.powerStateRequest ⟨1, 0⟩)

/-- WARM_HOLD (R589). -/
def execWarmHold (h : Head) (s : State) : Host.Outcome State Fault Refusal :=
  .next (s.onDev fun d => d.command h Dict.powerStateRequest ⟨1, 1⟩)

/-- DEEP_HOLD (R589). -/
def execDeepHold (h : Head) (s : State) : Host.Outcome State Fault Refusal :=
  .next (s.onDev fun d => d.command h Dict.powerStateRequest ⟨1, 2⟩)

/-- WAKE (R588, R589). -/
def execWake (pin : Bool) (ns : Nat) (s : State) : Host.Outcome State Fault Refusal :=
  .next (s.onDev fun d => d.wake pin ns)

/-- START_SERVICE_RELEASE (R685). -/
def execStartServiceRelease (h : Head) (v : Value) (s : State) : Host.Outcome State Fault Refusal :=
  .next (s.onDev fun d => d.command h Dict.startServiceRelease v)

/-- RESET_RELEASE (R700, R701). -/
def execResetRelease (s : State) : Host.Outcome State Fault Refusal :=
  .next (s.onDev fun d => d.resetRelease)

end Sys2Proof.Machine
end

