-- ==== Sys2Proof/Machine/SelectionRows.lean ====
section
/-!
DEFINITION. References and Watershed selection: the meanings of the rows of this family.
-/
namespace Sys2Proof.Machine

/-- WAITING_TIMER_EXPIRY (R194, R195). -/
def execWaitingTimerExpiry (ref : Nat) (s : State) : Host.Outcome State Fault Refusal :=
  .next (s.during (s.serves .time) fun d => d.waitingExpiry ref)

/-- HANDOVER_WINDOW_CLOSE (R203, R221, R230). -/
def execHandoverWindowClose (s : State) : Host.Outcome State Fault Refusal :=
  .next (s.during (s.serves .time) fun d => d.closeWindow.stateRowsNow)

/-- WATERSHED_FORCED_REF (R202). -/
def execWatershedForcedRef (h : Head) (v : Value) (s : State) : Host.Outcome State Fault Refusal :=
  .next (s.onDev fun d => d.command h Dict.watershedForcedRef v)

/-- WATERSHED_STATS_CLEAR (R215). -/
def execWatershedStatsClear (h : Head) (v : Value) (s : State) : Host.Outcome State Fault Refusal :=
  .next (s.onDev fun d => d.command h Dict.watershedStatsClear v)

end Sys2Proof.Machine
end

