-- ==== Sys2Proof/Machine/Tap.lean ====
section
/-!
DEFINITION. The test access port (R695): the controller of IEEE 1149.1, its instructions, and the forcing to BYPASS.

What IEEE 1149.1 fixes beside R695 (the controller, the all-ones code of BYPASS, the 01 that the instruction register captures, IDCODE
after reset) is that standard's (PRESUMED, log entry 121).
-/
namespace Sys2Proof.Machine

/-- The next state of the controller at a rising edge of TCK. -/
def TapState.next (s : TapState) (tms : Bool) : TapState :=
  let pick (one zero : TapState) : TapState := if tms then one else zero
  match s with
  | .testLogicReset => pick .testLogicReset .runTestIdle
  | .runTestIdle => pick .selectDr .runTestIdle
  | .selectDr => pick .selectIr .captureDr
  | .captureDr => pick .exit1Dr .shiftDr
  | .shiftDr => pick .exit1Dr .shiftDr
  | .exit1Dr => pick .updateDr .pauseDr
  | .pauseDr => pick .exit2Dr .pauseDr
  | .exit2Dr => pick .updateDr .shiftDr
  | .updateDr => pick .selectDr .runTestIdle
  | .selectIr => pick .testLogicReset .captureIr
  | .captureIr => pick .exit1Ir .shiftIr
  | .shiftIr => pick .exit1Ir .shiftIr
  | .exit1Ir => pick .updateIr .pauseIr
  | .pauseIr => pick .exit2Ir .pauseIr
  | .exit2Ir => pick .updateIr .shiftIr
  | .updateIr => pick .selectDr .runTestIdle

/-- IDCODE (R695): version, part, manufacturer, and the closing 1. -/
abbrev tapIdcode : Nat := 0x2744056F

/-- So many bits of a number, least significant first. -/
def bitsOf (n v : Nat) : List Bool := (List.range n).map fun i => v.testBit i

/-- The number whose bits these are, least significant first. -/
def ofBits (l : List Bool) : Nat := l.foldr (fun b a => 2 * a + (if b then 1 else 0)) 0

/-- The instruction that a code names; all ones, and every code of none, BYPASS. -/
def tapInstructionOf (code : Nat) : TapInstruction :=
  if code = 2 ^ Config.tapBits - 1 then .bypass
  else if code = Config.tapCode 0 then .idcode
  else if code = Config.tapCode 1 then .samplePreload
  else if code = Config.tapCode 2 then .extest
  else .bypass

/-- The rows of R693's pin groups that stand in the boundary-scan register (R695): not the analogue pins (MOSC, the crystal, the loop
filter, the reference resistors), SerDes and LPDDR5X, and not the port's own pins. -/
def scannedGroup (row : Nat) : Bool := !([5, 6, 7, 12, 13, 14, 24, 25, 27, 28].contains row)

/-- The cells of the boundary-scan register. -/
def boundaryCells : List Nat := Config.boundaryCells.filter scannedGroup

namespace Dev

/-- The instruction as it acts (R695): in Service and Retired every one but BYPASS and IDCODE acts as BYPASS. -/
def tapActs (d : Dev) : TapInstruction :=
  match d.tap.instruction with
  | .bypass => .bypass
  | .idcode => .idcode
  | i => if d.lifeCycle = 2 ∨ d.lifeCycle = 4 then .bypass else i

/-- EXTEST drives the pins from the latches of the boundary cells. -/
def tapDrives (d : Dev) : Bool := d.tapActs == .extest

/-- What the data register that is selected captures: the level at each boundary cell is what stands at its pin, a free value. -/
def tapCapture (d : Dev) : List Bool :=
  match d.tapActs with
  | .bypass => [false]
  | .idcode => bitsOf 32 tapIdcode
  | _ => (List.range boundaryCells.length).map fun i => (d.freeNat (1024 + i)) % 2 == 1

/-- The register between TDI and TDO moves by one bit. -/
def tapShift (d : Dev) (tdi : Bool) : Dev := { d with tap := { d.tap with shift := d.tap.shift.drop 1 ++ [tdi] } }

/-- What the state that is left does at the rising edge of TCK. -/
def tapLeave (d : Dev) (tdi : Bool) : Dev :=
  match d.tap.state with
  | .captureDr => { d with tap := { d.tap with shift := d.tapCapture } }
  | .captureIr => { d with tap := { d.tap with shift := bitsOf Config.tapBits 1 } }
  | .shiftDr => d.tapShift tdi
  | .shiftIr => d.tapShift tdi
  | _ => d

/-- What the state that is entered does. -/
def tapEnter (d : Dev) (s : TapState) : Dev :=
  let d := { d with tap := { d.tap with state := s } }
  match s with
  | .testLogicReset => { d with tap := { d.tap with instruction := .idcode } }
  | .updateIr => { d with tap := { d.tap with instruction := tapInstructionOf (ofBits d.tap.shift) } }
  | .updateDr =>
    match d.tapActs with
    | .samplePreload => { d with tap := { d.tap with boundary := d.tap.shift } }
    | .extest => { d with tap := { d.tap with boundary := d.tap.shift } }
    | _ => d
  | _ => d

/-- The bit that TDO shows while a register shifts; high impedance else (R693). -/
def tapOut (d : Dev) : List Bool :=
  if d.tap.state = .shiftDr ∨ d.tap.state = .shiftIr then d.tap.shift.take 1 else []

/-- One edge on the port. -/
def tapEdge (d : Dev) (e : TapEdge) : Dev :=
  if e.reset then { d with tap := .reset } else (d.tapLeave e.tdi).tapEnter (d.tap.state.next e.tms)

/-- The edges on the port, and the bits that TDO has shown. -/
def tapEdges (d : Dev) : List TapEdge → Dev × List Bool
  | [] => (d, [])
  | e :: l =>
    let (d', bits) := (d.tapEdge e).tapEdges l
    (d', (if e.reset then [] else d.tapOut) ++ bits)

/-- The port's pins over a frame (R695). The port runs in every state of the device. -/
def tapPins (d : Dev) (l : List TapEdge) : Dev :=
  if l.isEmpty then d
  else
    let (d, bits) := d.tapEdges l
    if bits.isEmpty then d else d.out (.tdo bits)

end Dev

end Sys2Proof.Machine
end

