-- ==== Sys2Proof/Machine/SequencerRows.lean ====
section
/-!
DEFINITION. Sequencer and timescale: the meanings of the rows of this family.
-/
namespace Sys2Proof.Machine

/-- FRAME_START (R33 to R42): the counter reaches the frame boundary and the sequencer runs the frame's slots; the test access port
runs beside it (R695). -/
def execFrameStart (inp : FrameInput) (s : State) : Host.Outcome State Fault Refusal :=
  let t := if s.inService then s.runFrame inp else s.quiet
  .next { t with dev := t.dev.tapPins inp.tap }

/-- SEQUENCER_OVERRUN (R44). -/
def execSequencerOverrun (slot : Nat) (s : State) : Host.Outcome State Fault Refusal :=
  .next (s.during (s.serves .time) fun d => d.sequencerOverrun slot s.nextFrameNumber)

/-- STEP_APPLY (R109, R112): a pending step reaches its frame start. -/
def execStepApply (s : State) : Host.Outcome State Fault Refusal :=
  .next (if s.inService && s.jumpDue false then
    ({ s with dev := { s.dev with emit := [], free := s.dev.free + 1 } } : State).reach.dueJump else s.quiet)

/-- SET_APPLY (R110, R112): a pending set reaches its frame start. -/
def execSetApply (s : State) : Host.Outcome State Fault Refusal :=
  .next (if s.inService && s.jumpDue true then
    ({ s with dev := { s.dev with emit := [], free := s.dev.free + 1 } } : State).reach.dueJump else s.quiet)

/-- LEAP_APPLIED (R118): the timescale reaches LeapTime in the frame that runs. -/
def execLeapApplied (s : State) : Host.Outcome State Fault Refusal :=
  .next (s.duringAt (s.serves .time && s.dev.leapDue (s.clock.boundary - 1)) (max s.start (ofTime96 (s.dev.get Dict.leapTime)))
    fun d => d.applyLeap)

end Sys2Proof.Machine
end

