-- ==== Sys2Proof/Machine/ServiceRows.lean ====
section
/-!
DEFINITION. Self-test, lifetime records and performance counters: the meanings of the rows of this family.
-/
namespace Sys2Proof.Machine

/-- SHUTDOWN_REQUEST (R586, R659). -/
def execShutdownRequest (s : State) : Host.Outcome State Fault Refusal :=
  .next (s.onDev fun d => d.shutdownRequest)

/-- SHUTDOWN_COMMITTING (R659). -/
def execShutdownCommitting (s : State) : Host.Outcome State Fault Refusal :=
  .next (s.onDev fun d => d.shutdownCommitting)

/-- SHUTDOWN_TESTING (R663, R664). -/
def execShutdownTesting (x : TestResults) (s : State) : Host.Outcome State Fault Refusal :=
  .next (s.onDev fun d => d.shutdownTesting x)

/-- SHUTDOWN_RECORDING (R659, R665). -/
def execShutdownRecording (micros : Nat) (ok : Bool) (s : State) : Host.Outcome State Fault Refusal :=
  .next (s.onDev fun d => d.shutdownRecording micros ok)

/-- SHUTDOWN_TRUNCATE (R660). -/
def execShutdownTruncate (tested : Nat) (micros : Nat) (ok : Bool) (s : State) : Host.Outcome State Fault Refusal :=
  .next (s.onDev fun d => d.shutdownTruncate tested micros ok)

/-- LIFETIME_COMMIT (R671). -/
def execLifetimeCommit (ok : Bool) (s : State) : Host.Outcome State Fault Refusal :=
  .next (s.onDev fun d => d.lifetimeCommit ok)

/-- PC_WINDOW_CLOSE (R675). -/
def execPcWindowClose (n : Nat) (s : State) : Host.Outcome State Fault Refusal :=
  .next (s.during (s.serves .time) fun d => d.pcWindowClose n)

/-- PC_CONFIGURATION_WRITE (R674, R675). -/
def execPcConfigurationWrite (h : Head) (items : List Item) (s : State) : Host.Outcome State Fault Refusal :=
  .next (s.onDev fun d => d.request h (.write items))

/-- PC_SNAPSHOT (R676). -/
def execPcSnapshot (h : Head) (v : Value) (s : State) : Host.Outcome State Fault Refusal :=
  .next (s.onDev fun d => d.command h Dict.pcSnapshot v)

/-- PC_CLEAR_ALL (R676). -/
def execPcClearAll (h : Head) (v : Value) (s : State) : Host.Outcome State Fault Refusal :=
  .next (s.onDev fun d => d.command h Dict.pcClearAll v)

/-- PC_CLEAR (R676). -/
def execPcClear (h : Head) (n : Nat) (v : Value) (s : State) : Host.Outcome State Fault Refusal :=
  .next (s.onDev fun d => d.command h (Dict.pcClear n) v)

end Sys2Proof.Machine
end

