-- ==== Sys2Proof/Machine/SteeringRows.lean ====
section
/-!
DEFINITION. Servo, steering and oscillator model: the meanings of the rows of this family.
-/
namespace Sys2Proof.Machine

/-- DWELL_COMPLETE (R221, R228). -/
def execDwellComplete (s : State) : Host.Outcome State Fault Refusal :=
  .next (s.during (s.serves .time) fun d => d.dwellComplete)

/-- SERVO_UNLOCK (R221). -/
def execServoUnlock (s : State) : Host.Outcome State Fault Refusal :=
  .next (s.during (s.serves .time) fun d => d.servoUnlock)

/-- STEER_UPDATE (R233 to R236). -/
def execSteerUpdate (s : State) : Host.Outcome State Fault Refusal :=
  .next (s.during (s.serves .time) fun d => d.steerUpdate)

/-- STEER_REPLY (R238). -/
def execSteerReply (octets : List Nat) (s : State) : Host.Outcome State Fault Refusal :=
  .next (s.during (s.serves .time) fun d => d.steerReply octets)

/-- STEER_REPLY_TIMEOUT (R238). -/
def execSteerReplyTimeout (s : State) : Host.Outcome State Fault Refusal :=
  .next (s.during (s.serves .time) fun d => d.steerTimeout)

/-- OSC_MODEL_FIT (R240 to R242). -/
def execOscModelFit (s : State) : Host.Outcome State Fault Refusal :=
  .next (s.during (s.serves .time) fun d => d.oscFit)

/-- OSC_MODEL_RESET (R242). -/
def execOscModelReset (h : Head) (v : Value) (s : State) : Host.Outcome State Fault Refusal :=
  .next (s.onDev fun d => d.command h Dict.oscModelReset v)

end Sys2Proof.Machine
end

