-- ==== Sys2Proof/Machine/StoreRows.lean ====
section
/-!
DEFINITION. Configuration store: the meanings of the rows of this family.
-/
namespace Sys2Proof.Machine

/-- DEVICE_RESET (R97). -/
def execDeviceReset (h : Head) (v : Value) (s : State) : Host.Outcome State Fault Refusal :=
  .next (s.onDev fun d => d.command h Dict.deviceReset v)

/-- STORE_COMMIT (R90). -/
def execStoreCommit (h : Head) (v : Value) (s : State) : Host.Outcome State Fault Refusal :=
  .next (s.onDev fun d => d.command h Dict.storeCommit v)

/-- STORE_COMMIT_DONE (R90, R91). -/
def execStoreCommitDone (ok : Bool) (s : State) : Host.Outcome State Fault Refusal :=
  .next (s.during (s.dev.powered .ctrl) fun d => d.storeCommitDone ok)

/-- STORE_REVERT (R96). -/
def execStoreRevert (h : Head) (v : Value) (s : State) : Host.Outcome State Fault Refusal :=
  .next (s.onDev fun d => d.command h Dict.storeRevert v)

/-- STORE_ERASE (R96). -/
def execStoreErase (h : Head) (v : Value) (s : State) : Host.Outcome State Fault Refusal :=
  .next (s.onDev fun d => d.command h Dict.storeErase v)

end Sys2Proof.Machine
end

