-- ==== Sys2Proof/Machine/SupervisionRows.lean ====
section
/-!
DEFINITION. Referee: the meanings of the rows of this family.
-/
namespace Sys2Proof.Machine

/-- PAIR_FAULT (R630, R641; sources with the capture of a source that no checker of the model presents). -/
def execPairFault (l : List (Nat × Nat)) (s : State) : Host.Outcome State Fault Refusal :=
  .next (s.onDev fun d => d.pairFaults l)

/-- REACTION_WINDOW_CLOSE (R642). -/
def execReactionWindowClose (s : State) : Host.Outcome State Fault Refusal :=
  .next (s.onDev fun d => d.closeWindows)

/-- RAIL_FAULT (R632). -/
def execRailFault (n : Nat) (levels : Nat) (s : State) : Host.Outcome State Fault Refusal :=
  .next (s.onDev fun d => d.railFault n levels false true)

/-- RAIL_FAULT_END (R632). -/
def execRailFaultEnd (n : Nat) (s : State) : Host.Outcome State Fault Refusal :=
  .next (s.onDev fun d => d.railFaultEnd n)

/-- DOMAIN_RESTART (R638). -/
def execDomainRestart (x : Nat) (s : State) : Host.Outcome State Fault Refusal :=
  .next (s.onDev fun d => d.domainRestart (Domain.ofBit x))

/-- DOMAIN_RELEASE (R638). -/
def execDomainRelease (h : Head) (v : Value) (s : State) : Host.Outcome State Fault Refusal :=
  .next (s.onDev fun d => d.command h Dict.domainRelease v)

/-- EVT_ACKNOWLEDGE (R649). -/
def execEvtAcknowledge (h : Head) (v : Value) (s : State) : Host.Outcome State Fault Refusal :=
  .next (s.onDev fun d => d.command h Dict.evtAcknowledge v)

/-- EVT_CLEAR (R653). -/
def execEvtClear (h : Head) (n : Nat) (v : Value) (s : State) : Host.Outcome State Fault Refusal :=
  .next (s.onDev fun d => d.command h (Dict.evtClear n) v)

/-- REFEREE_CLEAR_ALL (R652). -/
def execRefereeClearAll (h : Head) (v : Value) (s : State) : Host.Outcome State Fault Refusal :=
  .next (s.onDev fun d => d.command h Dict.refereeClearAll v)

/-- FAULT_INJECT_CHECK_BIT (R650). -/
def execFaultInjectCheckBit (h : Head) (source : Nat) (count : Nat) (unit : Nat) (options : Nat)
    (s : State) : Host.Outcome State Fault Refusal :=
  .next (s.onDev fun d => d.command h Dict.faultInject ⟨5, source * 2 ^ 32 + 1 * 2 ^ 24 + count * 2 ^ 16 + unit * 2 ^ 8 + options⟩)

/-- FAULT_INJECT_PAIR (R650). -/
def execFaultInjectPair (h : Head) (source : Nat) (count : Nat) (unit : Nat) (options : Nat)
    (s : State) : Host.Outcome State Fault Refusal :=
  .next (s.onDev fun d => d.command h Dict.faultInject ⟨5, source * 2 ^ 32 + 2 * 2 ^ 24 + count * 2 ^ 16 + unit * 2 ^ 8 + options⟩)

/-- FAULT_INJECT_RAIL (R650). -/
def execFaultInjectRail (h : Head) (source : Nat) (count : Nat) (unit : Nat) (options : Nat)
    (s : State) : Host.Outcome State Fault Refusal :=
  .next (s.onDev fun d => d.command h Dict.faultInject ⟨5, source * 2 ^ 32 + 3 * 2 ^ 24 + count * 2 ^ 16 + unit * 2 ^ 8 + options⟩)

/-- PAIR_QUIET (R630). -/
def execPairQuiet (n : Nat) (s : State) : Host.Outcome State Fault Refusal :=
  .next (s.onDev fun d => d.pairQuiet n)

end Sys2Proof.Machine
end

