-- ==== Sys2Proof/Machine/SynthesisRows.lean ====
section
/-!
DEFINITION. Synthesisers and outputs: the meanings of the rows of this family.
-/
namespace Sys2Proof.Machine

/-- APLL0_LOCK (R221, R257). -/
def execApll0Lock (s : State) : Host.Outcome State Fault Refusal :=
  .next (s.during (s.dev.powered .time) fun d => d.apll0Locks.stateRowsNow)

/-- APLL0_LOCK_TIMEOUT (R257). -/
def execApll0LockTimeout (s : State) : Host.Outcome State Fault Refusal :=
  .next (s.during (s.dev.powered .time) fun d => d.apll0Timeout)

/-- APLL0_RETURN_TO_MOSC (R257, R571). -/
def execApll0ReturnToMosc (s : State) : Host.Outcome State Fault Refusal :=
  .next (s.during (s.dev.powered .time) fun d => d.apll0Return)

/-- APLL_BAND_FOUND (R261). -/
def execApllBandFound (a : Nat) (s : State) : Host.Outcome State Fault Refusal :=
  .next (s.during (s.dev.powered .synth) fun d => d.apllBandFound a)

/-- APLL_LOCK (R261, R265). -/
def execApllLock (a : Nat) (s : State) : Host.Outcome State Fault Refusal :=
  .next (s.during (s.dev.powered .synth) fun d => d.apllLocks a)

/-- APLL_LOCK_TIMEOUT (R261). -/
def execApllLockTimeout (a : Nat) (s : State) : Host.Outcome State Fault Refusal :=
  .next (s.during (s.dev.powered .synth) fun d => d.apllTimeout a)

/-- APLL_LOCK_LOSS (R261). -/
def execApllLockLoss (a : Nat) (s : State) : Host.Outcome State Fault Refusal :=
  .next (s.during (s.dev.powered .synth) fun d => d.apllLockLoss a)

/-- APLL_PLAN_WRITE (R259). -/
def execApllPlanWrite (h : Head) (items : List Item) (s : State) : Host.Outcome State Fault Refusal :=
  .next (s.onDev fun d => d.request h (.write items))

/-- OUTPUT_ACTIVITY_LOSS (R273; 0x30 + n a clock output, 0x40 + p a pulse output). -/
def execOutputActivityLoss (code : Nat) (s : State) : Host.Outcome State Fault Refusal :=
  .next (s.during (s.serves .synth) fun d => d.outputSilent code)

/-- ZTOD_SEND (R281): the start bit of the rendered message falls in the frame that runs. -/
def execZtodSend (m : Nat) (s : State) : Host.Outcome State Fault Refusal :=
  .next (s.duringAt (s.serves .synth && decide (s.dev.get (Hid.todReady m) ≤ s.clock.boundary))
    (max s.start (s.dev.get (Hid.todReady m) - 1)) fun d => d.todSend m)

/-- TODI_MESSAGE (R282, R284). -/
def execTodiMessage (k : Nat) (octets : List Nat) (s : State) : Host.Outcome State Fault Refusal :=
  .next (s.during (s.serves .time) fun d => d.todiMessage k octets)

/-- TODI_OCTET_GAP (R284). -/
def execTodiOctetGap (k : Nat) (s : State) : Host.Outcome State Fault Refusal :=
  .next (s.during (s.serves .time) fun d => d.todiGap k)

/-- APLL_RELEASE (R54, R261). -/
def execApllRelease (h : Head) (a : Nat) (v : Value) (s : State) : Host.Outcome State Fault Refusal :=
  .next (s.onDev fun d => d.command h (Dict.apllRelease a) v)

/-- OUT_REALIGN (R265). -/
def execOutRealign (h : Head) (n : Nat) (v : Value) (s : State) : Host.Outcome State Fault Refusal :=
  .next (s.onDev fun d => d.command h (Dict.outRealign n) v)

/-- OUT_RELEASE (R54). -/
def execOutRelease (h : Head) (n : Nat) (v : Value) (s : State) : Host.Outcome State Fault Refusal :=
  .next (s.onDev fun d => d.command h (Dict.outRelease n) v)

/-- PLS_RELEASE (R54). -/
def execPlsRelease (h : Head) (p : Nat) (v : Value) (s : State) : Host.Outcome State Fault Refusal :=
  .next (s.onDev fun d => d.command h (Dict.plsRelease p) v)

/-- PLS_PULSE_END (R271, R275): the pulse in progress completes PlsWidth in the frame that runs. -/
def execPlsPulseEnd (p : Nat) (s : State) : Host.Outcome State Fault Refusal :=
  let last := s.dev.get (Hid.plsEnd p)
  .next (s.duringAt (s.serves .synth && s.dev.is (Hid.plsHigh p) && decide (last ≤ s.clock.boundary)) (max s.start (last - 1)) fun d =>
    d.plsPulseEnd p)

end Sys2Proof.Machine
end

