-- ==== Sys2Proof/Machine/TrailRows.lean ====
section
/-!
DEFINITION. Audit trail: the meanings of the rows of this family.
-/
namespace Sys2Proof.Machine

/-- AUDIT_RECORD_STORE (R366 to R370). -/
def execAuditRecordStore (s : State) : Host.Outcome State Fault Refusal :=
  .next (s.during (s.serves .time) fun d => d.auditStore)

/-- AUDIT_RECORD_LOST (R368). -/
def execAuditRecordLost (s : State) : Host.Outcome State Fault Refusal :=
  .next (s.during (s.serves .time) fun d => d.auditLost)

/-- AUDIT_CHECKPOINT (R369). -/
def execAuditCheckpoint (s : State) : Host.Outcome State Fault Refusal :=
  .next (s.onDev fun d => d.auditCheckpoint)

/-- AUDIT_ARCHIVE_DAYS (R370). -/
def execAuditArchiveDays (h : Head) (v : Value) (s : State) : Host.Outcome State Fault Refusal :=
  .next (s.onDev fun d => d.command h Dict.auditArchiveDays v)

end Sys2Proof.Machine
end

