-- ==== Sys2Proof/Machine/Dispatch.lean ====
section
/-!
DEFINITION. Dispatch.lean: one arm per command, each one direct call of its meaning.
-/
namespace Sys2Proof.Machine

def exec (i : Instr) (s : State) : Host.Outcome State Fault Refusal :=
  match i with
  | .frameStart inp => Sys2Proof.Machine.execFrameStart inp s
  | .sequencerOverrun slot => Sys2Proof.Machine.execSequencerOverrun slot s
  | .stepApply => Sys2Proof.Machine.execStepApply s
  | .setApply => Sys2Proof.Machine.execSetApply s
  | .leapApplied => Sys2Proof.Machine.execLeapApplied s
  | .timerFire n => Sys2Proof.Machine.execTimerFire n s
  | .trgPulseEnd m => Sys2Proof.Machine.execTrgPulseEnd m s
  | .timerArm h n => Sys2Proof.Machine.execTimerArm h n s
  | .timerDisarm h n => Sys2Proof.Machine.execTimerDisarm h n s
  | .inputEdgeStamp c line cycle j f twin => Sys2Proof.Machine.execInputEdgeStamp c line cycle j f twin s
  | .windowMiss c => Sys2Proof.Machine.execWindowMiss c s
  | .twinSwap c => Sys2Proof.Machine.execTwinSwap c s
  | .calCollectionComplete unit line hist first temp volt => Sys2Proof.Machine.execCalCollectionComplete unit line hist first temp volt s
  | .calTimeout unit line => Sys2Proof.Machine.execCalTimeout unit line s
  | .waitingTimerExpiry ref => Sys2Proof.Machine.execWaitingTimerExpiry ref s
  | .handoverWindowClose => Sys2Proof.Machine.execHandoverWindowClose s
  | .dwellComplete => Sys2Proof.Machine.execDwellComplete s
  | .servoUnlock => Sys2Proof.Machine.execServoUnlock s
  | .steerUpdate => Sys2Proof.Machine.execSteerUpdate s
  | .steerReply octets => Sys2Proof.Machine.execSteerReply octets s
  | .steerReplyTimeout => Sys2Proof.Machine.execSteerReplyTimeout s
  | .oscModelFit => Sys2Proof.Machine.execOscModelFit s
  | .apll0Lock => Sys2Proof.Machine.execApll0Lock s
  | .apll0LockTimeout => Sys2Proof.Machine.execApll0LockTimeout s
  | .apll0ReturnToMosc => Sys2Proof.Machine.execApll0ReturnToMosc s
  | .apllBandFound a => Sys2Proof.Machine.execApllBandFound a s
  | .apllLock a => Sys2Proof.Machine.execApllLock a s
  | .apllLockTimeout a => Sys2Proof.Machine.execApllLockTimeout a s
  | .apllLockLoss a => Sys2Proof.Machine.execApllLockLoss a s
  | .apllPlanWrite h items => Sys2Proof.Machine.execApllPlanWrite h items s
  | .outputActivityLoss code => Sys2Proof.Machine.execOutputActivityLoss code s
  | .ztodSend m => Sys2Proof.Machine.execZtodSend m s
  | .todiMessage k octets => Sys2Proof.Machine.execTodiMessage k octets s
  | .todiOctetGap k => Sys2Proof.Machine.execTodiOctetGap k s
  | .gnssStateEvaluate sec => Sys2Proof.Machine.execGnssStateEvaluate sec s
  | .channelAllocation sky => Sys2Proof.Machine.execChannelAllocation sky s
  | .sampleClockFault b => Sys2Proof.Machine.execSampleClockFault b s
  | .gnssSolution e => Sys2Proof.Machine.execGnssSolution e s
  | .g0RecordPost => Sys2Proof.Machine.execG0RecordPost s
  | .positionCheck x y z => Sys2Proof.Machine.execPositionCheck x y z s
  | .notchEngage b hz => Sys2Proof.Machine.execNotchEngage b hz s
  | .notchDisengage b k => Sys2Proof.Machine.execNotchDisengage b k s
  | .osnmaTagVerify t => Sys2Proof.Machine.execOsnmaTagVerify t s
  | .dsmPkrReceive keyId material proof => Sys2Proof.Machine.execDsmPkrReceive keyId material proof s
  | .trustedTimeUpdate => Sys2Proof.Machine.execTrustedTimeUpdate s
  | .auditRecordStore => Sys2Proof.Machine.execAuditRecordStore s
  | .auditRecordLost => Sys2Proof.Machine.execAuditRecordLost s
  | .auditCheckpoint => Sys2Proof.Machine.execAuditCheckpoint s
  | .portCalibrationDone q lanes => Sys2Proof.Machine.execPortCalibrationDone q lanes s
  | .portCalIncomplete q => Sys2Proof.Machine.execPortCalIncomplete q s
  | .portUp q => Sys2Proof.Machine.execPortUp q s
  | .portDown q => Sys2Proof.Machine.execPortDown q s
  | .scheduledSend m late => Sys2Proof.Machine.execScheduledSend m late s
  | .receivedFrame f => Sys2Proof.Machine.execReceivedFrame f s
  | .pauseReceive q quanta => Sys2Proof.Machine.execPauseReceive q quanta s
  | .pfcReceive q enable times => Sys2Proof.Machine.execPfcReceive q enable times s
  | .pauseExpiry q => Sys2Proof.Machine.execPauseExpiry q s
  | .stampHoldExpiry q => Sys2Proof.Machine.execStampHoldExpiry q s
  | .stampQueueDrain q => Sys2Proof.Machine.execStampQueueDrain q s
  | .hostFrameForTransmission f => Sys2Proof.Machine.execHostFrameForTransmission f s
  | .arpRequest q address toward => Sys2Proof.Machine.execArpRequest q address toward s
  | .neighbourSolicitation q address toward => Sys2Proof.Machine.execNeighbourSolicitation q address toward s
  | .esmcPduReceive q ssm enhanced => Sys2Proof.Machine.execEsmcPduReceive q ssm enhanced s
  | .esmcTimeout q => Sys2Proof.Machine.execEsmcTimeout q s
  | .esmcInformationPdu q => Sys2Proof.Machine.execEsmcInformationPdu q s
  | .delayReq m => Sys2Proof.Machine.execDelayReq m s
  | .requestUnicastTransmission m tlvs => Sys2Proof.Machine.execRequestUnicastTransmission m tlvs s
  | .cancelUnicastTransmission m types => Sys2Proof.Machine.execCancelUnicastTransmission m types s
  | .grantLapse slot type => Sys2Proof.Machine.execGrantLapse slot type s
  | .ntpRequest m => Sys2Proof.Machine.execNtpRequest m s
  | .ntsRequest m => Sys2Proof.Machine.execNtsRequest m s
  | .nrefGrantReceive n m tlvs => Sys2Proof.Machine.execNrefGrantReceive n m tlvs s
  | .nrefNegotiationTimeout n => Sys2Proof.Machine.execNrefNegotiationTimeout n s
  | .nrefFaultRetry n => Sys2Proof.Machine.execNrefFaultRetry n s
  | .nrefRenewal n type => Sys2Proof.Machine.execNrefRenewal n type s
  | .nrefGrantLoss n type cancelled => Sys2Proof.Machine.execNrefGrantLoss n type cancelled s
  | .nrefSyncReceive n m followUp twoStep t1 bound => Sys2Proof.Machine.execNrefSyncReceive n m followUp twoStep t1 bound s
  | .nrefDelayRespReceive n m t4 => Sys2Proof.Machine.execNrefDelayRespReceive n m t4 s
  | .nrefAnnounceReceive n m a bound => Sys2Proof.Machine.execNrefAnnounceReceive n m a bound s
  | .qopOpen h level keyRef hostNonce => Sys2Proof.Machine.execQopOpen h level keyRef hostNonce s
  | .qopProve h => Sys2Proof.Machine.execQopProve h s
  | .challengeTimeout slot => Sys2Proof.Machine.execChallengeTimeout slot s
  | .qopRead h l => Sys2Proof.Machine.execQopRead h l s
  | .qopWrite h items => Sys2Proof.Machine.execQopWrite h items s
  | .qopSubscribe h subType period sel => Sys2Proof.Machine.execQopSubscribe h subType period sel s
  | .qopUnsubscribe h id => Sys2Proof.Machine.execQopUnsubscribe h id s
  | .qopKeepalive h => Sys2Proof.Machine.execQopKeepalive h s
  | .qopClose h => Sys2Proof.Machine.execQopClose h s
  | .idleTimeout slot => Sys2Proof.Machine.execIdleTimeout slot s
  | .notifyPeriodic slot id => Sys2Proof.Machine.execNotifyPeriodic slot id s
  | .notifyEvent slot id => Sys2Proof.Machine.execNotifyEvent slot id s
  | .spiFrameAbort => Sys2Proof.Machine.execSpiFrameAbort s
  | .seqStatsClear h v => Sys2Proof.Machine.execSeqStatsClear h v s
  | .deviceReset h v => Sys2Proof.Machine.execDeviceReset h v s
  | .dictionaryCommandReset => Sys2Proof.Machine.execDictionaryCommandReset s
  | .storeCommit h v => Sys2Proof.Machine.execStoreCommit h v s
  | .storeCommitDone ok => Sys2Proof.Machine.execStoreCommitDone ok s
  | .storeRevert h v => Sys2Proof.Machine.execStoreRevert h v s
  | .storeErase h v => Sys2Proof.Machine.execStoreErase h v s
  | .qopCountersClear h v => Sys2Proof.Machine.execQopCountersClear h v s
  | .mgtAddressWrite h items => Sys2Proof.Machine.execMgtAddressWrite h items s
  | .lifeCycleToProvisioning h => Sys2Proof.Machine.execLifeCycleToProvisioning h s
  | .lifeCycleToService h => Sys2Proof.Machine.execLifeCycleToService h s
  | .lifeCycleToMaintenance h => Sys2Proof.Machine.execLifeCycleToMaintenance h s
  | .lifeCycleToBlank h => Sys2Proof.Machine.execLifeCycleToBlank h s
  | .lifeCycleToRetired h => Sys2Proof.Machine.execLifeCycleToRetired h s
  | .lifeCycleChange ok => Sys2Proof.Machine.execLifeCycleChange ok s
  | .timeSet h v => Sys2Proof.Machine.execTimeSet h v s
  | .timeAdjust h v => Sys2Proof.Machine.execTimeAdjust h v s
  | .hostLeapInsert h time => Sys2Proof.Machine.execHostLeapInsert h time s
  | .hostLeapDelete h time => Sys2Proof.Machine.execHostLeapDelete h time s
  | .hostLeapWithdraw h time => Sys2Proof.Machine.execHostLeapWithdraw h time s
  | .chSource h items => Sys2Proof.Machine.execChSource h items s
  | .chRelease h c v => Sys2Proof.Machine.execChRelease h c v s
  | .watershedForcedRef h v => Sys2Proof.Machine.execWatershedForcedRef h v s
  | .watershedStatsClear h v => Sys2Proof.Machine.execWatershedStatsClear h v s
  | .oscModelReset h v => Sys2Proof.Machine.execOscModelReset h v s
  | .apllRelease h a v => Sys2Proof.Machine.execApllRelease h a v s
  | .outRealign h n v => Sys2Proof.Machine.execOutRealign h n v s
  | .outRelease h n v => Sys2Proof.Machine.execOutRelease h n v s
  | .plsRelease h p v => Sys2Proof.Machine.execPlsRelease h p v s
  | .gnssRelease h v => Sys2Proof.Machine.execGnssRelease h v s
  | .gnssSurveyRestart h v => Sys2Proof.Machine.execGnssSurveyRestart h v s
  | .gnssTrustedTimeSet h v => Sys2Proof.Machine.execGnssTrustedTimeSet h v s
  | .gnssBankRelease h v => Sys2Proof.Machine.execGnssBankRelease h v s
  | .portCountersClear h v => Sys2Proof.Machine.execPortCountersClear h v s
  | .excBind h v => Sys2Proof.Machine.execExcBind h v s
  | .portRecalibrate h q v => Sys2Proof.Machine.execPortRecalibrate h q v s
  | .portRelease h q v => Sys2Proof.Machine.execPortRelease h q v s
  | .portEnableWrite h items => Sys2Proof.Machine.execPortEnableWrite h items s
  | .cryptoLaneRelease h v => Sys2Proof.Machine.execCryptoLaneRelease h v s
  | .clientDelete h v => Sys2Proof.Machine.execClientDelete h v s
  | .protoCountersClear h v => Sys2Proof.Machine.execProtoCountersClear h v s
  | .keyLoad h v => Sys2Proof.Machine.execKeyLoad h v s
  | .keyDelete h v => Sys2Proof.Machine.execKeyDelete h v s
  | .keyRederiveAll h v => Sys2Proof.Machine.execKeyRederiveAll h v s
  | .keySlotSpec h items => Sys2Proof.Machine.execKeySlotSpec h items s
  | .keyStoreCommitDone ok => Sys2Proof.Machine.execKeyStoreCommitDone ok s
  | .keyStorePacingEnd => Sys2Proof.Machine.execKeyStorePacingEnd s
  | .keyExpiry node => Sys2Proof.Machine.execKeyExpiry node s
  | .beatReceive p b => Sys2Proof.Machine.execBeatReceive p b s
  | .replicationPacket p x => Sys2Proof.Machine.execReplicationPacket p x s
  | .kholdInputChange high inverse => Sys2Proof.Machine.execKholdInputChange high inverse s
  | .keeperTakeover => Sys2Proof.Machine.execKeeperTakeover s
  | .keeperStartWaitExpiry => Sys2Proof.Machine.execKeeperStartWaitExpiry s
  | .handOverRelease => Sys2Proof.Machine.execHandOverRelease s
  | .handOverAt => Sys2Proof.Machine.execHandOverAt s
  | .handOverAbandon => Sys2Proof.Machine.execHandOverAbandon s
  | .revertHoldExpiry => Sys2Proof.Machine.execRevertHoldExpiry s
  | .keeperSwitchover h v => Sys2Proof.Machine.execKeeperSwitchover h v s
  | .keeperRejoin h v => Sys2Proof.Machine.execKeeperRejoin h v s
  | .addressAnnounce => Sys2Proof.Machine.execAddressAnnounce s
  | .skovwinCalDone m lane distribution => Sys2Proof.Machine.execSkovwinCalDone m lane distribution s
  | .skovwinPortUp m => Sys2Proof.Machine.execSkovwinPortUp m s
  | .skovwinLinkDown m loss => Sys2Proof.Machine.execSkovwinLinkDown m loss s
  | .skFaultClear h m v => Sys2Proof.Machine.execSkFaultClear h m v s
  | .skRelease h m v => Sys2Proof.Machine.execSkRelease h m v s
  | .powerOnReset cascId keepPref pinLow => Sys2Proof.Machine.execPowerOnReset cascId keepPref pinLow s
  | .supplyReset => Sys2Proof.Machine.execSupplyReset s
  | .pinReset => Sys2Proof.Machine.execPinReset s
  | .watchdogReset => Sys2Proof.Machine.execWatchdogReset s
  | .domainPowerGood x => Sys2Proof.Machine.execDomainPowerGood x s
  | .startUpTestEnd x => Sys2Proof.Machine.execStartUpTestEnd x s
  | .dramTrainingDone first second selfCheck => Sys2Proof.Machine.execDramTrainingDone first second selfCheck s
  | .fillComplete micros => Sys2Proof.Machine.execFillComplete micros s
  | .bootCountCommit ok => Sys2Proof.Machine.execBootCountCommit ok s
  | .firstFrame bootMicros coarseNs => Sys2Proof.Machine.execFirstFrame bootMicros coarseNs s
  | .opStepUp => Sys2Proof.Machine.execOpStepUp s
  | .opSettleFail rail => Sys2Proof.Machine.execOpSettleFail rail s
  | .opStepDown => Sys2Proof.Machine.execOpStepDown s
  | .pmbusFault address => Sys2Proof.Machine.execPmbusFault address s
  | .xoQualified estimate => Sys2Proof.Machine.execXoQualified estimate s
  | .xoFail => Sys2Proof.Machine.execXoFail s
  | .xoRestart => Sys2Proof.Machine.execXoRestart s
  | .sysClockToSpll => Sys2Proof.Machine.execSysClockToSpll s
  | .sysClockFallback => Sys2Proof.Machine.execSysClockFallback s
  | .moscQualified => Sys2Proof.Machine.execMoscQualified s
  | .moscTrip cause => Sys2Proof.Machine.execMoscTrip cause s
  | .moscReturn h v => Sys2Proof.Machine.execMoscReturn h v s
  | .forcedSwitch mux => Sys2Proof.Machine.execForcedSwitch mux s
  | .supplyWarning rails lowest => Sys2Proof.Machine.execSupplyWarning rails lowest s
  | .supplyEpisodeEnd => Sys2Proof.Machine.execSupplyEpisodeEnd s
  | .passResume => Sys2Proof.Machine.execPassResume s
  | .throttleEnd => Sys2Proof.Machine.execThrottleEnd s
  | .supplyStatsClear h v => Sys2Proof.Machine.execSupplyStatsClear h v s
  | .run h => Sys2Proof.Machine.execRun h s
  | .warmHold h => Sys2Proof.Machine.execWarmHold h s
  | .deepHold h => Sys2Proof.Machine.execDeepHold h s
  | .wake pin ns => Sys2Proof.Machine.execWake pin ns s
  | .memRead op octets => Sys2Proof.Machine.execMemRead op octets s
  | .memWrite op data last => Sys2Proof.Machine.execMemWrite op data last s
  | .masterReset master outstanding time => Sys2Proof.Machine.execMasterReset master outstanding time s
  | .drainTimeout master => Sys2Proof.Machine.execDrainTimeout master s
  | .memCountersClear h v => Sys2Proof.Machine.execMemCountersClear h v s
  | .memTestWrite h v => Sys2Proof.Machine.execMemTestWrite h v s
  | .memTestRead h v => Sys2Proof.Machine.execMemTestRead h v s
  | .pairFault l => Sys2Proof.Machine.execPairFault l s
  | .reactionWindowClose => Sys2Proof.Machine.execReactionWindowClose s
  | .railFault n levels => Sys2Proof.Machine.execRailFault n levels s
  | .railFaultEnd n => Sys2Proof.Machine.execRailFaultEnd n s
  | .domainRestart x => Sys2Proof.Machine.execDomainRestart x s
  | .domainRelease h v => Sys2Proof.Machine.execDomainRelease h v s
  | .evtAcknowledge h v => Sys2Proof.Machine.execEvtAcknowledge h v s
  | .evtClear h n v => Sys2Proof.Machine.execEvtClear h n v s
  | .refereeClearAll h v => Sys2Proof.Machine.execRefereeClearAll h v s
  | .faultInjectCheckBit h source count unit options => Sys2Proof.Machine.execFaultInjectCheckBit h source count unit options s
  | .faultInjectPair h source count unit options => Sys2Proof.Machine.execFaultInjectPair h source count unit options s
  | .faultInjectRail h source count unit options => Sys2Proof.Machine.execFaultInjectRail h source count unit options s
  | .shutdownRequest => Sys2Proof.Machine.execShutdownRequest s
  | .shutdownCommitting => Sys2Proof.Machine.execShutdownCommitting s
  | .shutdownTesting x => Sys2Proof.Machine.execShutdownTesting x s
  | .shutdownRecording micros ok => Sys2Proof.Machine.execShutdownRecording micros ok s
  | .shutdownTruncate tested micros ok => Sys2Proof.Machine.execShutdownTruncate tested micros ok s
  | .lifetimeCommit ok => Sys2Proof.Machine.execLifetimeCommit ok s
  | .pcWindowClose n => Sys2Proof.Machine.execPcWindowClose n s
  | .pcConfigurationWrite h items => Sys2Proof.Machine.execPcConfigurationWrite h items s
  | .pcSnapshot h v => Sys2Proof.Machine.execPcSnapshot h v s
  | .pcClearAll h v => Sys2Proof.Machine.execPcClearAll h v s
  | .pcClear h n v => Sys2Proof.Machine.execPcClear h n v s
  | .startServiceRelease h v => Sys2Proof.Machine.execStartServiceRelease h v s
  | .auditArchiveDays h v => Sys2Proof.Machine.execAuditArchiveDays h v s
  | .resetRelease => Sys2Proof.Machine.execResetRelease s
  | .pcsStatusChange q x => Sys2Proof.Machine.execPcsStatusChange q x s
  | .mgtLinkChange up speed => Sys2Proof.Machine.execMgtLinkChange up speed s
  | .outboundFrameShiftedOut => Sys2Proof.Machine.execOutboundFrameShiftedOut s
  | .hostSpiNoiseFrame => Sys2Proof.Machine.execHostSpiNoiseFrame s
  | .pairQuiet n => Sys2Proof.Machine.execPairQuiet n s
  | .plsPulseEnd p => Sys2Proof.Machine.execPlsPulseEnd p s

end Sys2Proof.Machine
end

