-- ==== Sys2Proof/Safety.lean ====
section
/-!
DEFINITION. Safety.lean: what a sound state is, and what a command leaves alone, in the terms that claims use.
-/
namespace Sys2Proof.Machine

/-! ### Sound states -/

/-- The memories keep their one form: octets in rising order of place, none of them zero (R600). -/
def MemoryCanonical (s : State) : Prop := s.mem.wf = true

/-- The counter stands inside the frame that runs: its end is a frame boundary later than the counter (R32, R33). -/
def ClockInFrame (s : State) : Prop :=
  s.clock.ts / subUnits < s.clock.boundary ∧ s.clock.boundary % frameUnits = 0

/-- A run is orderly when every command of it ends in a next state. -/
def Orderly (s : State) : Prop := ∃ t, step s = .next t

/-! ### What a command leaves alone -/

/-- The command changed no register but those named, no octet of memory, not the timescale and not the queue. -/
def OnlyRegisters (s t : State) (changed : List Entry) : Prop :=
  t.mem = s.mem ∧ t.pending = s.pending ∧ t.clock.ts = s.clock.ts ∧ t.clock.boundary = s.clock.boundary ∧
    ∀ e : Entry, (∀ x ∈ changed, x.addr ≠ e.addr) → t.dev.get e = s.dev.get e

/-- The command changed no octet of memory, not the timescale and not the queue. -/
def DeviceOnly (s t : State) : Prop :=
  t.mem = s.mem ∧ t.pending = s.pending ∧ t.clock.ts = s.clock.ts ∧ t.clock.boundary = s.clock.boundary

/-- A saturating counter rose by one. -/
def Counts (s t : State) (e : Entry) : Prop := t.dev.get e = min (s.dev.get e + 1) (e.modulus - 1)

/-- A checker presented its pair at Fault with a capture (R628), and no other did. -/
def Presents (s t : State) (source : Nat) (fields : List (Nat × Nat)) : Prop :=
  t.dev.posted = s.dev.posted ++ [⟨source, packDetail fields, false, false, true⟩]

/-- No checker presented its pair. -/
def PresentsNone (s t : State) : Prop := t.dev.posted = s.dev.posted

/-- Number of the frame that runs within its second (R32). -/
def State.frameNumber (s : State) : Nat := s.start % secondUnits / frameUnits

/-- The device as a command that states no instant finds it. -/
def State.met (s : State) : Dev := s.begin s.anyInstant

/-- How new a configuration copy is: one that does not check, or that is absent, is the oldest (R90). -/
def copyAge (c : Option StoreCopy) : Nat :=
  match c with
  | some a => if a.valid then a.generation + 1 else 0
  | none => 0

/-! ### Registers that one effect writes -/

/-- The frame's budget and the second's count of messages (R459, R466). -/
def workRegisters : List Entry :=
  [Hid.protoFrame, Hid.protoMsgs, Hid.protoHmac, Hid.protoAes, Hid.protoSecondMsgs, Hid.clientChanges] ++ (List.range 5).map Hid.classAdmitted

/-- What a message that leaves a port writes (R114, R366, R419). -/
def sentRegisters (q : Nat) : List Entry :=
  [Dict.txFrames q, Dict.txOctets q, Dict.oneStepFrames q, Hid.auditEgress, Dict.clientServiceStarted]

/-- The numbers of the client table (R466, R467). -/
def clientRegisters : List Entry := [Dict.clientCount, Dict.clientStashCount] ++ (List.range 8).map Dict.instClients

/-- The entries of a stored key (R505). -/
def keyRegisters (i : Nat) : List Entry :=
  [Dict.keyKind i, Dict.keyUsage i, Dict.keyState i, Dict.keyGeneration i, Dict.keyUseCount i, Dict.keyUseLimit i, Dict.keyUseCeiling i,
    Dict.keyExpiryKind i, Dict.keyNotAfter i, Dict.keyLoadTime i, Dict.keyCheck i]

/-- What a session's end writes: its entry and the binding of the exception path (R76, R407). -/
def endRegisters (slot : Nat) : List Entry := [Dict.sessionState slot, Dict.excBoundAddress, Dict.excBoundPort, Hid.excSession]

/-- A change of DeviceState (R221, R243, R250). -/
def stateRegisters : List Entry :=
  [Dict.deviceState, Dict.deviceStateSince, Hid.boundEntered, Dict.holdoverCause, Dict.holdoverGrowth, Dict.holdoverRandom]

/-- Entry to Holdover or the return from it, and to Acquire (R221, R228, R243, R250). -/
def holdoverRegisters : List Entry :=
  stateRegisters ++ [Dict.holdoverStart, Dict.holdoverCount, Dict.lifeHoldovers, Dict.oscModelOffset, Dict.servoStage, Hid.holdFrames,
    Hid.unlockFrames, Hid.dwellFrames, Hid.gainStage, Hid.recovering, Dict.stepPendingAt, Dict.stepPendingSize]

/-- A change of the Keeper role (R526, R533, R540, R541). -/
def roleRegisters : List Entry :=
  [Dict.keeperRole, Dict.keeperLastRoleChange, Dict.keeperInnings, Dict.keeperInterlockOut, Dict.keeperHandOverState,
    Dict.keeperRevertRemaining, Dict.replicationState, Dict.replicationBulkSlot, Hid.announceDue, Hid.announceLeft, Hid.contention,
    Hid.handOverActive, Hid.handOverAt, Hid.handOverCause, Hid.handOverFrame, Hid.handOverSource, Hid.handOverWanted, Hid.higherBeats,
    Hid.readyFrames, Hid.replClear, Hid.replEnd, Hid.replStarted, Hid.serveFrom, Hid.takeoverBound]

/-- Referee's record of a source (R636, R643, R648, R651). -/
def recordRegisters (n : Nat) : List Entry :=
  [Dict.evtRailState n, Hid.evtArmed n, Dict.refereeSequence, Dict.refereeEventCount, Dict.refereeConsequentCount, Dict.evtCount n,
    Dict.evtConsequentCount n, Dict.evtLastTime n, Dict.evtFirstTime n, Dict.evtFirstSequence n, Dict.evtFirstDetail n, Dict.evtPending0,
    Dict.evtPending1, Dict.evtHistoryLost n, Hid.evtLowAt 0, Hid.evtLowAt 1, Hid.sampleHandOver] ++ (List.range 5).map Dict.lifeFaultCount ++ (List.range 32).map (Dict.evtHistory n)

/-- The pairs of a domain are masked or unmasked (R631). -/
def pairRegisters : List Entry := (List.range 128).flatMap fun n => [Dict.evtRailState n, Hid.evtArmed n]

/-! ### Messages of the host -/

/-- The item of a Write that gives an entry a value. -/
def Entry.item (e : Entry) (v : Value) : Item := ⟨e.index, e.sub, v.octets, v.value⟩

/-- The device when the request of a session has passed the checks of R74 and R75. -/
def State.heard (s : State) (h : Head) (x : Session) : Dev :=
  (s.met.arrive h).putSession (s.met.accepted x h.sequence)

/-- A request of the open session `x` reaches it, is new there, and is served now (R64, R74, R75, R77, R79 to R84). -/
def State.hears (s : State) (h : Head) (b : Body) (x : Session) : Bool :=
  s.met.reaches h && lengthOk h.length && !isNoise h (Body.code b) (Body.octets b) && Dev.bodyOk h b && !(s.met.arrive h).mustQueue h &&
    decide ((s.dev.sessions.find? fun y => y.id == h.session && y.onSpi == h.onSpi && y.isOpen) = some x) &&
    Dev.tagRight x h (Body.code b) (Body.octets b) && Dev.fresh x h.sequence && decide (x.sent < 0xFFFFFFFF) &&
    decide (h.sequence < 0xFFFFFFFF) && (x.onSpi || s.met.routable x.peer) &&
    !(x.kept.any fun k => k.requestTag == h.requestTag) &&
    !(s.dev.staged.any fun g => match g.answer with
      | some (id, tag, _) => id == x.id && tag == h.requestTag
      | none => false)

/-- A Write of the open session `x` that every rule of R723 admits, of entries that only the host writes (R40). -/
def State.admits (s : State) (h : Head) (items : List Item) (x : Session) : Bool :=
  s.hears h (.write items) x && Dev.allOk ((s.heard h x).itemStatuses x.onSpi x.level items) && !Dev.mayContend items

/-- A Response of a status answers the request on the link of its session (R64, R65, R84). -/
def Responds (s t : State) (h : Head) (x : Session) (status : Nat) : Prop :=
  ∃ m : QopMessage, m.type = 0x12 ∧ m.session = x.id ∧ m.sequence = x.sent + 1 ∧ m.requestTag = h.requestTag ∧ m.status = status ∧
    (if x.onSpi then t.dev.spiQueue = s.dev.spiQueue ++ [m] else Emit.qop x.peer m ∈ t.dev.emit)

/-- A message of the open session `x` leaves on its link (R64, R75, R84). -/
def Sends (s t : State) (x : Session) (type requestTag status : Nat) (items : List ReplyItem) (extra : List Nat) : Prop :=
  ∃ m : QopMessage, m.type = type ∧ m.session = x.id ∧ m.sequence = x.sent + 1 ∧ m.requestTag = requestTag ∧ m.status = status ∧
    m.items = items ∧ m.extra = extra ∧
    (if x.onSpi then t.dev.spiQueue = s.dev.spiQueue ++ [m] else Emit.qop x.peer m ∈ t.dev.emit)

/-- Nothing of the item's effect stands at its acceptance: it waits for S0 whole (R38; those that do not wait: R97, R110, R111, R321, R371,
R407, R479, R500, R589, R685). -/
def itemWaits (it : Item) : Bool :=
  [Dict.auditCursor, Dict.clientCursor, Dict.excBind, Dict.timeSet, Dict.timeAdjust, Dict.gnssTrustedTimeSet, Dict.keyLoad, Dict.keyDelete,
    Dict.lifeCycleRequest, Dict.deviceReset, Dict.startServiceRelease, Dict.powerStateRequest].all
    fun e => e.addr != it.index * 256 + it.sub

/-- What a request and its Response show of themselves: the session's own entry, the frames on MGT, and the work of their tags. -/
def shownBy (x : Session) : List Entry := [Dict.sessionState x.slot, Dict.mgtRxFrames, Dict.mgtTxFrames] ++ workRegisters

/-- The Write was accepted with OK and waits for the next S0 (R38, R65); until then items that wait leave every register but those
that show the conversation. -/
def Accepted (s t : State) (h : Head) (items : List Item) (x : Session) : Prop :=
  t.dev.staged = s.dev.staged ++ [⟨items, none, x.slot⟩] ∧ Responds s t h x 0 ∧ DeviceOnly s t ∧
    ((∀ it ∈ items, itemWaits it = true) → PresentsNone s t ∧ OnlyRegisters s t (shownBy x))

end Sys2Proof.Machine
end

