-- ==== Sys2Proof/Certificates/Slice0/Obligations.lean ====
section
/-!
DEFINITION. The statements for the provers. Each docstring names the rules of spec/ that its statement rests on. A clause about a
command says under which conditions on the state and the operands the command has its own effect, what the next state then
holds, and what it leaves alone.
-/
open Sys2Proof Sys2Proof.Machine

/-! ### The block as a whole -/

/-- A step takes the command at the front of the queue and runs it on the state with the queue's rest. With no command waiting the
block idles (log entry 65: the model's choice). -/
def Obligations.FrontCommandRunsOrTheBlockIdles : Prop :=
  (∀ (c : Instr) (rest : List Instr) (s : State), s.pending = c :: rest → step s = exec c { s with pending := rest }) ∧
  (∀ s : State, s.pending = [] → step s = .next s)

/-- After reset nothing waits, nothing is listed in memory, no frames run, and every dictionary entry but LastResetDomains and
EvtRailState reads its default (R10; the factory contents are log entry 63, the model's choice). The state after reset is sound, and the
test access port, its instruction register untouched, shifts IDCODE out (R695; PRESUMED, log entry 121). -/
def Obligations.ResetReadsDefaultsAndIsSound : Prop :=
  (State.reset.pending = [] ∧ State.reset.mem = ⟨[], []⟩ ∧ State.reset.clock.running = false ∧ State.reset.dev.sessions = [] ∧
    State.reset.dev.staged = [] ∧ State.reset.dev.keys = [] ∧
    ∀ e : Entry, e.index < 0x10000 → e.sub < 256 → e.addr ≠ Dict.lastResetDomains.addr → (∀ n < 128, e.addr ≠ (Dict.evtRailState n).addr) →
      State.reset.dev.get e = e.reset) ∧
  (MemoryCanonical State.reset ∧ ClockInFrame State.reset) ∧
  (State.reset.dev.tapEdges ([false, true, false, false] ++ List.replicate 32 false |>.map fun tms => ⟨false, tms, false⟩)).2 = bitsOf 32 0x2744056F

/-- Every step keeps the memories in their one form. -/
def Obligations.StepKeepsMemoryCanonical : Prop :=
  ∀ s t : State, MemoryCanonical s → step s = .next t → MemoryCanonical t

/-- Every step keeps the counter inside the frame that runs (R32, R33, R34). -/
def Obligations.StepKeepsClockInFrame : Prop :=
  ∀ s t : State, ClockInFrame s → step s = .next t → ClockInFrame t

/-- No command changes the queue: what waits behind the front command waits in order after it. -/
def Obligations.CommandsLeaveTheQueue : Prop :=
  ∀ (c : Instr) (s t : State), exec c s = .next t → t.pending = s.pending

/-- No command but FRAME_START, STEP_APPLY, SET_APPLY and FIRST_FRAME_OF_TIME_SERVICE moves the timescale at frame starts
(R33, R101, R112, R588). -/
def Obligations.OnlyFrameEventsMoveTheTimescale : Prop :=
  ∀ (c : Instr) (s t : State), (∀ i, c ≠ .frameStart i) → c ≠ .stepApply → c ≠ .setApply → (∀ a b, c ≠ .firstFrame a b) →
    exec c s = .next t → t.clock.ts = s.clock.ts ∧ t.clock.boundary = s.clock.boundary ∧ t.clock.frames = s.clock.frames

/-- No command but FRAME_START, POWER_ON_RESET, FILL_COMPLETE and the memory transactions changes an octet of memory (R597, R598, R606). -/
def Obligations.OnlyMemoryCommandsChangeMemory : Prop :=
  ∀ (c : Instr) (s t : State), (∀ i, c ≠ .frameStart i) → (∀ o n, c ≠ .memRead o n) → (∀ o l b, c ≠ .memWrite o l b) →
    (∀ n, c ≠ .fillComplete n) → (∀ a b e, c ≠ .powerOnReset a b e) → exec c s = .next t →
    ∀ target offset, t.mem.read target offset = s.mem.read target offset

/-- The memory writes of an octet: read back as written, every other octet of its target unchanged (R600, R602). -/
def Obligations.MemoryOctetsReadAsWritten : Prop :=
  ∀ (m : Mem) (target offset other : Nat) (v : BitVec 8), m.wf = true →
    (m.write target offset v).read target offset = v ∧
    (other ≠ offset → (m.write target offset v).read target other = m.read target other) ∧ (m.write target offset v).wf = true

/-! ### Timescale and sequencer -/

/-- FRAME_START reaches the frame boundary at the first TCLK edge at which the counter is equal to or later than it; the counter
adds IncrementActive in each TCLK cycle, with the slew of the frame (R33, R101, R107). -/
def Obligations.FrameStartsAtFirstEdge : Prop :=
  ∀ (s : State) (i : FrameInput), s.inService = true → s.clock.atStart = false → s.dev.corr = none →
    s.clock.ts < s.clock.boundary * subUnits → 2 ≤ s.dev.get Dict.incrementActive →
    let count := fun n => s.clock.ts + advanceOf (s.dev.get Dict.incrementActive) (s.dev.get Hid.slewExtra) (s.dev.is Hid.slewBack) n
    ∃ t n, exec (.frameStart i) s = .next t ∧ t.clock.ts = count n ∧ s.clock.boundary * subUnits ≤ t.clock.ts ∧
      (∀ m < n, count m < s.clock.boundary * subUnits) ∧
      t.clock.ts < s.clock.boundary * subUnits + s.dev.get Dict.incrementActive + 1 ∧ t.clock.frames = s.clock.frames + 1 ∧ t.clock.atStart = false ∧
      t.pending = s.pending

/-- STEP_APPLY and SET_APPLY: a pending step or set due at the next frame start moves the counter by its size there; nothing is
pending or left to slew any more (R109, R110, R112). -/
def Obligations.CorrectionAppliesAtFrameStart : Prop :=
  ∀ (s : State) (c : Correction), s.inService = true → s.clock.atStart = false → s.dev.corr = some c → c.due ≤ s.clock.boundary →
    s.clock.boundary ≤ s.nextStart / subUnits → 0 ≤ (s.nextStart : Int) + c.size * (subUnits : Int) →
    ∃ t, exec (if c.isSet then .setApply else .stepApply) s = .next t ∧
      (t.clock.ts : Int) = (s.nextStart : Int) + c.size * (subUnits : Int) ∧ t.clock.jumped = true ∧ t.clock.atStart = true ∧
      t.dev.corr = none ∧ t.dev.slewLeft = 0 ∧ t.mem = s.mem ∧ t.pending = s.pending

/-- SEQUENCER_OVERRUN: the aborted slot is counted and named; source 8 is raised once for the frame, with the frame's number
(R44, R56). -/
def Obligations.OverrunIsCountedAndRaised : Prop :=
  ∀ (s : State) (slot : Nat), slot < 8 → s.serves .time = true → s.dev.get Hid.abortedSlots = 0 →
    ∃ t, exec (.sequencerOverrun slot) s = .next t ∧ Counts s t Dict.seqOverrunCount ∧ t.dev.get Dict.seqLastOverrunSlot = slot ∧
      t.dev.get Hid.abortedSlots = 2 ^ slot ∧ Presents s t 8 [(2, s.nextFrameNumber), (1, slot)] ∧
      OnlyRegisters s t [Dict.seqOverrunCount, Dict.seqLastOverrunSlot, Hid.abortedSlots]

/-- LEAP_APPLIED: UtcOffset gains or loses a second when the timescale reaches LeapTime; the announcement ends; source 10 is
raised; frames, timers and the timescale go on (R118). -/
def Obligations.LeapChangesUtcOffset : Prop :=
  ∀ s : State, s.serves .time = true → (s.dev.get Dict.leapPending = 1 ∨ s.dev.get Dict.leapPending = 2) →
    ofTime96 (s.dev.get Dict.leapTime) < s.clock.boundary →
    -(2 ^ 31) < s.dev.getI Dict.utcOffset → s.dev.getI Dict.utcOffset < 2 ^ 31 - 1 →
    ∃ t, exec .leapApplied s = .next t ∧
      t.dev.getI Dict.utcOffset = s.dev.getI Dict.utcOffset + (if s.dev.get Dict.leapPending = 1 then 1 else -1) ∧
      t.dev.get Dict.leapPending = 0 ∧ t.dev.view.now = max s.start (ofTime96 (s.dev.get Dict.leapTime)) ∧ Presents s t 10 [] ∧ t.clock = s.clock ∧
      OnlyRegisters s t [Dict.utcOffset, Dict.leapPending, Dict.leapTime, Hid.leapAt, Hid.leapOffset]

/-! ### Corrections, leaps and event timers -/

/-- TIME_SET and TIME_ADJUST: accepted, a set is scheduled StepLeadFrames frames ahead with the asserted value less the timescale at
acceptance, or the correction of Maintenance; elsewhere a correction that takes no step enters the slew path (R106, R109 to
R111). The instant of acceptance within its frame is any (DESIGN CHOICE, log entry 4). -/
def Obligations.HostCorrectionsAreScheduled : Prop :=
  (∀ (s : State) (h : Head) (v : Value) (x : Session), s.admits h [Dict.timeSet.item v] x = true →
    ∃ t, exec (.timeSet h v) s = .next t ∧ Accepted s t h [Dict.timeSet.item v] x ∧
      OnlyRegisters s t (shownBy x ++ [Dict.stepPendingAt, Dict.stepPendingSize, Hid.recovering]) ∧
      t.dev.corr = some ⟨true, (ofTime96 v.value : Int) - (s.anyInstant : Int),
      (s.start / frameUnits + s.dev.get Dict.stepLeadFrames) * frameUnits⟩) ∧
  (∀ (s : State) (h : Head) (v : Value) (x : Session), s.admits h [Dict.timeAdjust.item v] x = true → s.dev.lifeCycle = 3 →
    ∃ t, exec (.timeAdjust h v) s = .next t ∧ Accepted s t h [Dict.timeAdjust.item v] x ∧
      OnlyRegisters s t (shownBy x ++ [Dict.stepPendingAt, Dict.stepPendingSize, Dict.slewRemaining, Hid.recovering]) ∧
      t.dev.corr = some ⟨true, Dict.stepPendingSize.toInt v.value, (s.start / frameUnits + s.dev.get Dict.stepLeadFrames) * frameUnits⟩) ∧
  (∀ (s : State) (h : Head) (v : Value) (x : Session), s.admits h [Dict.timeAdjust.item v] x = true → s.dev.lifeCycle ≠ 3 →
    s.dev.is Dict.stepEnable = false →
    ∃ t, exec (.timeAdjust h v) s = .next t ∧ Accepted s t h [Dict.timeAdjust.item v] x ∧
      OnlyRegisters s t (shownBy x ++ [Dict.stepPendingAt, Dict.stepPendingSize, Dict.slewRemaining]) ∧ t.dev.corr = s.dev.corr ∧
      t.dev.slewLeft = s.dev.slewLeft + Dict.stepPendingSize.toInt v.value * (subUnits : Int))

/-- HOST_LEAP_INSERT, HOST_LEAP_DELETE and HOST_LEAP_WITHDRAW: accepted, they wait for S0, which sets or clears the announcement (R117,
R119). -/
def Obligations.HostLeapsAnnounceAtS0 : Prop :=
  ∀ (s : State) (h : Head) (time : Nat) (x : Session), time < 2 ^ 96 →
    (let items := [Dict.hostLeapAnnounce.item ⟨16, 1 * 2 ^ 120 + time⟩];
      s.admits h items x = true → ∃ t, exec (.hostLeapInsert h time) s = .next t ∧ Accepted s t h items x ∧
        ∀ d : Dev, (d.applyGroup items []).get Dict.leapPending = 1 ∧ (d.applyGroup items []).get Dict.leapTime = time) ∧
    (let items := [Dict.hostLeapAnnounce.item ⟨16, 2 * 2 ^ 120 + time⟩];
      s.admits h items x = true → ∃ t, exec (.hostLeapDelete h time) s = .next t ∧ Accepted s t h items x ∧
        ∀ d : Dev, (d.applyGroup items []).get Dict.leapPending = 2 ∧ (d.applyGroup items []).get Dict.leapTime = time) ∧
    (let items := [Dict.hostLeapAnnounce.item ⟨16, time⟩];
      s.admits h items x = true → ∃ t, exec (.hostLeapWithdraw h time) s = .next t ∧ Accepted s t h items x ∧
        ∀ d : Dev, (d.applyGroup items []).get Dict.leapPending = 0 ∧ (d.applyGroup items []).get Dict.leapTime = 0)

/-- TIMER_ARM and TIMER_DISARM: accepted, they take effect at S0; an aligned timer's first target is the first aligned instant later
than the frame start plus 1 µs; a disarmed timer is Idle, and a TRG pulse already started goes on (R123, R127). TIMER_FIRE and
TRG_PULSE_END: an armed timer whose target the timescale reaches in the frame records its target and counts the fire; the internal
line pulses at the target, and the TRG or pulse output of its destination is driven active at the placed edge, with the residual
recorded; a one-shot timer of an internal line is Done; a TRG pulse whose width is over returns its pin to its level (R121, R127,
R131, R132, R276). -/
def Obligations.TimersArmFireAndDisarm : Prop :=
  (∀ (s : State) (h : Head) (n : Nat) (x : Session), n < 32 →
    (let items := [(Dict.tmrArm n).item ⟨1, 1⟩];
      s.admits h items x = true → ∃ t, exec (.timerArm h n) s = .next t ∧ Accepted s t h items x ∧
        ∀ d : Dev, d.get (Dict.tmrMode n) = 3 →
          (d.applyGroup items []).get (Dict.tmrState n) = 1 ∧ (d.applyGroup items []).get (Dict.tmrFireCount n) = 0 ∧
          (d.applyGroup items []).get (Dict.tmrNextFire n) = toCt64 (d.nextAligned n (d.view.frameStart + 1000 * unitsPerNs) true)) ∧
    (let items := [(Dict.tmrArm n).item ⟨1, 0⟩];
      s.admits h items x = true → ∃ t, exec (.timerDisarm h n) s = .next t ∧ Accepted s t h items x ∧
        ∀ d : Dev, (d.applyGroup items []).get (Dict.tmrState n) = 0 ∧
          ∀ m, (d.applyGroup items []).get (Hid.trgHigh m) = d.get (Hid.trgHigh m))) ∧
  (∀ (s : State) (n : Nat), n < 32 → s.serves .time = true → s.dev.get (Dict.tmrState n) = 1 →
    let target := (s.begin s.start).pendingTarget n
    let dest := s.dev.get (Dict.tmrDestination n)
    target < s.clock.boundary → s.clock.boundary ≤ s.start + 2 * frameUnits → 0x10 ≤ dest → dest ≤ 0x1F →
    ∃ t, exec (.timerFire n) s = .next t ∧ Counts s t (Dict.tmrFireCount n) ∧ t.dev.get (Dict.tmrLastFire n) = toCt64 target ∧
      t.dev.emit = [.line (dest - 0x10) target] ∧
      (s.dev.get (Dict.tmrMode n) = 1 → t.dev.get (Dict.tmrState n) = 2 ∧ t.dev.get (Dict.tmrNextFire n) = 0) ∧
      OnlyRegisters s t [Dict.tmrFireCount n, Dict.tmrLastFire n, Hid.tmrTargets n, Dict.tmrState n, Dict.tmrNextFire n]) ∧
  (∀ (s : State) (n : Nat), n < 32 → s.serves .time = true → s.dev.get (Dict.tmrState n) = 1 →
    let target := (s.begin s.start).pendingTarget n
    let dest := s.dev.get (Dict.tmrDestination n)
    target < s.clock.boundary → s.clock.boundary ≤ s.start + 2 * frameUnits → dest < 8 →
    s.dev.is (Dict.trgEnable dest) = true → s.dev.is (Hid.trgRemoved dest) = false →
    let placed := Dev.placeEdge ((target : Rat) - ((Dev.pathDelay dest : Nat) : Rat) - (s.dev.getI (Dict.trgBoardDelay dest) : Rat))
    let ending := (placed.1 + ((s.dev.get (Dict.tmrWidth n) * unitsPerNs : Nat) : Rat)).floor.toNat
    ∃ t, exec (.timerFire n) s = .next t ∧ Counts s t (Dict.tmrFireCount n) ∧ t.dev.get (Dict.tmrLastFire n) = toCt64 target ∧
      t.dev.get (Dict.tmrLastResidual n) = (Dict.tmrLastResidual n).ofInt placed.2 % (Dict.tmrLastResidual n).modulus ∧
      t.dev.get (Hid.trgHigh dest) = 1 ∧ t.dev.get (Hid.trgEnd dest) = (ending + 1) % (Hid.trgEnd dest).modulus ∧
      t.dev.emit = [.edge (0x44 + dest) (Dev.pulseLevel (s.dev.get (Dict.trgPolarity dest)) true) placed.1.floor.toNat] ∧
      OnlyRegisters s t [Dict.tmrFireCount n, Dict.tmrLastFire n, Hid.tmrTargets n, Dict.tmrState n, Dict.tmrNextFire n,
        Dict.tmrLastResidual n, Hid.trgHigh dest, Hid.trgEnd dest, Hid.pinLevel (0x44 + dest), Dict.trgOwner dest]) ∧
  (∀ (s : State) (n p : Nat), n < 32 → p < 4 → s.serves .time = true → s.dev.get (Dict.tmrState n) = 1 →
    let target := (s.begin s.start).pendingTarget n
    let d := s.begin (max s.start target)
    target < s.clock.boundary → s.clock.boundary ≤ s.start + 2 * frameUnits → s.dev.get (Dict.tmrDestination n) = 0x20 + p →
    d.barOf p target = 0 → s.dev.is (Dict.plsEnable p) = true → s.dev.is (Hid.plsRemoved p) = false →
    s.dev.is Dict.outputsPermitted = true → s.dev.is Dict.startServiceHoldActive = false →
    let placed := Dev.placeEdge (d.intendedEdge p target)
    let ending := (placed.1 + ((s.dev.get (Dict.plsWidth p) * unitsPerNs : Nat) : Rat)).floor.toNat
    ∃ t, exec (.timerFire n) s = .next t ∧ Counts s t (Dict.tmrFireCount n) ∧ t.dev.get (Dict.tmrLastFire n) = toCt64 target ∧
      t.dev.get (Dict.tmrLastResidual n) = (Dict.tmrLastResidual n).ofInt placed.2 % (Dict.tmrLastResidual n).modulus ∧
      Counts s t (Dict.plsCount p) ∧ t.dev.get (Hid.plsHigh p) = 1 ∧ t.dev.get (Hid.plsEnd p) = (ending + 1) % (Hid.plsEnd p).modulus ∧
      t.dev.emit = [.edge (0x40 + p) (Dev.pulseLevel (s.dev.get (Dict.plsPolarity p)) true) placed.1.floor.toNat] ∧
      OnlyRegisters s t [Dict.tmrFireCount n, Dict.tmrLastFire n, Hid.tmrTargets n, Dict.tmrState n, Dict.tmrNextFire n,
        Dict.tmrLastResidual n, Hid.plsHigh p, Hid.plsEnd p, Hid.pinLevel (0x40 + p), Dict.plsOwner p, Dict.plsCount p, Dict.plsFollowApplied p]) ∧
  (∀ (s : State) (m : Nat), m < 8 → s.serves .synth = true → s.dev.is (Hid.trgHigh m) = true → s.dev.get (Hid.trgEnd m) ≤ s.clock.boundary →
    ∃ t, exec (.trgPulseEnd m) s = .next t ∧ t.dev.get (Hid.trgHigh m) = 0 ∧ t.dev.get (Hid.trgEnd m) = 0 ∧
      t.dev.get (Hid.pinLevel (0x44 + m)) = (t.dev.trgLevel m).code ∧
      t.dev.emit = (if s.dev.get (Hid.pinLevel (0x44 + m)) = (t.dev.trgLevel m).code then []
        else [.edge (0x44 + m) (t.dev.trgLevel m) (s.dev.get (Hid.trgEnd m) - 1)]) ∧
      PresentsNone s t ∧ OnlyRegisters s t [Hid.trgHigh m, Hid.trgEnd m, Hid.pinLevel (0x44 + m)])

/-! ### Channels -/

/-- INPUT_EDGE_STAMP: an edge on an open channel in service, read by the line that delivers, becomes a stamp at the converted time:
recorded, counted and kept for S0 (R139, R147, R150, R159). WINDOW_MISS: a window that closes in the frame with no edge counts a miss;
a tracking window also moves on by one period, and enough misses in a row start its search (R150, R151). -/
def Obligations.ChannelStampsAndMissesAreCounted : Prop :=
  (∀ (s : State) (c line cycle j f : Nat), c < 16 → line < 2 → j < 8 → f ≤ 64 → s.serves .time = true →
    (s.dev.get (Dict.chState c) = 2 ∨ s.dev.get (Dict.chState c) = 3) → s.dev.get (Dict.chWinMode c) = 0 →
    s.dev.get (Dict.chPrescale c) ≤ 1 → s.dev.get Hid.slewExtra = 0 → s.dev.is Hid.slewBack = false →
    let time := (s.met.convert c (c * 2 + line) (s.clock.ts + cycle * s.dev.get Dict.incrementActive) j f).toNat
    line = s.met.lineFor c time → s.dev.get (s.met.edgesAt c time) < 64 → s.dev.get (Hid.lastStop (c * 2 + line)) + 8 * unitsPerNs ≤ time →
    ∃ t, exec (.inputEdgeStamp c line cycle j f none) s = .next t ∧ Counts s t (Dict.chStampCount c) ∧
      t.dev.get (Dict.chLastStamp c) = toTime96 time % 2 ^ 96 ∧
      t.dev.stamps = s.dev.stamps ++ [⟨c, s.dev.get (Dict.chAssigned c), time, s.dev.is (Hid.movedMark c)⟩] ∧ PresentsNone s t ∧
      OnlyRegisters s t ([Hid.lastStop (c * 2 + line), s.met.edgesAt c time, Hid.winTaken c, Hid.missRun c, Hid.prescaleArmed c, Hid.prescaleCount c,
        Dict.chLastStamp c, Dict.chStampCount c, Hid.movedMark c, Dict.chCaptureSeq c] ++ (List.range 64).map (Dict.chCaptureSlot c))) ∧
  (∀ (s : State) (c : Nat), c < 16 → s.serves .time = true → (s.dev.get (Dict.chState c) = 2 ∨ s.dev.get (Dict.chState c) = 3) →
    s.dev.get (Dict.chWinMode c) = 1 → s.met.nextWindow c + s.met.winHalf c < (s.start / frameUnits + 1) * frameUnits →
    ∃ t, exec (.windowMiss c) s = .next t ∧ Counts s t (Dict.chMissCount c) ∧
      t.dev.get (Hid.winMissed c) = (s.met.nextWindow c + 1) % (Hid.winMissed c).modulus ∧ PresentsNone s t ∧
      OnlyRegisters s t [Dict.chMissCount c, Hid.missRun c, Hid.winMissed c]) ∧
  (∀ (s : State) (c : Nat), c < 16 → s.serves .time = true → (s.dev.get (Dict.chState c) = 2 ∨ s.dev.get (Dict.chState c) = 3) →
    s.dev.get (Dict.chWinMode c) = 2 → s.dev.is (Dict.chWindowSearch c) = false → s.dev.get (Hid.missRun c) + 1 < 2 ^ 16 →
    s.met.nextWindow c + s.met.winHalf c < (s.start / frameUnits + 1) * frameUnits →
    ∃ t, exec (.windowMiss c) s = .next t ∧ Counts s t (Dict.chMissCount c) ∧
      t.dev.get (Hid.winCentre c) = (s.dev.get (Hid.winCentre c) + s.dev.get (Dict.chPeriod c)) % (Hid.winCentre c).modulus ∧
      (s.dev.get (Dict.chMissLimit c) ≤ s.dev.get (Hid.missRun c) + 1 → t.dev.get (Dict.chWindowSearch c) = 1) ∧
      OnlyRegisters s t [Dict.chMissCount c, Hid.missRun c, Hid.winCentre c, Dict.chWindowSearch c])

/-- TWIN_SWAP: at its frame start the other line, its table and twin check passed, goes into service and the old line starts its
collection (R156, R158). -/
def Obligations.TwinSwapChangesLine : Prop :=
  ∀ (s : State) (c : Nat), c < 19 → s.serves .time = true → s.dev.get (chStateReg c) = 2 → s.met.framesToSwap c = 0 →
    s.dev.get (chLineReg c) < 2 →
    s.dev.get (Hid.lineResult (c * 2 + (1 - s.dev.get (chLineReg c)))) = 1 → s.dev.get (Hid.twinState c) = 1 →
    ∃ t, exec (.twinSwap c) s = .next t ∧ t.dev.get (chLineReg c) = 1 - s.dev.get (chLineReg c) ∧
      Counts s t (chReg Dict.chCalCount Dict.linkChCalCount c) ∧ t.dev.get (chCalStatusReg c) = 0 ∧
      t.dev.get (Hid.lineResult (c * 2 + s.dev.get (chLineReg c))) = 0 ∧
      t.dev.get (Hid.swapAt c) = s.start % (Hid.swapAt c).modulus ∧ PresentsNone s t ∧
      OnlyRegisters s t ((let n := c * 2 + s.dev.get (chLineReg c); [Hid.swapAt c, Hid.tempBase n, Hid.voltBase n, Hid.readBase n, Hid.lineStart n]) ++
        [chLineReg c, chReg Dict.chCalCount Dict.linkChCalCount c, chCalStatusReg c, Hid.calFailRun c,
        Hid.lineResult (c * 2 + s.dev.get (chLineReg c)), Hid.lineRestarted (c * 2 + s.dev.get (chLineReg c)), Hid.twinCount c, Hid.twinSum c,
        Hid.twinMax c, Hid.twinState c] ++ (if c < 16 then (List.range 8).map (Dict.chBinTable c) else []))

/-- CAL_COLLECTION_COMPLETE and CAL_TIMEOUT on a line whose collection is under way: a whole histogram, in time, that passes every check
stores its table, with the means of temperature and voltage over the collection; a collection not complete within 3.0 s fails the
line, which a Starting channel counts (R147, R157, R161). Units 19 and 20 are the PCTs, whose pair of passed lines measures (R385). -/
def Obligations.CalibrationPassesOrFailsALine : Prop :=
  (∀ (s : State) (c line : Nat) (hist : List (List Nat)) (first : List Nat) (temp : Int) (volt : Nat), c < 19 → line < 2 →
    s.serves .time = true → s.dev.collecting c line = true → Dev.wholeCollection hist first = true →
    s.clock.frames ≤ s.dev.get (Hid.lineStart (c * 2 + line)) + Dev.collectionFrames → Dev.histogramCheck hist first = 0 →
    ∃ t, exec (.calCollectionComplete c line hist first temp volt) s = .next t ∧ t.dev.get (Hid.lineResult (c * 2 + line)) = 1 ∧
      t.dev.get (Hid.tableFrame (c * 2 + line)) = s.clock.frames % (Hid.tableFrame (c * 2 + line)).modulus ∧
      t.dev.get (Hid.tableVolt (c * 2 + line)) = (s.met.collectionMeans c line (temp, volt)).2 % (Hid.tableVolt (c * 2 + line)).modulus ∧
      OnlyRegisters s t ([Hid.lineResult (c * 2 + line), Hid.tableTemp (c * 2 + line), Hid.tableVolt (c * 2 + line), Hid.tableFrame (c * 2 + line)] ++
        (List.range 8).map (Hid.binTable (c * 2 + line)))) ∧
  (∀ (s : State) (p line : Nat) (hist : List (List Nat)) (first : List Nat) (temp : Int) (volt : Nat), p < 2 → line < 2 →
    s.serves .time = true → s.dev.get (Dev.pctState p) = 0 → s.dev.get (Hid.pctResult (p * 2 + (1 - line))) = 1 →
    Dev.wholeCollection hist first = true → s.clock.frames ≤ s.dev.get (Hid.pctStart (p * 2 + line)) + Dev.collectionFrames →
    Dev.histogramCheck hist first = 0 →
    ∃ t, exec (.calCollectionComplete (19 + p) line hist first temp volt) s = .next t ∧ t.dev.get (Dev.pctState p) = 1 ∧ PresentsNone s t ∧
      OnlyRegisters s t [Dev.pctState p, Hid.pctResult (p * 2 + line), Hid.pctStart (p * 2 + line), Hid.pctFailRun p]) ∧
  (∀ (s : State) (c line : Nat), c < 19 → line < 2 → s.serves .time = true → s.dev.get (chStateReg c) = 0 →
    s.dev.get (Hid.lineResult (c * 2 + line)) = 0 → s.dev.get (Hid.lineStart (c * 2 + line)) + Dev.collectionFrames ≤ s.clock.frames →
    ∃ t, exec (.calTimeout c line) s = .next t ∧ t.dev.get (chCalStatusReg c) = 1 ∧ Counts s t (chReg Dict.chCalFailCount Dict.linkChCalFailCount c) ∧
      t.dev.get (Hid.lineResult (c * 2 + line)) = 2 ∧ PresentsNone s t ∧
      OnlyRegisters s t [chCalStatusReg c, chReg Dict.chCalFailCount Dict.linkChCalFailCount c, Hid.lineResult (c * 2 + line)])

/-- CH_SOURCE and CH_RELEASE: accepted, a source written to a channel stands from S0 on; a Removed channel that is released calibrates
again (R54, R721). -/
def Obligations.ChannelWritesTakeEffectAtS0 : Prop :=
  (∀ (s : State) (h : Head) (items : List Item) (x : Session), s.admits h items x = true →
    ∃ t, exec (.chSource h items) s = .next t ∧ Accepted s t h items x) ∧
  (∀ (d : Dev) (c source : Nat), c < 16 → source < 256 →
    (d.applyGroup [(Dict.chSource c).item ⟨1, source⟩] []).get (Dict.chSource c) = source) ∧
  (∀ (s : State) (h : Head) (c : Nat) (v : Value) (x : Session), c < 16 → s.admits h [(Dict.chRelease c).item v] x = true →
    ∃ t, exec (.chRelease h c v) s = .next t ∧ Accepted s t h [(Dict.chRelease c).item v] x ∧
      ∀ d : Dev, d.removed (.channel c) = true →
        (d.applyGroup [(Dict.chRelease c).item v] []).get (Dict.chState c) = if d.startUpPasses (.channel c) then 0 else 4) ∧
  (∀ (s : State) (h : Head) (m : Nat) (v : Value) (x : Session), m < 3 → s.admits h [(Dict.linkChRelease m).item v] x = true →
    ∃ t, exec (.chRelease h (16 + m) v) s = .next t ∧ Accepted s t h [(Dict.linkChRelease m).item v] x ∧
      ∀ d : Dev, d.removed (.link m) = true →
        (d.applyGroup [(Dict.linkChRelease m).item v] []).get (Dict.linkChState m) = if d.startUpPasses (.link m) then 0 else 4)

/-! ### Selection, servo and steering -/

/-- WAITING_TIMER_EXPIRY: a Waiting reference that nothing excludes becomes Qualified, with its time and source 25 (R194, R197, R216). -/
def Obligations.WaitingReferenceQualifies : Prop :=
  ∀ (s : State) (r : Nat), r < 18 → s.serves .time = true → s.dev.get (Dict.refState r) = 2 → s.dev.get (Hid.refDeadline r) ≤ s.start →
    s.dev.is (Dict.refExclude r) = false → s.dev.get (Dict.refQc r) ≤ s.dev.get Dict.refQcMinimum →
    ∃ t, exec (.waitingTimerExpiry r) s = .next t ∧ t.dev.get (Dict.refState r) = 3 ∧ t.dev.get (Dict.refFailCause r) = 0 ∧
      t.dev.get (Dict.refStateSince r) = toTime96 s.start % 2 ^ 96 ∧ t.dev.get (Dict.refWtrRemaining r) = 0 ∧ Presents s t 25 [] ∧
      OnlyRegisters s t [Dict.refWtrRemaining r, Dict.refState r, Dict.refFailCause r, Dict.refStateSince r, Hid.refInWindow r]

/-- HANDOVER_WINDOW_CLOSE: at the end of the sixteenth frame the build-out is the mean of the window's sixteen differences and the window
is closed; in Locked, with APLL0 locked, the state stays (R203, R221). -/
def Obligations.HandOverWindowFixesBuildOut : Prop :=
  ∀ s : State, s.serves .time = true → s.dev.get Dict.switchState = 1 → s.dev.handover.length = 16 → s.dev.state = 3 →
    s.dev.get Dict.apll0State ≠ 3 →
    ∃ t, exec .handoverWindowClose s = .next t ∧ t.dev.q Q.buildOut = s.dev.handover.sum / 16 ∧ t.dev.get Dict.switchState = 0 ∧
      t.dev.get Dict.switchTarget = 0xFF ∧ t.dev.get Hid.windowClosed = 1 ∧ t.dev.handover = [] ∧ t.dev.state = 3 ∧ PresentsNone s t ∧
      OnlyRegisters s t ([Dict.buildOutUncertainty, Hid.windowClosedAt, Hid.windowClosed, Hid.boundWindow, Dict.switchState, Dict.switchTarget] ++
        (List.range 18).map Hid.refInWindow)

/-- WATERSHED_FORCED_REF and WATERSHED_STATS_CLEAR: accepted, the reference written stands from S0, and the counts return to zero at S0
(R202, R215). -/
def Obligations.WatershedWritesTakeEffectAtS0 : Prop :=
  (∀ (s : State) (h : Head) (v : Value) (x : Session), s.admits h [Dict.watershedForcedRef.item v] x = true →
    ∃ t, exec (.watershedForcedRef h v) s = .next t ∧ Accepted s t h [Dict.watershedForcedRef.item v] x ∧
      ∀ d : Dev, (d.applyGroup [Dict.watershedForcedRef.item v] []).get Dict.watershedForcedRef = v.value % 256) ∧
  (∀ (s : State) (h : Head) (v : Value) (x : Session), s.admits h [Dict.watershedStatsClear.item v] x = true →
    ∃ t, exec (.watershedStatsClear h v) s = .next t ∧ Accepted s t h [Dict.watershedStatsClear.item v] x ∧
      ∀ d : Dev, (d.applyGroup [Dict.watershedStatsClear.item v] []).get Dict.switchCount = 0 ∧
        (d.applyGroup [Dict.watershedStatsClear.item v] []).get Dict.switchAbandonCount = 0 ∧
        ∀ r < 18, (d.applyGroup [Dict.watershedStatsClear.item v] []).get (Dict.refFailCount r) = 0)

/-- DWELL_COMPLETE and SERVO_UNLOCK: the stage advances, Acquire becomes Locked at ServoLockedStage; 64 frames above the unlock limit return
Locked to Acquire at stage 0, counted, with sources 48 and 54 (R221, R228). -/
def Obligations.ServoStagesAdvanceAndUnlock : Prop :=
  (∀ s : State, s.serves .time = true → s.dev.state = 3 → s.dev.dwellServed = true → s.dev.nextStage < 256 →
    ∃ t, exec .dwellComplete s = .next t ∧ t.dev.get Dict.servoStage = s.dev.nextStage ∧ t.dev.state = 3 ∧ PresentsNone s t ∧
      OnlyRegisters s t [Dict.servoStage, Hid.unlockFrames, Hid.dwellFrames]) ∧
  (∀ s : State, s.serves .time = true → s.dev.state = 2 → s.dev.dwellServed = true → s.dev.nextStage < 256 →
    s.dev.get Dict.servoLockedStage ≤ s.dev.nextStage →
    ∃ t, exec .dwellComplete s = .next t ∧ t.dev.get Dict.servoStage = s.dev.nextStage ∧ t.dev.state = 3 ∧
      t.dev.get Dict.deviceStateSince = toTime96 s.start % 2 ^ 96 ∧ Presents s t 48 [(1, 2), (1, 3)] ∧
      OnlyRegisters s t (stateRegisters ++ [Dict.servoStage, Hid.unlockFrames, Hid.dwellFrames, Hid.everLocked, Hid.setApplied])) ∧
  (∀ s : State, s.serves .time = true → s.dev.state = 3 → 64 ≤ s.dev.get Hid.unlockFrames →
    ∃ t, exec .servoUnlock s = .next t ∧ t.dev.state = 2 ∧ t.dev.get Dict.servoStage = 0 ∧ Counts s t Dict.servoUnlockCount ∧
      t.dev.posted = s.dev.posted ++ [⟨48, packDetail [(1, 3), (1, 2)], false, false, true⟩, ⟨54, packDetail [], false, false, true⟩] ∧
      OnlyRegisters s t (stateRegisters ++ [Dict.servoStage, Hid.unlockFrames, Hid.dwellFrames, Hid.gainStage, Dict.servoUnlockCount]))

/-- STEER_UPDATE: in its frame, permitted and in SPI mode, the permitted command's code, inside SteerCodeMin and SteerCodeMax, is
shifted out in its word 76 µs after the frame start; in template mode the message rendered from the permitted command (R226, R233 to
R236). STEER_REPLY and STEER_REPLY_TIMEOUT: a reply that begins with the prefix ends the wait and the run of failures; a wait that
runs out is a failure, and the SteerFailLimit-th failure in a row sets Fault and raises source 52 (R238). -/
def Obligations.SteeringUpdatesAreSentAndJudged : Prop :=
  (∀ s : State, s.serves .time = true → s.frameNumber % max 1 (s.dev.get Dict.steerUpdateFrames) = 0 → s.dev.is Dict.steerPermitted = true →
    s.dev.get Dict.steerState ≠ 0 → s.dev.get Dict.servoMode = 1 → s.dev.get Dict.steerMode = 1 →
    s.dev.get Dict.steerCodeMin ≤ s.dev.get Dict.steerCodeMax → s.dev.get Dict.steerCodeMax < 2 ^ 32 →
    let wanted : Rat := ((s.dev.get Dict.steerCodeCentre : Nat) : Rat) + s.dev.permittedCommand (s.dev.q Q.rTot) / s.dev.lsb + s.dev.q Q.dither
    let code := (clampInt (s.dev.get Dict.steerCodeMin) (s.dev.get Dict.steerCodeMax) (roundNear wanted)).toNat
    let word := s.dev.get Dict.steerSpiPrefix ||| (code * 2 ^ s.dev.get Dict.steerSpiCodeShift)
    ∃ t, exec .steerUpdate s = .next t ∧ t.dev.get Dict.steerCode = code ∧
      s.dev.get Dict.steerCodeMin ≤ code ∧ code ≤ s.dev.get Dict.steerCodeMax ∧
      t.dev.emit = [.serial 0 (octetsOf 4 (word % 2 ^ s.dev.get Dict.steerSpiWordBits)) (s.start + 76 * 65536000)] ∧ PresentsNone s t ∧
      OnlyRegisters s t [Dict.steerCode, Hid.uHeld]) ∧
  (∀ (s : State) (octets : List Nat), s.serves .time = true → s.frameNumber % max 1 (s.dev.get Dict.steerUpdateFrames) = 0 →
    s.dev.is Dict.steerPermitted = true → s.dev.get Dict.steerState ≠ 0 → s.dev.get Dict.servoMode = 1 → s.dev.get Dict.steerMode = 2 →
    Dev.render (roundNear (s.dev.permittedCommand (s.dev.q Q.rTot) * ((10 ^ s.dev.get Dict.steerTplScale : Nat) : Rat))) s.dev.templateOctets [] = some octets →
    ∃ t, exec .steerUpdate s = .next t ∧ t.dev.emit = [.serial 1 octets (s.start + 76 * 65536000)] ∧
      t.dev.get Hid.steerReplyDue = (if s.dev.get Dict.steerReplyPrefix = 0 then 0 else 1) ∧ PresentsNone s t ∧
      OnlyRegisters s t [Dict.steerTplLength, Hid.uHeld, Hid.steerReplyDue]) ∧
  (∀ (s : State) (octets : List Nat), s.serves .time = true → s.dev.is Hid.steerReplyDue = true → s.dev.get Dict.steerState = 1 →
    (let begins := (octetsOf 8 (s.dev.get Dict.steerReplyPrefix)).takeWhile (· != 0); octets.take begins.length = begins) →
    ∃ t, exec (.steerReply octets) s = .next t ∧ t.dev.get Hid.steerReplyDue = 0 ∧ t.dev.get Hid.steerBad = 0 ∧
      t.dev.get Dict.steerLastReply = ofOctets (octets.take 16 ++ List.replicate (16 - (octets.take 16).length) 0) % 2 ^ 128 ∧
      PresentsNone s t ∧ OnlyRegisters s t [Dict.steerLastReply, Hid.steerReplyDue, Hid.steerBad]) ∧
  (∀ s : State, s.serves .time = true → s.dev.is Hid.steerReplyDue = true → s.dev.get Dict.steerState = 1 →
    s.dev.get Dict.steerFailLimit ≤ s.dev.get Hid.steerBad + 1 →
    ∃ t, exec .steerReplyTimeout s = .next t ∧ t.dev.get Dict.steerState = 2 ∧ Counts s t Dict.steerFailCount ∧ Presents s t 52 [] ∧
      OnlyRegisters s t [Dict.steerFailCount, Hid.steerReplyDue, Hid.steerBad, Hid.steerGood, Dict.steerState])

/-- OSC_MODEL_FIT and OSC_MODEL_RESET: a whole block of the oscillator model is closed at frame 0 of every 64th second and, with no model to
judge it, joins the blocks; a reset at S0 leaves no model and no block (R240, R242). -/
def Obligations.OscillatorBlocksCloseAndReset : Prop :=
  (∀ s : State, s.serves .time = true → s.frameNumber = 0 → s.start / secondUnits % 64 = 0 → s.dev.q Q.blockCount = 262144 →
    s.dev.get Hid.fitAt ≠ s.clock.frames + 1 → s.dev.get Dict.deviceState ≠ 4 →
    s.dev.get Dict.oscModelState = 0 → 64 ≤ s.dev.get Dict.oscLearnWindow →
    ∃ t, exec .oscModelFit s = .next t ∧ t.dev.q Q.blockCount = 0 ∧ t.dev.q Q.blockSum = 0 ∧
      (⟨s.start / secondUnits - 64, s.dev.q Q.blockSum / 262144, s.dev.blockHeat⟩ : OscBlock) ∈ t.dev.blocks ∧ PresentsNone s t ∧
        OnlyRegisters s t [Hid.fitAt, Hid.blockSigma, Hid.oscBadBlocks, Dict.oscLearnedTime, Dict.oscModelState, Dict.oscModelEpoch, Dict.oscModelRefTemp,
        Dict.oscModelOffset, Dict.oscSigmaOffset, Dict.oscModelDrift, Dict.oscSigmaDrift, Dict.oscModelTempCoeff, Dict.oscSigmaTempCoeff,
        Hid.permanentC]) ∧
  (∀ (s : State) (h : Head) (v : Value) (x : Session), s.admits h [Dict.oscModelReset.item v] x = true →
    ∃ t, exec (.oscModelReset h v) s = .next t ∧ Accepted s t h [Dict.oscModelReset.item v] x ∧
      ∀ d : Dev, (d.applyGroup [Dict.oscModelReset.item v] []).get Dict.oscModelState = 0 ∧ (d.applyGroup [Dict.oscModelReset.item v] []).blocks = [])

/-! ### Synthesis and outputs -/

/-- APLL0_LOCK, APLL0_LOCK_TIMEOUT and APLL0_RETURN_TO_MOSC: locking ends Locked, counted, with source 57; a relock that does not lock in time
returns to VCO hold with cause 4; the return to MOSC passes through VCO hold with cause 3 (R257, R571). APLL_BAND_FOUND, APLL_LOCK,
APLL_LOCK_TIMEOUT and APLL_LOCK_LOSS: the states of an output APLL; its outputs realign after lock, and a lock that is missed or
lost raises sources 63 and 58 (R261, R265). -/
def Obligations.ApllStatesAdvance : Prop :=
  (∀ s : State, s.dev.powered .time = true → s.dev.get Dict.apll0State = 1 →
    ∃ t, exec .apll0Lock s = .next t ∧ t.dev.get Dict.apll0State = 2 ∧ Counts s t Dict.apll0LockCount ∧
      (⟨57, packDetail [(1, s.dev.get Dict.apll0Source)], false, false, true⟩ : Post) ∈ t.dev.posted ∧
      OnlyRegisters s t (holdoverRegisters ++ [Dict.apll0State, Dict.apll0LockCount] ++ ((List.range 19).flatMap fun c =>
        [chCalStatusReg c, Hid.twinCount c, Hid.twinSum c, Hid.twinMax c, Hid.twinState c]) ++ ((List.range 38).flatMap fun n =>
        [Hid.lineResult n, Hid.lineRestarted n, Hid.tempBase n, Hid.voltBase n, Hid.readBase n, Hid.lineStart n]))) ∧
  (∀ s : State, s.dev.powered .time = true → s.dev.get Dict.apll0State = 1 → s.dev.is Hid.apll0FromHold = true →
    ∃ t, exec .apll0LockTimeout s = .next t ∧ t.dev.get Dict.apll0State = 3 ∧ Counts s t Dict.apll0HoldCount ∧ t.dev.get Hid.apll0Wait = 1 ∧
      Presents s t 56 [(1, 4), (1, s.dev.get Dict.apll0Source)] ∧
      OnlyRegisters s t [Hid.apll0Wait, Dict.apll0State, Dict.apll0HoldCount, Hid.apll0HoldFrame, Hid.apll0Returning, Hid.apll0Held]) ∧
  (∀ s : State, s.dev.powered .time = true → s.dev.get Dict.apll0State = 2 → s.dev.get Dict.apll0Source = 2 → s.dev.get Dict.moscState = 2 →
    ∃ t, exec .apll0ReturnToMosc s = .next t ∧ t.dev.get Dict.apll0State = 3 ∧ Counts s t Dict.apll0HoldCount ∧
      Presents s t 56 [(1, 3), (1, 2)] ∧
      OnlyRegisters s t [Hid.moscReturnWanted, Dict.apll0State, Dict.apll0HoldCount, Hid.apll0HoldFrame, Hid.apll0Returning, Hid.apll0Held]) ∧
  (∀ (s : State) (a : Nat), 1 ≤ a → a ≤ 3 → s.dev.powered .synth = true →
    (s.dev.get (Dict.apllState a) = 1 → ∃ t, exec (.apllBandFound a) s = .next t ∧ t.dev.get (Dict.apllState a) = 2 ∧ PresentsNone s t ∧
      OnlyRegisters s t [Dict.apllState a, Hid.apllFromCal a]) ∧
    (s.dev.get (Dict.apllState a) = 2 → ∃ t, exec (.apllLock a) s = .next t ∧ t.dev.get (Dict.apllState a) = 3 ∧
      (∀ n ∈ s.dev.outputsOf a, t.dev.get (Hid.outRealign n) = 1) ∧ PresentsNone s t ∧
      OnlyRegisters s t ([Dict.apllState a, Hid.apllFromCal a, Hid.apllFromHold a, Hid.apllHoldFrame a] ++ (s.dev.outputsOf a).map Hid.outRealign)) ∧
    (s.dev.get (Dict.apllState a) = 1 → ∃ t, exec (.apllLockTimeout a) s = .next t ∧ t.dev.get (Dict.apllState a) = 0 ∧
      (∀ n ∈ s.dev.outputsOf a, t.dev.get (Dict.outState n) = 1) ∧ Presents s t 63 [(1, a)] ∧
      OnlyRegisters s t (Dict.apllState a :: (s.dev.outputsOf a).map Dict.outState)) ∧
    (s.dev.get (Dict.apllState a) = 3 → s.dev.get Dict.moscState = 2 → ∃ t, exec (.apllLockLoss a) s = .next t ∧
      t.dev.get (Dict.apllState a) = 2 ∧ Counts s t (Dict.apllLockLossCount a) ∧ Presents s t 58 [(1, a)] ∧
      OnlyRegisters s t ([Dict.apllState a, Dict.apllLockLossCount a] ++ (s.dev.outputsOf a).map Dict.outState)))

/-- APLL_PLAN_WRITE, APLL_RELEASE, OUT_REALIGN, OUT_RELEASE and PLS_RELEASE: accepted, they take effect at S0 (R54, R261, R265). -/
def Obligations.SynthesisWritesTakeEffectAtS0 : Prop :=
  (∀ (s : State) (h : Head) (items : List Item) (x : Session), s.admits h items x = true →
    ∃ t, exec (.apllPlanWrite h items) s = .next t ∧ Accepted s t h items x) ∧
  (∀ (d : Dev) (a scale : Nat), 1 ≤ a → a ≤ 3 → scale < 256 →
    (d.applyGroup [(Dict.apllRefScale a).item ⟨1, scale⟩] []).get (Dict.apllRefScale a) = scale) ∧
  (∀ (s : State) (h : Head) (a : Nat) (v : Value) (x : Session), 1 ≤ a → a ≤ 3 → s.admits h [(Dict.apllRelease a).item v] x = true →
    ∃ t, exec (.apllRelease h a v) s = .next t ∧ Accepted s t h [(Dict.apllRelease a).item v] x ∧
      ∀ d : Dev, d.get (Dict.apllState a) = 5 →
        (d.applyGroup [(Dict.apllRelease a).item v] []).get (Dict.apllState a) = if d.startUpPasses (.apll a) then 0 else 5) ∧
  (∀ (s : State) (h : Head) (n : Nat) (v : Value) (x : Session), n < 16 → s.admits h [(Dict.outRealign n).item v] x = true →
    ∃ t, exec (.outRealign h n v) s = .next t ∧ Accepted s t h [(Dict.outRealign n).item v] x ∧
      ∀ d : Dev, (d.applyGroup [(Dict.outRealign n).item v] []).get (Hid.outRealign n) = 1) ∧
  (∀ (s : State) (h : Head) (n : Nat) (v : Value) (x : Session), n < 16 → s.admits h [(Dict.outRelease n).item v] x = true →
    ∃ t, exec (.outRelease h n v) s = .next t ∧ Accepted s t h [(Dict.outRelease n).item v] x ∧
      ∀ d : Dev, d.get (Dict.outState n) = 5 →
        (d.applyGroup [(Dict.outRelease n).item v] []).get (Dict.outState n) = if d.startUpPasses (.cko n) then 0 else 5) ∧
  (∀ (s : State) (h : Head) (p : Nat) (v : Value) (x : Session), p < 4 → s.admits h [(Dict.plsRelease p).item v] x = true →
    ∃ t, exec (.plsRelease h p v) s = .next t ∧ Accepted s t h [(Dict.plsRelease p).item v] x ∧
      ∀ d : Dev, d.removed (.pls p) = true →
        (d.applyGroup [(Dict.plsRelease p).item v] []).get (Hid.plsRemoved p) = if d.startUpPasses (.pls p) then 0 else 1)

/-- OUTPUT_ACTIVITY_LOSS, PLS_PULSE_END and ZTOD_SEND: a silent pad raises source 63 with its code; a pulse whose width is over
returns its pin to its level; the rendered message starts when its start bit begins, with the octets whose start bits the frame holds,
or is counted and reported when outputs are not permitted (R271, R273, R275, R281).
TODI_MESSAGE and TODI_OCTET_GAP: a message whose Sync, version, length and CRC check is counted and kept; any other is counted as an
error; a gap starts the search for Sync again (R282, R284). -/
def Obligations.OutputsReportAndTimeOfDayIsChecked : Prop :=
  (∀ (s : State) (n : Nat), n < 16 → s.serves .synth = true → s.dev.is (Dict.outEnable n) = true → s.dev.get (Dict.outState n) ≠ 5 →
    ∃ t, exec (.outputActivityLoss (0x30 + n)) s = .next t ∧ Presents s t 63 [(1, 0x30 + n)] ∧ OnlyRegisters s t []) ∧
  (∀ (s : State) (p : Nat), p < 4 → s.serves .synth = true → s.dev.is (Dict.plsEnable p) = true → s.dev.is (Hid.plsRemoved p) = false →
    ∃ t, exec (.outputActivityLoss (0x40 + p)) s = .next t ∧ Presents s t 63 [(1, 0x40 + p)] ∧ OnlyRegisters s t []) ∧
  (∀ (s : State) (p : Nat), p < 4 → s.serves .synth = true → s.dev.is (Hid.plsHigh p) = true → s.dev.get (Hid.plsEnd p) ≤ s.clock.boundary →
    ∃ t, exec (.plsPulseEnd p) s = .next t ∧ t.dev.get (Hid.plsHigh p) = 0 ∧ t.dev.get (Hid.plsEnd p) = 0 ∧
      t.dev.get (Hid.pinLevel (0x40 + p)) = (t.dev.plsLevel p).code ∧
      t.dev.emit = (if s.dev.get (Hid.pinLevel (0x40 + p)) = (t.dev.plsLevel p).code then []
        else [.edge (0x40 + p) (t.dev.plsLevel p) (s.dev.get (Hid.plsEnd p) - 1)]) ∧
      PresentsNone s t ∧ OnlyRegisters s t [Hid.plsHigh p, Hid.plsEnd p, Hid.pinLevel (0x40 + p)]) ∧
  (∀ (s : State) (m : Nat), m < 2 → s.serves .synth = true → s.dev.get (Hid.todReady m) ≠ 0 → s.dev.get (Hid.todReady m) ≤ s.clock.boundary →
    s.dev.is (Dict.todEnable m) = true → s.dev.is (Hid.todRemoved m) = false → (s.dev.todTimer m).isSome = true →
    s.dev.is Dict.outputsPermitted = true →
    let bitAt := fun i => (s.dev.set (Hid.todBegin m) (s.dev.get (Hid.todReady m))).todBit m i
    let count := (List.range 48).countP fun i => decide (bitAt i < (s.start / frameUnits + 1) * frameUnits)
    ∃ t, exec (.ztodSend m) s = .next t ∧ Counts s t (Dict.todSentCount m) ∧ t.dev.get (Hid.todReady m) = 0 ∧
      t.dev.emit = (if count = 0 then [] else [.serial (2 + m) ((octetsOf 48 (s.dev.get (Hid.todMessage m))).take count) (bitAt 0)]) ∧
      t.dev.get (Hid.todNext m) = count % 48 ∧ PresentsNone s t ∧
      t.dev.get (Dict.todSequence m) = (s.dev.get (Dict.todSequence m) + 1) % 65536 ∧
      OnlyRegisters s t [Hid.todReady m, Dict.todSentCount m, Dict.todSequence m, Hid.todDisc m, Hid.todBegin m, Hid.todNext m]) ∧
  (∀ (s : State) (m : Nat), m < 2 → s.serves .synth = true → s.dev.get (Hid.todReady m) ≠ 0 → s.dev.get (Hid.todReady m) ≤ s.clock.boundary →
    s.dev.is (Dict.todEnable m) = true → s.dev.is (Hid.todRemoved m) = false → (s.dev.todTimer m).isSome = true →
    s.dev.is Dict.outputsPermitted = false →
    ∃ t, exec (.ztodSend m) s = .next t ∧ Counts s t (Dict.todSkipCount m) ∧ t.dev.emit = [] ∧ Presents s t 62 [(1, 0x10 + m), (1, 4)] ∧
      OnlyRegisters s t [Hid.todReady m, Dict.todSkipCount m]) ∧
  (∀ (s : State) (k : Nat) (octets : List Nat), k < 4 → s.serves .time = true → octets.length = 48 → octets.take 4 = [0x5A, 0x54, 1, 48] →
    ofOctets (octets.drop 44) = crc32 (octets.take 44) % 2 ^ 32 →
    ∃ t, exec (.todiMessage k octets) s = .next t ∧ Counts s t (Dict.todInGoodCount k) ∧ t.dev.get (Dict.todInLast k) = ofOctets octets % 2 ^ 384 ∧
      PresentsNone s t ∧ OnlyRegisters s t [Dict.todInGoodCount k, Dict.todInLast k, Hid.todAt k, Hid.todPulse k, Hid.todQuantisation k,
        Hid.todSearch k,
        Hid.utcReport (10 + k), Hid.utcLeapKind (10 + k), Hid.utcLeapTime (10 + k)]) ∧
  (∀ (s : State) (k : Nat) (octets : List Nat), k < 4 → s.serves .time = true → octets.length = 48 →
    ofOctets (octets.drop 44) ≠ crc32 (octets.take 44) % 2 ^ 32 →
    ∃ t, exec (.todiMessage k octets) s = .next t ∧ Counts s t (Dict.todInErrorCount k) ∧ PresentsNone s t ∧
      OnlyRegisters s t [Hid.todSearch k, Dict.todInErrorCount k]) ∧
  (∀ (s : State) (k : Nat), k < 4 → s.serves .time = true →
    ∃ t, exec (.todiOctetGap k) s = .next t ∧ t.dev.get (Hid.todSearch k) = 1 ∧ PresentsNone s t ∧ OnlyRegisters s t [Hid.todSearch k])

/-! ### Satellite receiver -/

/-- GNSS_STATE_EVALUATE, SAMPLE_CLOCK_FAULT and POSITION_CHECK: an enabled, powered receiver leaves Off for its start state; a band
whose clock has been missing for 4 ms is Faulty and tracks nothing, with source 64; the deviation of an unconstrained position is
judged each 64 s while Holding or Suspended (R296, R301, R314). GNSS_RELEASE, GNSS_SURVEY_RESTART, GNSS_TRUSTED_TIME_SET and GNSS_BANK_RELEASE: accepted;
the trusted time is 2 s uncertain at acceptance; the others act from S0 (R301, R303, R321, R336). -/
def Obligations.ReceiverStartsAndTakesCommands : Prop :=
  (∀ (s : State) (sec : GnssSecond), s.serves .time = true → s.dev.powered .gnss = true → s.dev.is Dict.gnssEnable = true →
    s.dev.get Dict.gnssState = 0 →
    ∃ t, exec (.gnssStateEvaluate sec) s = .next t ∧ t.dev.get Dict.gnssState = 1 ∧ PresentsNone s t ∧ DeviceOnly s t) ∧
  (∀ (s : State) (b : Nat), b < 2 → s.serves .gnss = true → s.met.clockMissing b = true → s.dev.get (Dict.gsClockState b) = 1 →
    ∃ t, exec (.sampleClockFault b) s = .next t ∧ t.dev.get (Dict.gsClockState b) = 2 ∧ t.dev.get (Dict.gsSignalsTracked b) = 0 ∧
      Presents s t 64 [(1, b)] ∧
        OnlyRegisters s t ([Dict.gsClockState b, Dict.gsSignalsTracked b, Hid.gsBadAt b,
        Hid.gsSince b] ++ (List.range 192).map Dict.gnssChannelStatus)) ∧
  (∀ (s : State) (x y z : Int), s.serves .gnss = true → (s.dev.get Dict.gnssState = 4 ∨ s.dev.get Dict.gnssState = 5) →
    64 * framesPerSecond ≤ s.met.framesSince (s.dev.get Hid.posCheckFrom - 1) →
    ∃ t, exec (.positionCheck x y z) s = .next t ∧
      t.dev.get Dict.gnssPositionDeviation = min (s.dev.positionDeviation (x, y, z)) 0xFFFFFFFF ∧
      t.dev.get Hid.gnssPosResult = (if t.dev.get Dict.gnssPositionDeviation ≤ s.dev.get Dict.gnssPositionLimit then 1 else 2) ∧ PresentsNone s t ∧
      OnlyRegisters s t [Dict.gnssPositionDeviation, Hid.gnssPosResult, Hid.gnssPosRun, Hid.posCheckFrom]) ∧
  (∀ (s : State) (h : Head) (v : Value) (x : Session), s.admits h [Dict.gnssRelease.item v] x = true →
    ∃ t, exec (.gnssRelease h v) s = .next t ∧ Accepted s t h [Dict.gnssRelease.item v] x ∧
      ∀ d : Dev, (d.applyGroup [Dict.gnssRelease.item v] []).get Hid.gnssReleaseWanted = 1) ∧
  (∀ (s : State) (h : Head) (v : Value) (x : Session), s.admits h [Dict.gnssSurveyRestart.item v] x = true →
    ∃ t, exec (.gnssSurveyRestart h v) s = .next t ∧ Accepted s t h [Dict.gnssSurveyRestart.item v] x ∧
      ∀ d : Dev, (d.applyGroup [Dict.gnssSurveyRestart.item v] []).get Hid.gnssRestartWanted = 1) ∧
  (∀ (s : State) (h : Head) (v : Value) (x : Session), s.admits h [Dict.gnssTrustedTimeSet.item v] x = true →
    ∃ t, exec (.gnssTrustedTimeSet h v) s = .next t ∧ Accepted s t h [Dict.gnssTrustedTimeSet.item v] x ∧
      OnlyRegisters s t (shownBy x ++ [Hid.trustKnown, Hid.trustNs, Dict.gnssTrustedTimeUnc, Dict.gnssOsnmaState, Hid.osnmaTimeLost]) ∧
      t.dev.get Hid.trustKnown = 1 ∧ t.dev.get Hid.trustNs = 2000000000) ∧
  (∀ (s : State) (h : Head) (v : Value) (x : Session), s.admits h [Dict.gnssBankRelease.item v] x = true →
    ∃ t, exec (.gnssBankRelease h v) s = .next t ∧ Accepted s t h [Dict.gnssBankRelease.item v] x ∧
      ∀ d : Dev, 1 ≤ v.value → v.value ≤ 12 → d.removed (.bank v.value) = true →
        (d.applyGroup [Dict.gnssBankRelease.item v] []).get (Dict.gnssBankState (v.value - 1)) =
          if d.startUpPasses (.bank v.value) then 0 else 1)

/-- CHANNEL_ALLOCATION: outside tracking every channel is free; a signal that is wanted takes the lowest free channel in service, with its
identity, Searching, and its direction (R298, R299, R336). -/
def Obligations.ChannelsFollowTheWantedSignals : Prop :=
  (∀ (s : State) (sky : List SkySat), s.serves .gnss = true → (s.dev.get Dict.gnssState = 1 ∨ s.dev.get Dict.gnssState = 6) →
    ∃ t, exec (.channelAllocation sky) s = .next t ∧ (∀ k < 192, t.dev.get (Dict.gnssChannelStatus k) = 0) ∧ PresentsNone s t ∧
      OnlyRegisters s t ((List.range 192).map Dict.gnssChannelStatus)) ∧
  (∀ (s : State) (sky : List SkySat) (w : SkySat × Nat), s.serves .gnss = true → s.dev.get Dict.gnssState = 4 →
    (∀ k < 192, s.dev.get (Dict.gnssChannelStatus k) = 0) → s.dev.get (Dict.gnssBankState 0) = 0 → s.dev.wantedSignals sky = [w] →
    0 < Dev.signalId w.1 w.2 → Dev.signalId w.1 w.2 < 2 ^ 13 →
    ∃ t, exec (.channelAllocation sky) s = .next t ∧
      t.dev.get (Dict.gnssChannelStatus 0) = Dev.signalId w.1 w.2 * 2 ^ 51 + 2 ^ 48 + Dev.directionBits w.1 ∧ PresentsNone s t ∧
      OnlyRegisters s t [Dict.gnssChannelStatus 0])

/-- GNSS_SOLUTION and G0_RECORD_POST: in Holding a second with enough satellites, where no consistency check is set, forms the Valid
record of that second with the weighted mean of its satellites and their number, or, with fewer than GnssMinSats of known bias, a
withheld one; a second without enough posts nothing; a formed record that is in time reaches the post port, a later one is counted
(R291, R301, R307 to R309, R311). -/
def Obligations.SolutionFormsARecord : Prop :=
  (∀ (s : State) (e : GnssEpoch), s.serves .gnss = true → s.dev.get Dict.gnssState = 4 →
    (s.dev.get Dict.gnssInterferenceMode = 0 ∨ s.dev.get Dict.gnssInterferenceMode = 1) →
    let found : Dev := Dev.showCalibration { s.met with g0Formed := none }
    let rated : Dev := { found with g0Rates := ((ofFrac64 (found.getI (Dict.refFrequency 16)) - found.q Q.rTot) :: found.g0Rates).take 64 }
    let p := Dev.prepareSats rated e (s.start / secondUnits) s.met.bandsInUse
    let used := p.2.filter fun x => p.1.posts x.obs && (p.1.biasOf e x.obs.system).isSome
    let mean := p.1.weightedMean e p.2
    let offset := mean.1 + p.1.utcTerm e.a0 e.a1 e.tot (s.start / secondUnits) + p.1.weekTerm e
    p.1.enoughSats p.2 = true →
    ∃ t, exec (.gnssSolution e) s = .next t ∧ t.dev.get Hid.gnssSolved = 1 ∧
      t.dev.g0Formed.map (fun r => (r.epoch, r.offset, r.sats, bit r.flags 15)) =
        some (if used.length < s.dev.get Dict.gnssMinSats ∨ mean.2 = 0 then (s.start / secondUnits, 0, 0, false)
          else (s.start / secondUnits, roundNear (offset * (secondUnits : Nat)), used.length, true)) ∧ DeviceOnly s t) ∧
  (∀ (s : State) (e : GnssEpoch), s.serves .gnss = true → s.dev.get Dict.gnssState = 4 → e.sats = [] → 0 < s.dev.get Dict.gnssMinSats →
    ∃ t, exec (.gnssSolution e) s = .next t ∧ t.dev.g0Formed = none ∧ t.dev.get Hid.gnssSolved = s.dev.get Hid.gnssSolved ∧
      OnlyRegisters s t ([Dict.gnssIfDelay, Dict.gnssCalTerm, Dict.gnssExcludedCount,
    Hid.gnssSolved] ++ (List.range 192).map Dict.gnssChannelStatus)) ∧
  (∀ (s : State) (r : G0Record), s.serves .gnss = true → s.dev.g0Formed = some r → s.start / secondUnits ≤ r.epoch →
    ∃ t, exec .g0RecordPost s = .next t ∧ t.dev.g0Posted = some r ∧ t.dev.g0Formed = none ∧ PresentsNone s t ∧ OnlyRegisters s t []) ∧
  (∀ (s : State) (r : G0Record), s.serves .gnss = true → s.dev.g0Formed = some r → r.epoch < s.start / secondUnits →
    ∃ t, exec .g0RecordPost s = .next t ∧ t.dev.g0Posted = s.dev.g0Posted ∧ t.dev.g0Formed = none ∧ Counts s t Dict.g0LateCount ∧
      Presents s t 77 [] ∧ OnlyRegisters s t [Dict.g0LateCount])

/-- NOTCH_ENGAGE and NOTCH_DISENGAGE: a free notch takes the offset, a notch in use is freed; each raises source 71 (R323, R324).
OSNMA_TAG_VERIFY, DSM_PKR_RECEIVE and TRUSTED_TIME_UPDATE: the identifiers of a tag are shown; a public key whose Merkle proof
verifies against the stored root is held; the trusted time follows the timescale's bound in each second where it is trusted (R318 to
R321). The ICD's verifications are log entry 5. -/
def Obligations.NotchesAndAuthenticationMaterial : Prop :=
  (∀ (s : State) (b : Nat) (hz : Int), b < 2 → s.serves .gnss = true → s.dev.get Dict.gnssInterferenceMode = 1 →
    s.dev.get (Dict.gsNotchCentre b 0) = 0x7FFFFFFF → 0 ≤ hz → hz < 2 ^ 31 →
    ∃ t, exec (.notchEngage b hz) s = .next t ∧ t.dev.getI (Dict.gsNotchCentre b 0) = hz ∧ Counts s t (Dict.gsNotchActive b) ∧
      Presents s t 71 [(1, b), (4, hz.toNat)] ∧ OnlyRegisters s t [Dict.gsNotchCentre b 0, Dict.gsNotchActive b]) ∧
  (∀ (s : State) (b k : Nat), b < 2 → k < 4 → s.serves .gnss = true → s.dev.getI (Dict.gsNotchCentre b k) ≠ 0x7FFFFFFF →
    ∃ t, exec (.notchDisengage b k) s = .next t ∧ t.dev.get (Dict.gsNotchCentre b k) = 0x7FFFFFFF ∧
      Presents s t 71 [(1, b), (4, s.dev.get (Dict.gsNotchCentre b k))] ∧
      OnlyRegisters s t [Dict.gsNotchCentre b k, Dict.gsNotchActive b]) ∧
  (∀ (s : State) (tag : OsnmaTag), s.serves .gnss = true → s.dev.get Dict.gnssState = 4 → tag.keyId < 256 → tag.chainId < 256 →
    ∃ t, exec (.osnmaTagVerify tag) s = .next t ∧ t.dev.get Dict.gnssOsnmaKeyId = tag.keyId ∧ t.dev.get Dict.gnssOsnmaChainId = tag.chainId ∧
      OnlyRegisters s t [Dict.gnssOsnmaKeyId, Dict.gnssOsnmaChainId, Dict.gnssOsnmaFailCount, Dict.gnssOsnmaAuthSats, Dict.gnssOsnmaState,
        Hid.osnmaStatus, Hid.osnmaBad, Hid.osnmaHad, Hid.revokedKeys, Hid.revokedChains]) ∧
  (∀ (s : State) (keyId : Nat) (material proof : List Nat), s.serves .gnss = true → s.dev.nodeUsable 7 = true → (s.dev.key 7).isSome = true →
    bit (s.dev.nodeUse 7).2.1 6 = true → s.dev.mustWait 7 = false →
    ∃ t, exec (.dsmPkrReceive keyId material proof) s = .next t ∧
      t.dev.osnmaKey = (if Config.merkleProof (octetsOf 32 (s.dev.nodeMaterial 7)) keyId material proof = true then some (keyId, material)
        else s.dev.osnmaKey) ∧ DeviceOnly s t ∧
      ((s.dev.nodeUse 7).2.2.1 = 0 → PresentsNone s t ∧
        OnlyRegisters s t (keyRegisters 7 ++ [Dict.gnssOsnmaKeyId, Dict.gnssOsnmaState]))) ∧
  (∀ s : State, s.serves .time = true → s.dev.get Dict.selectedRef = 16 → s.dev.is (Hid.refAuth 16) = true → s.dev.state = 3 →
    s.dev.get Dict.boundTimescale < 0xFFFFFFFF →
    ∃ t, exec .trustedTimeUpdate s = .next t ∧ t.dev.get Hid.trustKnown = 1 ∧
      t.dev.get Hid.trustNs = (s.dev.get Dict.boundTimescale + 999) / 1000 ∧
      OnlyRegisters s t [Hid.lastRef, Hid.trustKnown, Hid.trustNs, Dict.gnssTrustedTimeUnc, Dict.gnssOsnmaState, Hid.osnmaTimeLost])

/-! ### Audit trail -/

/-- AUDIT_RECORD_STORE, AUDIT_RECORD_LOST, AUDIT_CHECKPOINT and AUDIT_ARCHIVE_DAYS: within 64 frames the oldest waiting record, with its
flags and the Mac of its key, or unkeyed and reported, enters the archive, the oldest beyond its size leaving; later it is lost, counted and reported; the checkpoint goes to NV under the
NvWrite pass; the size written stands from S0 (R366 to R370). -/
def Obligations.AuditRecordsAreStoredOrLost : Prop :=
  (∀ (s : State) (frame record : Nat) (rest : List (Nat × Nat)), s.serves .time = true → s.dev.auditWaiting = (frame, record) :: rest →
    s.clock.frames - frame ≤ 64 → s.dev.powered .crypt = true → s.dev.powered .mem = true →
    let given := octetsOf 52 record
    let seq := ofOctets ((given.drop 4).take 4)
    let node := s.dev.auditNode
    let gen := s.dev.nodeGeneration node % 256
    let flags := given.getD 2 0 + (if seq = (s.dev.get Hid.auditKeyed + 1) % 2 ^ 32 then 0 else 2) +
      (if gen = s.dev.get Hid.auditKeyedGen then 0 else 1)
    let text := given.take 2 ++ [flags, gen] ++ given.drop 4
    let kept := fun stored : Nat =>
      (s.dev.archive ++ [(seq, stored)]).drop (s.dev.archive.length + 1 - s.dev.get Dict.auditArchiveDays * 86400)
    (s.dev.nodeUsable node = true → bit (s.dev.nodeUse node).2.1 2 = true →
      let mac := hmacSha256 (s.dev.nodeMaterial node) (octetsOf 12 (s.dev.get Dict.auditLastMac) ++ text) / 2 ^ 160 % 2 ^ 96
      let stored := ofOctets (text ++ octetsOf 12 mac)
      ∃ t, exec .auditRecordStore s = .next t ∧ t.dev.auditWaiting = rest ∧ t.dev.archive = kept stored ∧
        t.dev.get Dict.auditLastRecord = stored % 256 ^ 64 ∧ t.dev.get Dict.auditLastMac = mac ∧ t.dev.get Hid.auditKeyed = seq ∧ DeviceOnly s t) ∧
    (s.dev.nodeUsable node = false →
      let stored := ofOctets (text ++ List.replicate 12 0)
      ∃ t, exec .auditRecordStore s = .next t ∧ t.dev.auditWaiting = rest ∧ t.dev.archive = kept stored ∧
        t.dev.get Dict.auditLastRecord = stored % 256 ^ 64 ∧ Counts s t Dict.auditUnkeyedCount ∧ Presents s t 82 [(4, seq)] ∧
        OnlyRegisters s t [Dict.auditUnkeyedCount, Dict.auditOldest, Dict.auditLastRecord])) ∧
  (∀ (s : State) (frame record : Nat) (rest : List (Nat × Nat)), s.serves .time = true → s.dev.auditWaiting = (frame, record) :: rest →
    64 < s.clock.frames - frame →
    ∃ t, exec .auditRecordLost s = .next t ∧ t.dev.auditWaiting = rest ∧ t.dev.archive = s.dev.archive ∧ Counts s t Dict.auditLostCount ∧
      Presents s t 82 [(4, ofOctets (((octetsOf 52 record).drop 4).take 4))] ∧ OnlyRegisters s t [Dict.auditLostCount]) ∧
  (∀ s : State, bit (s.dev.get Hid.nvWanted) 2 = true → s.dev.passHeld 0 = true →
    ∃ t, exec .auditCheckpoint s = .next t ∧
      t.dev.nvAudit = some (s.dev.get Hid.auditKeyed, s.dev.get Hid.auditKeyedGen, s.dev.get Dict.auditLastMac) ∧ PresentsNone s t ∧
      OnlyRegisters s t [Hid.nvWanted]) ∧
  (∀ (s : State) (h : Head) (v : Value) (x : Session), s.admits h [Dict.auditArchiveDays.item v] x = true →
    ∃ t, exec (.auditArchiveDays h v) s = .next t ∧ Accepted s t h [Dict.auditArchiveDays.item v] x ∧
      ∀ d : Dev, (d.applyGroup [Dict.auditArchiveDays.item v] []).get Dict.auditArchiveDays = v.value % Dict.auditArchiveDays.modulus)

/-! ### Ports -/

/-- PORT_CALIBRATION_DONE and PORT_CAL_INCOMPLETE: a calibration that passes every check takes the port to Training, Calibrated; one whose
markers are not stamped within 8 ms because the PCT does not measure takes it to Training on its factory delays, pending (R385, R386). -/
def Obligations.PortCalibrationEndsInTraining : Prop :=
  (∀ (s : State) (q : Nat) (lanes : List LaneDelays), q < 6 → s.serves .net = true → s.dev.get (Dict.portState q) = 1 →
    s.met.portCalCheck q lanes = 0 →
    ∃ t, exec (.portCalibrationDone q lanes) s = .next t ∧ t.dev.get (Dict.portState q) = 2 ∧ t.dev.get (Dict.portCalStatus q) = 1 ∧
      t.dev.getI (Dict.portCalTemp q) = (Dict.portCalTemp q).toInt ((Dict.portCalTemp q).ofInt (s.dev.getI (Dict.regionTemp (portRegion q)))) ∧
      OnlyRegisters s t ([Dict.portState q, Hid.portLockAt q, Dict.portCalStatus q, Dict.portCalSpread q, Dict.portCalTemp q, Dict.portCalTime q,
        Hid.portAged q] ++ (List.range (portLanes q)).flatMap fun l => [Dict.portTxDelay q l, Dict.portRxDelay q l])) ∧
  (∀ (s : State) (q : Nat), q < 6 → s.serves .net = true → s.dev.get (Dict.portState q) = 1 → s.dev.get (Dev.pctState (portRegion q)) ≠ 1 →
    s.met.portCalLate q = true →
    ∃ t, exec (.portCalIncomplete q) s = .next t ∧ t.dev.get (Dict.portState q) = 2 ∧ t.dev.get (Dict.portCalStatus q) = 2 ∧
      t.dev.get (Dict.portCalLastFail q) = 1 ∧ t.dev.get (Dict.portCalPending q) = 1 ∧ PresentsNone s t ∧
      OnlyRegisters s t ([Dict.portState q, Hid.portLockAt q, Dict.portCalStatus q, Dict.portCalLastFail q, Dict.portCalPending q,
      Dict.portCalTemp q,
        Dict.portCalTime q] ++ (List.range (portLanes q)).flatMap fun l => [Dict.portTxDelay q l, Dict.portRxDelay q l]))

/-- PORT_UP, PORT_DOWN, PCS_STATUS_CHANGE and MGT_LINK_CHANGE: lock held for PortUpHold brings a port up with source 85; loss held for
PortDownHold returns it to Training with source 84, counted; the receiver's condition and the MGT link are shown (R390, R414). -/
def Obligations.PortsComeUpAndGoDown : Prop :=
  (∀ (s : State) (q : Nat), q < 6 → s.serves .net = true → s.dev.get (Dict.portState q) = 2 → s.dev.is (Hid.portLocked q) = true →
    s.met.heldFor q (s.dev.get (Dict.portUpHold q)) = true →
    ∃ t, exec (.portUp q) s = .next t ∧ t.dev.get (Dict.portState q) = 3 ∧
      t.dev.get (Dict.portCommitLead q) = (if s.dev.get (Dict.portMode q) = 1 then 2048 else if s.dev.get (Dict.portMode q) = 2 then 4096 else 8192) ∧
      Presents s t 85 [] ∧ OnlyRegisters s t [Dict.portState q, Dict.portUpSince q, Dict.portCommitLead q, Hid.esmcAt q]) ∧
  (∀ (s : State) (q : Nat), q < 6 → s.serves .net = true → s.dev.get (Dict.portState q) = 3 → s.dev.is (Hid.portLocked q) = false →
    s.met.heldFor q (s.dev.get (Dict.portDownHold q)) = true → s.dev.needsCal q = false →
    ∃ t, exec (.portDown q) s = .next t ∧ t.dev.get (Dict.portState q) = 2 ∧ Counts s t (Dict.linkDownCount q) ∧
      Presents s t 84 [(1, q)] ∧ OnlyRegisters s t [Dict.portState q, Dict.linkDownCount q, Hid.portLockAt q]) ∧
  (∀ (s : State) (q : Nat), q < 6 → s.serves .net = true → s.dev.get (Dict.portState q) = 3 → s.dev.is (Hid.portLocked q) = true →
    s.dev.is (Hid.portHiBer q) = false →
    ∃ t, exec (.pcsStatusChange q ⟨false, false, false, 0, 0, 0⟩) s = .next t ∧ t.dev.get (Hid.portLocked q) = 0 ∧ 
      PresentsNone s t ∧
      OnlyRegisters s t [Hid.portLocked q, Hid.portLockAt q, Hid.portHiBer q, Dict.fecCorrected q, Dict.pcsBlockErrors q]) ∧
  (∀ (s : State) (up : Bool), s.serves .net = true → s.dev.is Dict.mgtLinkUp = !up →
    ∃ t, exec (.mgtLinkChange up 1000) s = .next t ∧ t.dev.is Dict.mgtLinkUp = up ∧ Presents s t 98 [] ∧ OnlyRegisters s t [Dict.mgtLinkUp])

/-- RECEIVED_FRAME: on a port that is Up a frame of admitted length with a good FCS is counted with its octets; one with a bad FCS
is counted as an error and nothing else happens (R402, R419). PAUSE_RECEIVE, PFC_RECEIVE and PAUSE_EXPIRY: a pause is counted and,
where PortPauseMode honours it, stops the priorities it names for their quanta from its instant; where it does not, only the count
changes; the expiry ends the stop (R396, R397; the quantum is log entry 47). -/
def Obligations.ReceivedFramesAndPausesAreCounted : Prop :=
  (∀ (s : State) (f : RxFrame), f.rx.port < 6 → s.serves .net = true → s.dev.get (Dict.portState f.rx.port) = 3 → 64 ≤ f.length →
    f.length ≤ s.dev.get (Dict.portMaxFrame f.rx.port) + 4 * f.tags.length → f.fcsOk = true →
    ∃ t, exec (.receivedFrame f) s = .next t ∧ Counts s t (Dict.rxFrames f.rx.port) ∧
      t.dev.get (Dict.rxOctets f.rx.port) = min (s.dev.get (Dict.rxOctets f.rx.port) + f.length) (2 ^ 64 - 1) ∧
      OnlyRegisters s t [Dict.rxFrames f.rx.port, Dict.rxOctets f.rx.port, Dict.rxTagDrops f.rx.port, Hid.excSecond f.rx.port,
      Hid.excSent f.rx.port,
        Hid.excTaken f.rx.port, Dict.excToHost f.rx.port, Dict.excDropped f.rx.port, Dict.mgtTxFrames, Hid.raisedSecond (16 + f.rx.port)]) ∧
  (∀ (s : State) (f : RxFrame), f.rx.port < 6 → s.serves .net = true → s.dev.get (Dict.portState f.rx.port) = 3 → 64 ≤ f.length →
    f.length ≤ s.dev.get (Dict.portMaxFrame f.rx.port) + 4 * f.tags.length → f.fcsOk = false →
    ∃ t, exec (.receivedFrame f) s = .next t ∧ Counts s t (Dict.rxFcsErrors f.rx.port) ∧ PresentsNone s t ∧
      OnlyRegisters s t [Dict.rxFcsErrors f.rx.port]) ∧
  (∀ (s : State) (q quanta : Nat), q < 6 → quanta < 65536 → s.serves .net = true → s.dev.get (Dict.portState q) = 3 →
    ∃ t, exec (.pauseReceive q quanta) s = .next t ∧ Counts s t (Dict.rxPauseFrames q) ∧
      ((s.dev.txWaiting.all fun j => j.port != q) = true →
    OnlyRegisters s t ([Dict.rxPauseFrames q, Hid.pauseMark q, Hid.pauseSince q, Hid.pauseLong q, Dict.pausedTime q] ++
        (List.range 8).map (Hid.pauseUntil q))) ∧ DeviceOnly s t ∧
      (s.dev.get (Dict.portPauseMode q) = 0 →
        ∀ k < 8, t.dev.get (Hid.pauseUntil q k) = (s.anyInstant + s.dev.pauseUnits q quanta) % 256 ^ 16) ∧
      (s.dev.get (Dict.portPauseMode q) ≠ 0 → OnlyRegisters s t [Dict.rxPauseFrames q])) ∧
  (∀ (s : State) (q enable : Nat) (times : List Nat), q < 6 → s.serves .net = true → s.dev.get (Dict.portState q) = 3 →
    ∃ t, exec (.pfcReceive q enable times) s = .next t ∧ Counts s t (Dict.rxPfcFrames q) ∧
      ((s.dev.txWaiting.all fun j => j.port != q) = true →
    OnlyRegisters s t ([Dict.rxPfcFrames q, Hid.pauseMark q, Hid.pauseSince q, Hid.pauseLong q, Dict.pausedTime q] ++
        (List.range 8).map (Hid.pauseUntil q))) ∧ DeviceOnly s t ∧
      (s.dev.get (Dict.portPauseMode q) = 0 → ∀ k < 8, bit enable k = true →
        t.dev.get (Hid.pauseUntil q k) = (s.anyInstant + s.dev.pauseUnits q (times.getD k 0 % 65536)) % 256 ^ 16) ∧
      (s.dev.get (Dict.portPauseMode q) ≠ 0 → OnlyRegisters s t [Dict.rxPfcFrames q])) ∧
  (∀ (s : State) (q : Nat), q < 6 → s.serves .net = true → s.dev.get (Hid.pauseMark q) ≠ 0 → s.met.pauseEnd q ≤ s.anyInstant →
    ∃ t, exec (.pauseExpiry q) s = .next t ∧ t.dev.get (Hid.pauseMark q) = 0 ∧ t.dev.get (Hid.pauseSince q) = 0 ∧ DeviceOnly s t ∧
      ((s.dev.txWaiting.all fun j => j.port != q) = true →
        OnlyRegisters s t [Hid.pauseMark q, Hid.pauseSince q, Hid.pauseLong q, Dict.pausedTime q]))

/-- STAMP_HOLD_EXPIRY and STAMP_QUEUE_DRAIN: a held frame whose 64 µs have passed leaves the hold; 32 waiting entries leave in one
datagram of kind 3 to the bound host, oldest first (R399 to R401). HOST_FRAME_FOR_TRANSMISSION: a frame of the bound host for a port
that is Up, within the rate and without a stamp request, is counted and committed; one from elsewhere is dropped and counted (R405
to R408). -/
def Obligations.ExceptionPathCarriesStampsAndFrames : Prop :=
  (∀ (s : State) (q : Nat) (first : HeldFrame), q < 6 → s.serves .net = true → (s.dev.held.find? fun h => h.job.port == q) = some first →
    first.deadline ≤ s.start →
    ∃ t, exec (.stampHoldExpiry q) s = .next t ∧ t.dev.held.length < s.dev.held.length ∧ DeviceOnly s t) ∧
  (∀ (s : State) (q : Nat), q < 6 → s.serves .net = true → 32 ≤ (s.dev.stampQueue.filter fun e => e.port == q).length → s.dev.excReady = true →
    (s.dev.openMarkers.find? fun m => m.port == q) = none → (s.dev.held.find? fun h => h.job.port == q) = none →
    ∃ t, exec (.stampQueueDrain q) s = .next t ∧
      t.dev.emit = [.datagram ⟨s.dev.get Dict.excBoundAddress, s.dev.get Dict.excBoundPort, 3, q, 0, 512, 32, 0,
        (s.dev.stampQueue.filter fun e => e.port == q).take 32⟩] ∧
      (t.dev.stampQueue.filter fun e => e.port == q) = (s.dev.stampQueue.filter fun e => e.port == q).drop 32 ∧ PresentsNone s t ∧
      OnlyRegisters s t [Dict.mgtTxFrames, Dict.stampQueueFree q]) ∧
  (∀ (s : State) (f : HostFrame), f.port < 6 → s.serves .net = true → s.dev.is Dict.mgtLinkUp = true → s.dev.get Dict.excBoundPort ≠ 0 →
    f.address = s.dev.get Dict.excBoundAddress → f.version = 1 → f.kind = 2 → f.length = f.octets → 14 ≤ f.octets → bit f.flags 0 = false →
    s.dev.get (Hid.excSecond f.port) = s.start / secondUnits + 1 → s.dev.get (Hid.excTaken f.port) < s.dev.get (Dict.portExcRateLimit f.port) →
    f.octets + 4 ≤ s.dev.get (Dict.portMaxFrame f.port) + 4 * f.tags.length → s.dev.get (Dict.portState f.port) = 3 →
    24 + f.octets ≤ s.dev.get Dict.excMaxDatagram →
    ∃ t, exec (.hostFrameForTransmission f) s = .next t ∧ Counts s t (Dict.excFromHost f.port) ∧ Counts s t Dict.mgtRxFrames ∧
      t.dev.get (Dict.excDropped f.port) = s.dev.get (Dict.excDropped f.port) ∧
      OnlyRegisters s t [Dict.mgtRxFrames, Dict.excFromHost f.port, Hid.excTaken f.port, Dict.txFrames f.port, Dict.txOctets f.port]) ∧
  (∀ (s : State) (f : HostFrame), f.port < 6 → s.serves .net = true → s.dev.is Dict.mgtLinkUp = true →
    f.address ≠ s.dev.get Dict.excBoundAddress → s.dev.get (Hid.excSecond f.port) = s.start / secondUnits + 1 →
    ∃ t, exec (.hostFrameForTransmission f) s = .next t ∧ Counts s t (Dict.excDropped f.port) ∧ Counts s t Dict.mgtRxFrames ∧ PresentsNone s t ∧
      OnlyRegisters s t [Dict.excDropped f.port, Dict.mgtRxFrames])

/-- ARP_REQUEST and NEIGHBOUR_SOLICITATION: a request for an address of the management link is answered there with its MAC (R81,
R427); one for another address is not. ESMC_PDU_RECEIVE, ESMC_TIMEOUT and ESMC_INFORMATION_PDU: a PDU on a port that is Up is
counted and its QL waits for the next frame; five seconds without one end the state of the received QL, with source 95; one PDU
leaves each second (R410, R412). -/
def Obligations.AddressRequestsAndEsmcPdus : Prop :=
  (∀ (s : State) (toward : Nat), s.serves .net = true → s.dev.is Dict.mgtLinkUp = true → s.dev.get Dict.mgtIpv4Address ≠ 0 →
    let own := s.dev.get Dict.mgtIpv4Address
    let mac := s.dev.get Dict.mgtMacAddress
    ∃ t, exec (.arpRequest 6 own toward) s = .next t ∧ t.dev.emit = [.frame ⟨6, 64, s.anyInstant, mac, [], .resolved 4 own mac toward, false⟩] ∧
      Counts s t Dict.mgtRxFrames ∧ Counts s t Dict.mgtTxFrames ∧ PresentsNone s t ∧ OnlyRegisters s t [Dict.mgtRxFrames, Dict.mgtTxFrames]) ∧
  (∀ (s : State) (toward : Nat), s.serves .net = true → s.dev.is Dict.mgtLinkUp = true → s.dev.get Dict.mgtIpv6Address ≠ 0 →
    let own := s.dev.get Dict.mgtIpv6Address
    let mac := s.dev.get Dict.mgtMacAddress
    ∃ t, exec (.neighbourSolicitation 6 own toward) s = .next t ∧ t.dev.emit = [.frame ⟨6, 64, s.anyInstant, mac, [], .resolved 6 own mac toward, false⟩] ∧
      Counts s t Dict.mgtRxFrames ∧ Counts s t Dict.mgtTxFrames ∧ PresentsNone s t ∧ OnlyRegisters s t [Dict.mgtRxFrames, Dict.mgtTxFrames]) ∧
  (∀ (s : State) (q address toward : Nat), q < 6 → s.serves .net = true → address ≠ s.dev.get (Dict.svcIpv4Address q) →
    ∃ t, exec (.arpRequest q address toward) s = .next t ∧ t.dev.emit = [] ∧ PresentsNone s t ∧ OnlyRegisters s t []) ∧
  (∀ (s : State) (q ssm : Nat) (enhanced : Option Nat), q < 6 → ssm < 16 → s.serves .net = true → s.dev.get (Dict.portState q) = 3 →
    ∃ t, exec (.esmcPduReceive q ssm enhanced) s = .next t ∧ Counts s t (Dict.esmcRx q) ∧
      t.dev.get (Hid.esmcNext q) = ssm * 256 + enhanced.getD 0xFF % 256 + 1 ∧ PresentsNone s t ∧
      OnlyRegisters s t [Dict.esmcRx q, Hid.esmcAt q, Hid.esmcNext q]) ∧
  (∀ (s : State) (q : Nat), q < 6 → s.serves .net = true → s.dev.get (Dict.portState q) = 3 → s.dev.get (Dict.esmcRxState q) = 1 →
    s.dev.get (Hid.esmcAt q) ≠ 0 → s.dev.get (Hid.esmcAt q) - 1 + 5 * secondUnits ≤ s.start → s.dev.is (Dict.refEnable (8 + q)) = false →
    ∃ t, exec (.esmcTimeout q) s = .next t ∧ t.dev.get (Dict.esmcRxState q) = 2 ∧ Presents s t 95 [] ∧
      OnlyRegisters s t [Dict.esmcRxState q, Dict.refQc (8 + q)]) ∧
  (∀ (s : State) (q : Nat), q < 6 → s.serves .net = true → s.dev.get (Dict.portState q) = 3 → s.dev.is (Hid.esmcSending q) = true →
    s.dev.get (Hid.esmcSecond q) ≤ s.start / secondUnits →
    ∃ t, exec (.esmcInformationPdu q) s = .next t ∧ Counts s t (Dict.esmcTx q) ∧
      t.dev.get (Hid.esmcSecond q) = (s.start / secondUnits + 1) % 2 ^ 64 ∧
      OnlyRegisters s t [Hid.esmcSecond q, Dict.esmcTx q, Dict.txFrames q, Dict.txOctets q, Dict.esmcTxQl q])

/-- PORT_COUNTERS_CLEAR, EXC_BIND, PORT_RECALIBRATE, PORT_RELEASE and PORT_ENABLE_WRITE: accepted; the exception path is bound at acceptance;
the others act from S0 (R54, R390, R407, R416). -/
def Obligations.PortCommandsAreTaken : Prop :=
  (∀ (s : State) (h : Head) (v : Value) (x : Session), s.admits h [Dict.portCountersClear.item v] x = true →
    ∃ t, exec (.portCountersClear h v) s = .next t ∧ Accepted s t h [Dict.portCountersClear.item v] x ∧
      ∀ (d : Dev) (q : Nat), q < 6 → bit v.value q = true → (d.applyGroup [Dict.portCountersClear.item v] []).get (Dict.rxFrames q) = 0) ∧
  (∀ (s : State) (h : Head) (v : Value) (x : Session), s.admits h [Dict.excBind.item v] x = true → v.value < 65536 →
    ∃ t, exec (.excBind h v) s = .next t ∧ Accepted s t h [Dict.excBind.item v] x ∧
      OnlyRegisters s t (shownBy x ++ [Dict.excBoundAddress, Dict.excBoundPort, Hid.excSession]) ∧ t.dev.get Dict.excBoundPort = v.value ∧
      t.dev.get Dict.excBoundAddress = x.peer.address % 256 ^ 16) ∧
  (∀ (s : State) (h : Head) (q : Nat) (v : Value) (x : Session), q < 6 → s.admits h [(Dict.portRecalibrate q).item v] x = true →
    ∃ t, exec (.portRecalibrate h q v) s = .next t ∧ Accepted s t h [(Dict.portRecalibrate q).item v] x ∧
      ∀ d : Dev, d.get (Dict.portState q) = 3 → (d.applyGroup [(Dict.portRecalibrate q).item v] []).get (Dict.portState q) = 1) ∧
  (∀ (s : State) (h : Head) (q : Nat) (v : Value) (x : Session), q < 6 → s.admits h [(Dict.portRelease q).item v] x = true →
    ∃ t, exec (.portRelease h q v) s = .next t ∧ Accepted s t h [(Dict.portRelease q).item v] x ∧
      ∀ d : Dev, d.get (Dict.portState q) = 4 → d.is (Dict.portEnable q) = false →
        (d.applyGroup [(Dict.portRelease q).item v] []).get (Dict.portState q) = if d.startUpPasses (.port q) then 0 else 4) ∧
  (∀ (s : State) (h : Head) (items : List Item) (x : Session), s.admits h items x = true →
    ∃ t, exec (.portEnableWrite h items) s = .next t ∧ Accepted s t h items x) ∧
  (∀ (d : Dev) (q : Nat), q < 6 → d.get (Dict.portState q) = 3 →
    (d.applyGroup [(Dict.portEnable q).item ⟨1, 0⟩] []).get (Dict.portState q) = 0)

/-! ### Memories and bus matrix -/

/-- MEM_READ and MEM_WRITE: a reachable access of an issuing master to a target that answers, with no error waiting in its lines, reads
its octets or lands whole, and is answered OK; outside the master's windows nothing is read or written and DecodeError answers;
a register space, which the spec does not describe, is refused by name (R597, R598, R600 T5, R618, R619, R622; DESIGN CHOICE, log entry 62). -/
def Obligations.BusAccessesReachMemory : Prop :=
  (∀ (s : State) (op : BusOp) (octets : Nat), s.met.portIssues op.master = true → 0 < octets → s.met.reachable op octets = true →
    s.met.targetUp op.target = true → 1 ≤ op.target → op.target ≤ 4 → s.mem.checks = [] →
    ∃ t, exec (.memRead op octets) s = .next t ∧
      t.dev.emit = [.bus op.master op.id 0 (s.mem.readAll op.target op.offset octets)] ∧ PresentsNone s t ∧
      OnlyRegisters s t [Dict.busOutstandingPeak op.master, Dict.busGrantWaitMax op.master, Hid.grantWait op.master]) ∧
  (∀ (s : State) (op : BusOp) (data : List Nat), s.met.portIssues op.master = true → 0 < data.length →
    s.met.reachable op data.length = true → s.met.targetUp op.target = true → 1 ≤ op.target → op.target ≤ 4 → s.mem.checks = [] →
    s.mem.wf = true → (∀ v ∈ data, v < 256) → op.offset + data.length ≤ 2 ^ 40 →
    ∃ t, exec (.memWrite op data true) s = .next t ∧ t.dev.emit = [.bus op.master op.id 0 []] ∧ PresentsNone s t ∧
      (∀ target offset, offset < 2 ^ 40 → t.mem.read target offset =
        if target = op.target ∧ op.offset ≤ offset ∧ offset < op.offset + data.length then BitVec.ofNat 8 (data.getD (offset - op.offset) 0)
        else s.mem.read target offset) ∧
      t.pending = s.pending ∧ t.clock = s.clock ∧
      ∀ e : Entry, e.addr ≠ (Dict.busOutstandingPeak op.master).addr → e.addr ≠ (Dict.busGrantWaitMax op.master).addr →
        e.addr ≠ (Hid.grantWait op.master).addr → t.dev.get e = s.dev.get e) ∧
  (∀ (s : State) (op : BusOp) (octets : Nat), s.met.portIssues op.master = true → 0 < octets → s.met.reachable op octets = false →
    let address := (if op.target ≤ 5 then Config.targetBase op.target + op.offset else op.offset) % 2 ^ 48
    let v := op.master % 16 * 2 ^ 60 + (if op.target ≤ 5 then op.target else 15) * 2 ^ 56 + address
    ∃ t, exec (.memRead op octets) s = .next t ∧ t.dev.emit = [.bus op.master op.id 2 []] ∧ Counts s t Dict.busViolationCount ∧
      t.dev.get Dict.busLastViolation = v % 2 ^ 64 ∧ Presents s t 120 [(8, v)] ∧
      OnlyRegisters s t [Dict.busOutstandingPeak op.master, Dict.busGrantWaitMax op.master, Hid.grantWait op.master,
        Dict.busViolationCount, Dict.busLastViolation]) ∧
  (∀ (s : State) (op : BusOp) (octets : Nat), reachesRegisters s.met op octets = true →
    exec (.memRead op octets) s = .refused .registerSpace) ∧
  (∀ (s : State) (op : BusOp) (data : List Nat), reachesRegisters s.met op data.length = true →
    exec (.memWrite op data true) s = .refused .registerSpace) ∧
  (∀ (s : State) (op : BusOp) (data : List Nat),
    ∃ t, exec (.memWrite op data false) s = .next t ∧ t.dev.emit = [] ∧ PresentsNone s t ∧ OnlyRegisters s t [])

/-- MASTER_RESET, DRAIN_TIMEOUT and the host's memory commands: a port that drains within 2 µs leaves Draining at once; one that does not
waits, and after 2 µs its orphans are completed, counted and reported with source 122; the commands act from S0 (R599, R615, R616,
R623 to R625). -/
def Obligations.MastersDrainAndTestsWaitForS0 : Prop :=
  (∀ (s : State) (m outstanding time : Nat), m < 6 → s.dev.get (Dict.busPortState m) ≠ 1 → time ≤ 2000 → 0 < outstanding →
    ∃ t, exec (.masterReset m outstanding time) s = .next t ∧ t.dev.get (Dict.busOutstanding m) = 0 ∧
      t.dev.get (Dict.busLastDrainTime m) = time ∧
      t.dev.get (Dict.busPortState m) = (if s.dev.powered (Dev.masterDomain m) then 0 else 2) ∧ PresentsNone s t ∧
      OnlyRegisters s t [Dict.busOutstanding m, Dict.busLastDrainTime m, Dict.busPortState m]) ∧
  (∀ (s : State) (m outstanding time : Nat), m < 6 → s.dev.get (Dict.busPortState m) ≠ 1 → 2000 < time → 0 < outstanding →
    outstanding < 65536 →
    ∃ t, exec (.masterReset m outstanding time) s = .next t ∧ t.dev.get (Dict.busOutstanding m) = outstanding ∧
      t.dev.get (Dict.busPortState m) = 1 ∧ PresentsNone s t ∧ OnlyRegisters s t [Dict.busOutstanding m, Dict.busPortState m]) ∧
  (∀ (s : State) (m : Nat), m < 6 → s.dev.get (Dict.busPortState m) = 1 →
    ∃ t, exec (.drainTimeout m) s = .next t ∧
      t.dev.get Dict.busOrphanCount = min (s.dev.get Dict.busOrphanCount + s.dev.get (Dict.busOutstanding m)) 0xFFFFFFFF ∧
      t.dev.get (Dict.busPortState m) = (if s.dev.powered (Dev.masterDomain m) then 0 else 2) ∧
      Presents s t 122 [(1, m), (2, s.dev.get (Dict.busOutstanding m))] ∧
      OnlyRegisters s t [Dict.busOrphanCount, Dict.busOutstanding m, Dict.busLastDrainTime m, Dict.busPortState m]) ∧
  (∀ (s : State) (h : Head) (v : Value) (x : Session), s.admits h [Dict.memCountersClear.item v] x = true →
    ∃ t, exec (.memCountersClear h v) s = .next t ∧ Accepted s t h [Dict.memCountersClear.item v] x ∧
      ∀ d : Dev, let d' := d.applyGroup [Dict.memCountersClear.item v] []
        d'.get Dict.busViolationCount = 0 ∧ (∀ k < 4, d'.get (Dict.memUncorrectable k) = 0) ∧ ∀ m < 6, d'.get (Dict.busDataErrors m) = 0) ∧
  (∀ (s : State) (h : Head) (v : Value) (x : Session), s.admits h [Dict.memTestWrite.item v] x = true →
    ∃ t, exec (.memTestWrite h v) s = .next t ∧ Accepted s t h [Dict.memTestWrite.item v] x ∧
      ∀ d : Dev, bit ((d.applyGroup [Dict.memTestWrite.item v] []).get Hid.memTest) 0 = true) ∧
  (∀ (s : State) (h : Head) (v : Value) (x : Session), s.admits h [Dict.memTestRead.item v] x = true →
    ∃ t, exec (.memTestRead h v) s = .next t ∧ Accepted s t h [Dict.memTestRead.item v] x ∧
      ∀ d : Dev, bit ((d.applyGroup [Dict.memTestRead.item v] []).get Hid.memTest) 1 = true)

/-! ### Object protocol -/

/-- OPEN, PROVE, CHALLENGE_TIMEOUT and IDLE_TIMEOUT: an Open that its link's limits and keys admit takes a free slot with an identifier
in use nowhere and is challenged; a valid Prove opens the session and is accepted; 5 s without one, and QopIdleTimeout without an
accepted message, end the session (R68 to R73, R76). Nonces and identifiers are random: free (DESIGN CHOICE, log entry 4). -/
def Obligations.SessionsAreOpenedAndEnded : Prop :=
  (∀ (s : State) (h : Head) (level nonce slot : Nat), s.met.reaches h = true → isNoise h 1 (openBody level 0xFF nonce) = false → s.dev.get Hid.bootPhase = 5 → h.length = 52 → h.session = 0 → level < 3 →
    (s.dev.sessions.filter fun y => y.onSpi == h.onSpi).length < 4 →
    ((s.dev.sessions.filter fun y => y.onSpi == h.onSpi).filter fun y => !y.isOpen).length < 2 → s.dev.sessions.length < 8 →
    ((if h.onSpi then [4, 5, 6, 7] else [0, 1, 2, 3]).find? fun k => !s.dev.sessions.any fun y => y.slot == k) = some slot →
    s.met.openUnkeyed h.onSpi level = true →
    ∃ t x, exec (.qopOpen h level 0xFF nonce) s = .next t ∧ t.dev.sessions = x :: s.dev.sessions ∧ x.slot = slot ∧ x.onSpi = h.onSpi ∧
      x.level = level ∧ x.unauthenticated = true ∧ x.isOpen = false ∧ x.hostNonce = nonce ∧ (∀ y ∈ s.dev.sessions, y.id ≠ x.id) ∧
      (let m : QopMessage := ⟨0x02, x.id, 0, h.requestTag, 0, [], [x.deviceNonce], 0⟩
       if h.onSpi then t.dev.spiQueue = s.dev.spiQueue ++ [m] else Emit.qop h.peer m ∈ t.dev.emit) ∧
         OnlyRegisters s t [Dict.sessionState slot, Dict.mgtRxFrames, Dict.mgtTxFrames]) ∧
  (∀ (s : State) (h : Head) (level nonce slot material : Nat) (d : Dev), s.met.reaches h = true → isNoise h 1 (openBody level 0 nonce) = false → s.dev.get Hid.bootPhase = 5 → h.length = 52 → h.session = 0 → level < 3 →
    (s.dev.sessions.filter fun y => y.onSpi == h.onSpi).length < 4 →
    ((s.dev.sessions.filter fun y => y.onSpi == h.onSpi).filter fun y => !y.isOpen).length < 2 → d.sessions.length < 8 →
    ((if h.onSpi then [4, 5, 6, 7] else [0, 1, 2, 3]).find? fun k => !d.sessions.any fun y => y.slot == k) = some slot →
    s.dev.lifeCycle ≠ 4 → (s.dev.key (level + (if h.onSpi then 3 else 0))).isSome = true →
    (s.met.arrive h).dispatch (level + (if h.onSpi then 3 else 0)) 1 = (d, .key material) →
    ∃ t x, exec (.qopOpen h level 0 nonce) s = .next t ∧ t.dev.sessions = x :: d.sessions ∧ x.slot = slot ∧ x.level = level ∧
      x.unauthenticated = false ∧ x.isOpen = false ∧ (∀ y ∈ d.sessions, y.id ≠ x.id) ∧
      (let keys := kdf material [0x51, 0x4F, 0x50, 0x2D, 0x53, 0x45, 0x53, 0x53, 0x49, 0x4F, 0x4E]
         (octetsOf 16 nonce ++ octetsOf 16 x.deviceNonce ++ octetsOf 2 x.id ++ [level]) 512
       x.hostKey = keys / 2 ^ 256 % 2 ^ 256 ∧ x.deviceKey = keys % 2 ^ 256) ∧ DeviceOnly s t ∧
      ∀ e : Entry, (∀ y ∈ [Dict.sessionState slot, Dict.mgtRxFrames, Dict.mgtTxFrames], y.addr ≠ e.addr) → t.dev.get e = d.get e) ∧
  (∀ (s : State) (h : Head) (x : Session), s.met.reaches h = true → isNoise h 3 [] = false → h.length = 32 → h.sequence = 1 →
    (s.dev.sessions.find? fun y => y.id == h.session && y.onSpi == h.onSpi) = some x → x.isOpen = false → Dev.tagRight x h 0x03 [] = true →
    x.sent < 0xFFFFFFFF → (x.onSpi || s.dev.routable x.peer) = true →
    ∃ t, exec (.qopProve h) s = .next t ∧ (∃ y ∈ t.dev.sessions, y.slot = x.slot ∧ y.id = x.id ∧ y.isOpen = true) ∧
      Sends s t x 0x04 h.requestTag 0 [] [x.level, min (s.dev.get Dict.qopIdleTimeout) 0xFFFF] ∧ PresentsNone s t ∧ OnlyRegisters s t (shownBy x)) ∧
  (∀ (s : State) (slot : Nat) (x : Session), (s.dev.sessions.find? fun y => y.slot == slot) = some x → x.isOpen = false →
    5 * framesPerSecond ≤ s.met.framesSince x.lastFrame →
    ∃ t, exec (.challengeTimeout slot) s = .next t ∧ t.dev.sessions = (s.dev.sessions.filter fun y => y.slot != slot) ∧ PresentsNone s t ∧
      OnlyRegisters s t (endRegisters slot)) ∧
  (∀ (s : State) (slot : Nat) (x : Session), (s.dev.sessions.find? fun y => y.slot == slot) = some x → x.isOpen = true →
    s.dev.get Dict.qopIdleTimeout * framesPerSecond ≤ s.met.framesSince x.lastFrame →
    ∃ t, exec (.idleTimeout slot) s = .next t ∧ t.dev.sessions = (s.dev.sessions.filter fun y => y.slot != slot) ∧ PresentsNone s t ∧
      OnlyRegisters s t (endRegisters slot))

/-- READ, WRITE, SUBSCRIBE, UNSUBSCRIBE, KEEPALIVE and CLOSE: an admitted request is served once and answered: a Read with every item from one
view; a Write whole or not at all, a refused one leaving nothing staged, one that contends with the device waiting for S0 with its
Response (R38 to R40, R61, R64 to R66, R85, R86). -/
def Obligations.RequestsAreAnswered : Prop :=
  (∀ (s : State) (h : Head) (l : List (Nat × Nat)) (x : Session), s.hears h (.read l) x = true →
    let items := (s.heard h x).readItems (s.met.accepted x h.sequence) l
    responseLength items ≤ 1400 →
    ∃ t, exec (.qopRead h l) s = .next t ∧ Sends s t x 0x12 h.requestTag (Dev.firstStatus items) items [] ∧
      t.dev.staged = s.dev.staged ∧ OnlyRegisters s t (shownBy x)) ∧
  (∀ (s : State) (h : Head) (items : List Item) (x : Session), s.admits h items x = true →
    ∃ t, exec (.qopWrite h items) s = .next t ∧ Accepted s t h items x) ∧
  (∀ (s : State) (h : Head) (items : List Item) (x : Session), s.hears h (.write items) x = true → Dev.mayContend items = true →
    Dev.allOk ((s.heard h x).itemStatuses x.onSpi x.level items) = true →
    ∃ t, exec (.qopWrite h items) s = .next t ∧ t.dev.staged = s.dev.staged ++ [⟨items, some (x.id, h.requestTag, .write items), x.slot⟩] ∧
      t.dev.spiQueue = s.dev.spiQueue ∧ t.dev.emit = [] ∧ PresentsNone s t ∧ OnlyRegisters s t (shownBy x)) ∧
  (∀ (s : State) (h : Head) (items : List Item) (x : Session), s.hears h (.write items) x = true →
    let statuses := (s.heard h x).itemStatuses x.onSpi x.level items
    Dev.allOk statuses = false →
    ∃ t, exec (.qopWrite h items) s = .next t ∧
      Sends s t x 0x12 h.requestTag (Dev.messageStatus statuses) (Dev.writeReply items (Dev.shownStatuses statuses)) [] ∧
      t.dev.staged = s.dev.staged ∧ OnlyRegisters s t (shownBy x)) ∧
  (∀ (s : State) (h : Head) (subType period : Nat) (sel : Selection) (x : Session), s.hears h (.subscribe subType period sel) x = true →
    (s.heard h x).subscribeStatus (s.met.accepted x h.sequence) subType period sel = 0 →
    ∃ t y sub, exec (.qopSubscribe h subType period sel) s = .next t ∧ y ∈ t.dev.sessions ∧ y.slot = x.slot ∧ y.subs = x.subs ++ [sub] ∧
      sub.subType = subType ∧ sub.periodFrames = period ∧ sub.sel = sel ∧ (∀ z ∈ x.subs, z.id ≠ sub.id) ∧
      Sends s t x 0x12 h.requestTag 0 [] [sub.id] ∧ OnlyRegisters s t (shownBy x)) ∧
  (∀ (s : State) (h : Head) (id : Nat) (x : Session), s.hears h (.unsubscribe id) x = true → (x.subs.any fun z => z.id == id) = true →
    ∃ t y, exec (.qopUnsubscribe h id) s = .next t ∧ y ∈ t.dev.sessions ∧ y.slot = x.slot ∧ y.subs = (x.subs.filter fun z => z.id != id) ∧
      Sends s t x 0x12 h.requestTag 0 [] [] ∧ OnlyRegisters s t (shownBy x)) ∧
  (∀ (s : State) (h : Head) (x : Session), s.hears h .keepalive x = true →
    ∃ t, exec (.qopKeepalive h) s = .next t ∧ Sends s t x 0x12 h.requestTag 0 [] [] ∧ PresentsNone s t ∧ OnlyRegisters s t (shownBy x)) ∧
  (∀ (s : State) (h : Head) (x : Session), s.hears h .close x = true →
    ∃ t, exec (.qopClose h) s = .next t ∧ Sends s t x 0x12 h.requestTag 0 [] [] ∧ (∀ y ∈ t.dev.sessions, y.slot ≠ x.slot) ∧
      PresentsNone s t ∧ OnlyRegisters s t (endRegisters x.slot ++ shownBy x))

/-- NOTIFY_PERIODIC, NOTIFY_EVENT, the host SPI's frames and the commands of QOP's counters and addresses: a subscription whose period has
run notifies its entries or its waiting events; a broken frame, or one whose Fcs fails, is discarded and counted; a queued frame leaves
in its frame; the counters and the addresses change at S0 (R82 to R84, R86, R87, R98). -/
def Obligations.NotificationsAndFramesLeave : Prop :=
  (∀ (s : State) (slot id : Nat) (y : Session) (sub : Subscription) (l : List (Nat × Nat)), s.serves .ctrl = true →
    s.dev.subOf slot id = some (y, sub) → sub.sel = .entries l → sub.subType = 0 → sub.periodFrames ≤ s.met.framesSince sub.lastFrame →
    y.sent < 0xFFFFFFFF → (if y.onSpi then !s.dev.spiFull else s.dev.routable y.peer) = true →
    48 + ((s.met.readItems y l).map fun i => 6 + i.octets).sum ≤ 1400 →
    ∃ t, exec (.notifyPeriodic slot id) s = .next t ∧
      Sends s t y 0x22 0 0 (s.met.readItems y l) [sub.id, sub.lost, toTime96 s.start] ∧ PresentsNone s t ∧ OnlyRegisters s t (shownBy y)) ∧
  (∀ (s : State) (slot id : Nat) (y : Session) (sub : Subscription), s.serves .ctrl = true → s.dev.subOf slot id = some (y, sub) →
    0 < sub.waiting.length → sub.waiting.length ≤ 56 → sub.periodFrames ≤ s.met.framesSince sub.lastFrame → y.sent < 0xFFFFFFFF →
    (if y.onSpi then !s.dev.spiFull else s.dev.routable y.peer) = true →
    ∃ t, exec (.notifyEvent slot id) s = .next t ∧
      Sends s t y 0x22 0 0 [] ([sub.id, sub.lost, toTime96 s.start] ++ sub.waiting.flatten) ∧ PresentsNone s t ∧ OnlyRegisters s t (shownBy y)) ∧
  (∀ s : State, s.dev.powered .ctrl = true →
    (∃ t, exec .spiFrameAbort s = .next t ∧ Counts s t Dict.qopSpiCrcErrorCount ∧ PresentsNone s t ∧
      OnlyRegisters s t [Dict.qopSpiCrcErrorCount]) ∧
    (∃ t, exec .hostSpiNoiseFrame s = .next t ∧ Counts s t Dict.qopSpiCrcErrorCount ∧ PresentsNone s t ∧
      OnlyRegisters s t [Dict.qopSpiCrcErrorCount])) ∧
  (∀ (s : State) (h : Head) (items : List Item), s.met.listens h = true → isNoise h 0x11 (Body.octets (.write items)) = true →
    ∃ t, exec (.qopWrite h items) s = .next t ∧ Counts s t Dict.qopSpiCrcErrorCount ∧ t.dev.staged = s.dev.staged ∧
      t.dev.spiQueue = s.dev.spiQueue ∧ t.dev.emit = [] ∧ PresentsNone s t ∧ OnlyRegisters s t [Dict.qopSpiCrcErrorCount]) ∧
  (∀ (s : State) (m : QopMessage) (rest : List QopMessage), s.dev.powered .ctrl = true → s.dev.spiQueue = m :: rest →
    ∃ t, exec .outboundFrameShiftedOut s = .next t ∧ t.dev.spiQueue = rest ∧ t.dev.emit = [.spi (Dev.spiFrame m)] ∧
      t.dev.get Hid.resetAhead = s.dev.get Hid.resetAhead - 1 ∧ PresentsNone s t ∧ OnlyRegisters s t [Hid.resetAhead]) ∧
  (∀ (s : State) (h : Head) (v : Value) (x : Session), s.admits h [Dict.qopCountersClear.item v] x = true →
    ∃ t, exec (.qopCountersClear h v) s = .next t ∧ Accepted s t h [Dict.qopCountersClear.item v] x ∧
      ∀ d : Dev, let d' := d.applyGroup [Dict.qopCountersClear.item v] []
        d'.get Dict.qopAuthFailCount = 0 ∧ d'.get Dict.qopReplayDropCount = 0 ∧ d'.get Dict.qopMalformedCount = 0 ∧
        d'.get Dict.qopSpiCrcErrorCount = 0 ∧ d'.get Dict.qopNotifyLostCount = 0) ∧
  (∀ (s : State) (h : Head) (v : Value) (x : Session), s.admits h [Dict.seqStatsClear.item v] x = true →
    ∃ t, exec (.seqStatsClear h v) s = .next t ∧ Accepted s t h [Dict.seqStatsClear.item v] x ∧
      ∀ d : Dev, let d' := d.applyGroup [Dict.seqStatsClear.item v] []
        d'.get Dict.seqOverrunCount = 0 ∧ ∀ k < 8, d'.get (Dict.seqSlotWorst k) = (Dict.seqSlotWorst k).reset) ∧
  (∀ (s : State) (h : Head) (items : List Item) (x : Session), s.admits h items x = true →
    ∃ t, exec (.mgtAddressWrite h items) s = .next t ∧ Accepted s t h items x) ∧
  (∀ (d : Dev) (v : Nat), v < 2 ^ 32 → (d.applyGroup [Dict.mgtIpv4Address.item ⟨4, v⟩] []).get Dict.mgtIpv4Address = v)

/-! ### Configuration store, keys and life cycle -/

/-- STORE_COMMIT, STORE_COMMIT_DONE, STORE_REVERT, STORE_ERASE and DEVICE_RESET: a commit captures the image at S0 and waits for the
NvWrite pass; read back, the copy stands with the next generation in the place of the older one, or the commit has failed; a revert without a valid copy gives
the image its Blank defaults; an erase leaves no copy; a reset is asked for at acceptance (R90 to R92, R96, R97). -/
def Obligations.StoreCommitsRevertsAndErases : Prop :=
  (∀ (s : State) (h : Head) (v : Value) (x : Session), s.admits h [Dict.storeCommit.item v] x = true →
    ∃ t, exec (.storeCommit h v) s = .next t ∧ Accepted s t h [Dict.storeCommit.item v] x ∧
      ∀ d : Dev, let d' := d.applyGroup [Dict.storeCommit.item v] []
        d'.storeImage = some d.image ∧ d'.get Dict.storeStatus = (if d.is Hid.supplyHold then 2 else 1)) ∧
  (∀ (s : State) (values : List (Nat × Nat)) (ok : Bool), s.dev.powered .ctrl = true → s.dev.storeImage = some values →
    s.dev.passHeld 0 = true → s.dev.get Dict.storeStatus ≠ 2 →
    ∃ t, exec (.storeCommitDone ok) s = .next t ∧ t.dev.storeImage = none ∧ t.dev.get Dict.storeStatus = (if ok then 0 else 3) ∧
      (let written : StoreCopy := ⟨s.dev.get Dict.storeGeneration + 1, ok, values⟩
       if copyAge s.dev.copyA ≤ copyAge s.dev.copyB then t.dev.copyA = some written ∧ t.dev.copyB = s.dev.copyB
       else t.dev.copyA = s.dev.copyA ∧ t.dev.copyB = some written) ∧ PresentsNone s t ∧
      OnlyRegisters s t [Hid.nvWanted, Dict.storeStatus, Dict.storeGeneration, Dict.storeDirty]) ∧
  (∀ (s : State) (h : Head) (v : Value) (x : Session), s.admits h [Dict.storeRevert.item v] x = true →
    ∃ t, exec (.storeRevert h v) s = .next t ∧ Accepted s t h [Dict.storeRevert.item v] x) ∧
  (∀ (d : Dev) (e : Entry), e.sub < 256 → inImage e.index e.sub = true → (d.applyImage []).1.get e = e.reset) ∧
  (∀ (s : State) (h : Head) (v : Value) (x : Session), s.admits h [Dict.storeErase.item v] x = true →
    ∃ t, exec (.storeErase h v) s = .next t ∧ Accepted s t h [Dict.storeErase.item v] x ∧
      ∀ d : Dev, let d' := d.applyGroup [Dict.storeErase.item v] []
        d'.copyA = none ∧ d'.copyB = none ∧ d'.get Dict.storeGeneration = 0) ∧
  (∀ (s : State) (h : Head) (v : Value) (x : Session), s.admits h [Dict.deviceReset.item v] x = true →
    ∃ t, exec (.deviceReset h v) s = .next t ∧ Accepted s t h [Dict.deviceReset.item v] x ∧ t.dev.get Hid.resetRequest = 1 ∧
      t.dev.get Hid.resetAhead = (if x.onSpi then s.dev.spiQueue.length + 1 else 0) % 256 ∧
      OnlyRegisters s t ([Hid.resetRequest, Hid.resetFrame, Hid.resetOffset, Hid.resetAhead] ++ shownBy x))

/-- The key store's commands: a KeyLoad or KeyDelete changes the staged set in Provisioning and starts one commit elsewhere; the commit
read back is current, and its effect waits for the next frame start; a failed one reports source 109; paced commits start when
their second has passed; an expired key is Expired with a new generation, reported with source 108 and committed (R478 to R483,
R486, R488, R493, R496). -/
def Obligations.KeysAreCommittedAndExpire : Prop :=
  (∀ (s : State) (h : Head) (v : Value) (x : Session), s.admits h [Dict.keyLoad.item v] x = true →
    ∃ t, exec (.keyLoad h v) s = .next t ∧ Accepted s t h [Dict.keyLoad.item v] x ∧
      OnlyRegisters s t (shownBy x ++ (keyRegisters (Dev.keyOfValue v.value).index ++ [Hid.nvWanted, Dict.keyStoreStatus])) ∧
      (s.dev.lifeCycle = 1 →
        t.dev.stagedKeys = Dev.keyOfValue v.value :: s.dev.stagedKeys.filter fun k => k.index != (Dev.keyOfValue v.value).index) ∧
      (s.dev.lifeCycle ≠ 1 → s.dev.keyCommit = none → s.dev.get Hid.keyDone = 0 →
        let job := KeyJob.load (Dev.keyOfValue v.value) (bit (fieldAt 96 v.value 5 1) 0)
        t.dev.keyCommit = some (⟨(s.dev.get Hid.keyPosition + 1) % 32, s.dev.get Dict.keyStoreGeneration + 1, false, s.dev.lifeCycle,
          s.dev.keysAfter job, s.dev.emptyAfter job⟩, job))) ∧
  (∀ (s : State) (h : Head) (v : Value) (x : Session), s.admits h [Dict.keyDelete.item v] x = true →
    ∃ t, exec (.keyDelete h v) s = .next t ∧ Accepted s t h [Dict.keyDelete.item v] x ∧
      OnlyRegisters s t (shownBy x ++ (keyRegisters v.value ++ [Hid.nvWanted, Dict.keyStoreStatus])) ∧
      (s.dev.lifeCycle = 1 → t.dev.stagedKeys = s.dev.stagedKeys.filter fun k => k.index != v.value) ∧
      (s.dev.lifeCycle ≠ 1 → s.dev.keyCommit = none → s.dev.get Hid.keyDone = 0 →
        let left := s.dev.keys.filter fun k => k.index != v.value
        t.dev.keyCommit = some (⟨(s.dev.get Hid.keyPosition + 1) % 32, s.dev.get Dict.keyStoreGeneration + 1, false, s.dev.lifeCycle,
          left, s.dev.emptyAfter (.delete v.value)⟩, .delete v.value))) ∧
  (∀ (s : State) (h : Head) (v : Value) (x : Session), s.admits h [Dict.keyRederiveAll.item v] x = true →
    ∃ t, exec (.keyRederiveAll h v) s = .next t ∧ Accepted s t h [Dict.keyRederiveAll.item v] x ∧
      ∀ d : Dev, (d.applyGroup [Dict.keyRederiveAll.item v] []).get Hid.rederiveWanted = 1) ∧
  (∀ (s : State) (h : Head) (items : List Item) (x : Session), s.admits h items x = true →
    ∃ t, exec (.keySlotSpec h items) s = .next t ∧ Accepted s t h items x) ∧
  (∀ (d : Dev) (n v : Nat), n < 1024 → v < 256 ^ 96 → d.slots = [] → (SlotSpec.ofValue v).parent < 64 →
    d.nodeValid (SlotSpec.ofValue v).parent true = true → bit (d.nodeUse (SlotSpec.ofValue v).parent).2.1 0 = true →
    (d.nodeUse (SlotSpec.ofValue v).parent).2.2.1 = 0 →
    let sp := SlotSpec.ofValue v
    ∃ w ∈ (d.applyGroup [(Dev.specEntry n).item ⟨96, v⟩] []).slots, w.slot = n ∧ w.state = 1 ∧
      w.material = kdf (d.nodeMaterial sp.parent) sp.label (sp.kind :: sp.context) 256 % 2 ^ 256) ∧
  (∀ (s : State) (i : KeyImage) (job : KeyJob), s.dev.powered .ctrl = true → s.dev.keyCommit = some (i, job) → s.dev.passHeld 0 = true →
    s.dev.get Dict.keyStoreStatus ≠ 2 → s.dev.keyJobs = [] →
    (∃ t, exec (.keyStoreCommitDone true) s = .next t ∧ t.dev.keyCommit = none ∧ t.dev.keyEffect = some job ∧
      t.dev.images.head? = some { i with valid := true } ∧ t.dev.get Dict.keyStoreStatus = 0 ∧ Counts s t Dict.keyStoreCommits ∧
      t.dev.get Dict.keyStoreGeneration = i.generation % 2 ^ 32 ∧ PresentsNone s t ∧
      OnlyRegisters s t [Hid.nvWanted, Hid.keyDone, Hid.keyPosition, Dict.keyStoreGeneration, Dict.keyStoreCommits, Dict.keyStoreStatus]) ∧
    (∃ t, exec (.keyStoreCommitDone false) s = .next t ∧ t.dev.keyCommit = none ∧ t.dev.keyEffect = s.dev.keyEffect ∧
      t.dev.get Dict.keyStoreStatus = 3 ∧ Presents s t 109 [] ∧
      OnlyRegisters s t [Hid.nvWanted, Hid.keyDone, Dict.keyStoreStatus])) ∧
  (∀ (s : State) (job : KeyJob) (rest : List KeyJob), s.dev.powered .ctrl = true → s.dev.get Dict.keyStoreStatus = 4 →
    s.dev.keyCommit = none → s.dev.keyJobs = job :: rest → s.dev.get Hid.keyDone + framesPerSecond ≤ s.clock.frames + 1 →
    ∃ t, exec .keyStorePacingEnd s = .next t ∧ t.dev.keyJobs = rest ∧
      t.dev.keyCommit = some (⟨(s.dev.get Hid.keyPosition + 1) % 32, s.dev.get Dict.keyStoreGeneration + 1, false,
        s.dev.lifeCycleAfter job, s.dev.keysAfter job, s.dev.emptyAfter job⟩, job) ∧ t.dev.get Dict.keyStoreStatus = (if s.dev.is Hid.supplyHold then 2 else 1) ∧
      PresentsNone s t ∧ OnlyRegisters s t [Hid.nvWanted, Dict.keyStoreStatus]) ∧
  (∀ (s : State) (k : KeyRec), s.serves .time = true → s.dev.key k.index = some k → 6 ≤ k.index → k.index < 64 → k.state = 1 →
    k.expiryKind = 1 → ofTime96 k.notAfter ≤ s.start → s.dev.slots = [] →
    let g := (s.dev.get (Dict.keyGeneration k.index) + 1) % 2 ^ 32
    ∃ t, exec (.keyExpiry k.index) s = .next t ∧ t.dev.key k.index = some { k with state := 2, generation := g } ∧
      t.dev.get (Dict.keyState k.index) = 2 ∧ t.dev.get (Dict.keyGeneration k.index) = g ∧
      t.dev.keyJobs = s.dev.keyJobs ++ [.expire k.index] ∧ Presents s t 108 [(2, k.index), (1, 3), (4, g)] ∧ OnlyRegisters s t (keyRegisters k.index))

/-- LIFE_CYCLE_TO_PROVISIONING, LIFE_CYCLE_TO_SERVICE, LIFE_CYCLE_TO_MAINTENANCE, LIFE_CYCLE_TO_BLANK, LIFE_CYCLE_TO_RETIRED and
LIFE_CYCLE_CHANGE: a request starts the one commit that carries the new state; read back, the state changes at the next frame
start (R500, R501). In Service and Retired every instruction of the test access port but IDCODE acts as BYPASS (R695). -/
def Obligations.LifeCycleChangesByCommit : Prop :=
  (∀ (s : State) (h : Head) (x : Session) (c : Instr) (toward : Nat),
    ((c = .lifeCycleToProvisioning h ∧ toward = 1) ∨ (c = .lifeCycleToService h ∧ toward = 2) ∨ (c = .lifeCycleToMaintenance h ∧ toward = 3) ∨
      (c = .lifeCycleToBlank h ∧ toward = 0) ∨ (c = .lifeCycleToRetired h ∧ toward = 4)) →
    s.admits h [Dict.lifeCycleRequest.item ⟨1, toward⟩] x = true → s.dev.keyCommit = none → s.dev.get Hid.keyDone = 0 →
    ∃ t, exec c s = .next t ∧ Accepted s t h [Dict.lifeCycleRequest.item ⟨1, toward⟩] x ∧
      OnlyRegisters s t (shownBy x ++ [Hid.nvWanted, Dict.keyStoreStatus]) ∧
      t.dev.keyCommit = some (⟨(s.dev.get Hid.keyPosition + 1) % 32, s.dev.get Dict.keyStoreGeneration + 1, false, toward,
        s.dev.keysAfter (.lifeCycle toward), s.dev.emptyAfter (.lifeCycle toward)⟩, .lifeCycle toward) ∧ t.dev.get Dict.lifeCycleState = s.dev.get Dict.lifeCycleState) ∧
  (∀ (s : State) (i : KeyImage) (toward : Nat), s.dev.powered .ctrl = true → s.dev.keyCommit = some (i, .lifeCycle toward) →
    s.dev.passHeld 0 = true → s.dev.get Dict.keyStoreStatus ≠ 2 → s.dev.keyJobs = [] →
    ∃ t, exec (.lifeCycleChange true) s = .next t ∧ t.dev.keyCommit = none ∧ t.dev.keyEffect = some (.lifeCycle toward) ∧
      Counts s t Dict.keyStoreCommits ∧ t.dev.get Dict.keyStoreStatus = 0 ∧ PresentsNone s t ∧
      OnlyRegisters s t [Hid.nvWanted, Hid.keyDone, Hid.keyPosition, Dict.keyStoreGeneration, Dict.keyStoreCommits, Dict.keyStoreStatus]) ∧
  (∀ (d : Dev) (toward : Nat), toward ≤ 4 → d.keyEffect = some (.lifeCycle toward) →
    d.applyKeyEffect.get Dict.lifeCycleState = toward ∧ d.applyKeyEffect.keyEffect = none) ∧
  (∀ d : Dev, d.tapActs = if (d.lifeCycle = 2 ∨ d.lifeCycle = 4) ∧ d.tap.instruction ≠ .idcode then .bypass else d.tap.instruction)

/-! ### Time protocols -/

/-- SCHEDULED_SEND and DELAY_REQ: a Sync or Announce that falls due, fits the frame's budget and is not authenticated leaves its port and
is counted; a multicast Delay_Req below its limit is answered with its receive time and the correction less the fraction (R394,
R428, R430, R437, R438). -/
def Obligations.PtpMessagesLeave : Prop :=
  (∀ (s : State) (m : Send) (late : Bool) (n sequence : Nat) (interval : Int), s.serves .proto = true → (m.kind = 0 ∨ m.kind = 2) → m.slot = 0 →
    s.met.due m = some (n, sequence, interval) →
    (let d : Dev := { s.met with sentNow := s.dev.sentNow ++ [(2 * sendKey m, 0)] }
     d.fits (s.met.sendCost m n).1 (s.met.sendCost m n).2 0 (0, 0) = true) →
    s.dev.get (Dict.instAuthMode m.sender) = 0 → s.met.stopped m.port (s.dev.get (Dict.portPcp m.port)) = false →
    ∃ t f r x, exec (.scheduledSend m late) s = .next t ∧ t.dev.emit = [.frame f] ∧ f.port = m.port ∧ f.payload = .ptp r x ∧
      x.type = (if m.kind = 0 then 0 else 11) ∧ x.sequence = sequence % 65536 ∧ x.interval = interval ∧
      x.identity = s.dev.get (Dict.instClockIdentity m.sender) ∧ Counts s t (Dict.txFrames m.port) ∧
      (m.kind = 0 → Counts s t (Dict.instSyncSent m.sender) ∧ t.dev.get Dict.clientServiceStarted = 1) ∧
      (m.kind = 2 → Counts s t (Dict.instAnnounceSent m.sender)) ∧ PresentsNone s t ∧
        OnlyRegisters s t (workRegisters ++ sentRegisters m.port ++ [Dict.instSyncSent m.sender, Dict.instAnnounceSent m.sender])) ∧
  (∀ (s : State) (m : PtpRx) (i : Nat), m.rx.port < 6 → s.serves .net = true → s.dev.powered .proto = true →
    let d := s.begin (s.arrival m.rx)
    let d' := d.inc (Dict.instDelayReqRx i)
    let cost := d'.ptpWorkCost i (.delayReq m)
    d.instanceFor m = some i → d.instServes i = true → s.dev.get (Dict.portState m.rx.port) = 3 → s.dev.protoQueue = [] →
    d'.changesLeft = true → d'.fits cost.1 cost.2 0 d'.reserved = true → s.dev.get (Dict.instAuthMode i) = 0 → s.dev.get (Dict.instMode i) = 0 →
    (if s.dev.get (Hid.mcastSecond i m.rx.port) = s.start / secondUnits + 1 then s.dev.get (Hid.mcastCount i m.rx.port) else 0)
      < s.dev.get (Dict.instMcastDelayReqLimit i) →
    bit (s.dev.get Dict.boundTlvMessages) 2 = false → d.stopped m.rx.port (s.dev.get (Dict.portPcp m.rx.port)) = false →
    ∃ t f r x, exec (.delayReq m) s = .next t ∧ t.dev.emit = [.frame f] ∧ f.port = m.rx.port ∧ f.payload = .ptp r x ∧ x.type = 9 ∧
      x.sequence = m.sequence % 65536 ∧ x.correction = m.correction - (ptpFraction (d.rxTime m.rx) : Int) ∧
      x.body = ptpTimestamp (d.rxTime m.rx) ++ octetsOf 10 m.identity ∧ Counts s t (Dict.instDelayReqRx i) ∧
      Counts s t (Dict.instDelayRespSent i) ∧ Counts s t (Dict.txFrames m.rx.port) ∧ PresentsNone s t ∧
        OnlyRegisters s t (workRegisters ++ sentRegisters m.rx.port ++ [Dict.instDelayReqRx i, Dict.instDelayRespSent i,
        Hid.mcastSecond i m.rx.port,
        Hid.mcastCount i m.rx.port]))

/-- REQUEST_UNICAST_TRANSMISSION, CANCEL_UNICAST_TRANSMISSION, GRANT_LAPSE, CLIENT_DELETE, CRYPTO_LANE_RELEASE and PROTO_COUNTERS_CLEAR: a
known client's Announce grant is made and answered with its duration, a request out of range is refused; a cancelled or lapsed
grant ends, and the record with its last; the commands act from S0 (R54, R435, R436, R466). -/
def Obligations.UnicastGrantsBeginAndEnd : Prop :=
  (∀ (s : State) (m : PtpRx) (u : UnicastTlv) (i : Nat), s.serves .net = true → s.dev.powered .proto = true →
    let d := s.begin (s.arrival m.rx)
    let d' := d.inc (Dict.instSignallingRx i)
    let cost := d'.ptpWorkCost i (.request m [u])
    d.instanceFor m = some i → d.instServes i = true → s.dev.get (Dict.instMode i) = 1 → s.dev.get (Dict.portState m.rx.port) = 3 →
    s.dev.protoQueue = [] → d'.changesLeft = true → d'.fits cost.1 cost.2 0 d'.reserved = true → s.dev.get (Dict.instAuthMode i) = 0 →
    (∀ c, s.dev.lookup i m.rx.port m.transport m.source = some c → u.type = 11 → u.period = s.dev.getI (Dict.instLogAnnounce i) →
      let duration := max (s.dev.get (Dict.instGrantMin i)) (min u.duration (s.dev.get (Dict.instGrantMax i)))
      ∃ t c' x, exec (.requestUnicastTransmission m [u]) s = .next t ∧ c' ∈ t.dev.clients ∧ c'.slot = c.slot ∧ c'.logAnnounce = u.period ∧
        c'.announceExpiry = (s.start / secondUnits + duration) % 2 ^ 32 ∧ c'.mac = m.rx.mac ∧ x ∈ t.dev.signals ∧
        grantTlv u.type u.period duration ∈ x.tlvs ∧ Counts s t (Dict.instSignallingRx i) ∧ PresentsNone s t ∧
          OnlyRegisters s t (workRegisters ++ [Dict.instSignallingRx i, Hid.stashHits])) ∧
    (s.dev.periodOk i u = false →
      ∃ t x, exec (.requestUnicastTransmission m [u]) s = .next t ∧ x ∈ t.dev.signals ∧
        (s.dev.lookup i m.rx.port m.transport m.source = none → t.dev.clients = s.dev.clients) ∧
        (∀ c, s.dev.lookup i m.rx.port m.transport m.source = some c → ∃ c' ∈ t.dev.clients, c'.slot = c.slot ∧
          c'.logAnnounce = c.logAnnounce ∧ c'.logSync = c.logSync ∧ c'.logDelayResp = c.logDelayResp ∧ c'.lastSignallingSeq = m.sequence) ∧
        grantTlv u.type u.period 0 ∈ x.tlvs ∧ Counts s t (Dict.instGrantsRefused i) ∧ PresentsNone s t ∧
          OnlyRegisters s t (workRegisters ++ [Dict.instSignallingRx i, Dict.instGrantsRefused i]))) ∧
  (∀ (s : State) (m : PtpRx) (i : Nat) (c : Client), s.serves .net = true → s.dev.powered .proto = true →
    let d := s.begin (s.arrival m.rx)
    let d' := d.inc (Dict.instSignallingRx i)
    let cost := d'.ptpWorkCost i (.cancel m [11])
    d.instanceFor m = some i → d.instServes i = true → s.dev.get (Dict.instMode i) = 1 → s.dev.get (Dict.portState m.rx.port) = 3 →
    s.dev.protoQueue = [] → d'.changesLeft = true → d'.fits cost.1 cost.2 0 d'.reserved = true → s.dev.get (Dict.instAuthMode i) = 0 →
    s.dev.lookup i m.rx.port m.transport m.source = some c → (s.dev.clients.find? fun y => y.slot == c.slot) = some c → c.logSync ≠ noGrant →
    ∃ t c' x, exec (.cancelUnicastTransmission m [11]) s = .next t ∧ c' ∈ t.dev.clients ∧ c'.slot = c.slot ∧ c'.logAnnounce = noGrant ∧
      c'.logSync = c.logSync ∧ x ∈ t.dev.signals ∧ ackCancelTlv 11 ∈ x.tlvs ∧ PresentsNone s t ∧
        OnlyRegisters s t (workRegisters ++ [Dict.instSignallingRx i, Hid.stashHits])) ∧
  (∀ (s : State) (slot : Nat) (c : Client), s.serves .proto = true → (s.dev.clients.find? fun y => y.slot == slot) = some c →
    s.met.grantOver c 11 = true →
    ∃ t, exec (.grantLapse slot 11) s = .next t ∧ PresentsNone s t ∧ OnlyRegisters s t (Hid.clientChanges :: clientRegisters) ∧
      (c.logSync = noGrant → c.logDelayResp = noGrant → ∀ x ∈ t.dev.clients, x.slot ≠ slot) ∧
      (c.logSync ≠ noGrant → { c with logAnnounce := noGrant } ∈ t.dev.clients)) ∧
  (∀ (s : State) (h : Head) (v : Value) (x : Session), s.admits h [Dict.clientDelete.item v] x = true →
    ∃ t, exec (.clientDelete h v) s = .next t ∧ Accepted s t h [Dict.clientDelete.item v] x ∧
      ∀ (d : Dev) (c : Client),
      d.lookup (fieldAt 24 v.value 0 1) (fieldAt 24 v.value 1 1) (fieldAt 24 v.value 2 1) (fieldAt 24 v.value 8 16) = some c →
        ∀ y ∈ (d.applyGroup [Dict.clientDelete.item v] []).clients, y.slot ≠ c.slot) ∧
  (∀ (s : State) (h : Head) (v : Value) (x : Session), s.admits h [Dict.cryptoLaneRelease.item v] x = true →
    ∃ t, exec (.cryptoLaneRelease h v) s = .next t ∧ Accepted s t h [Dict.cryptoLaneRelease.item v] x ∧
      ∀ d : Dev, v.value < 8 → d.removed (.hmac v.value) = true →
        (d.applyGroup [Dict.cryptoLaneRelease.item v] []).removed (.hmac v.value) = !d.startUpPasses (.hmac v.value)) ∧
  (∀ (s : State) (h : Head) (v : Value) (x : Session), s.admits h [Dict.protoCountersClear.item v] x = true →
    ∃ t, exec (.protoCountersClear h v) s = .next t ∧ Accepted s t h [Dict.protoCountersClear.item v] x ∧
      ∀ d : Dev, let d' := d.applyGroup [Dict.protoCountersClear.item v] []
        d'.get Dict.protoShedCount = 0 ∧ d'.get Dict.ntpRequests = 0 ∧ ∀ i < 8, d'.get (Dict.instDelayReqRx i) = 0)

/-- NTP_REQUEST and NTS_REQUEST: a served request within its source's rate is answered with its origin and receive times; an NTS request
whose cookie opens and whose Authenticator verifies is answered with as many new cookies as it asks for (R450 to R454). -/
def Obligations.NtpRequestsAreAnswered : Prop :=
  (∀ (s : State) (m : NtpRx), m.rx.port < 6 → s.serves .net = true → s.dev.powered .proto = true →
    let d := s.begin (s.arrival m.rx)
    let d' := d.inc Dict.ntpRequests
    d.ntpServed m = true → m.mode = 3 → (m.version = 3 ∨ m.version = 4) → s.dev.is Dict.ntpAllowPlain = true → s.dev.protoQueue = [] →
    d'.fits 2 0 0 d'.reserved = true → s.dev.buckets = [] → 1 ≤ s.dev.get Dict.ntpRateBurst → 0 < s.dev.get Dict.ntpStratum →
    d.stopped m.rx.port (s.dev.get (Dict.portPcp m.rx.port)) = false →
    ∃ t f r x, exec (.ntpRequest m) s = .next t ∧ t.dev.emit = [.frame f] ∧ f.port = m.rx.port ∧ f.payload = .ntp r x ∧ x.version = m.version ∧
      x.origin = m.transmit ∧ x.receive = ntpTimestamp (d.rxTime m.rx) (s.dev.utcOffsetAt (d.rxTime m.rx)) ∧ x.extensions = [] ∧
      r.address = m.source ∧ Counts s t Dict.ntpRequests ∧ Counts s t Dict.ntpResponses ∧ Counts s t (Dict.txFrames m.rx.port) ∧
      t.dev.get Dict.clientServiceStarted = 1 ∧ PresentsNone s t ∧
      OnlyRegisters s t (workRegisters ++ sentRegisters m.rx.port ++ [Dict.ntpRequests, Dict.ntpResponses, Dict.ntsCookiesIssued])) ∧
  (∀ (s : State) (m : NtsRx) (slot material c2s s2c : Nat) (p : List Nat), m.base.rx.port < 6 → s.serves .net = true → s.dev.powered .proto = true →
    let d := s.begin (s.arrival m.base.rx)
    let d' := (d.inc Dict.ntpRequests).inc Dict.ntsRequests
    let cost := d'.workCost (.nts m)
    d.ntpServed m.base = true → s.dev.is Dict.ntsEnable = true → s.dev.protoQueue = [] → d'.fits cost.1 cost.2.1 cost.2.2 d'.reserved = true →
    s.dev.buckets = [] → 1 ≤ s.dev.get Dict.ntpRateBurst → 0 < s.dev.get Dict.ntpStratum → Dev.ntsFormOk m = true →
    d.stopped m.base.rx.port (s.dev.get (Dict.portPcp m.base.rx.port)) = false →
    s.dev.cookieSlot (ofOctets (((m.cookies.headD []).drop 2).take 2)) = some slot → s.dev.nodeUsable (0x8000 + slot) = true →
    bit (s.dev.nodeUse (0x8000 + slot)).2.1 5 = true → bit (s.dev.nodeUse (0x8000 + slot)).2.1 4 = true →
    (s.dev.nodeUse (0x8000 + slot)).2.2.1 = 0 → s.dev.get Dict.ntsSlotCurrent = slot → slot < 1024 →
    s.dev.nodeMaterial (0x8000 + slot) = material →
    Dev.openCookie material (m.cookies.headD []) = some (c2s, s2c) → sivOpen c2s [m.covered, m.nonce] m.sealedPart = some p →
    ∃ t f r x, exec (.ntsRequest m) s = .next t ∧ t.dev.emit = [.frame f] ∧ f.port = m.base.rx.port ∧ f.payload = .ntp r x ∧
      x.origin = m.base.transmit ∧ Counts s t Dict.ntsRequests ∧ Counts s t Dict.ntpResponses ∧
      t.dev.get Dict.ntsCookiesIssued =
        min (s.dev.get Dict.ntsCookiesIssued + min (1 + m.placeholders.length) 2) (Dict.ntsCookiesIssued.modulus - 1) ∧
      PresentsNone s t ∧ OnlyRegisters s t (workRegisters ++ sentRegisters m.base.rx.port ++ [Dict.ntpRequests, Dict.ntsRequests, Dict.ntpResponses,
        Dict.ntsCookiesIssued, Dict.workingSlotsValid, Dict.keySlotStatus (slot / 128) (slot % 128)]))

/-- The NREF rows: an unauthenticated NREF takes grants and denials of its master, asks again, renews and loses them, and turns a Sync and a
Delay_Resp into one measurement; an Announce shows the master's class (R445 to R449). -/
def Obligations.NrefFollowsItsMaster : Prop :=
  (∀ (s : State) (n : Nat) (m : PtpRx) (u : UnicastTlv), s.serves .net = true → s.dev.powered .proto = true → s.dev.fromMaster n m = true →
    32 ≤ s.dev.get (Dict.nrefSa n) → s.dev.get (Dict.nrefState n) = 2 → (u.type = 11 ∨ u.type = 9) → 0 < u.duration →
    ∃ t, exec (.nrefGrantReceive n m [u]) s = .next t ∧ (t.dev.nrefRun n).grants =
        (u.type, u.period, s.start / secondUnits, u.duration) :: ((s.dev.nrefRun n).grants.filter fun g => g.1 != u.type) ∧
      PresentsNone s t ∧ OnlyRegisters s t workRegisters) ∧
  (∀ (s : State) (n : Nat), n < 2 → s.serves .proto = true → s.dev.get (Dict.nrefState n) = 1 →
    (s.dev.nrefRun n).since + 4 * secondUnits ≤ s.anyInstant →
    let missing := ([11, 0, 9].find? fun u => !(s.dev.nrefRun n).grants.any fun g => g.1 == u).getD 11
    ∃ t, exec (.nrefNegotiationTimeout n) s = .next t ∧ t.dev.get (Dict.nrefState n) = 3 ∧ (t.dev.nrefRun n).since = s.anyInstant ∧
      Presents s t 106 [(1, n), (1, missing)] ∧ OnlyRegisters s t [Dict.nrefState n]) ∧
  (∀ (s : State) (n : Nat), n < 2 → s.serves .proto = true → s.dev.get (Dict.nrefState n) = 3 →
    (s.dev.nrefRun n).since + 8 * secondUnits ≤ s.anyInstant →
    ∃ t, exec (.nrefFaultRetry n) s = .next t ∧ t.dev.get (Dict.nrefState n) = 1 ∧
      (∀ p ∈ s.dev.nrefWanted n, ∃ x ∈ t.dev.signals, requestTlv p.1 p.2 (s.dev.get (Dict.nrefGrantDuration n)) ∈ x.tlvs) ∧
      PresentsNone s t ∧ OnlyRegisters s t [Dict.nrefState n]) ∧
  (∀ (s : State) (n : Nat) (p : Nat × Int) (g : Nat × Int × Nat × Nat), n < 2 → s.serves .proto = true → s.dev.get (Dict.nrefState n) = 2 →
    p ∈ s.dev.nrefWanted n → ((s.dev.nrefRun n).grants.find? fun x => x.1 == p.1) = some g → (s.dev.nrefRun n).renewed.contains p.1 = false →
    g.2.2.2 ≤ 2 * (s.start / secondUnits - g.2.2.1) →
    ∃ t, exec (.nrefRenewal n p.1) s = .next t ∧ (t.dev.nrefRun n).renewed = p.1 :: (s.dev.nrefRun n).renewed ∧
      (∃ x ∈ t.dev.signals, requestTlv p.1 p.2 (s.dev.get (Dict.nrefGrantDuration n)) ∈ x.tlvs) ∧ PresentsNone s t ∧ OnlyRegisters s t []) ∧
  (∀ (s : State) (n type : Nat) (g : Nat × Int × Nat × Nat), n < 2 → s.serves .proto = true → s.dev.get (Dict.nrefState n) = 2 →
    ((s.dev.nrefRun n).grants.find? fun x => x.1 == type) = some g →
    ∃ t, exec (.nrefGrantLoss n type true) s = .next t ∧ t.dev.get (Dict.nrefState n) = 1 ∧
      (t.dev.nrefRun n).grants = ((s.dev.nrefRun n).grants.filter fun x => x.1 != type) ∧ Presents s t 106 [(1, n), (1, type)] ∧
      OnlyRegisters s t [Dict.nrefState n]) ∧
  (∀ (s : State) (n : Nat) (m : PtpRx) (twoStep : Bool) (t1 : Nat), s.serves .net = true → s.dev.powered .proto = true →
    s.dev.fromMaster n m = true → 32 ≤ s.dev.get (Dict.nrefSa n) → s.dev.get (Dict.nrefState n) = 2 →
    s.dev.is (Dict.refRequireAuth (14 + n)) = false →
    let t2 := (s.begin (s.arrival m.rx)).rxTime m.rx
    ∃ t, exec (.nrefSyncReceive n m false twoStep t1 none) s = .next t ∧
      (t.dev.nrefRun n).syncs = (⟨m.sequence, t2, t1, m.correction, false, twoStep⟩ :: (s.dev.nrefRun n).syncs).take 16 ∧
      t.dev.get (Hid.refSeen (14 + n)) = (s.arrival m.rx + 1) % 256 ^ 16 ∧ PresentsNone s t ∧ OnlyRegisters s t (workRegisters ++ [Hid.refSeen (14 + n)])) ∧
  (∀ (s : State) (n : Nat) (m : PtpRx) (t3 t4 : Nat) (y : NrefSync), s.serves .net = true → s.dev.powered .proto = true →
    s.dev.fromMaster n m = true → 32 ≤ s.dev.get (Dict.nrefSa n) → s.dev.get (Dict.nrefState n) = 2 → s.dev.get (Dict.nrefBoundSource n) ≠ 0 →
    ((s.dev.nrefRun n).requests.find? fun p => p.1 == m.sequence) = some (m.sequence, t3) →
    ((s.dev.nrefRun n).syncs.find? fun z => !z.waiting && decide (z.t2 < t3)) = some y →
    let back : Int := (t4 : Int) - t3 - m.correction
    let there : Int := (y.t2 : Int) - y.t1 - y.correction
    let offset : Rat := ((back - there : Int) : Rat) / 2 + (s.dev.getI (Dict.portAsymmetry (s.dev.get (Dict.nrefPort n))) : Rat)
    ∃ t, exec (.nrefDelayRespReceive n m t4) s = .next t ∧
      t.dev.measures = s.dev.measures ++ [⟨14 + n, offset, s.arrival m.rx, false, 0, false⟩] ∧ Counts s t (Dict.nrefExchanges n) ∧
      PresentsNone s t ∧ OnlyRegisters s t (workRegisters ++ [Dict.nrefOffset n, Dict.nrefMeanPathDelay n, Dict.nrefExchanges n])) ∧
  (∀ (s : State) (n : Nat) (m : PtpRx) (a : AnnounceRx), s.serves .net = true → s.dev.powered .proto = true → s.dev.fromMaster n m = true →
    32 ≤ s.dev.get (Dict.nrefSa n) → s.dev.get (Dict.nrefState n) = 2 → a.clockClass < 256 →
    ∃ t, exec (.nrefAnnounceReceive n m a none) s = .next t ∧ t.dev.get (Dict.refQlRaw (14 + n)) = a.clockClass ∧
      t.dev.get (Dict.nrefUpstreamClass n) = a.clockClass ∧ PresentsNone s t ∧
      OnlyRegisters s t (workRegisters ++ [Dict.refQlRaw (14 + n), Dict.nrefUpstreamClass n, Hid.nrefAccuracy n, Hid.utcReport (14 + n),
        Hid.utcLeapKind (14 + n), Hid.utcLeapTime (14 + n)]))

/-! ### Keeper and Skovwin -/

/-- KHOLD_INPUT_CHANGE, KEEPER_TAKEOVER, KEEPER_START_WAIT_EXPIRY, HAND_OVER_RELEASE, HAND_OVER_AT, HAND_OVER_ABANDON and
REVERT_HOLD_EXPIRY: the interlock's pair reads Asserted, Released or Fault; a Standby whose peer is missing, or that never heard
one, becomes Active with a higher innings and asserts KHOLD, while the interlock reads Released; a committed hand-over makes the
Active Standby and the Standby Active; each change of role raises source 112 (R525 to R533, R542). KEEPER_SWITCHOVER, KEEPER_REJOIN
and ADDRESS_ANNOUNCE: the commands are accepted and act at S0, a Stood-down unit with 64 frames of an Active peer's Beats returning
to Standby with its innings; a new Active announces its service address on each port that is Up, again after 256 frames (R533, R542,
R545). -/
def Obligations.KeeperRolesChangeAndAreAnnounced : Prop :=
  (∀ (s : State) (high inverse : Bool), s.serves .time = true → s.dev.peerBeat 2 = none →
    ∃ t, exec (.kholdInputChange high inverse) s = .next t ∧
      t.dev.get Dict.keeperInterlockIn = (if high && !inverse then 1 else if !high && inverse then 0 else 2) ∧
      t.dev.get Dict.keeperPeerHolds = (if !high && inverse then 0 else 1) ∧ PresentsNone s t ∧
      OnlyRegisters s t [Dict.keeperInterlockIn, Dict.keeperPeerHolds]) ∧
  (∀ s : State, s.serves .time = true → s.dev.get Dict.keeperRole = 2 → s.dev.get Dict.keeperMissLimit ≤ s.dev.get Dict.keeperMissedCount →
    s.dev.get Dict.keeperInterlockIn = 0 → s.dev.is Hid.peerSeen = true →
    let new := max (s.dev.get Dict.keeperInnings) (s.dev.get Dict.keeperPeerInnings) + 1
    new < 2 ^ 32 →
    ∃ t, exec .keeperTakeover s = .next t ∧ t.dev.get Dict.keeperRole = 1 ∧ t.dev.get Dict.keeperInnings = new ∧
      t.dev.get Dict.keeperInterlockOut = 1 ∧ Counts s t Dict.keeperTakeoverCount ∧
      t.dev.posted = s.dev.posted ++
        [⟨113, packDetail [(1, s.dev.get Dict.keeperStandbyReady), (2, s.dev.get Dict.keeperMissedCount)], false, false, true⟩,
         ⟨112, packDetail [(1, 2), (1, 1), (4, new), (1, 1)], false, false, true⟩] ∧
           OnlyRegisters s t (roleRegisters ++ [Dict.keeperTakeoverCount, Dict.lifeTakeovers])) ∧
  (∀ s : State, s.serves .time = true → s.dev.get Dict.keeperRole = 2 → s.dev.get Dict.keeperStartWait ≤ s.met.serviceSeconds →
    s.dev.get Dict.keeperInterlockIn = 0 → s.dev.is Hid.peerSeen = false →
    let new := max (s.dev.get Dict.keeperInnings) (s.dev.get Dict.keeperPeerInnings) + 1
    new < 2 ^ 32 →
    ∃ t, exec .keeperStartWaitExpiry s = .next t ∧ t.dev.get Dict.keeperRole = 1 ∧ t.dev.get Dict.keeperInnings = new ∧
      t.dev.get Dict.keeperInterlockOut = 1 ∧ Presents s t 112 [(1, 2), (1, 1), (4, new), (1, 4)] ∧ OnlyRegisters s t roleRegisters) ∧
  (∀ s : State, s.serves .time = true → s.dev.get Dict.keeperRole = 1 → s.dev.get Dict.keeperHandOverState = 2 →
    s.dev.get Hid.handOverAt ≤ s.start + frameUnits → s.dev.get Hid.handOverAt ≤ s.clock.boundary + 4000 * unitsPerNs →
    ∃ t, exec .handOverRelease s = .next t ∧ t.dev.get Dict.keeperRole = 2 ∧ t.dev.get Dict.keeperInterlockOut = 0 ∧
      t.dev.get Dict.keeperHandOverState = 0 ∧ t.dev.get Dict.keeperInnings = s.dev.get Dict.keeperInnings ∧
      Presents s t 112 [(1, 1), (1, 2), (4, s.dev.get Dict.keeperInnings), (1, if s.dev.get Hid.handOverCause = 3 then 3 else 2)] ∧
      OnlyRegisters s t roleRegisters) ∧
  (∀ s : State, s.serves .time = true → s.dev.get Dict.keeperRole = 2 → s.dev.get Dict.keeperHandOverState = 2 →
    s.dev.get Hid.handOverAt ≤ s.start + frameUnits → s.dev.get Hid.handOverAt ≤ s.clock.boundary → s.dev.get Dict.keeperInterlockIn = 0 →
    let new := max (s.dev.get Dict.keeperInnings) (s.dev.get Dict.keeperPeerInnings) + 1
    new < 2 ^ 32 →
    ∃ t, exec .handOverAt s = .next t ∧ t.dev.get Dict.keeperRole = 1 ∧ t.dev.get Dict.keeperInnings = new ∧
      t.dev.get Dict.keeperInterlockOut = 1 ∧ t.dev.get Dict.keeperHandOverState = 0 ∧ Counts s t Dict.keeperHandOverCount ∧
      Presents s t 112 [(1, 2), (1, 1), (4, new), (1, 2)] ∧ OnlyRegisters s t (Dict.keeperHandOverCount :: roleRegisters)) ∧
  (∀ s : State, s.serves .time = true → s.dev.get Dict.keeperRole = 1 → s.dev.get Dict.keeperHandOverState = 1 →
    s.dev.get Hid.handOverFrame + 3 ≤ s.clock.frames → s.dev.get Hid.handOverSource = 0 →
    ∃ t, exec .handOverAbandon s = .next t ∧ t.dev.get Dict.keeperHandOverState = 0 ∧
      Presents s t 114 [(1, 4), (1, s.dev.get Dict.keeperInterlockIn), (2, s.dev.get Dict.keeperMissedCount)] ∧
      OnlyRegisters s t [Dict.keeperHandOverState, Hid.handOverAt, Hid.handOverFrame, Hid.handOverActive, Hid.handOverWanted,
        Hid.handOverSource, Hid.handOverCause]) ∧
  (∀ s : State, s.serves .time = true → s.dev.reverting = true → s.dev.get Dict.keeperHandOverState = 0 →
    s.dev.get Dict.keeperRevertHold * framesPerSecond ≤ s.dev.get Hid.readyFrames →
    ∃ t, exec .revertHoldExpiry s = .next t ∧ t.dev.get Hid.handOverWanted = 1 ∧ t.dev.get Hid.handOverCause = 3 ∧ PresentsNone s t ∧
      OnlyRegisters s t [Hid.handOverWanted, Hid.handOverCause]) ∧
  (∀ (s : State) (h : Head) (v : Value) (x : Session), s.admits h [Dict.keeperSwitchover.item v] x = true →
    ∃ t, exec (.keeperSwitchover h v) s = .next t ∧ Accepted s t h [Dict.keeperSwitchover.item v] x ∧
      ∀ d : Dev, (d.applyGroup [Dict.keeperSwitchover.item v] []).get Hid.handOverWanted = 1) ∧
  (∀ (s : State) (h : Head) (v : Value) (x : Session), s.admits h [Dict.keeperRejoin.item v] x = true →
    ∃ t, exec (.keeperRejoin h v) s = .next t ∧ Accepted s t h [Dict.keeperRejoin.item v] x ∧
      ∀ d : Dev, d.get Dict.keeperRole = 3 → 64 ≤ d.get Hid.higherBeats → d.state ≠ 5 → d.get Dict.keeperPeerInnings < 2 ^ 32 →
        let d' := d.applyGroup [Dict.keeperRejoin.item v] []
        d'.get Dict.keeperRole = 2 ∧ d'.get Dict.keeperInnings = d.get Dict.keeperPeerInnings) ∧
  (∀ s : State, s.serves .net = true → s.dev.get Dict.keeperRole = 1 → 0 < s.dev.get Hid.announceLeft →
    s.dev.get Hid.announceLeft < 256 → s.dev.get Hid.announceDue ≤ s.clock.frames →
    (∀ q < 6, s.met.stopped q (s.dev.get (Dict.portPcp q)) = false) →
    let announces := fun (l : List Emit) (q version address toward : Nat) => ∃ f, .frame f ∈ l ∧ f.port = q ∧
      f.payload = .resolved version address (s.dev.get (Dict.portMacAddress q)) toward
    ∃ t, exec .addressAnnounce s = .next t ∧
      (∀ q < 6, s.dev.get (Dict.portState q) = 3 →
        (s.dev.get (Dict.svcIpv4Address q) ≠ 0 → announces t.dev.emit q 4 (s.dev.get (Dict.svcIpv4Address q)) 0xFFFFFFFFFFFF) ∧
        (s.dev.get (Dict.svcIpv6Address q) ≠ 0 → announces t.dev.emit q 6 (s.dev.get (Dict.svcIpv6Address q)) 0x333300000001)) ∧
      (∀ f, .frame f ∈ t.dev.emit → f.port < 6 ∧ s.dev.get (Dict.portState f.port) = 3) ∧
      t.dev.get Hid.announceLeft = s.dev.get Hid.announceLeft - 1 ∧
      t.dev.get Hid.announceDue = (s.clock.frames + 256) % Hid.announceDue.modulus ∧ PresentsNone s t ∧
      OnlyRegisters s t ([Hid.announceLeft, Hid.announceDue] ++ (List.range 6).flatMap fun q => [Dict.txFrames q, Dict.txOctets q]))

/-- The Skovwin rows: a valid Beat or Replication packet waits for S0 and moves the sequence on, one whose CRC fails is counted and
discarded; a port is calibrated, comes up after 64 valid Beats and goes down on loss; a Faulty port is cleared, a removed one
released (R514, R515, R519 to R521, R54). -/
def Obligations.SkovwinPortsFollowTheLink : Prop :=
  (∀ (s : State) (p : SkPacket) (b : Beat), p.port < 3 → p.sequence < 2 ^ 32 → s.serves .net = true →
    (s.dev.get (Dict.skState p.port) = 2 ∨ s.dev.get (Dict.skState p.port) = 3) → p.crcOk = true →
    (s.dev.get (Hid.skSequence p.port) = 0 ∨ s.dev.get (Hid.skSequence p.port) < p.sequence + 1) → s.dev.is Dict.skAuthRequired = false →
    ∃ t, exec (.beatReceive p b) s = .next t ∧
      t.dev.beatsIn = (s.dev.beatsIn.filter fun x => x.port != p.port) ++ [⟨p.port, b, false, s.clock.frames⟩] ∧
      t.dev.get (Hid.skSequence p.port) = p.sequence + 1 ∧ Counts s t (Hid.skValidRun p.port) ∧ PresentsNone s t ∧
      OnlyRegisters s t [Hid.skSequence p.port, Hid.skValidRun p.port]) ∧
  (∀ (s : State) (p : SkPacket) (b : Beat), p.port < 3 → s.serves .net = true →
    (s.dev.get (Dict.skState p.port) = 2 ∨ s.dev.get (Dict.skState p.port) = 3) → p.crcOk = false →
    ∃ t, exec (.beatReceive p b) s = .next t ∧ t.dev.beatsIn = s.dev.beatsIn ∧ Counts s t (Dict.skCrcErrorCount p.port) ∧
      t.dev.get (Hid.skValidRun p.port) = 0 ∧
      OnlyRegisters s t [Dict.skCrcErrorCount p.port, Hid.skValidRun p.port, Hid.raisedSecond (56 + p.port)]) ∧
  (∀ (s : State) (p : SkPacket) (x : Replication), p.port = 2 → p.sequence < 2 ^ 32 → s.serves .net = true →
    (s.dev.get (Dict.skState 2) = 2 ∨ s.dev.get (Dict.skState 2) = 3) → p.crcOk = true →
    (s.dev.get (Hid.skSequence 2) = 0 ∨ s.dev.get (Hid.skSequence 2) < p.sequence + 1) → s.dev.is Dict.skAuthRequired = false →
    ∃ t, exec (.replicationPacket p x) s = .next t ∧ t.dev.replIn = s.dev.replIn ++ [x] ∧
      t.dev.get (Hid.skSequence 2) = p.sequence + 1 ∧ PresentsNone s t ∧ OnlyRegisters s t [Hid.skSequence 2]) ∧
  (∀ (s : State) (m : Nat) (l : LaneDelays) (distribution : Int), m < 3 → s.serves .net = true → s.dev.get (Dict.skState m) = 1 →
    s.dev.skCheck m (some l) = 0 →
    ∃ t, exec (.skovwinCalDone m (some l) distribution) s = .next t ∧ t.dev.get (Dict.skState m) = 2 ∧ t.dev.get (Dict.skCalStatus m) = 1 ∧
      t.dev.getI (Dict.skTxDelay m) = (Dict.skTxDelay m).toInt ((Dict.skTxDelay m).ofInt (fsToUnits l.tx)) ∧
      t.dev.get (Dict.skEndTerm m) = 3 ∧ PresentsNone s t ∧
      OnlyRegisters s t [Dict.skTxDelay m, Dict.skRxDelay m, Dict.linkChPathDelay0 m, Dict.skCalStatus m, Dict.skEndTerm m, Dict.skState m,
        Hid.skSequence m, Hid.skValidRun m, Hid.skMissRun m, Dict.skFaultCause m]) ∧
  (∀ (s : State) (m : Nat), m < 3 → s.serves .net = true → s.dev.get (Dict.skState m) = 2 → 64 ≤ s.dev.get (Hid.skValidRun m) →
    ∃ t, exec (.skovwinPortUp m) s = .next t ∧ t.dev.get (Dict.skState m) = 3 ∧ PresentsNone s t ∧
      OnlyRegisters s t [Dict.skState m, Hid.skMissRun m]) ∧
  (∀ (s : State) (m : Nat), m < 3 → s.serves .net = true → s.dev.get (Dict.skState m) = 3 →
    ∃ t, exec (.skovwinLinkDown m true) s = .next t ∧ t.dev.get (Dict.skState m) = 2 ∧
      (if m = 2 ∧ s.dev.get Dict.keeperRole ≠ 0 then
        Presents s t 114 [(1, 1), (1, s.dev.get Dict.keeperInterlockIn), (2, s.dev.get Dict.keeperMissedCount)] else PresentsNone s t) ∧
      OnlyRegisters s t [Dict.skState m, Hid.skSequence m, Hid.skValidRun m, Hid.skMissRun m, Dict.skFaultCause m]) ∧
  (∀ (s : State) (h : Head) (m : Nat) (v : Value) (x : Session), m < 3 → s.admits h [(Dict.skFaultClear m).item v] x = true →
    ∃ t, exec (.skFaultClear h m v) s = .next t ∧ Accepted s t h [(Dict.skFaultClear m).item v] x ∧
      ∀ d : Dev, d.get (Dict.skState m) = 4 → (d.applyGroup [(Dict.skFaultClear m).item v] []).get (Dict.skState m) = 2) ∧
  (∀ (s : State) (h : Head) (m : Nat) (v : Value) (x : Session), m < 3 → s.admits h [(Dict.skRelease m).item v] x = true →
    ∃ t, exec (.skRelease h m v) s = .next t ∧ Accepted s t h [(Dict.skRelease m).item v] x ∧
      ∀ d : Dev, d.get (Dict.skState m) = 5 → d.is (Dict.skEnable m) = false →
        (d.applyGroup [(Dict.skRelease m).item v] []).get (Dict.skState m) = if d.startUpPasses (.skovwin m) then 0 else 5)

/-! ### Reset, start-up and low-power states -/

/-- POWER_ON_RESET, SUPPLY_RESET, PIN_RESET, DICTIONARY_COMMAND_RESET, WATCHDOG_RESET, RESET_RELEASE and WAKE: what each reaches and leaves,
its cause, and the count that its release adds; a watchdog reset leaves time service running (R583 to R585, R589, R592, R606,
R670, R701, R719). -/
def Obligations.ResetsReachTheirDomains : Prop :=
  (∀ (s : State) (cascId : Nat) (keepPref pinLow : Bool),
    ∃ t, exec (.powerOnReset cascId keepPref pinLow) s = .next t ∧ t.dev.get Hid.bootPhase = 0 ∧ t.dev.get Dict.deviceState = 0 ∧
      t.dev.get Dict.lastResetCause = 0 ∧ t.dev.get Dict.lastResetDomains = 0x1FF ∧ t.dev.get Dict.cascadePosition = cascId % 8 ∧
      t.dev.is Dict.keeperPreferred = keepPref ∧ t.dev.sessions = [] ∧ t.dev.staged = [] ∧ t.dev.images = s.dev.images ∧
      t.mem = s.mem.fill ∧ t.pending = s.pending ∧ t.clock.running = false) ∧
  (∀ s : State, s.dev.get Hid.bootPhase ≠ 0 →
    ∃ t, exec .supplyReset s = .next t ∧ t.dev.get Hid.bootPhase = 0 ∧ t.dev.get Dict.lastResetCause = 1 ∧
      t.dev.get Dict.keeperInnings = 0 ∧ t.dev.sessions = [] ∧ t.dev.images = s.dev.images ∧ DeviceOnly s t) ∧
  (∀ s : State, s.dev.get Hid.bootPhase ≠ 0 →
    ∃ t, exec .pinReset s = .next t ∧ t.dev.get Hid.bootPhase = 0 ∧ t.dev.get Dict.lastResetCause = 2 ∧ t.dev.get Hid.resetPinLow = 1 ∧
      t.dev.get Dict.keeperInnings = s.dev.get Dict.keeperInnings ∧ t.dev.get Dict.auditArchiveDays = s.dev.get Dict.auditArchiveDays ∧
      t.dev.get Dict.deviceState = 0 ∧ t.dev.sessions = [] ∧ t.dev.images = s.dev.images ∧ DeviceOnly s t) ∧
  (∀ s : State, s.dev.get Hid.bootPhase ≠ 0 → s.dev.get Hid.resetRequest ≠ 0 → s.dev.get Hid.resetAhead = 0 →
    ∃ t, exec .dictionaryCommandReset s = .next t ∧ t.dev.get Hid.bootPhase = 1 ∧ t.dev.get Dict.lastResetCause = 4 ∧
      Counts s t (Dict.lifeResetCount 4) ∧ t.dev.get Dict.keeperInnings = s.dev.get Dict.keeperInnings ∧ t.dev.sessions = [] ∧
      DeviceOnly s t) ∧
  (∀ s : State, s.dev.get Hid.bootPhase = 5 →
    ∃ t, exec .watchdogReset s = .next t ∧ t.dev.get Hid.bootPhase = 5 ∧ t.dev.get Dict.lastResetCause = 3 ∧
      t.dev.get Dict.lastResetDomains = 0x80 ∧ Counts s t (Dict.lifeResetCount 3) ∧ t.dev.sessions = [] ∧ t.dev.spiQueue = [] ∧
      t.dev.get Dict.deviceState = s.dev.get Dict.deviceState ∧
      t.dev.posted.getLast? = some ⟨0, packDetail [(1, 3), (2, 0x80)], false, false, true⟩ ∧ t.clock = s.clock ∧ DeviceOnly s t) ∧
  (∀ s : State, s.dev.get Hid.bootPhase = 0 →
    let count := Dict.lifeResetCount (min 4 (s.dev.get Dict.lastResetCause))
    ∃ t, exec .resetRelease s = .next t ∧ t.dev.get Hid.bootPhase = 1 ∧ t.dev.get Hid.resetPinLow = 0 ∧ Counts s t count ∧
      PresentsNone s t ∧ OnlyRegisters s t [count, Hid.resetPinLow, Dict.xoState, Dict.moscState, Hid.bootPhase]) ∧
  (∀ (s : State) (ns : Nat), s.dev.get Hid.bootPhase = 6 →
    ∃ t, exec (.wake true ns) s = .next t ∧ t.dev.get Hid.bootPhase = 1 ∧ Counts s t Dict.powerWakeCount ∧ t.dev.get Hid.bootWake = 1 ∧
      t.dev.get Dict.keeperInnings = s.dev.get Dict.keeperInnings ∧ t.dev.sessions = [] ∧ DeviceOnly s t)

/-- DOMAIN_POWER_GOOD, START_UP_TEST_END, DRAM_TRAINING_DONE, FILL_COMPLETE, BOOT_COUNT_COMMIT, FIRST_FRAME_OF_TIME_SERVICE, RUN, WARM_HOLD,
DEEP_HOLD and START_SERVICE_RELEASE: the start goes from powering through its tests, the fill and the boot count to the first frame,
whose timescale is the coarse counter's value plus its uncertainty, or 0; the power-state requests and the release wait for the next
frame start (R94, R556, R588, R589, R606 to R608, R666 to R668, R671, R685). -/
def Obligations.StartReachesTimeService : Prop :=
  (∀ (s : State) (x : Nat), s.dev.powerNext (Domain.ofBit x) = true →
    ∃ t, exec (.domainPowerGood x) s = .next t ∧ t.dev.powered (Domain.ofBit x) = true ∧ PresentsNone s t ∧
      OnlyRegisters s t (pairRegisters ++ [Hid.poweredDomains, Dict.fillState, Dict.apll0State, Dict.apll0Source, Dict.apll0Feedback,
        Hid.apll0FromHold, Hid.apll0Returning, Hid.apll0Wait, Hid.vcoLeftAt, Dict.channelsInService, Dict.linkChannelsInService,
        Dict.hmacLanesInService, Dict.aesLanesInService, Dict.portsInService])) ∧
  (∀ (s : State) (r : TestResults), s.dev.get Hid.bootPhase = 1 → (switchedDomains.any fun x => !s.dev.powered x && !s.dev.isolated x) = false →
    s.dev.is Hid.bootCounted = false → s.dev.shutRecords = [] → r.failed = [] →
    ∃ t, exec (.startUpTestEnd r) s = .next t ∧ t.dev.get Hid.bootPhase = 2 ∧ t.dev.get Dict.lastStartKind = 2 ∧
      t.dev.get Dict.selfTestFailed = 0 ∧ t.dev.get Dict.shutdownRecordStatus = 1 ∧
      Presents s t 125 [(1, 2), (1, 2), (2, 0), (4, r.micros / 1000)] ∧
      OnlyRegisters s t [Hid.bootPhase, Dict.lastStartKind, Dict.selfTestFailed, Dict.selfTestNotRun, Dict.lastStartTestTime,
        Dict.shutdownRecordStatus, Dict.shutdownRecord]) ∧
  (∀ s : State, s.dev.get Dict.dramState = 1 → s.dev.get (Hid.trainFails 0) < 2 → s.dev.get (Hid.trainFails 1) < 2 →
    (∃ t, exec (.dramTrainingDone true true true) s = .next t ∧ t.dev.get Dict.dramState = 2 ∧ PresentsNone s t ∧
      OnlyRegisters s t [Dict.dramState]) ∧
    (∃ t, exec (.dramTrainingDone true true false) s = .next t ∧ t.dev.get Dict.dramState = 4 ∧ Presents s t 123 [] ∧
      OnlyRegisters s t [Dict.dramState])) ∧
  (∀ (s : State) (micros : Nat), s.dev.fillEnds = true → s.dev.isolated .mem = false → s.dev.get Hid.bootPhase = 2 → micros < 2 ^ 32 →
    ∃ t, exec (.fillComplete micros) s = .next t ∧ t.dev.get Dict.fillState = 2 ∧ t.dev.get Dict.fillTime = micros ∧
      t.dev.get Hid.bootPhase = 3 ∧ t.mem = s.mem.fill ∧ t.pending = s.pending ∧ t.clock = s.clock ∧ PresentsNone s t ∧
      ∀ target offset, target < 4 → offset < 2 ^ 40 → t.mem.read target offset = 0) ∧
  (∀ s : State, s.dev.get Hid.bootPhase = 3 → s.dev.is Hid.bootCounted = false →
    ∃ t, exec (.bootCountCommit true) s = .next t ∧ t.dev.get Hid.bootPhase = 4 ∧ Counts s t Dict.lifeBootCount ∧ PresentsNone s t ∧
      OnlyRegisters s t [Hid.bootPhase, Hid.bootCounted, Dict.lifeBootCount, Dict.lifeCommitTime]) ∧
  (∀ (s : State) (micros ns : Nat), s.dev.get Hid.bootPhase = 4 → s.dev.powered .time = true →
    let d := (s.begin s.start).coarseRun ns
    ∃ t, exec (.firstFrame micros ns) s = .next t ∧ t.clock.running = true ∧ t.dev.get Hid.bootPhase = 5 ∧
      t.clock.frames = s.clock.frames + 1 ∧ t.mem = s.mem ∧ t.pending = s.pending ∧
      t.clock.ts = (if d.get Dict.coarseUncertainty = 0xFFFFFFFFFFFFFFFF then 0
        else (d.get Hid.coarse + d.get Dict.coarseUncertainty * unitsPerNs) * subUnits)) ∧
  (∀ (s : State) (h : Head) (x : Session),
    (s.admits h [Dict.powerStateRequest.item ⟨1, 0⟩] x = true →
      ∃ t, exec (.run h) s = .next t ∧ Accepted s t h [Dict.powerStateRequest.item ⟨1, 0⟩] x ∧
        OnlyRegisters s t (shownBy x ++ [Hid.runWanted]) ∧ t.dev.get Hid.runWanted = 1) ∧
    (s.admits h [Dict.powerStateRequest.item ⟨1, 1⟩] x = true →
      ∃ t, exec (.warmHold h) s = .next t ∧ Accepted s t h [Dict.powerStateRequest.item ⟨1, 1⟩] x ∧
        OnlyRegisters s t (shownBy x ++ [Hid.warmHoldWanted]) ∧ t.dev.get Hid.warmHoldWanted = 1) ∧
    (s.admits h [Dict.powerStateRequest.item ⟨1, 2⟩] x = true →
      ∃ t, exec (.deepHold h) s = .next t ∧ Accepted s t h [Dict.powerStateRequest.item ⟨1, 2⟩] x ∧
        OnlyRegisters s t (shownBy x ++ [Hid.deepHoldWanted, Hid.nvWanted]) ∧ t.dev.get Hid.deepHoldWanted = 1)) ∧
  (∀ (s : State) (h : Head) (v : Value) (x : Session), s.admits h [Dict.startServiceRelease.item v] x = true →
    ∃ t, exec (.startServiceRelease h v) s = .next t ∧ Accepted s t h [Dict.startServiceRelease.item v] x ∧
      OnlyRegisters s t (shownBy x ++ [Hid.releaseRequest]) ∧
      t.dev.get Hid.releaseRequest = 1)

/-! ### Power and clocks -/

/-- OP_STEP_UP, OP_SETTLE_FAIL, OP_STEP_DOWN, PMBUS_FAULT, SUPPLY_WARNING, SUPPLY_EPISODE_END, PASS_RESUME, THROTTLE_END and
SUPPLY_STATS_CLEAR: an operating point rises voltage first and falls clock first; a voltage not reached is taken back with source 7, and
one whose pass is recalled before the clocks switch is taken back; a supply warning starts an episode with source 1 and recalls the revocable passes; its end, the passes' resumption and the end of the
throttle (R559, R560, R562, R576, R578, R582, R594). -/
def Obligations.PowerFollowsItsSupplies : Prop :=
  (∀ s : State, let p := s.dev.get Dict.opActive
    s.dev.get Dict.sysClockSource ≠ 0 → p < 2 → s.dev.passHeld (p + 1) = true →
    (s.dev.get Hid.opCommanded ≤ p → p < s.dev.targetPoint →
      ∃ t, exec .opStepUp s = .next t ∧ t.dev.emit = [.pmbus (p + 1)] ∧ t.dev.get Hid.opCommanded = p + 1 ∧ PresentsNone s t ∧
        OnlyRegisters s t [Hid.opCommanded, Hid.opCommandFrame]) ∧
    (p < s.dev.get Hid.opCommanded → s.dev.get Hid.opCommandFrame < s.clock.frames → s.dev.voltageReached (p + 1) = true →
      s.dev.get Hid.opStepFrame ≠ s.clock.frames + 1 →
      ∃ t, exec .opStepUp s = .next t ∧ t.dev.get Dict.opActive = p + 1 ∧ Counts s t Dict.opChangeCount ∧ PresentsNone s t ∧
        OnlyRegisters s t [Dict.opActive, Dict.opChangeCount, Dict.railNominal 2, Dict.railNominal 3, Hid.opStepFrame])) ∧
  (∀ (s : State) (rail : Nat), s.dev.get Dict.opActive < s.dev.get Hid.opCommanded →
    2 ≤ s.met.framesSince (s.dev.get Hid.opCommandFrame) →
    ∃ t, exec (.opSettleFail rail) s = .next t ∧ t.dev.emit = [.pmbus (s.dev.get Dict.opActive)] ∧
      Counts s t Dict.opSettleFailCount ∧ Presents s t 7 [(1, rail)] ∧
      OnlyRegisters s t [Hid.opCommanded, Hid.opCommandFrame, Dict.opSettleFailCount, Dict.passGranted, Dict.passHeadroom]) ∧
  (∀ s : State, let p := s.dev.get Dict.opActive
    1 ≤ p → p ≤ 2 → s.dev.passHeld p = false → s.dev.get Hid.opCommanded = p → s.dev.get (Dict.railVoltage 2) ≤ opVoltage p + 10000 →
    s.dev.get (Dict.railVoltage 3) ≤ opVoltage p + 10000 → s.dev.get Hid.opStepFrame ≠ s.clock.frames + 1 →
    ∃ t, exec .opStepDown s = .next t ∧ t.dev.get Dict.opActive = p - 1 ∧ Counts s t Dict.opChangeCount ∧
      t.dev.emit = [.pmbus (p - 1)] ∧ PresentsNone s t ∧
      OnlyRegisters s t [Dict.opActive, Dict.opChangeCount, Dict.railNominal 2, Dict.railNominal 3, Dict.passGranted, Dict.passHeadroom,
        Hid.opCommanded, Hid.opCommandFrame, Hid.opStepFrame]) ∧
  (∀ s : State, let p := s.dev.get Dict.opActive
    p < s.dev.get Hid.opCommanded → s.dev.passHeld (p + 1) = false →
    ∃ t, exec .opStepDown s = .next t ∧ t.dev.emit = [.pmbus p] ∧ t.dev.get Hid.opCommanded = p ∧ PresentsNone s t ∧
      OnlyRegisters s t [Hid.opCommanded, Hid.opCommandFrame]) ∧
  (∀ (s : State) (address : Nat),
    ∃ t, exec (.pmbusFault address) s = .next t ∧ Counts s t Dict.pmbFaultCount ∧ Presents s t 7 [(1, address)] ∧
      OnlyRegisters s t [Dict.pmbFaultCount]) ∧
  (∀ (s : State) (r lowest : Nat), r < 11 → s.dev.railMasked r = false → s.dev.is Dict.supplyEpisodeActive = false →
    ∃ t, exec (.supplyWarning (2 ^ r) lowest) s = .next t ∧ t.dev.get Dict.supplyEpisodeActive = 1 ∧ Counts s t Dict.supplyEpisodeCount ∧
      t.dev.get Dict.supplyEpisodeRails = 2 ^ r ∧ Counts s t (Dict.railWarnCount r) ∧
      t.dev.get (Dict.railMinimum r) = min (s.dev.get (Dict.railMinimum r)) lowest % 2 ^ 32 ∧
      (∀ k, 1 ≤ k → k ≤ 4 → t.dev.passHeld k = false) ∧ Presents s t 1 [(2, 2 ^ r), (4, lowest)] ∧
        OnlyRegisters s t ([Dict.supplyEpisodeActive, Hid.supplyHold, Hid.supplyTermFrames, Dict.supplyEpisodeCount, Dict.lifeSupplyEpisodes,
        Dict.supplyEpisodeStart, Dict.supplyEpisodeRails, Hid.episodeMark, Hid.railsBelow, Dict.railMinimum r, Dict.railWarnCount r, Dict.passGranted,
        Dict.passHeadroom, Dict.passRecallCount, Dict.scrubState, Dict.storeStatus, Dict.keyStoreStatus] ++ (List.range 11).map Dict.railState)) ∧
  (∀ s : State, s.dev.is Dict.supplyEpisodeActive = true →
    ∃ t, exec .supplyEpisodeEnd s = .next t ∧ t.dev.get Dict.supplyEpisodeActive = 0 ∧
      t.dev.get Dict.supplyEpisodeDuration = min ((s.met.age - s.dev.get Hid.episodeMark) / unitsPerNs) 0xFFFFFFFF ∧
      t.dev.get Hid.episodeEndFrame = (if s.anyInstant = s.start then s.clock.frames else s.clock.frames + 1) % Hid.episodeEndFrame.modulus ∧
      PresentsNone s t ∧
      OnlyRegisters s t ([Dict.supplyEpisodeActive, Dict.supplyEpisodeDuration, Hid.railsBelow, Hid.episodeEndFrame] ++
        (List.range 6).map Dict.lifeEpisodeDuration ++ (List.range 11).map Dict.railState)) ∧
  (∀ s : State, s.dev.is Dict.supplyEpisodeActive = false → 8 ≤ s.met.framesSince (s.dev.get Hid.episodeEndFrame) →
    ∃ t, exec .passResume s = .next t ∧ t.dev.get Hid.supplyHold = 0 ∧ PresentsNone s t ∧
      OnlyRegisters s t [Hid.supplyHold, Dict.storeStatus, Dict.keyStoreStatus]) ∧
  (∀ s : State, 4096 ≤ s.dev.get Hid.coolFrames →
    ∃ t, exec .throttleEnd s = .next t ∧ t.dev.get Dict.thermalThrottle = 0 ∧ PresentsNone s t ∧
      OnlyRegisters s t [Dict.thermalThrottle]) ∧
  (∀ (s : State) (h : Head) (v : Value) (x : Session), s.admits h [Dict.supplyStatsClear.item v] x = true →
    ∃ t, exec (.supplyStatsClear h v) s = .next t ∧ Accepted s t h [Dict.supplyStatsClear.item v] x ∧
      ∀ (d : Dev) (r : Nat), r < 11 →
        (d.applyGroup [Dict.supplyStatsClear.item v] []).get (Dict.railMinimum r) = (Dict.railMinimum r).reset)

/-- XO_QUALIFIED, XO_FAIL, XO_RESTART, SYS_CLOCK_TO_SPLL, SYS_CLOCK_FALLBACK, MOSC_QUALIFIED, MOSC_TRIP, MOSC_RETURN and FORCED_SWITCH: the
states of the clock sources, the system clock's source and its bus clock, what APLL0 and the output APLLs make of a source that is lost,
and the sources 2 to 5, 56 and 59 that they raise (R257, R261, R565 to R571, R573). -/
def Obligations.ClockSourcesChangeState : Prop :=
  (∀ (s : State) (estimate : Nat), s.met.xoMayQualify estimate = true → estimate < 2 ^ 32 →
    ∃ t, exec (.xoQualified estimate) s = .next t ∧ t.dev.get Dict.xoState = 3 ∧ t.dev.get Dict.xoRoscEstimate = estimate ∧
      t.dev.get Dict.spllState = (if s.dev.get Dict.spllState = 0 then 1 else s.dev.get Dict.spllState) ∧ PresentsNone s t ∧
      OnlyRegisters s t [Dict.xoState, Dict.xoRoscEstimate, Dict.roscFrequency, Dict.spllState, Hid.spllMark, Dict.moscState, Dict.coarseClock,
        Hid.coarse, Hid.coarseFrame, Dict.coarseTime, Dict.coarseUncertainty, Hid.apll0Wait, Dict.apll0State, Dict.apll0Source,
        Dict.apll0Feedback, Hid.apll0FromHold, Hid.apll0Returning, Hid.vcoLeftAt]) ∧
  (∀ s : State, s.dev.get Dict.xoState ≠ 4 →
    let lost := s.dev.apll0Locked && s.dev.get Dict.apll0Source == 2
    ∃ t, exec .xoFail s = .next t ∧ t.dev.get Dict.xoState = 4 ∧ (⟨3, packDetail [], false, false, true⟩ : Post) ∈ t.dev.posted ∧
      t.dev.get Dict.sysClockSource = 0 ∧
      (s.dev.get Dict.sysClockSource ≠ 0 → (⟨4, packDetail [], false, false, true⟩ : Post) ∈ t.dev.posted) ∧
      (lost = true → t.dev.get Dict.apll0State = 3 ∧ (⟨56, packDetail [(1, 2), (1, 2)], false, false, true⟩ : Post) ∈ t.dev.posted) ∧
      (s.dev.get Dict.coarseUncertainty ≠ 0xFFFFFFFFFFFFFFFF → t.dev.get Dict.coarseClock = 2) ∧ s.dev.posted <+: t.dev.posted ∧
      OnlyRegisters s t (holdoverRegisters ++ [Dict.xoState, Hid.xoFailMark, Dict.coarseClock, Hid.coarse, Hid.coarseFrame, Dict.coarseTime,
        Dict.coarseUncertainty] ++ [Dict.sysClockSource, Dict.spllState, Hid.spllMark, Dict.busClock, Dict.opActive, Dict.railNominal 2, Dict.railNominal 3,
        Dict.passGranted, Dict.passHeadroom, Hid.opCommanded, Hid.opCommandFrame] ++
        [Dict.apll0State, Dict.apll0HoldCount, Hid.apll0HoldFrame, Hid.apll0Returning, Hid.apll0Held])) ∧
  (∀ s : State, s.dev.get Dict.xoState = 4 → s.met.sinceMark (s.dev.get Hid.xoFailMark) framesPerSecond = true →
    ∃ t, exec .xoRestart s = .next t ∧ t.dev.get Dict.xoState = 1 ∧ PresentsNone s t ∧
      OnlyRegisters s t [Dict.xoState, Hid.xoStartMark]) ∧
  (∀ s : State, s.dev.get Dict.xoState = 3 → s.dev.get Dict.sysClockSource = 0 → s.met.sinceMark (s.dev.get Hid.spllMark) 64 = true →
    ∃ t, exec .sysClockToSpll s = .next t ∧ t.dev.get Dict.sysClockSource = 1 ∧ t.dev.get Dict.spllState = 2 ∧
      t.dev.get Dict.busClock = 800000 ∧ PresentsNone s t ∧
      OnlyRegisters s t [Dict.sysClockSource, Dict.spllState, Dict.busClock, Dict.dramState]) ∧
  (∀ s : State, s.dev.get Dict.sysClockSource ≠ 0 →
    ∃ t, exec .sysClockFallback s = .next t ∧ t.dev.get Dict.sysClockSource = 0 ∧ t.dev.get Dict.busClock = 200000 ∧
      t.dev.get Dict.opActive = 0 ∧ t.dev.emit = [.pmbus 0] ∧ t.dev.passHeld 1 = false ∧ t.dev.passHeld 2 = false ∧ Presents s t 4 [] ∧
      OnlyRegisters s t [Dict.sysClockSource, Dict.spllState, Hid.spllMark, Dict.busClock, Dict.opActive, Dict.railNominal 2, Dict.railNominal 3,
        Dict.passGranted, Dict.passHeadroom, Hid.opCommanded, Hid.opCommandFrame]) ∧
  (∀ s : State, s.dev.get Dict.moscState ≠ 2 → 3 ≤ s.dev.get Dict.xoState →
    s.met.sinceMark (s.dev.get Hid.moscBreak) (s.dev.get Dict.moscQualifyTime * framesPerSecond) = true →
    ∃ t, exec .moscQualified s = .next t ∧ t.dev.get Dict.moscState = 2 ∧
      (∀ a, 1 ≤ a → a ≤ 3 → t.dev.get (Dict.apllState a) = (if s.dev.get (Dict.apllState a) = 4 then 2 else s.dev.get (Dict.apllState a))) ∧
      PresentsNone s t ∧
      OnlyRegisters s t ([Dict.moscState, Hid.moscQualifiedFrame, Hid.apll0Wait, Dict.apll0State, Dict.apll0Source, Dict.apll0Feedback,
        Hid.apll0FromHold, Hid.apll0Returning, Hid.vcoLeftAt] ++ [1, 2, 3].flatMap fun a => [Dict.apllState a, Hid.apllFromHold a, Hid.apllFromCal a])) ∧
  (∀ (s : State) (cause : Nat), 1 ≤ cause → cause ≤ 3 → (s.dev.get Dict.moscState = 1 ∨ s.dev.get Dict.moscState = 2) →
    (cause = 3 → s.dev.onMosc = true) →
    ∃ t, exec (.moscTrip cause) s = .next t ∧ t.dev.get Dict.moscState = 3 ∧ t.dev.get Dict.moscLastTripCause = cause ∧
      Counts s t Dict.moscTripCount ∧ Counts s t Dict.lifeMoscTrips ∧ s.dev.posted <+: t.dev.posted ∧
      (⟨2, packDetail [(1, cause)], false, false, true⟩ : Post) ∈ t.dev.posted ∧
      (s.dev.onMosc = true → t.dev.get Dict.apll0State = 3 ∧
        (⟨56, packDetail [(1, if cause = 3 then 2 else 1), (1, 1)], false, false, true⟩ : Post) ∈ t.dev.posted) ∧
      (∀ a, 1 ≤ a → a ≤ 3 → (s.dev.get (Dict.apllState a) = 2 ∨ s.dev.get (Dict.apllState a) = 3) →
        t.dev.get (Dict.apllState a) = 4 ∧ (⟨59, packDetail [(1, a)], false, false, true⟩ : Post) ∈ t.dev.posted) ∧
      OnlyRegisters s t (holdoverRegisters ++ [Dict.moscState, Dict.moscLastTripCause, Dict.moscTripCount, Dict.lifeMoscTrips, Hid.moscBreak] ++
        [Dict.apll0State, Dict.apll0HoldCount, Hid.apll0HoldFrame, Hid.apll0Returning, Hid.apll0Held] ++
        ([1, 2, 3].flatMap fun a => [Dict.apllState a, Hid.apllHoldFrame a]) ++ (List.range 16).map Dict.outState)) ∧
  (∀ (s : State) (h : Head) (v : Value) (x : Session), s.admits h [Dict.moscReturn.item v] x = true →
    ∃ t, exec (.moscReturn h v) s = .next t ∧ Accepted s t h [Dict.moscReturn.item v] x ∧
      ∀ d : Dev, (d.applyGroup [Dict.moscReturn.item v] []).get Hid.moscReturnWanted = 1) ∧
  (∀ (s : State) (mux : Nat), mux < 256 →
    ∃ t, exec (.forcedSwitch mux) s = .next t ∧ Counts s t Dict.forcedSwitchCount ∧ t.dev.get Dict.forcedSwitchLastMux = mux ∧
      Presents s t 5 [(1, mux)] ∧ OnlyRegisters s t [Dict.forcedSwitchCount, Dict.forcedSwitchLastMux])

/-! ### Referee -/

/-- PAIR_FAULT, REACTION_WINDOW_CLOSE, RAIL_FAULT, RAIL_FAULT_END, DOMAIN_RESTART and PAIR_QUIET: a pair that reads Fault raises its source
once, numbered, counted and recorded, and an alert does nothing more; the safe stop opens its window; a rail fault is counted and
ends; windows close; an isolated domain is powered again; a quiet pair may raise again (R630, R632, R636, R638, R640 to R646). -/
def Obligations.RefereeConfirmsAndReacts : Prop :=
  (∀ (s : State) (n hardware : Nat), (n < 36 ∨ 47 < n) → n ≤ 127 → s.met.masked n = false → s.dev.is (Hid.evtArmed n) = true →
    s.dev.get Dict.refereeSequence < 0xFFFFFFFF →
    let p := (s.dev.posted.find? fun p => p.source == n).getD ⟨n, hardware, false, false, true⟩
    let seq := s.dev.get Dict.refereeSequence + 1
    p.railFault = false → p.injected = false → p.act = true →
    (s.dev.get (Dict.evtSeverity n) = 1 → s.dev.windows = [] →
      ∃ t, exec (.pairFault [(n, hardware)]) s = .next t ∧ t.dev.get (Dict.evtRailState n) = 1 ∧ t.dev.get (Hid.evtArmed n) = 0 ∧
        t.dev.get Dict.refereeSequence = seq ∧ Counts s t (Dict.evtCount n) ∧ Counts s t Dict.refereeEventCount ∧
        (let record := ofOctets ([n, 1, 0, 0xFF] ++ octetsOf 4 seq ++ octetsOf 12 (toTime96 (s.met.toCycle s.anyInstant)) ++
           octetsOf 8 p.detail ++ octetsOf 4 0)
         t.dev.get (Dict.evtHistory n 0) = record % 256 ^ 32 ∧
           t.dev.eventLog = (if s.dev.powered .mem then (record :: s.dev.eventLog).take 2097152 else s.dev.eventLog)) ∧
        t.dev.get (Dict.evtHistory n 1) = s.dev.get (Dict.evtHistory n 0) % 256 ^ 32 ∧
        t.dev.posted = s.dev.posted.erase p ∧ t.dev.windows = [] ∧ OnlyRegisters s t (recordRegisters n)) ∧
    (s.dev.get (Dict.evtSeverity n) = 4 →
      ∃ t, exec (.pairFault [(n, hardware)]) s = .next t ∧ t.dev.get Hid.safeStop = 1 ∧ t.dev.get Dict.refereeSequence = seq ∧
        t.dev.windows = s.dev.windows ++ [⟨n, seq, safeStopSet, s.clock.frames + 1⟩] ∧ Counts s t (Dict.evtCount n) ∧
        OnlyRegisters s t (Hid.safeStop :: recordRegisters n))) ∧
  (∀ s : State, ∃ t, exec .reactionWindowClose s = .next t ∧
    t.dev.windows = (s.dev.windows.filter fun w => decide (s.clock.frames < w.lastFrame)) ∧ PresentsNone s t ∧ OnlyRegisters s t []) ∧
  (∀ (s : State) (n levels : Nat), n < 126 → Dev.defined n = true → s.met.masked n = false → s.dev.get (Dict.evtRailState n) ≠ 2 →
    s.dev.get (Dict.evtSeverity n) ≤ 1 → s.dev.get (Dict.evtSeverity 126) ≤ 1 →
    ∃ t, exec (.railFault n levels) s = .next t ∧ t.dev.get (Dict.evtRailState n) = 2 ∧ Counts s t Dict.railFaultCount ∧
      Counts s t (Dict.evtCount n) ∧ Counts s t (Dict.evtCount 126) ∧ PresentsNone s t ∧
        OnlyRegisters s t (Dict.railFaultCount :: (recordRegisters n ++ recordRegisters 126))) ∧
  (∀ (s : State) (n : Nat), n < 128 → s.dev.get (Dict.evtRailState n) = 2 →
    ∃ t, exec (.railFaultEnd n) s = .next t ∧ t.dev.get (Dict.evtRailState n) = 0 ∧ t.dev.get (Hid.evtArmed n) = 1 ∧ PresentsNone s t ∧
      OnlyRegisters s t [Dict.evtRailState n, Hid.evtArmed n]) ∧
  (∀ (s : State) (n : Nat), n < 128 → s.dev.get (Dict.evtRailState n) = 1 →
    ∃ t, exec (.pairQuiet n) s = .next t ∧ t.dev.get (Dict.evtRailState n) = 0 ∧ t.dev.get (Hid.evtArmed n) = 1 ∧ PresentsNone s t ∧
      OnlyRegisters s t [Dict.evtRailState n, Hid.evtArmed n]) ∧
  (∀ (s : State) (x : Nat), let y := Domain.ofBit x
    s.dev.isolated y = true → bit (s.dev.get Dict.latchedDomains) y.bit = false → s.dev.get (Hid.restartDue y.bit) ≤ s.clock.frames →
    ∃ t, exec (.domainRestart x) s = .next t ∧ t.dev.isolated y = false ∧ t.dev.powered y = true ∧
      t.dev.windows = s.dev.windows ++ [⟨0xFF, s.dev.get Dict.refereeSequence, domainSet y, s.clock.frames + 1⟩] ∧
      ((∀ u ∈ Removable.all, u.domain = y → s.dev.removed u = false → (s.begin s.anyInstant).startUpPasses u = true) →
        PresentsNone s t ∧ OnlyRegisters s t (pairRegisters ++ [Dict.isolatedDomains, Dict.latchedDomains, Hid.poweredDomains, Hid.unmaskAt y.bit] ++
          (if y = .net then (List.range 4).flatMap fun k => [Hid.pctResult k, Hid.pctStart k] else []) ++
          (if y = .mem then [Dict.fillState, Dict.dramState] else []))))

/-- The commands to Referee: accepted; at S0 a latched domain is powered again, the masks named are struck, a source's or every source's
counts and history are cleared, and the injections that follow are set (R638, R649, R650, R652, R653). -/
def Obligations.RefereeCommandsActAtS0 : Prop :=
  (∀ (s : State) (h : Head) (v : Value) (x : Session), s.admits h [Dict.domainRelease.item v] x = true →
    ∃ t, exec (.domainRelease h v) s = .next t ∧ Accepted s t h [Dict.domainRelease.item v] x ∧
      ∀ d : Dev, bit (d.get Dict.latchedDomains) v.value = true → d.isolated (Domain.ofBit v.value) = true →
        let d' := d.applyGroup [Dict.domainRelease.item v] []
        d'.isolated (Domain.ofBit v.value) = false ∧ d'.powered (Domain.ofBit v.value) = true) ∧
  (∀ (s : State) (h : Head) (v : Value) (x : Session), s.admits h [Dict.evtAcknowledge.item v] x = true →
    ∃ t, exec (.evtAcknowledge h v) s = .next t ∧ Accepted s t h [Dict.evtAcknowledge.item v] x ∧
      ∀ (d : Dev) (n : Nat), n < 128 → v.value / 256 ^ 16 = 0 → bit (v.value % 256 ^ 16) n = true →
        let d' := d.applyGroup [Dict.evtAcknowledge.item v] []
        bit (d'.get Dict.evtPending0) n = false ∧ d'.get Dict.evtPending1 = d.get Dict.evtPending1) ∧
  (∀ (s : State) (h : Head) (n : Nat) (v : Value) (x : Session), n < 128 → s.admits h [(Dict.evtClear n).item v] x = true →
    ∃ t, exec (.evtClear h n v) s = .next t ∧ Accepted s t h [(Dict.evtClear n).item v] x ∧
      ∀ d : Dev, let d' := d.applyGroup [(Dict.evtClear n).item v] []
        d'.get (Dict.evtCount n) = 0 ∧ ∀ k < 32, d'.get (Dict.evtHistory n k) = 0) ∧
  (∀ (s : State) (h : Head) (v : Value) (x : Session), s.admits h [Dict.refereeClearAll.item v] x = true →
    ∃ t, exec (.refereeClearAll h v) s = .next t ∧ Accepted s t h [Dict.refereeClearAll.item v] x ∧
      ∀ (d : Dev) (n : Nat), n < 128 → (d.applyGroup [Dict.refereeClearAll.item v] []).get (Dict.evtCount n) = 0) ∧
  (∀ (s : State) (h : Head) (source count unit options mode : Nat) (c : Instr) (x : Session), source < 128 → count < 256 → unit < 256 →
    options < 256 →
    ((c = .faultInjectCheckBit h source count unit options ∧ mode = 1) ∨ (c = .faultInjectPair h source count unit options ∧ mode = 2) ∨
      (c = .faultInjectRail h source count unit options ∧ mode = 3)) →
    let items := [Dict.faultInject.item ⟨5, source * 2 ^ 32 + mode * 2 ^ 24 + count * 2 ^ 16 + unit * 2 ^ 8 + options⟩]
    s.admits h items x = true →
    ∃ t, exec c s = .next t ∧ Accepted s t h items x ∧
      ∀ d : Dev, let d' := d.applyGroup items []
        d'.get (Hid.injectMode source) = mode ∧ d'.get (Hid.injectLeft source) = count ∧ d'.get (Hid.injectUnit source) = unit)

/-! ### Shutdown, lifetime records and performance counters -/

/-- SHUTDOWN_REQUEST, SHUTDOWN_COMMITTING, SHUTDOWN_TESTING, SHUTDOWN_RECORDING, SHUTDOWN_TRUNCATE and LIFETIME_COMMIT: the pin
starts a shutdown, which withdraws, commits, tests and writes its record, after which only AON stays powered; once the time is over a truncated
one writes it with the units not yet tested; a lifetime commit writes the live values as the next copy (R586, R659, R660, R663, R665, R671). PC_WINDOW_CLOSE, PC_CONFIGURATION_WRITE,
PC_SNAPSHOT, PC_CLEAR_ALL and PC_CLEAR: a window that is due closes with its count and starts again; a counter whose configuration
is written starts at 0; snapshots copy and clears zero the counts (R674 to R676). -/
def Obligations.ShutdownRecordsAndPerformanceCounters : Prop :=
  (∀ s : State, s.dev.get Hid.bootPhase = 5 → s.dev.is Hid.shutdownPin = false →
    ∃ t, exec .shutdownRequest s = .next t ∧ t.dev.get Hid.shutdownPin = 1 ∧
      t.dev.get Hid.shutdownAt = (s.anyInstant + 1) % Hid.shutdownAt.modulus ∧
      t.dev.get Hid.shutdownAge = s.met.age % Hid.shutdownAge.modulus ∧ PresentsNone s t ∧
      OnlyRegisters s t [Hid.shutdownPin, Hid.shutdownAt, Hid.shutdownAge]) ∧
  (∀ s : State, s.dev.get Dict.shutdownState = 1 → s.dev.get Dict.deviceState = 5 →
    ∃ t, exec .shutdownCommitting s = .next t ∧ t.dev.get Dict.shutdownState = 2 ∧ bit (t.dev.get Hid.nvWanted) 2 = true ∧
      bit (t.dev.get Hid.nvWanted) 3 = true ∧ PresentsNone s t ∧ OnlyRegisters s t [Dict.shutdownState, Hid.nvWanted]) ∧
  (∀ (s : State) (r : TestResults), s.dev.get Dict.shutdownState = 2 → s.dev.passHeld 4 = true → r.failed = [] →
    ∃ t, exec (.shutdownTesting r) s = .next t ∧ t.dev.get Dict.shutdownState = 3 ∧ t.dev.get Dict.selfTestFailed = 0 ∧ PresentsNone s t ∧
      OnlyRegisters s t (pairRegisters ++ [Dict.shutdownState, Hid.shutEpisodes, Dict.selfTestFailed, Dict.selfTestNotRun])) ∧
  (∀ (s : State) (micros : Nat), s.dev.get Dict.shutdownState = 3 → s.dev.passHeld 4 = true →
    ∃ t, exec (.shutdownRecording micros true) s = .next t ∧
      t.dev.shutRecords = s.met.recordOf false :: s.dev.shutRecords.take 1 ∧
      t.dev.get Hid.bootPhase = 7 ∧ t.dev.get Hid.poweredDomains = 0 ∧ t.dev.sessions = [] ∧ Counts s t Dict.lifeOrderlyShutdowns ∧
      DeviceOnly s t) ∧
  (∀ (s : State) (tested micros : Nat), s.dev.get Dict.shutdownState = 3 → s.met.testTimeOver = true →
    let out := (testUnits.map (·.1)).filter fun u => !bit tested u && !bit (s.dev.get Dict.selfTestFailed) u
    let notRun := out.foldl setBit (s.dev.get Dict.selfTestNotRun)
    let left : Dev := { s.met with testItems := s.dev.testItems.filter fun i => !bit notRun i.1 }
    ∃ t, exec (.shutdownTruncate tested micros true) s = .next t ∧
      t.dev.shutRecords = (left.set Dict.selfTestNotRun notRun).recordOf true :: s.dev.shutRecords.take 1 ∧
      t.dev.get Hid.bootPhase = 7 ∧ t.dev.get Hid.poweredDomains = 0 ∧ t.dev.sessions = [] ∧ DeviceOnly s t) ∧
  (∀ s : State, bit (s.dev.get Hid.nvWanted) 3 = true → s.dev.passHeld 0 = true →
    ∃ t, exec (.lifetimeCommit true) s = .next t ∧
      t.dev.nvLife = ⟨(s.dev.lifeCopy.map (·.generation)).getD 0 + 1, true, lifeEntries.map fun e => (e.addr, t.dev.get e)⟩ ::
        s.dev.lifeCopy.toList ∧ bit (t.dev.get Hid.nvWanted) 3 = false ∧
      t.dev.get Dict.lifeCommitTime = toTime96 s.anyInstant % 2 ^ 96 ∧ PresentsNone s t ∧
      OnlyRegisters s t [Hid.nvWanted, Dict.lifeCommitTime]) ∧
  (∀ (s : State) (n : Nat), n < 64 → s.serves .time = true → s.dev.get (Dict.pcWindow n) ≠ 0 →
    s.met.globalFrame % s.dev.get (Dict.pcWindow n) = 0 → s.dev.get (Dict.pcWindowEnd n) ≠ toTime96 s.start →
    ∃ t, exec (.pcWindowClose n) s = .next t ∧ t.dev.get (Dict.pcLastWindow n) = s.dev.get (Dict.pcCount n) % 2 ^ 64 ∧
      t.dev.get (Dict.pcCount n) = 0 ∧ (s.dev.get (Dict.pcMode n) ≠ 3 → t.dev.get (Dict.pcRate n) = 0) ∧
      t.dev.get (Dict.pcWindowEnd n) = toTime96 s.start % 2 ^ 96 ∧ PresentsNone s t ∧
      OnlyRegisters s t [Dict.pcLastWindow n, Dict.pcCount n, Dict.pcRate n, Hid.pcFrames n, Dict.pcWindowEnd n]) ∧
  (∀ (s : State) (h : Head) (items : List Item) (x : Session), s.admits h items x = true →
    ∃ t, exec (.pcConfigurationWrite h items) s = .next t ∧ Accepted s t h items x) ∧
  (∀ (d : Dev) (n v : Nat), n < 64 → v < 2 ^ 16 →
    let d' := d.applyGroup [(Dict.pcEvent n).item ⟨2, v⟩] []
    d'.get (Dict.pcEvent n) = v ∧ d'.get (Dict.pcCount n) = 0) ∧
  (∀ (s : State) (h : Head) (v : Value) (x : Session), s.admits h [Dict.pcSnapshot.item v] x = true →
    ∃ t, exec (.pcSnapshot h v) s = .next t ∧ Accepted s t h [Dict.pcSnapshot.item v] x ∧
      ∀ (d : Dev) (n : Nat), n < 64 →
        (d.applyGroup [Dict.pcSnapshot.item v] []).get (Dict.pcSnapshotValue n) = d.get (Dict.pcCount n) % 2 ^ 64) ∧
  (∀ (s : State) (h : Head) (v : Value) (x : Session), s.admits h [Dict.pcClearAll.item v] x = true →
    ∃ t, exec (.pcClearAll h v) s = .next t ∧ Accepted s t h [Dict.pcClearAll.item v] x ∧
      ∀ (d : Dev) (n : Nat), n < 64 → (d.applyGroup [Dict.pcClearAll.item v] []).get (Dict.pcCount n) = 0) ∧
  (∀ (s : State) (h : Head) (n : Nat) (v : Value) (x : Session), n < 64 → s.admits h [(Dict.pcClear n).item v] x = true →
    ∃ t, exec (.pcClear h n v) s = .next t ∧ Accepted s t h [(Dict.pcClear n).item v] x ∧
      ∀ d : Dev, (d.applyGroup [(Dict.pcClear n).item v] []).get (Dict.pcCount n) = 0)
end

