-- ==== Sys2Proof/Laws/Crypto.lean ====
section
/-!
SUPPORT. Laws of octets and of the sealed octet strings: a string that was sealed opens to what was sealed.
-/
namespace Sys2Proof.Machine

theorem octetsOf_length (n v : Nat) : (octetsOf n v).length = n := by simp [octetsOf]

theorem foldl_octets_lt (l : List Nat) (a : Nat) : l.foldl (fun a o => a * 256 + o % 256) a < (a + 1) * 256 ^ l.length := by
  induction l generalizing a with
  | nil => simp
  | cons x t ih =>
    have h := ih (a * 256 + x % 256)
    have hx : x % 256 < 256 := Nat.mod_lt _ (by decide)
    refine Nat.lt_of_lt_of_le h ?_
    rw [List.length_cons, Nat.pow_succ, Nat.mul_comm (256 ^ t.length) 256, ← Nat.mul_assoc]
    exact Nat.mul_le_mul_right _ (by omega)

/-- Octets spell a number below 256 to their count. -/
theorem ofOctets_lt (l : List Nat) : ofOctets l < 256 ^ l.length := by
  have h := foldl_octets_lt l 0
  simpa [ofOctets] using h

theorem octetsOf_succ (n v : Nat) : octetsOf (n + 1) v = octetsOf n (v / 256) ++ [v % 256] := by
  simp only [octetsOf, List.range_succ, List.map_append, List.map_cons, List.map_nil]
  congr 1
  · apply List.map_congr_left
    intro i hi
    have hi : i < n := List.mem_range.mp hi
    have : n + 1 - 1 - i = (n - 1 - i) + 1 := by omega
    rw [this, Nat.pow_succ, Nat.mul_comm, Nat.div_div_eq_div_mul]
  · simp

/-- The octets of a number spell it. -/
theorem ofOctets_octetsOf (n v : Nat) (h : v < 256 ^ n) : ofOctets (octetsOf n v) = v := by
  induction n generalizing v with
  | zero => simp at h; subst h; rfl
  | succ n ih =>
    have h2 : v / 256 < 256 ^ n := by
      rw [Nat.div_lt_iff_lt_mul (by decide)]; rwa [Nat.pow_succ] at h
    have e := ih _ h2
    rw [octetsOf_succ]
    unfold ofOctets at e ⊢
    rw [List.foldl_append, e]
    simp
    omega

theorem xorOctets_length_le (a b : List Nat) : (xorOctets a b).length ≤ a.length := by
  simp only [xorOctets, List.length_map, List.length_zip]; exact Nat.min_le_left _ _

theorem aes128_lt (key block : Nat) : aes128 key block < 2 ^ 128 := by
  unfold aes128
  refine Nat.lt_of_lt_of_le (ofOctets_lt _) ?_
  rw [show (2 : Nat) ^ 128 = 256 ^ 16 from rfl]
  refine Nat.pow_le_pow_right (by decide) (Nat.le_trans (xorOctets_length_le _ _) ?_)
  simp [aesShift]

theorem aesCmac_lt (key : Nat) (l : List Nat) : aesCmac key l < 2 ^ 128 := aes128_lt _ _

theorem sivVector_lt (key : Nat) (components : List (List Nat)) (plain : List Nat) : sivVector key components plain < 2 ^ 128 :=
  aesCmac_lt _ _

theorem xorOctets_twice (l k : List Nat) (h : l.length ≤ k.length) : xorOctets (xorOctets l k) k = l := by
  induction l generalizing k with
  | nil => rfl
  | cons x t ih =>
    cases k with
    | nil => simp at h
    | cons y u =>
      have e := ih u (by simpa using h)
      unfold xorOctets at e ⊢
      simp only [List.zip_cons_cons, List.map_cons, e]
      rw [Nat.xor_assoc, Nat.xor_self, Nat.xor_zero]

theorem flatMap_octets_length (f : Nat → Nat) (n : Nat) : ((List.range n).flatMap fun i => octetsOf 16 (f i)).length = 16 * n := by
  induction n with
  | zero => rfl
  | succ n ih => simp [List.range_succ, List.flatMap_append, ih, octetsOf_length]; omega

theorem sivStream_length (key siv : Nat) (l : List Nat) : (sivStream key siv l).length = l.length := by
  simp only [sivStream, xorOctets, List.length_map, List.length_zip, flatMap_octets_length]
  omega

/-- The key stream applied twice gives back the octets. -/
theorem sivStream_twice (key siv : Nat) (l : List Nat) : sivStream key siv (sivStream key siv l) = l := by
  have e := sivStream_length key siv l
  unfold sivStream at e ⊢
  simp only [e]
  apply xorOctets_twice
  rw [flatMap_octets_length]
  omega

/-- A synthetic IV survives its octets. -/
theorem ofOctets_sivVector (key : Nat) (components : List (List Nat)) (plain : List Nat) :
    ofOctets (octetsOf 16 (sivVector key components plain)) = sivVector key components plain := by
  generalize h : sivVector key components plain = v
  have hv : v < 2 ^ 128 := h ▸ sivVector_lt key components plain
  exact ofOctets_octetsOf 16 v hv

/-- What was sealed under a key opens under it (RFC 5297). -/
theorem sivOpen_sivSeal (key : Nat) (components : List (List Nat)) (plain : List Nat) :
    sivOpen key components (sivSeal key components plain) = some plain := by
  have e := ofOctets_sivVector (key / 2 ^ 128) components plain
  unfold sivOpen sivSeal
  generalize hw : sivVector (key / 2 ^ 128) components plain = v at e ⊢
  have h16 := octetsOf_length 16 v
  simp only [List.take_left' h16, List.drop_left' h16, e, sivStream_twice, hw, List.length_append, h16]
  simp

end Sys2Proof.Machine
end

