-- ==== Sys2Proof/Laws/Instant.lean ====
section
/-!
SUPPORT. Laws of the instant at which a command that states none acts, and of what every command acts on.
-/
namespace Sys2Proof.Machine

/-- What is left of the frame that runs does not begin before the frame. -/
theorem State.start_le_earliest (s : State) : s.start ≤ s.earliest := by
  unfold State.earliest
  split
  · exact Nat.le_max_left _ _
  · exact Nat.le_refl _

/-- The instant of a command lies in the frame that runs: not before its start. -/
theorem State.start_le_anyInstant (s : State) : s.start ≤ s.anyInstant :=
  Nat.le_trans s.start_le_earliest (Nat.le_add_right _ _)

/-- A command does not act before the last command of its frame (R99). -/
theorem State.now_le_anyInstant (s : State) (h : s.dev.view.frames = s.clock.frames) (hb : s.dev.view.now < s.clock.boundary) :
    s.dev.view.now ≤ s.anyInstant := by
  have : s.dev.view.now ≤ s.earliest := by
    simp only [State.earliest, h, if_true]
    omega
  exact Nat.le_trans this (Nat.le_add_right _ _)

/-- In the last unit of a frame only one instant is left. -/
theorem State.anyInstant_of_last {s : State} (h : s.clock.boundary = s.start + 1) : s.anyInstant = s.start := by
  have e : s.earliest = s.start := by
    unfold State.earliest
    split
    · rw [h]; omega
    · rfl
  simp [State.anyInstant, e, h, Nat.mod_one]

/-- A command on the device leaves the queue. -/
@[simp] theorem State.onDevAt_pending (s : State) (now : Nat) (f : Dev → Dev) : (s.onDevAt now f).pending = s.pending := rfl

/-- A command on the device leaves the memories. -/
@[simp] theorem State.onDevAt_mem (s : State) (now : Nat) (f : Dev → Dev) : (s.onDevAt now f).mem = s.mem := rfl

/-- A command on the device leaves the counter. -/
@[simp] theorem State.onDevAt_ts (s : State) (now : Nat) (f : Dev → Dev) : (s.onDevAt now f).clock.ts = s.clock.ts := rfl

/-- A command on the device leaves the end of the frame. -/
@[simp] theorem State.onDevAt_boundary (s : State) (now : Nat) (f : Dev → Dev) :
    (s.onDevAt now f).clock.boundary = s.clock.boundary := rfl

/-- A command on the device leaves the count of frames. -/
@[simp] theorem State.onDevAt_frames (s : State) (now : Nat) (f : Dev → Dev) : (s.onDevAt now f).clock.frames = s.clock.frames := rfl

/-- A command on the device answers what its operation makes of the device. -/
@[simp] theorem State.onDevAt_dev (s : State) (now : Nat) (f : Dev → Dev) : (s.onDevAt now f).dev = f (s.begin now) := rfl

@[simp] theorem State.onDev_pending (s : State) (f : Dev → Dev) : (s.onDev f).pending = s.pending := rfl
@[simp] theorem State.onDev_mem (s : State) (f : Dev → Dev) : (s.onDev f).mem = s.mem := rfl
@[simp] theorem State.onDev_ts (s : State) (f : Dev → Dev) : (s.onDev f).clock.ts = s.clock.ts := rfl
@[simp] theorem State.onDev_boundary (s : State) (f : Dev → Dev) : (s.onDev f).clock.boundary = s.clock.boundary := rfl
@[simp] theorem State.onDev_frames (s : State) (f : Dev → Dev) : (s.onDev f).clock.frames = s.clock.frames := rfl
@[simp] theorem State.onDev_dev (s : State) (f : Dev → Dev) : (s.onDev f).dev = f (s.begin s.anyInstant) := rfl

@[simp] theorem State.quiet_pending (s : State) : s.quiet.pending = s.pending := rfl
@[simp] theorem State.quiet_mem (s : State) : s.quiet.mem = s.mem := rfl
@[simp] theorem State.quiet_clock (s : State) : s.quiet.clock = s.clock := rfl

/-- Whatever its condition, a command on the device leaves the queue, the memories and the counter. -/
theorem State.duringAt_frame (s : State) (c : Bool) (now : Nat) (f : Dev → Dev) :
    (s.duringAt c now f).pending = s.pending ∧ (s.duringAt c now f).mem = s.mem ∧ (s.duringAt c now f).clock.ts = s.clock.ts ∧
      (s.duringAt c now f).clock.boundary = s.clock.boundary ∧ (s.duringAt c now f).clock.frames = s.clock.frames := by
  cases c <;> exact ⟨rfl, rfl, rfl, rfl, rfl⟩

/-- The same where the command states no instant. -/
theorem State.during_frame (s : State) (c : Bool) (f : Dev → Dev) :
    (s.during c f).pending = s.pending ∧ (s.during c f).mem = s.mem ∧ (s.during c f).clock.ts = s.clock.ts ∧
      (s.during c f).clock.boundary = s.clock.boundary ∧ (s.during c f).clock.frames = s.clock.frames := by
  cases c <;> exact ⟨rfl, rfl, rfl, rfl, rfl⟩

end Sys2Proof.Machine
end

