-- ==== Sys2Proof/Laws/Memory.lean ====
section
/-!
SUPPORT. Laws of the memories: what a read gives after a write, and that every memory operation keeps the canonical form.
-/
namespace Sys2Proof.Machine

theorem cellsFrom_mono {lo hi : Nat} {l : List Host.Cell} (h : lo ≤ hi) (w : cellsFrom hi l = true) : cellsFrom lo l = true := by
  cases l with
  | nil => rfl
  | cons x t =>
    obtain ⟨k, v⟩ := x
    simp only [cellsFrom, Bool.and_eq_true, decide_eq_true_eq] at w ⊢
    exact ⟨⟨by omega, w.1.2⟩, w.2⟩

theorem cellAt_below {lo : Nat} {l : List Host.Cell} (w : cellsFrom lo l = true) {a : Nat} (h : a < lo) : cellAt l a = 0 := by
  induction l generalizing lo with
  | nil => rfl
  | cons x t ih =>
    obtain ⟨k, v⟩ := x
    simp only [cellsFrom, Bool.and_eq_true, decide_eq_true_eq] at w
    have hk : k ≠ a := by omega
    simp only [cellAt, hk, if_false]
    exact ih w.2 (by omega)

/-- Writing an octet keeps the canonical form. -/
theorem cellsFrom_putCell {lo a : Nat} {l : List Host.Cell} (v : BitVec 8) (w : cellsFrom lo l = true) (h : lo ≤ a) :
    cellsFrom lo (putCell l a v) = true := by
  induction l generalizing lo with
  | nil =>
    unfold putCell
    split
    · rfl
    · rename_i hv
      simp only [cellsFrom, Bool.and_eq_true, decide_eq_true_eq]
      exact ⟨⟨h, hv⟩, trivial⟩
  | cons x t ih =>
    obtain ⟨k, u⟩ := x
    simp only [cellsFrom, Bool.and_eq_true, decide_eq_true_eq] at w
    unfold putCell
    split
    · rename_i hk
      split
      · exact cellsFrom_mono (by omega) w.2
      · rename_i hv
        subst hk
        simp only [cellsFrom, Bool.and_eq_true, decide_eq_true_eq]
        exact ⟨⟨h, hv⟩, w.2⟩
    · split
      · split
        · simp only [cellsFrom, Bool.and_eq_true, decide_eq_true_eq]
          exact w
        · rename_i hak hv
          simp only [cellsFrom, Bool.and_eq_true, decide_eq_true_eq]
          exact ⟨⟨h, hv⟩, ⟨by omega, w.1.2⟩, w.2⟩
      · rename_i hk hak
        simp only [cellsFrom, Bool.and_eq_true, decide_eq_true_eq]
        exact ⟨w.1, ih w.2 (by omega)⟩

/-- An octet reads as it was last written. -/
theorem cellAt_putCell_self {lo a : Nat} {l : List Host.Cell} (v : BitVec 8) (w : cellsFrom lo l = true) :
    cellAt (putCell l a v) a = v := by
  induction l generalizing lo with
  | nil =>
    unfold putCell
    split
    · rename_i hv
      simp [cellAt, hv]
    · simp [cellAt]
  | cons x t ih =>
    obtain ⟨k, u⟩ := x
    simp only [cellsFrom, Bool.and_eq_true, decide_eq_true_eq] at w
    unfold putCell
    split
    · rename_i hk
      split
      · rename_i hv
        rw [hv]
        exact cellAt_below w.2 (by omega)
      · simp [cellAt]
    · rename_i hk
      split
      · rename_i hak
        split
        · rename_i hv
          rw [hv]
          refine cellAt_below (lo := k) (l := (k, u) :: t) ?_ hak
          simp only [cellsFrom, Bool.and_eq_true, decide_eq_true_eq]
          exact ⟨⟨Nat.le_refl _, w.1.2⟩, w.2⟩
        · simp [cellAt]
      · simp only [cellAt, hk, if_false]
        exact ih w.2

/-- Writing an octet leaves every other octet as it was. -/
theorem cellAt_putCell_ne {a b : Nat} {l : List Host.Cell} (v : BitVec 8) (h : a ≠ b) : cellAt (putCell l a v) b = cellAt l b := by
  induction l with
  | nil =>
    unfold putCell
    split
    · rfl
    · simp [cellAt, h]
  | cons x t ih =>
    obtain ⟨k, u⟩ := x
    unfold putCell
    split
    · rename_i hk
      split
      · simp [cellAt, hk, h]
      · simp [cellAt, hk, h]
    · split
      · split
        · rfl
        · simp [cellAt, h]
      · simp only [cellAt, ih]

namespace Mem

theorem wf_write {m : Mem} (target offset : Nat) (v : BitVec 8) (w : m.wf = true) : (m.write target offset v).wf = true :=
  cellsFrom_putCell v w (Nat.zero_le _)

theorem wf_writeAll {m : Mem} (target offset : Nat) (l : List Nat) (w : m.wf = true) : (m.writeAll target offset l).wf = true := by
  induction l generalizing m offset with
  | nil => exact w
  | cons v t ih => exact ih (offset + 1) (wf_write target offset _ w)

theorem read_write_self {m : Mem} (target offset : Nat) (v : BitVec 8) (w : m.wf = true) :
    (m.write target offset v).read target offset = v := cellAt_putCell_self v w

theorem read_write_ne {m : Mem} (target offset offset' : Nat) (v : BitVec 8) (h : offset ≠ offset') :
    (m.write target offset v).read target offset' = m.read target offset' :=
  cellAt_putCell_ne v (by unfold memKey; omega)

theorem wf_filter {l : List Host.Cell} (p : Host.Cell → Bool) {lo : Nat} (w : cellsFrom lo l = true) : cellsFrom lo (l.filter p) = true := by
  induction l generalizing lo with
  | nil => rfl
  | cons x t ih =>
    obtain ⟨k, v⟩ := x
    simp only [cellsFrom, Bool.and_eq_true, decide_eq_true_eq] at w
    by_cases hp : p (k, v)
    · simp only [List.filter_cons, hp, if_true, cellsFrom, Bool.and_eq_true, decide_eq_true_eq]
      exact ⟨w.1, ih w.2⟩
    · simp only [List.filter_cons, hp]
      exact cellsFrom_mono (by omega) (ih w.2)

theorem wf_fill {m : Mem} (w : m.wf = true) : m.fill.wf = true := wf_filter _ w

theorem wf_dropCheck {m : Mem} (target line : Nat) (w : m.wf = true) : (m.dropCheck target line).wf = true := w

theorem wf_setLine {m : Mem} (target line v : Nat) (w : m.wf = true) : (m.setLine target line v).wf = true := wf_writeAll _ _ _ w

end Mem

theorem Mem.wf_checks {m : Mem} (c : List LineCheck) (b : Bool) (w : m.wf = true) :
    (if b = true then ({ m with checks := c } : Mem) else m).wf = true := by
  cases b <;> exact w

theorem markLine_wf {m : Mem} (d : Dev) (target line data base inner outer : Nat) (w : m.wf = true) :
    (markLine m d target line data base inner outer).wf = true := by
  have h := fun v => Mem.wf_setLine target line v (Mem.wf_dropCheck target line w)
  unfold markLine
  generalize (m.dropCheck target line) = n at h
  by_cases ht : target = 0
  · simp only [ht, if_true]
    subst ht
    have h := h (data ^^^ d.clientWindowAt line)
    generalize n.setLine 0 line (data ^^^ d.clientWindowAt line) = n' at h
    exact Mem.wf_checks _ _ h
  · simp only [ht, if_false]
    have h := h (data ^^^ 0)
    generalize n.setLine target line (data ^^^ 0) = n' at h
    exact Mem.wf_checks _ _ h

theorem storeLine_wf {m : Mem} (d : Dev) (target line data : Nat) (w : m.wf = true) :
    (storeLine m d target line data).1.wf = true := markLine_wf _ _ _ _ _ _ _ w

theorem readLine_wf {m : Mem} (d : Dev) (target line requester : Nat) (w : m.wf = true) :
    (readLine m d target line requester).1.wf = true := by
  unfold readLine
  simp only
  split
  · exact w
  · split
    · exact w
    · exact storeLine_wf _ _ _ _ w

theorem readLines_wf {m : Mem} (d : Dev) (target line requester n : Nat) (w : m.wf = true) :
    (readLines m d target line requester n).1.wf = true := by
  induction n generalizing m d line with
  | zero => exact w
  | succ n ih =>
    have h := readLine_wf d target line requester w
    unfold readLines
    split
    · rename_i m' d' e
      rw [e] at h
      exact h
    · rename_i m' d' v e
      rw [e] at h
      have h2 := ih d' (line + 1) h
      split
      · rename_i e2
        rw [e2] at h2
        exact h2
      · rename_i e2
        rw [e2] at h2
        exact h2

theorem rewriteLine_wf {m : Mem} (d : Dev) (target line master : Nat) (w : m.wf = true) :
    (rewriteLine m d target line master).1.wf = true := by
  simp only [rewriteLine]
  split
  · exact w
  · split
    · exact storeLine_wf _ _ _ _ w
    · split
      · exact storeLine_wf _ _ _ _ w
      · exact w

/-- MEM_READ keeps the canonical form. -/
theorem memRead_wf {m : Mem} (d : Dev) (op : BusOp) (octets : Nat) (w : m.wf = true) : (memRead m d op octets).1.wf = true := by
  unfold memRead
  simp only
  split
  · exact w
  · split
    · exact w
    · split
      · exact w
      · split
        · exact w
        · have h := readLines_wf (d.issue op) op.target (op.offset / 64) op.master (linesOf op.offset octets) w
          split
          · rename_i e
            rw [e] at h
            exact h
          · rename_i e
            rw [e] at h
            exact rewriteLine_wf _ _ _ _ h

theorem landLines_wf {m : Mem} (d : Dev) (target line n : Nat) (l : List Nat) (w : m.wf = true) :
    (landLines m d target line n l).1.wf = true := by
  induction n generalizing m d line l with
  | zero => exact w
  | succ n ih => exact ih _ (line + 1) (l.drop 64) (storeLine_wf d target line _ w)

theorem readParts_wf {m : Mem} (d : Dev) (target requester : Nat) (l : List Nat) (w : m.wf = true) :
    (readParts m d target requester l).1.wf = true := by
  induction l generalizing m d with
  | nil => exact w
  | cons x t ih =>
    have h := readLine_wf d target x requester w
    unfold readParts
    split
    · rename_i e
      rw [e] at h
      exact h
    · rename_i e
      rw [e] at h
      exact ih _ h

/-- MEM_WRITE keeps the canonical form. -/
theorem memWrite_wf {m : Mem} (d : Dev) (op : BusOp) (data : List Nat) (last : Bool) (w : m.wf = true) :
    (memWrite m d op data last).1.wf = true := by
  unfold memWrite
  simp only
  split
  · exact w
  · split
    · exact w
    · split
      · exact w
      · split
        · exact Mem.wf_writeAll _ _ _ w
        · have h := readParts_wf (d.issue op) op.target op.master (partLines op.offset data.length) w
          split
          · rename_i e
            rw [e] at h
            exact h
          · rename_i e
            rw [e] at h
            exact landLines_wf _ _ _ _ _ h

theorem memTestWrite_wf {m : Mem} (d : Dev) (w : m.wf = true) : (memTestWrite m d).1.wf = true := by
  unfold memTestWrite
  simp only
  split
  · exact w
  · split
    · split <;> exact markLine_wf _ _ _ _ _ _ _ w
    · exact markLine_wf _ _ _ _ _ _ _ (storeLine_wf _ _ _ _ w)

/-- The test accesses of a frame keep the canonical form. -/
theorem memTestFrame_wf {m : Mem} (d : Dev) (w : m.wf = true) : (memTestFrame m d).1.wf = true := by
  unfold memTestFrame
  simp only
  split
  · exact memTestWrite_wf _ w
  · exact w

/-- An upset keeps the canonical form. -/
theorem applyUpset_wf {m : Mem} (d : Dev) (u : Upset) (w : m.wf = true) : (applyUpset m d u).wf = true := by
  unfold applyUpset
  simp only
  split
  · exact w
  · exact markLine_wf _ _ _ _ _ _ _ w

theorem scrubLine_wf {m : Mem} (d : Dev) (target line : Nat) (w : m.wf = true) : (scrubLine m d target line).1.wf = true := by
  have h := readLine_wf d target line 0x10 w
  unfold scrubLine
  split
  · rename_i e
    rw [e] at h
    exact h
  · rename_i e
    rw [e] at h
    exact h

theorem scrubTarget_wf {m : Mem} (d : Dev) (target idle : Nat) (w : m.wf = true) : (scrubTarget m d target idle).1.wf = true := by
  have key : ∀ (l : List Nat) (x : Mem × Dev), x.1.wf = true →
      (l.foldl (fun x l => scrubLine x.1 x.2 target l) x).1.wf = true := by
    intro l
    induction l with
    | nil => exact fun _ h => h
    | cons a t ih => exact fun x h => ih _ (scrubLine_wf x.2 target a h)
  unfold scrubTarget
  simp only
  split
  · exact w
  · split <;> exact key _ (m, d) w

/-- A frame of the scrubbers keeps the canonical form. -/
theorem scrubFrame_wf {m : Mem} (d : Dev) (idle : List Nat) (w : m.wf = true) : (scrubFrame m d idle).1.wf = true := by
  have key : ∀ (l : List Nat) (x : Mem × Dev), x.1.wf = true →
      (l.foldl (fun x t => scrubTarget x.1 x.2 t (idle.getD t 0)) x).1.wf = true := by
    intro l
    induction l with
    | nil => exact fun _ h => h
    | cons a t ih => exact fun x h => ih _ (scrubTarget_wf x.2 a _ h)
  unfold scrubFrame
  simp only
  split
  · exact w
  · split
    · exact w
    · exact key _ (m, _) w

/-- The memories' share of a frame keeps the canonical form. -/
theorem memoryFrame_wf {m : Mem} (d : Dev) (i : FrameInput) (w : m.wf = true) : (State.memoryFrame m d i).1.wf = true := by
  have key : ∀ (l : List Upset) (d : Dev) (m : Mem), m.wf = true → (l.foldl (fun m u => applyUpset m d u) m).wf = true := by
    intro l d
    induction l with
    | nil => exact fun _ h => h
    | cons a t ih => exact fun m h => ih _ (applyUpset_wf d a h)
  exact scrubFrame_wf _ _ (key _ _ _ (memTestFrame_wf d w))

end Sys2Proof.Machine
end

