-- ==== Sys2Proof/Laws/State.lean ====
section
/-!
SUPPORT. Lemmas about updates of the state: one per field and update, true by unfolding the update.
-/
namespace Sys2Proof.Machine

/-! ### Registers -/

theorem Sparse.find_put_self {α : Type} (l : List (Nat × α)) (k : Nat) (v : α) : Sparse.find (Sparse.put l k v) k = some v := by
  induction l with
  | nil => simp [Sparse.put, Sparse.find]
  | cons h t ih =>
    obtain ⟨a, w⟩ := h
    unfold Sparse.put
    split
    · simp [Sparse.find]
    · split
      · simp [Sparse.find]
      · rename_i h1 _
        simp [Sparse.find, h1, ih]

theorem Sparse.find_put_ne {α : Type} (l : List (Nat × α)) (k j : Nat) (v : α) (h : k ≠ j) :
    Sparse.find (Sparse.put l k v) j = Sparse.find l j := by
  induction l with
  | nil => simp [Sparse.put, Sparse.find, h]
  | cons x t ih =>
    obtain ⟨a, w⟩ := x
    unfold Sparse.put
    split
    · rename_i h1
      subst h1
      simp [Sparse.find, h]
    · split
      · simp [Sparse.find, h]
      · simp only [Sparse.find, ih]

theorem Sparse.find_drop_self {α : Type} (l : List (Nat × α)) (k : Nat) : Sparse.find (Sparse.drop l k) k = none := by
  induction l with
  | nil => rfl
  | cons x t ih =>
    obtain ⟨a, w⟩ := x
    unfold Sparse.drop
    split
    · exact ih
    · rename_i h1
      simp [Sparse.find, h1, ih]

theorem Sparse.find_drop_ne {α : Type} (l : List (Nat × α)) (k j : Nat) (h : k ≠ j) :
    Sparse.find (Sparse.drop l k) j = Sparse.find l j := by
  induction l with
  | nil => rfl
  | cons x t ih =>
    obtain ⟨a, w⟩ := x
    unfold Sparse.drop
    split
    · rename_i h1
      subst h1
      simp [Sparse.find, h, ih]
    · simp only [Sparse.find, ih]

namespace Dev

/-- A register reads what was last written to it, cut to its width. -/
@[simp] theorem get_set_self (d : Dev) (e : Entry) (v : Nat) : (d.set e v).get e = v % e.modulus := by
  unfold get set
  by_cases h : v % e.modulus = e.reset
  · simp [h, Sparse.find_drop_self]
  · simp [h, Sparse.find_put_self]

/-- Writing one register leaves every other as it was. -/
theorem get_set_ne (d : Dev) (e f : Entry) (v : Nat) (h : e.addr ≠ f.addr) : (d.set e v).get f = d.get f := by
  unfold get set
  by_cases h1 : v % e.modulus = e.reset
  · simp [h1, Sparse.find_drop_ne _ _ _ h]
  · simp [h1, Sparse.find_put_ne _ _ _ _ h]

/-- A list of Writes landed in the retention bank changes registers alone, and of those no other than the image's writable entries. -/
theorem landItems_frame (items : List Item) (d : Dev) : ∃ regs, items.foldl landItem d = { d with regs := regs } ∧
    ∀ f : Entry, writableImage f.addr = false → ({ d with regs := regs } : Dev).get f = d.get f := by
  induction items generalizing d with
  | nil => exact ⟨d.regs, rfl, fun _ _ => rfl⟩
  | cons it rest ih =>
    simp only [List.foldl_cons, landItem]
    split
    · rename_i e _
      split
      · rename_i hw
        obtain ⟨regs, h1, h2⟩ := ih (d.set e (e.held it.value))
        refine ⟨regs, h1, fun f hf => ?_⟩
        have hne : e.addr ≠ f.addr := fun h => by rw [h, hf] at hw; cases hw
        exact (h2 f hf).trans (get_set_ne d e f _ hne)
      · exact ih d
    · exact ih d

/-- What landing the accepted Writes can change (R9). -/
theorem landStaged_frame (d : Dev) : ∃ regs, d.landStaged = { d with regs := regs } ∧
    ∀ f : Entry, writableImage f.addr = false → Hid.hostUtcFresh.addr ≠ f.addr → d.landStaged.get f = d.get f := by
  obtain ⟨regs, h1, h2⟩ := landItems_frame ((d.staged.filter fun g => g.answer.isNone).map (·.items)).flatten d
  simp only [landStaged]
  split
  · rw [h1]
    exact ⟨_, rfl, fun f hf hn => (get_set_ne _ _ f _ hn).trans (h1 ▸ h2 f hf)⟩
  · rw [h1]
    exact ⟨regs, rfl, fun f hf _ => h1 ▸ h2 f hf⟩

theorem get_setB_ne (d : Dev) (e f : Entry) (b : Bool) (h : e.addr ≠ f.addr) : (d.setB e b).get f = d.get f := get_set_ne d e f _ h

theorem get_setI_ne (d : Dev) (e f : Entry) (i : Int) (h : e.addr ≠ f.addr) : (d.setI e i).get f = d.get f := get_set_ne d e f _ h

theorem get_inc_ne (d : Dev) (e f : Entry) (h : e.addr ≠ f.addr) : (d.inc e).get f = d.get f := get_set_ne d e f _ h

/-- A register counted up reads one more, until it is all ones. -/
theorem get_inc_self (d : Dev) (e : Entry) : (d.inc e).get e = min (d.get e + 1) (e.modulus - 1) % e.modulus := get_set_self d e _

@[simp] theorem set_rats (d : Dev) (e : Entry) (v : Nat) : (d.set e v).rats = d.rats := rfl
@[simp] theorem set_emit (d : Dev) (e : Entry) (v : Nat) : (d.set e v).emit = d.emit := rfl
@[simp] theorem set_free (d : Dev) (e : Entry) (v : Nat) : (d.set e v).free = d.free := rfl
@[simp] theorem set_view (d : Dev) (e : Entry) (v : Nat) : (d.set e v).view = d.view := rfl
@[simp] theorem set_slewLeft (d : Dev) (e : Entry) (v : Nat) : (d.set e v).slewLeft = d.slewLeft := rfl
@[simp] theorem set_corr (d : Dev) (e : Entry) (v : Nat) : (d.set e v).corr = d.corr := rfl
@[simp] theorem set_posted (d : Dev) (e : Entry) (v : Nat) : (d.set e v).posted = d.posted := rfl
@[simp] theorem set_windows (d : Dev) (e : Entry) (v : Nat) : (d.set e v).windows = d.windows := rfl
@[simp] theorem set_sessions (d : Dev) (e : Entry) (v : Nat) : (d.set e v).sessions = d.sessions := rfl
@[simp] theorem set_spiQueue (d : Dev) (e : Entry) (v : Nat) : (d.set e v).spiQueue = d.spiQueue := rfl
@[simp] theorem set_staged (d : Dev) (e : Entry) (v : Nat) : (d.set e v).staged = d.staged := rfl
@[simp] theorem set_shown (d : Dev) (e : Entry) (v : Nat) : (d.set e v).shown = d.shown := rfl
@[simp] theorem set_wrote (d : Dev) (e : Entry) (v : Nat) : (d.set e v).wrote = d.wrote := rfl
@[simp] theorem set_copyA (d : Dev) (e : Entry) (v : Nat) : (d.set e v).copyA = d.copyA := rfl
@[simp] theorem set_copyB (d : Dev) (e : Entry) (v : Nat) : (d.set e v).copyB = d.copyB := rfl
@[simp] theorem set_storeImage (d : Dev) (e : Entry) (v : Nat) : (d.set e v).storeImage = d.storeImage := rfl
@[simp] theorem set_loads (d : Dev) (e : Entry) (v : Nat) : (d.set e v).loads = d.loads := rfl
@[simp] theorem set_compared (d : Dev) (e : Entry) (v : Nat) : (d.set e v).compared = d.compared := rfl
@[simp] theorem set_stamps (d : Dev) (e : Entry) (v : Nat) : (d.set e v).stamps = d.stamps := rfl
@[simp] theorem set_xoStamps (d : Dev) (e : Entry) (v : Nat) : (d.set e v).xoStamps = d.xoStamps := rfl
@[simp] theorem set_xoSamples (d : Dev) (e : Entry) (v : Nat) : (d.set e v).xoSamples = d.xoSamples := rfl
@[simp] theorem set_xoDays (d : Dev) (e : Entry) (v : Nat) : (d.set e v).xoDays = d.xoDays := rfl
@[simp] theorem set_measures (d : Dev) (e : Entry) (v : Nat) : (d.set e v).measures = d.measures := rfl
@[simp] theorem set_tracks (d : Dev) (e : Entry) (v : Nat) : (d.set e v).tracks = d.tracks := rfl
@[simp] theorem set_bases (d : Dev) (e : Entry) (v : Nat) : (d.set e v).bases = d.bases := rfl
@[simp] theorem set_handover (d : Dev) (e : Entry) (v : Nat) : (d.set e v).handover = d.handover := rfl
@[simp] theorem set_followed (d : Dev) (e : Entry) (v : Nat) : (d.set e v).followed = d.followed := rfl
@[simp] theorem set_acquireRuns (d : Dev) (e : Entry) (v : Nat) : (d.set e v).acquireRuns = d.acquireRuns := rfl
@[simp] theorem set_freeRuns (d : Dev) (e : Entry) (v : Nat) : (d.set e v).freeRuns = d.freeRuns := rfl
@[simp] theorem set_blocks (d : Dev) (e : Entry) (v : Nat) : (d.set e v).blocks = d.blocks := rfl
@[simp] theorem set_moscReads (d : Dev) (e : Entry) (v : Nat) : (d.set e v).moscReads = d.moscReads := rfl
@[simp] theorem set_frozen (d : Dev) (e : Entry) (v : Nat) : (d.set e v).frozen = d.frozen := rfl
@[simp] theorem set_announced (d : Dev) (e : Entry) (v : Nat) : (d.set e v).announced = d.announced := rfl
@[simp] theorem set_nextBound (d : Dev) (e : Entry) (v : Nat) : (d.set e v).nextBound = d.nextBound := rfl
@[simp] theorem set_auditDraft (d : Dev) (e : Entry) (v : Nat) : (d.set e v).auditDraft = d.auditDraft := rfl
@[simp] theorem set_auditWaiting (d : Dev) (e : Entry) (v : Nat) : (d.set e v).auditWaiting = d.auditWaiting := rfl
@[simp] theorem set_archive (d : Dev) (e : Entry) (v : Nat) : (d.set e v).archive = d.archive := rfl
@[simp] theorem set_nvAudit (d : Dev) (e : Entry) (v : Nat) : (d.set e v).nvAudit = d.nvAudit := rfl
@[simp] theorem set_gsStamps (d : Dev) (e : Entry) (v : Nat) : (d.set e v).gsStamps = d.gsStamps := rfl
@[simp] theorem set_g0Formed (d : Dev) (e : Entry) (v : Nat) : (d.set e v).g0Formed = d.g0Formed := rfl
@[simp] theorem set_g0Posted (d : Dev) (e : Entry) (v : Nat) : (d.set e v).g0Posted = d.g0Posted := rfl
@[simp] theorem set_g0Rates (d : Dev) (e : Entry) (v : Nat) : (d.set e v).g0Rates = d.g0Rates := rfl
@[simp] theorem set_sats (d : Dev) (e : Entry) (v : Nat) : (d.set e v).sats = d.sats := rfl
@[simp] theorem set_sysBias (d : Dev) (e : Entry) (v : Nat) : (d.set e v).sysBias = d.sysBias := rfl
@[simp] theorem set_jamSums (d : Dev) (e : Entry) (v : Nat) : (d.set e v).jamSums = d.jamSums := rfl
@[simp] theorem set_jamRefs (d : Dev) (e : Entry) (v : Nat) : (d.set e v).jamRefs = d.jamRefs := rfl
@[simp] theorem set_survey (d : Dev) (e : Entry) (v : Nat) : (d.set e v).survey = d.survey := rfl
@[simp] theorem set_osnma (d : Dev) (e : Entry) (v : Nat) : (d.set e v).osnma = d.osnma := rfl
@[simp] theorem set_osnmaKey (d : Dev) (e : Entry) (v : Nat) : (d.set e v).osnmaKey = d.osnmaKey := rfl
@[simp] theorem set_keys (d : Dev) (e : Entry) (v : Nat) : (d.set e v).keys = d.keys := rfl
@[simp] theorem set_stagedKeys (d : Dev) (e : Entry) (v : Nat) : (d.set e v).stagedKeys = d.stagedKeys := rfl
@[simp] theorem set_images (d : Dev) (e : Entry) (v : Nat) : (d.set e v).images = d.images := rfl
@[simp] theorem set_keyCommit (d : Dev) (e : Entry) (v : Nat) : (d.set e v).keyCommit = d.keyCommit := rfl
@[simp] theorem set_keyJobs (d : Dev) (e : Entry) (v : Nat) : (d.set e v).keyJobs = d.keyJobs := rfl
@[simp] theorem set_keyEffect (d : Dev) (e : Entry) (v : Nat) : (d.set e v).keyEffect = d.keyEffect := rfl
@[simp] theorem set_slots (d : Dev) (e : Entry) (v : Nat) : (d.set e v).slots = d.slots := rfl
@[simp] theorem set_txWaiting (d : Dev) (e : Entry) (v : Nat) : (d.set e v).txWaiting = d.txWaiting := rfl
@[simp] theorem set_held (d : Dev) (e : Entry) (v : Nat) : (d.set e v).held = d.held := rfl
@[simp] theorem set_stampQueue (d : Dev) (e : Entry) (v : Nat) : (d.set e v).stampQueue = d.stampQueue := rfl
@[simp] theorem set_openMarkers (d : Dev) (e : Entry) (v : Nat) : (d.set e v).openMarkers = d.openMarkers := rfl
@[simp] theorem set_clients (d : Dev) (e : Entry) (v : Nat) : (d.set e v).clients = d.clients := rfl
@[simp] theorem set_rates (d : Dev) (e : Entry) (v : Nat) : (d.set e v).rates = d.rates := rfl
@[simp] theorem set_tableKeys (d : Dev) (e : Entry) (v : Nat) : (d.set e v).tableKeys = d.tableKeys := rfl
@[simp] theorem set_sentNow (d : Dev) (e : Entry) (v : Nat) : (d.set e v).sentNow = d.sentNow := rfl
@[simp] theorem set_signals (d : Dev) (e : Entry) (v : Nat) : (d.set e v).signals = d.signals := rfl
@[simp] theorem set_nrefs (d : Dev) (e : Entry) (v : Nat) : (d.set e v).nrefs = d.nrefs := rfl
@[simp] theorem set_buckets (d : Dev) (e : Entry) (v : Nat) : (d.set e v).buckets = d.buckets := rfl
@[simp] theorem set_protoQueue (d : Dev) (e : Entry) (v : Nat) : (d.set e v).protoQueue = d.protoQueue := rfl
@[simp] theorem set_beatsIn (d : Dev) (e : Entry) (v : Nat) : (d.set e v).beatsIn = d.beatsIn := rfl
@[simp] theorem set_peers (d : Dev) (e : Entry) (v : Nat) : (d.set e v).peers = d.peers := rfl
@[simp] theorem set_marks (d : Dev) (e : Entry) (v : Nat) : (d.set e v).marks = d.marks := rfl
@[simp] theorem set_replIn (d : Dev) (e : Entry) (v : Nat) : (d.set e v).replIn = d.replIn := rfl
@[simp] theorem set_replSent (d : Dev) (e : Entry) (v : Nat) : (d.set e v).replSent = d.replSent := rfl
@[simp] theorem set_nvLife (d : Dev) (e : Entry) (v : Nat) : (d.set e v).nvLife = d.nvLife := rfl
@[simp] theorem set_shutRecords (d : Dev) (e : Entry) (v : Nat) : (d.set e v).shutRecords = d.shutRecords := rfl
@[simp] theorem set_testItems (d : Dev) (e : Entry) (v : Nat) : (d.set e v).testItems = d.testItems := rfl
@[simp] theorem set_tap (d : Dev) (e : Entry) (v : Nat) : (d.set e v).tap = d.tap := rfl
@[simp] theorem set_qopWaiting (d : Dev) (e : Entry) (v : Nat) : (d.set e v).qopWaiting = d.qopWaiting := rfl
@[simp] theorem set_opensWaiting (d : Dev) (e : Entry) (v : Nat) : (d.set e v).opensWaiting = d.opensWaiting := rfl
@[simp] theorem set_eventLog (d : Dev) (e : Entry) (v : Nat) : (d.set e v).eventLog = d.eventLog := rfl

@[simp] theorem post_regs (d : Dev) (n : Nat) (l : List (Nat × Nat)) : (d.post n l).regs = d.regs := rfl
@[simp] theorem post_rats (d : Dev) (n : Nat) (l : List (Nat × Nat)) : (d.post n l).rats = d.rats := rfl
@[simp] theorem post_emit (d : Dev) (n : Nat) (l : List (Nat × Nat)) : (d.post n l).emit = d.emit := rfl
@[simp] theorem post_free (d : Dev) (n : Nat) (l : List (Nat × Nat)) : (d.post n l).free = d.free := rfl
@[simp] theorem post_view (d : Dev) (n : Nat) (l : List (Nat × Nat)) : (d.post n l).view = d.view := rfl
@[simp] theorem post_slewLeft (d : Dev) (n : Nat) (l : List (Nat × Nat)) : (d.post n l).slewLeft = d.slewLeft := rfl
@[simp] theorem post_corr (d : Dev) (n : Nat) (l : List (Nat × Nat)) : (d.post n l).corr = d.corr := rfl
@[simp] theorem post_windows (d : Dev) (n : Nat) (l : List (Nat × Nat)) : (d.post n l).windows = d.windows := rfl
@[simp] theorem post_sessions (d : Dev) (n : Nat) (l : List (Nat × Nat)) : (d.post n l).sessions = d.sessions := rfl
@[simp] theorem post_spiQueue (d : Dev) (n : Nat) (l : List (Nat × Nat)) : (d.post n l).spiQueue = d.spiQueue := rfl
@[simp] theorem post_staged (d : Dev) (n : Nat) (l : List (Nat × Nat)) : (d.post n l).staged = d.staged := rfl
@[simp] theorem post_shown (d : Dev) (n : Nat) (l : List (Nat × Nat)) : (d.post n l).shown = d.shown := rfl
@[simp] theorem post_wrote (d : Dev) (n : Nat) (l : List (Nat × Nat)) : (d.post n l).wrote = d.wrote := rfl
@[simp] theorem post_copyA (d : Dev) (n : Nat) (l : List (Nat × Nat)) : (d.post n l).copyA = d.copyA := rfl
@[simp] theorem post_copyB (d : Dev) (n : Nat) (l : List (Nat × Nat)) : (d.post n l).copyB = d.copyB := rfl
@[simp] theorem post_storeImage (d : Dev) (n : Nat) (l : List (Nat × Nat)) : (d.post n l).storeImage = d.storeImage := rfl
@[simp] theorem post_loads (d : Dev) (n : Nat) (l : List (Nat × Nat)) : (d.post n l).loads = d.loads := rfl
@[simp] theorem post_compared (d : Dev) (n : Nat) (l : List (Nat × Nat)) : (d.post n l).compared = d.compared := rfl
@[simp] theorem post_stamps (d : Dev) (n : Nat) (l : List (Nat × Nat)) : (d.post n l).stamps = d.stamps := rfl
@[simp] theorem post_xoStamps (d : Dev) (n : Nat) (l : List (Nat × Nat)) : (d.post n l).xoStamps = d.xoStamps := rfl
@[simp] theorem post_xoSamples (d : Dev) (n : Nat) (l : List (Nat × Nat)) : (d.post n l).xoSamples = d.xoSamples := rfl
@[simp] theorem post_xoDays (d : Dev) (n : Nat) (l : List (Nat × Nat)) : (d.post n l).xoDays = d.xoDays := rfl
@[simp] theorem post_measures (d : Dev) (n : Nat) (l : List (Nat × Nat)) : (d.post n l).measures = d.measures := rfl
@[simp] theorem post_tracks (d : Dev) (n : Nat) (l : List (Nat × Nat)) : (d.post n l).tracks = d.tracks := rfl
@[simp] theorem post_bases (d : Dev) (n : Nat) (l : List (Nat × Nat)) : (d.post n l).bases = d.bases := rfl
@[simp] theorem post_handover (d : Dev) (n : Nat) (l : List (Nat × Nat)) : (d.post n l).handover = d.handover := rfl
@[simp] theorem post_followed (d : Dev) (n : Nat) (l : List (Nat × Nat)) : (d.post n l).followed = d.followed := rfl
@[simp] theorem post_acquireRuns (d : Dev) (n : Nat) (l : List (Nat × Nat)) : (d.post n l).acquireRuns = d.acquireRuns := rfl
@[simp] theorem post_freeRuns (d : Dev) (n : Nat) (l : List (Nat × Nat)) : (d.post n l).freeRuns = d.freeRuns := rfl
@[simp] theorem post_blocks (d : Dev) (n : Nat) (l : List (Nat × Nat)) : (d.post n l).blocks = d.blocks := rfl
@[simp] theorem post_moscReads (d : Dev) (n : Nat) (l : List (Nat × Nat)) : (d.post n l).moscReads = d.moscReads := rfl
@[simp] theorem post_frozen (d : Dev) (n : Nat) (l : List (Nat × Nat)) : (d.post n l).frozen = d.frozen := rfl
@[simp] theorem post_announced (d : Dev) (n : Nat) (l : List (Nat × Nat)) : (d.post n l).announced = d.announced := rfl
@[simp] theorem post_nextBound (d : Dev) (n : Nat) (l : List (Nat × Nat)) : (d.post n l).nextBound = d.nextBound := rfl
@[simp] theorem post_auditDraft (d : Dev) (n : Nat) (l : List (Nat × Nat)) : (d.post n l).auditDraft = d.auditDraft := rfl
@[simp] theorem post_auditWaiting (d : Dev) (n : Nat) (l : List (Nat × Nat)) : (d.post n l).auditWaiting = d.auditWaiting := rfl
@[simp] theorem post_archive (d : Dev) (n : Nat) (l : List (Nat × Nat)) : (d.post n l).archive = d.archive := rfl
@[simp] theorem post_nvAudit (d : Dev) (n : Nat) (l : List (Nat × Nat)) : (d.post n l).nvAudit = d.nvAudit := rfl
@[simp] theorem post_gsStamps (d : Dev) (n : Nat) (l : List (Nat × Nat)) : (d.post n l).gsStamps = d.gsStamps := rfl
@[simp] theorem post_g0Formed (d : Dev) (n : Nat) (l : List (Nat × Nat)) : (d.post n l).g0Formed = d.g0Formed := rfl
@[simp] theorem post_g0Posted (d : Dev) (n : Nat) (l : List (Nat × Nat)) : (d.post n l).g0Posted = d.g0Posted := rfl
@[simp] theorem post_g0Rates (d : Dev) (n : Nat) (l : List (Nat × Nat)) : (d.post n l).g0Rates = d.g0Rates := rfl
@[simp] theorem post_sats (d : Dev) (n : Nat) (l : List (Nat × Nat)) : (d.post n l).sats = d.sats := rfl
@[simp] theorem post_sysBias (d : Dev) (n : Nat) (l : List (Nat × Nat)) : (d.post n l).sysBias = d.sysBias := rfl
@[simp] theorem post_jamSums (d : Dev) (n : Nat) (l : List (Nat × Nat)) : (d.post n l).jamSums = d.jamSums := rfl
@[simp] theorem post_jamRefs (d : Dev) (n : Nat) (l : List (Nat × Nat)) : (d.post n l).jamRefs = d.jamRefs := rfl
@[simp] theorem post_survey (d : Dev) (n : Nat) (l : List (Nat × Nat)) : (d.post n l).survey = d.survey := rfl
@[simp] theorem post_osnma (d : Dev) (n : Nat) (l : List (Nat × Nat)) : (d.post n l).osnma = d.osnma := rfl
@[simp] theorem post_osnmaKey (d : Dev) (n : Nat) (l : List (Nat × Nat)) : (d.post n l).osnmaKey = d.osnmaKey := rfl
@[simp] theorem post_keys (d : Dev) (n : Nat) (l : List (Nat × Nat)) : (d.post n l).keys = d.keys := rfl
@[simp] theorem post_stagedKeys (d : Dev) (n : Nat) (l : List (Nat × Nat)) : (d.post n l).stagedKeys = d.stagedKeys := rfl
@[simp] theorem post_images (d : Dev) (n : Nat) (l : List (Nat × Nat)) : (d.post n l).images = d.images := rfl
@[simp] theorem post_keyCommit (d : Dev) (n : Nat) (l : List (Nat × Nat)) : (d.post n l).keyCommit = d.keyCommit := rfl
@[simp] theorem post_keyJobs (d : Dev) (n : Nat) (l : List (Nat × Nat)) : (d.post n l).keyJobs = d.keyJobs := rfl
@[simp] theorem post_keyEffect (d : Dev) (n : Nat) (l : List (Nat × Nat)) : (d.post n l).keyEffect = d.keyEffect := rfl
@[simp] theorem post_slots (d : Dev) (n : Nat) (l : List (Nat × Nat)) : (d.post n l).slots = d.slots := rfl
@[simp] theorem post_txWaiting (d : Dev) (n : Nat) (l : List (Nat × Nat)) : (d.post n l).txWaiting = d.txWaiting := rfl
@[simp] theorem post_held (d : Dev) (n : Nat) (l : List (Nat × Nat)) : (d.post n l).held = d.held := rfl
@[simp] theorem post_stampQueue (d : Dev) (n : Nat) (l : List (Nat × Nat)) : (d.post n l).stampQueue = d.stampQueue := rfl
@[simp] theorem post_openMarkers (d : Dev) (n : Nat) (l : List (Nat × Nat)) : (d.post n l).openMarkers = d.openMarkers := rfl
@[simp] theorem post_clients (d : Dev) (n : Nat) (l : List (Nat × Nat)) : (d.post n l).clients = d.clients := rfl
@[simp] theorem post_rates (d : Dev) (n : Nat) (l : List (Nat × Nat)) : (d.post n l).rates = d.rates := rfl
@[simp] theorem post_tableKeys (d : Dev) (n : Nat) (l : List (Nat × Nat)) : (d.post n l).tableKeys = d.tableKeys := rfl
@[simp] theorem post_sentNow (d : Dev) (n : Nat) (l : List (Nat × Nat)) : (d.post n l).sentNow = d.sentNow := rfl
@[simp] theorem post_signals (d : Dev) (n : Nat) (l : List (Nat × Nat)) : (d.post n l).signals = d.signals := rfl
@[simp] theorem post_nrefs (d : Dev) (n : Nat) (l : List (Nat × Nat)) : (d.post n l).nrefs = d.nrefs := rfl
@[simp] theorem post_buckets (d : Dev) (n : Nat) (l : List (Nat × Nat)) : (d.post n l).buckets = d.buckets := rfl
@[simp] theorem post_protoQueue (d : Dev) (n : Nat) (l : List (Nat × Nat)) : (d.post n l).protoQueue = d.protoQueue := rfl
@[simp] theorem post_beatsIn (d : Dev) (n : Nat) (l : List (Nat × Nat)) : (d.post n l).beatsIn = d.beatsIn := rfl
@[simp] theorem post_peers (d : Dev) (n : Nat) (l : List (Nat × Nat)) : (d.post n l).peers = d.peers := rfl
@[simp] theorem post_marks (d : Dev) (n : Nat) (l : List (Nat × Nat)) : (d.post n l).marks = d.marks := rfl
@[simp] theorem post_replIn (d : Dev) (n : Nat) (l : List (Nat × Nat)) : (d.post n l).replIn = d.replIn := rfl
@[simp] theorem post_replSent (d : Dev) (n : Nat) (l : List (Nat × Nat)) : (d.post n l).replSent = d.replSent := rfl
@[simp] theorem post_nvLife (d : Dev) (n : Nat) (l : List (Nat × Nat)) : (d.post n l).nvLife = d.nvLife := rfl
@[simp] theorem post_shutRecords (d : Dev) (n : Nat) (l : List (Nat × Nat)) : (d.post n l).shutRecords = d.shutRecords := rfl
@[simp] theorem post_testItems (d : Dev) (n : Nat) (l : List (Nat × Nat)) : (d.post n l).testItems = d.testItems := rfl
@[simp] theorem post_tap (d : Dev) (n : Nat) (l : List (Nat × Nat)) : (d.post n l).tap = d.tap := rfl
@[simp] theorem post_qopWaiting (d : Dev) (n : Nat) (l : List (Nat × Nat)) : (d.post n l).qopWaiting = d.qopWaiting := rfl
@[simp] theorem post_opensWaiting (d : Dev) (n : Nat) (l : List (Nat × Nat)) : (d.post n l).opensWaiting = d.opensWaiting := rfl
@[simp] theorem post_eventLog (d : Dev) (n : Nat) (l : List (Nat × Nat)) : (d.post n l).eventLog = d.eventLog := rfl

@[simp] theorem out_regs (d : Dev) (x : Emit) : (d.out x).regs = d.regs := rfl
@[simp] theorem out_rats (d : Dev) (x : Emit) : (d.out x).rats = d.rats := rfl
@[simp] theorem out_free (d : Dev) (x : Emit) : (d.out x).free = d.free := rfl
@[simp] theorem out_view (d : Dev) (x : Emit) : (d.out x).view = d.view := rfl
@[simp] theorem out_corr (d : Dev) (x : Emit) : (d.out x).corr = d.corr := rfl
@[simp] theorem out_posted (d : Dev) (x : Emit) : (d.out x).posted = d.posted := rfl
@[simp] theorem out_sessions (d : Dev) (x : Emit) : (d.out x).sessions = d.sessions := rfl
@[simp] theorem out_staged (d : Dev) (x : Emit) : (d.out x).staged = d.staged := rfl
@[simp] theorem out_shown (d : Dev) (x : Emit) : (d.out x).shown = d.shown := rfl

/-- A register is read from the registers alone. -/
theorem get_congr {d d' : Dev} (e : Entry) (h : d.regs = d'.regs) : d.get e = d'.get e := by
  unfold get
  rw [h]

end Dev

/-! ### The whole state -/

namespace State

@[simp] theorem begin_regs (s : State) (t : Nat) : (s.begin t).regs = s.dev.regs := rfl
@[simp] theorem begin_rats (s : State) (t : Nat) : (s.begin t).rats = s.dev.rats := rfl
@[simp] theorem begin_slewLeft (s : State) (t : Nat) : (s.begin t).slewLeft = s.dev.slewLeft := rfl
@[simp] theorem begin_corr (s : State) (t : Nat) : (s.begin t).corr = s.dev.corr := rfl
@[simp] theorem begin_posted (s : State) (t : Nat) : (s.begin t).posted = s.dev.posted := rfl
@[simp] theorem begin_windows (s : State) (t : Nat) : (s.begin t).windows = s.dev.windows := rfl
@[simp] theorem begin_sessions (s : State) (t : Nat) : (s.begin t).sessions = s.dev.sessions := rfl
@[simp] theorem begin_spiQueue (s : State) (t : Nat) : (s.begin t).spiQueue = s.dev.spiQueue := rfl
@[simp] theorem begin_staged (s : State) (t : Nat) : (s.begin t).staged = s.dev.staged := rfl
@[simp] theorem begin_shown (s : State) (t : Nat) : (s.begin t).shown = s.dev.shown := rfl
@[simp] theorem begin_wrote (s : State) (t : Nat) : (s.begin t).wrote = s.dev.wrote := rfl
@[simp] theorem begin_copyA (s : State) (t : Nat) : (s.begin t).copyA = s.dev.copyA := rfl
@[simp] theorem begin_copyB (s : State) (t : Nat) : (s.begin t).copyB = s.dev.copyB := rfl
@[simp] theorem begin_storeImage (s : State) (t : Nat) : (s.begin t).storeImage = s.dev.storeImage := rfl
@[simp] theorem begin_loads (s : State) (t : Nat) : (s.begin t).loads = s.dev.loads := rfl
@[simp] theorem begin_compared (s : State) (t : Nat) : (s.begin t).compared = s.dev.compared := rfl
@[simp] theorem begin_stamps (s : State) (t : Nat) : (s.begin t).stamps = s.dev.stamps := rfl
@[simp] theorem begin_xoStamps (s : State) (t : Nat) : (s.begin t).xoStamps = s.dev.xoStamps := rfl
@[simp] theorem begin_xoSamples (s : State) (t : Nat) : (s.begin t).xoSamples = s.dev.xoSamples := rfl
@[simp] theorem begin_xoDays (s : State) (t : Nat) : (s.begin t).xoDays = s.dev.xoDays := rfl
@[simp] theorem begin_measures (s : State) (t : Nat) : (s.begin t).measures = s.dev.measures := rfl
@[simp] theorem begin_tracks (s : State) (t : Nat) : (s.begin t).tracks = s.dev.tracks := rfl
@[simp] theorem begin_bases (s : State) (t : Nat) : (s.begin t).bases = s.dev.bases := rfl
@[simp] theorem begin_handover (s : State) (t : Nat) : (s.begin t).handover = s.dev.handover := rfl
@[simp] theorem begin_followed (s : State) (t : Nat) : (s.begin t).followed = s.dev.followed := rfl
@[simp] theorem begin_acquireRuns (s : State) (t : Nat) : (s.begin t).acquireRuns = s.dev.acquireRuns := rfl
@[simp] theorem begin_freeRuns (s : State) (t : Nat) : (s.begin t).freeRuns = s.dev.freeRuns := rfl
@[simp] theorem begin_blocks (s : State) (t : Nat) : (s.begin t).blocks = s.dev.blocks := rfl
@[simp] theorem begin_moscReads (s : State) (t : Nat) : (s.begin t).moscReads = s.dev.moscReads := rfl
@[simp] theorem begin_frozen (s : State) (t : Nat) : (s.begin t).frozen = s.dev.frozen := rfl
@[simp] theorem begin_announced (s : State) (t : Nat) : (s.begin t).announced = s.dev.announced := rfl
@[simp] theorem begin_nextBound (s : State) (t : Nat) : (s.begin t).nextBound = s.dev.nextBound := rfl
@[simp] theorem begin_auditDraft (s : State) (t : Nat) : (s.begin t).auditDraft = s.dev.auditDraft := rfl
@[simp] theorem begin_auditWaiting (s : State) (t : Nat) : (s.begin t).auditWaiting = s.dev.auditWaiting := rfl
@[simp] theorem begin_archive (s : State) (t : Nat) : (s.begin t).archive = s.dev.archive := rfl
@[simp] theorem begin_nvAudit (s : State) (t : Nat) : (s.begin t).nvAudit = s.dev.nvAudit := rfl
@[simp] theorem begin_gsStamps (s : State) (t : Nat) : (s.begin t).gsStamps = s.dev.gsStamps := rfl
@[simp] theorem begin_g0Formed (s : State) (t : Nat) : (s.begin t).g0Formed = s.dev.g0Formed := rfl
@[simp] theorem begin_g0Posted (s : State) (t : Nat) : (s.begin t).g0Posted = s.dev.g0Posted := rfl
@[simp] theorem begin_g0Rates (s : State) (t : Nat) : (s.begin t).g0Rates = s.dev.g0Rates := rfl
@[simp] theorem begin_sats (s : State) (t : Nat) : (s.begin t).sats = s.dev.sats := rfl
@[simp] theorem begin_sysBias (s : State) (t : Nat) : (s.begin t).sysBias = s.dev.sysBias := rfl
@[simp] theorem begin_jamSums (s : State) (t : Nat) : (s.begin t).jamSums = s.dev.jamSums := rfl
@[simp] theorem begin_jamRefs (s : State) (t : Nat) : (s.begin t).jamRefs = s.dev.jamRefs := rfl
@[simp] theorem begin_survey (s : State) (t : Nat) : (s.begin t).survey = s.dev.survey := rfl
@[simp] theorem begin_osnma (s : State) (t : Nat) : (s.begin t).osnma = s.dev.osnma := rfl
@[simp] theorem begin_osnmaKey (s : State) (t : Nat) : (s.begin t).osnmaKey = s.dev.osnmaKey := rfl
@[simp] theorem begin_keys (s : State) (t : Nat) : (s.begin t).keys = s.dev.keys := rfl
@[simp] theorem begin_stagedKeys (s : State) (t : Nat) : (s.begin t).stagedKeys = s.dev.stagedKeys := rfl
@[simp] theorem begin_images (s : State) (t : Nat) : (s.begin t).images = s.dev.images := rfl
@[simp] theorem begin_keyCommit (s : State) (t : Nat) : (s.begin t).keyCommit = s.dev.keyCommit := rfl
@[simp] theorem begin_keyJobs (s : State) (t : Nat) : (s.begin t).keyJobs = s.dev.keyJobs := rfl
@[simp] theorem begin_keyEffect (s : State) (t : Nat) : (s.begin t).keyEffect = s.dev.keyEffect := rfl
@[simp] theorem begin_slots (s : State) (t : Nat) : (s.begin t).slots = s.dev.slots := rfl
@[simp] theorem begin_txWaiting (s : State) (t : Nat) : (s.begin t).txWaiting = s.dev.txWaiting := rfl
@[simp] theorem begin_held (s : State) (t : Nat) : (s.begin t).held = s.dev.held := rfl
@[simp] theorem begin_stampQueue (s : State) (t : Nat) : (s.begin t).stampQueue = s.dev.stampQueue := rfl
@[simp] theorem begin_openMarkers (s : State) (t : Nat) : (s.begin t).openMarkers = s.dev.openMarkers := rfl
@[simp] theorem begin_clients (s : State) (t : Nat) : (s.begin t).clients = s.dev.clients := rfl
@[simp] theorem begin_rates (s : State) (t : Nat) : (s.begin t).rates = s.dev.rates := rfl
@[simp] theorem begin_tableKeys (s : State) (t : Nat) : (s.begin t).tableKeys = s.dev.tableKeys := rfl
@[simp] theorem begin_sentNow (s : State) (t : Nat) : (s.begin t).sentNow = s.dev.sentNow := rfl
@[simp] theorem begin_signals (s : State) (t : Nat) : (s.begin t).signals = s.dev.signals := rfl
@[simp] theorem begin_nrefs (s : State) (t : Nat) : (s.begin t).nrefs = s.dev.nrefs := rfl
@[simp] theorem begin_buckets (s : State) (t : Nat) : (s.begin t).buckets = s.dev.buckets := rfl
@[simp] theorem begin_protoQueue (s : State) (t : Nat) : (s.begin t).protoQueue = s.dev.protoQueue := rfl
@[simp] theorem begin_beatsIn (s : State) (t : Nat) : (s.begin t).beatsIn = s.dev.beatsIn := rfl
@[simp] theorem begin_peers (s : State) (t : Nat) : (s.begin t).peers = s.dev.peers := rfl
@[simp] theorem begin_marks (s : State) (t : Nat) : (s.begin t).marks = s.dev.marks := rfl
@[simp] theorem begin_replIn (s : State) (t : Nat) : (s.begin t).replIn = s.dev.replIn := rfl
@[simp] theorem begin_replSent (s : State) (t : Nat) : (s.begin t).replSent = s.dev.replSent := rfl
@[simp] theorem begin_nvLife (s : State) (t : Nat) : (s.begin t).nvLife = s.dev.nvLife := rfl
@[simp] theorem begin_shutRecords (s : State) (t : Nat) : (s.begin t).shutRecords = s.dev.shutRecords := rfl
@[simp] theorem begin_testItems (s : State) (t : Nat) : (s.begin t).testItems = s.dev.testItems := rfl
@[simp] theorem begin_tap (s : State) (t : Nat) : (s.begin t).tap = s.dev.tap := rfl
@[simp] theorem begin_qopWaiting (s : State) (t : Nat) : (s.begin t).qopWaiting = s.dev.qopWaiting := rfl
@[simp] theorem begin_opensWaiting (s : State) (t : Nat) : (s.begin t).opensWaiting = s.dev.opensWaiting := rfl
@[simp] theorem begin_eventLog (s : State) (t : Nat) : (s.begin t).eventLog = s.dev.eventLog := rfl
@[simp] theorem begin_emit (s : State) (t : Nat) : (s.begin t).emit = [] := rfl
@[simp] theorem begin_get (s : State) (t : Nat) (e : Entry) : (s.begin t).get e = s.dev.get e := rfl
@[simp] theorem begin_now (s : State) (t : Nat) : (s.begin t).now = t := rfl

@[simp] theorem onDevAt_atStart (s : State) (now : Nat) (f : Dev → Dev) : (s.onDevAt now f).clock.atStart = s.clock.atStart := rfl
@[simp] theorem onDevAt_jumped (s : State) (now : Nat) (f : Dev → Dev) : (s.onDevAt now f).clock.jumped = s.clock.jumped := rfl
@[simp] theorem quiet_get (s : State) (e : Entry) : s.quiet.dev.get e = s.dev.get e := rfl

theorem duringAt_mem (s : State) (c : Bool) (now : Nat) (f : Dev → Dev) : (s.duringAt c now f).mem = s.mem := by
  cases c <;> rfl

theorem duringAt_pending (s : State) (c : Bool) (now : Nat) (f : Dev → Dev) : (s.duringAt c now f).pending = s.pending := by
  cases c <;> rfl

theorem duringAt_ts (s : State) (c : Bool) (now : Nat) (f : Dev → Dev) : (s.duringAt c now f).clock.ts = s.clock.ts := by
  cases c <;> rfl

theorem duringAt_boundary (s : State) (c : Bool) (now : Nat) (f : Dev → Dev) :
    (s.duringAt c now f).clock.boundary = s.clock.boundary := by
  cases c <;> rfl

/-- Where its condition holds a command acts on the device as it stands at its instant. -/
theorem duringAt_pos (s : State) (now : Nat) (f : Dev → Dev) : s.duringAt true now f = s.onDevAt now f := rfl

theorem during_pos (s : State) (f : Dev → Dev) : s.during true f = s.onDev f := rfl

theorem during_neg (s : State) (f : Dev → Dev) : s.during false f = s.quiet := rfl

end State

end Sys2Proof.Machine
end

