-- ==== Sys2Proof/WellFormed.lean ====
section
/-!
DEFINITION. WellFormed.lean: the operands that name what the spec gives: unit numbers, octets, and the entries that a
Write row covers.
-/
namespace Sys2Proof

/-- A Write of at least one item, every item at an entry that the test covers. -/
def itemsAmong (items : List Item) (p : Nat → Nat → Bool) : Bool := !items.isEmpty && items.all fun i => p i.index i.sub

/-- The operands of a command name what exists (the unit ranges of each chapter; the entries of each Write row). -/
def Instr.wf : Instr → Bool
  | .frameStart _ => true
  | .sequencerOverrun slot => decide (slot < 8)
  | .stepApply => true
  | .setApply => true
  | .leapApplied => true
  | .timerFire n => decide (n < 32)
  | .trgPulseEnd m => decide (m < 8)
  | .timerArm _ n => decide (n < 32)
  | .timerDisarm _ n => decide (n < 32)
  | .inputEdgeStamp c line _ j f _ => decide (c < 19 ∧ line < 2 ∧ j < 8 ∧ f ≤ 64)
  | .windowMiss c => decide (c < 16)
  | .twinSwap c => decide (c < 19)
  | .calCollectionComplete unit line _ _ _ _ => decide (unit < 21 ∧ line < 2)
  | .calTimeout unit line => decide (unit < 21 ∧ line < 2)
  | .waitingTimerExpiry ref => decide (ref < 18)
  | .handoverWindowClose => true
  | .dwellComplete => true
  | .servoUnlock => true
  | .steerUpdate => true
  | .steerReply octets => octets.all (· < 256)
  | .steerReplyTimeout => true
  | .oscModelFit => true
  | .apll0Lock => true
  | .apll0LockTimeout => true
  | .apll0ReturnToMosc => true
  | .apllBandFound a => decide (1 ≤ a ∧ a ≤ 3)
  | .apllLock a => decide (1 ≤ a ∧ a ≤ 3)
  | .apllLockTimeout a => decide (1 ≤ a ∧ a ≤ 3)
  | .apllLockLoss a => decide (1 ≤ a ∧ a ≤ 3)
  | .apllPlanWrite _ items => itemsAmong items (fun i s => decide (0x4011 ≤ i ∧ i ≤ 0x4013 ∧ 1 ≤ s ∧ s ≤ 5))
  | .outputActivityLoss code => decide (0x30 ≤ code ∧ code < 0x44)
  | .ztodSend m => decide (m < 2)
  | .todiMessage k octets => decide (k < 4) && octets.all (· < 256)
  | .todiOctetGap k => decide (k < 4)
  | .gnssStateEvaluate _ => true
  | .channelAllocation _ => true
  | .sampleClockFault b => decide (b < 2)
  | .gnssSolution _ => true
  | .g0RecordPost => true
  | .positionCheck _ _ _ => true
  | .notchEngage b _ => decide (b < 2)
  | .notchDisengage b k => decide (b < 2 ∧ k < 4)
  | .osnmaTagVerify _ => true
  | .dsmPkrReceive keyId material proof => decide (keyId < 16) && material.all (· < 256) && proof.all (· < 256)
  | .trustedTimeUpdate => true
  | .auditRecordStore => true
  | .auditRecordLost => true
  | .auditCheckpoint => true
  | .portCalibrationDone q _ => decide (q < 6)
  | .portCalIncomplete q => decide (q < 6)
  | .portUp q => decide (q < 6)
  | .portDown q => decide (q < 6)
  | .scheduledSend m _ => decide (m.kind < 5 ∧ m.sender < 10 ∧ m.port < 6)
  | .receivedFrame f => decide (f.rx.port < 6)
  | .pauseReceive q quanta => decide (q < 6 ∧ quanta < 65536)
  | .pfcReceive q enable times => decide (q < 6 ∧ enable < 256 ∧ times.length = 8)
  | .pauseExpiry q => decide (q < 6)
  | .stampHoldExpiry q => decide (q < 6)
  | .stampQueueDrain q => decide (q < 6)
  | .hostFrameForTransmission _ => true
  | .arpRequest q address toward => decide (q < 7 ∧ address < 2 ^ 32 ∧ toward < 2 ^ 48)
  | .neighbourSolicitation q address toward => decide (q < 7 ∧ address < 2 ^ 128 ∧ toward < 2 ^ 48)
  | .esmcPduReceive q ssm _ => decide (q < 6 ∧ ssm < 16)
  | .esmcTimeout q => decide (q < 6)
  | .esmcInformationPdu q => decide (q < 6)
  | .delayReq m => decide (m.rx.port < 6)
  | .requestUnicastTransmission m _ => decide (m.rx.port < 6)
  | .cancelUnicastTransmission m _ => decide (m.rx.port < 6)
  | .grantLapse slot _ => decide (slot < 1056768)
  | .ntpRequest m => decide (m.rx.port < 6)
  | .ntsRequest m => decide (m.base.rx.port < 6)
  | .nrefGrantReceive n _ _ => decide (n < 2)
  | .nrefNegotiationTimeout n => decide (n < 2)
  | .nrefFaultRetry n => decide (n < 2)
  | .nrefRenewal n _ => decide (n < 2)
  | .nrefGrantLoss n _ _ => decide (n < 2)
  | .nrefSyncReceive n _ _ _ _ _ => decide (n < 2)
  | .nrefDelayRespReceive n _ _ => decide (n < 2)
  | .nrefAnnounceReceive n _ _ _ => decide (n < 2)
  | .qopOpen _ level keyRef hostNonce => decide (level < 256 ∧ keyRef < 256 ∧ hostNonce < 2 ^ 128)
  | .qopProve _ => true
  | .challengeTimeout slot => decide (slot < 8)
  | .qopRead _ l => l.all fun a => decide (a.1 < 65536 ∧ a.2 < 256)
  | .qopWrite _ items => itemsAmong items (fun i s => decide (i < 65536 ∧ s < 256))
  | .qopSubscribe _ subType period _ => decide (subType < 256 ∧ period < 65536)
  | .qopUnsubscribe _ id => decide (id < 256)
  | .qopKeepalive _ => true
  | .qopClose _ => true
  | .idleTimeout slot => decide (slot < 8)
  | .notifyPeriodic slot _ => decide (slot < 8)
  | .notifyEvent slot _ => decide (slot < 8)
  | .spiFrameAbort => true
  | .seqStatsClear _ _ => true
  | .deviceReset _ _ => true
  | .dictionaryCommandReset => true
  | .storeCommit _ _ => true
  | .storeCommitDone _ => true
  | .storeRevert _ _ => true
  | .storeErase _ _ => true
  | .qopCountersClear _ _ => true
  | .mgtAddressWrite _ items => itemsAmong items (fun i s => decide (i = 0x1401 ∧ 1 ≤ s ∧ s ≤ 6))
  | .lifeCycleToProvisioning _ => true
  | .lifeCycleToService _ => true
  | .lifeCycleToMaintenance _ => true
  | .lifeCycleToBlank _ => true
  | .lifeCycleToRetired _ => true
  | .lifeCycleChange _ => true
  | .timeSet _ _ => true
  | .timeAdjust _ _ => true
  | .hostLeapInsert _ time => decide (time < 2 ^ 96)
  | .hostLeapDelete _ time => decide (time < 2 ^ 96)
  | .hostLeapWithdraw _ time => decide (time < 2 ^ 96)
  | .chSource _ items => itemsAmong items (fun i s => decide (0x2410 ≤ i ∧ i < 0x2420 ∧ s = 1))
  | .chRelease _ c _ => decide (c < 19)
  | .watershedForcedRef _ _ => true
  | .watershedStatsClear _ _ => true
  | .oscModelReset _ _ => true
  | .apllRelease _ a _ => decide (1 ≤ a ∧ a ≤ 3)
  | .outRealign _ n _ => decide (n < 16)
  | .outRelease _ n _ => decide (n < 16)
  | .plsRelease _ p _ => decide (p < 4)
  | .gnssRelease _ _ => true
  | .gnssSurveyRestart _ _ => true
  | .gnssTrustedTimeSet _ _ => true
  | .gnssBankRelease _ _ => true
  | .portCountersClear _ _ => true
  | .excBind _ _ => true
  | .portRecalibrate _ q _ => decide (q < 6)
  | .portRelease _ q _ => decide (q < 6)
  | .portEnableWrite _ items => itemsAmong items (fun i s => decide (0x5810 ≤ i ∧ i < 0x5816 ∧ 1 ≤ s ∧ s ≤ 3))
  | .cryptoLaneRelease _ _ => true
  | .clientDelete _ _ => true
  | .protoCountersClear _ _ => true
  | .keyLoad _ _ => true
  | .keyDelete _ _ => true
  | .keyRederiveAll _ _ => true
  | .keySlotSpec _ items => itemsAmong items (fun i _ => decide (0x6900 ≤ i ∧ i < 0x6940))
  | .keyStoreCommitDone _ => true
  | .keyStorePacingEnd => true
  | .keyExpiry node => decide (node < 0x8400)
  | .beatReceive p _ => decide (p.port < 3)
  | .replicationPacket p _ => decide (p.port < 3)
  | .kholdInputChange _ _ => true
  | .keeperTakeover => true
  | .keeperStartWaitExpiry => true
  | .handOverRelease => true
  | .handOverAt => true
  | .handOverAbandon => true
  | .revertHoldExpiry => true
  | .keeperSwitchover _ _ => true
  | .keeperRejoin _ _ => true
  | .addressAnnounce => true
  | .skovwinCalDone m _ _ => decide (m < 3)
  | .skovwinPortUp m => decide (m < 3)
  | .skovwinLinkDown m _ => decide (m < 3)
  | .skFaultClear _ m _ => decide (m < 3)
  | .skRelease _ m _ => decide (m < 3)
  | .powerOnReset cascId _ _ => decide (cascId < 8)
  | .supplyReset => true
  | .pinReset => true
  | .watchdogReset => true
  | .domainPowerGood x => decide (x < 8)
  | .startUpTestEnd _ => true
  | .dramTrainingDone _ _ _ => true
  | .fillComplete _ => true
  | .bootCountCommit _ => true
  | .firstFrame _ _ => true
  | .opStepUp => true
  | .opSettleFail rail => decide (rail < 11)
  | .opStepDown => true
  | .pmbusFault address => decide (address < 128)
  | .xoQualified _ => true
  | .xoFail => true
  | .xoRestart => true
  | .sysClockToSpll => true
  | .sysClockFallback => true
  | .moscQualified => true
  | .moscTrip cause => decide (1 ≤ cause ∧ cause ≤ 3)
  | .moscReturn _ _ => true
  | .forcedSwitch mux => decide (mux < 256)
  | .supplyWarning rails _ => decide (rails < 2 ^ 11)
  | .supplyEpisodeEnd => true
  | .passResume => true
  | .throttleEnd => true
  | .supplyStatsClear _ _ => true
  | .run _ => true
  | .warmHold _ => true
  | .deepHold _ => true
  | .wake _ _ => true
  | .memRead op _ => decide (op.master < 6 ∧ op.target < 16)
  | .memWrite op data _ => decide (op.master < 6) && decide (op.target < 16) && data.all (· < 256)
  | .masterReset master _ _ => decide (master < 6)
  | .drainTimeout master => decide (master < 6)
  | .memCountersClear _ _ => true
  | .memTestWrite _ _ => true
  | .memTestRead _ _ => true
  | .pairFault l => l.all fun p => decide (p.1 < 128)
  | .reactionWindowClose => true
  | .railFault n levels => decide (n < 128 ∧ (levels = 0 ∨ levels = 3))
  | .railFaultEnd n => decide (n < 128)
  | .domainRestart x => decide (x < 8)
  | .domainRelease _ _ => true
  | .evtAcknowledge _ _ => true
  | .evtClear _ n _ => decide (n < 128)
  | .refereeClearAll _ _ => true
  | .faultInjectCheckBit _ source count unit options => decide (source < 256 ∧ count < 256 ∧ unit < 256 ∧ options < 256)
  | .faultInjectPair _ source count unit options => decide (source < 256 ∧ count < 256 ∧ unit < 256 ∧ options < 256)
  | .faultInjectRail _ source count unit options => decide (source < 256 ∧ count < 256 ∧ unit < 256 ∧ options < 256)
  | .shutdownRequest => true
  | .shutdownCommitting => true
  | .shutdownTesting _ => true
  | .shutdownRecording _ _ => true
  | .shutdownTruncate _ _ _ => true
  | .lifetimeCommit _ => true
  | .pcWindowClose n => decide (n < 64)
  | .pcConfigurationWrite _ items => itemsAmong items (fun i s => decide (0x8900 ≤ i ∧ i < 0x8940 ∧ 1 ≤ s ∧ s ≤ 4))
  | .pcSnapshot _ _ => true
  | .pcClearAll _ _ => true
  | .pcClear _ n _ => decide (n < 64)
  | .startServiceRelease _ _ => true
  | .auditArchiveDays _ _ => true
  | .resetRelease => true
  | .pcsStatusChange q _ => decide (q < 6)
  | .mgtLinkChange _ _ => true
  | .outboundFrameShiftedOut => true
  | .hostSpiNoiseFrame => true
  | .pairQuiet n => decide (n < 128)
  | .plsPulseEnd p => decide (p < 4)

end Sys2Proof
end

