-- ==== Sys2Proof/Tests/Slice0.lean ====
section
/-!
SUPPORT. Tests/Slice0.lean: terms that WellFormed refuses, the spec's worked examples, published check values, and for each
obligation a witness of its hypotheses.
-/
namespace Sys2Proof.Tests
open Sys2Proof.Machine

-- The evaluations below are checked one after another: side by side they ask for more threads than the limits allow.
set_option Elab.async false

/-! ### Small states -/

/-- A device with some registers set. -/
def setAll (d : Dev) (l : List (Entry × Nat)) : Dev := l.foldl (fun d p => d.set p.1 p.2) d

/-- The factory device in service, every domain powered. -/
def base : Dev := setAll Dev.factory [(Hid.bootPhase, 5), (Hid.poweredDomains, 0x1FF)]

/-- The block in the frame that starts at an instant, with some registers and lists set. -/
def mkAt (start : Nat) (l : List (Entry × Nat)) (f : Dev → Dev := id) : State :=
  ⟨⟨start * subUnits, start + frameUnits, false, false, true, start / frameUnits + 1⟩, ⟨[], []⟩, f (setAll base l), []⟩

/-- The block in frame 3 of second 5. -/
def mk (l : List (Entry × Nat)) (f : Dev → Dev := id) : State := mkAt (5 * secondUnits + 3 * frameUnits) l f

/-- An open session of a Custodian on host SPI. -/
def sess : Session := ⟨4, 7, true, ⟨0, 0, 0, 0⟩, 2, true, true, 1, 2, 0, 0, 5, [5], 9, [], [], 1000, none, 0, 0, 0⟩

/-- A head in a host SPI frame whose Fcs is right. -/
def framed (h : Head) (type : Nat) (body : List Nat) : Head := { h with fcs := frameCheck h type body }

/-- The next message of that session with a body. -/
def host (b : Body) : Head := framed ⟨true, ⟨0, 0, 0, 0⟩, 32 + (Body.octets b).length, 7, 6, 77, 0, 0⟩ (Body.code b) (Body.octets b)

/-- A device on which the session is open. -/
def open1 (d : Dev) : Dev := { d with sessions := [sess] }

/-- The readings of an ordinary frame. -/
def inp : FrameInput :=
  ⟨List.replicate 24 40000, List.replicate 6 800000, List.replicate 11 900000, false, none, [], none, [], [], [],
    List.replicate 8 1000, [], [], []⟩

/-- A collection that passes every check. -/
def good : List (List Nat) := List.replicate 8 (List.replicate 64 8192)

/-- The instant just before second 5's frame 4. -/
def lastUnit : Nat := 5 * secondUnits + 4 * frameUnits - 1

/-- The block in the last unit of frame 3 of second 5: its one instant left is `lastUnit`. -/
def mkLast (l : List (Entry × Nat)) (f : Dev → Dev := id) : State :=
  ⟨⟨lastUnit * subUnits, lastUnit + 1, false, false, true, (lastUnit + 1) / frameUnits⟩, ⟨[], []⟩, f (setAll base l), []⟩

theorem mkLast_anyInstant (l : List (Entry × Nat)) (f : Dev → Dev) : (mkLast l f).anyInstant = lastUnit :=
  have h : (mkLast l f).start = lastUnit := Nat.mul_div_cancel lastUnit (by decide)
  (State.anyInstant_of_last (congrArg (· + 1) h.symm)).trans h

theorem mkLast_met (l : List (Entry × Nat)) (f : Dev → Dev) : (mkLast l f).met = (mkLast l f).begin lastUnit := by
  rw [State.met, mkLast_anyInstant]


/-- A cookie of the last accepted kind, sealed under key 99. -/
def cookie : List Nat := [1, 0, 0, 3] ++ List.replicate 16 7 ++ sivSeal 99 [[1, 0, 0, 3], List.replicate 16 7] ([0, 15, 0, 0] ++ octetsOf 32 1111 ++ octetsOf 32 2222)

/-- A device with some registers listed as given, whatever they were. -/
def putAll (d : Dev) (l : List (Entry × Nat)) : Dev :=
  l.foldl (fun d p => { d with regs := Sparse.put d.regs p.1.addr p.2 }) d

/-- A device with a Custodian key for SPI and no session. -/
def opening : State := mkLast [(Dict.lifeCycleState, 2)] (fun d => { d with keys := [⟨5, 1, 2, 1, 1, 0, 0, 0, 0, 0, 0, 99, 0⟩] })

/-- An Open on SPI. -/
def openHead : Head := framed ⟨true, ⟨0, 0, 0, 0⟩, 52, 0, 0, 77, 0, 0⟩ 1 (openBody 2 0 12345)

/-! ### Well-formed commands: every check refuses a term that breaks it and admits one at its bound -/

/-- The head of a host command. -/
def head0 : Head := host .keepalive

/-- How a frame came in at a port. -/
def rxAt (q : Nat) : Rx := ⟨q, 0, 0, 0, 0⟩

/-- A PTP message at a port. -/
def ptpAt (q : Nat) : PtpRx := ⟨rxAt q, 1, 0, 0, true, 44, 0, 0, 0, [], none⟩

/-- An NTP request at a port. -/
def ntpAt (q : Nat) : NtpRx := ⟨rxAt q, 4, 0, 0, 4, 3, 6, 0⟩

/-- An Announce's fields. -/
def announce0 : AnnounceRx := ⟨6, 0x20, 37, true, false, false⟩

/-- A packet at a Skovwin port. -/
def packetAt (m : Nat) : SkPacket := ⟨m, true, 1, 0⟩

/-- A Beat with everything zero. -/
def beat0 : Beat := ⟨0, 0, 0, 0, 0, 0, 0, 0, 0, 0, 0, 0, 0, 0, 0, 0, 0, 0, 0, 0, 0⟩

/-- Commands with a value that names nothing, one for each check of a unit number or an octet. -/
def misfits : List Instr := List.flatten [
  [.sequencerOverrun 8, .timerFire 32, .trgPulseEnd 8, .timerArm head0 32, .timerDisarm head0 32, .inputEdgeStamp 19 0 0 0 0 none,
    .inputEdgeStamp 0 2 0 0 0 none, .inputEdgeStamp 0 0 0 8 0 none, .inputEdgeStamp 0 0 0 0 65 none, .windowMiss 16, .twinSwap 19],
  [.calCollectionComplete 21 0 [] [] 0 0, .calCollectionComplete 0 2 [] [] 0 0, .calTimeout 21 0, .calTimeout 0 2, .waitingTimerExpiry 18,
    .steerReply [256], .apllBandFound 0, .apllBandFound 4, .apllLock 4, .apllLockTimeout 4, .apllLockLoss 4],
  [.outputActivityLoss 0x2F, .outputActivityLoss 0x44, .ztodSend 2, .todiMessage 4 [], .todiMessage 0 [256], .todiOctetGap 4,
    .sampleClockFault 2, .notchEngage 2 0, .notchDisengage 2 0, .notchDisengage 0 4, .dsmPkrReceive 16 [] [], .dsmPkrReceive 0 [256] [],
    .dsmPkrReceive 0 [] [256]],
  [.portCalibrationDone 6 [], .portCalIncomplete 6, .portUp 6, .portDown 6, .scheduledSend ⟨5, 0, 0, 0⟩ false,
    .scheduledSend ⟨0, 10, 0, 0⟩ false, .scheduledSend ⟨0, 0, 6, 0⟩ false, .receivedFrame ⟨rxAt 6, 64, true, [], 0, 0, true, 0, 0, none⟩,
    .pauseReceive 6 0, .pauseReceive 0 65536, .pfcReceive 6 0 (List.replicate 8 0), .pfcReceive 0 256 (List.replicate 8 0),
    .pfcReceive 0 0 [], .pauseExpiry 6, .stampHoldExpiry 6, .stampQueueDrain 6],
  [.arpRequest 7 0 0, .arpRequest 0 (2 ^ 32) 0, .arpRequest 0 0 (2 ^ 48), .neighbourSolicitation 7 0 0,
    .neighbourSolicitation 0 (2 ^ 128) 0, .neighbourSolicitation 0 0 (2 ^ 48), .esmcPduReceive 6 0 none, .esmcPduReceive 0 16 none,
    .esmcTimeout 6, .esmcInformationPdu 6],
  [.delayReq (ptpAt 6), .requestUnicastTransmission (ptpAt 6) [], .cancelUnicastTransmission (ptpAt 6) [], .grantLapse 1056768 0,
    .ntpRequest (ntpAt 6), .ntsRequest ⟨ntpAt 6, [], [], [], true, [], [], [], false⟩, .nrefGrantReceive 2 (ptpAt 0) [],
    .nrefNegotiationTimeout 2, .nrefFaultRetry 2, .nrefRenewal 2 0, .nrefGrantLoss 2 0 false,
    .nrefSyncReceive 2 (ptpAt 0) false false 0 none, .nrefDelayRespReceive 2 (ptpAt 0) 0, .nrefAnnounceReceive 2 (ptpAt 0) announce0 none],
  [.qopOpen head0 256 0 0, .qopOpen head0 0 256 0, .qopOpen head0 0 0 (2 ^ 128), .challengeTimeout 8, .qopRead head0 [(65536, 0)],
    .qopRead head0 [(0, 256)], .qopSubscribe head0 256 0 (.entries []), .qopSubscribe head0 0 65536 (.entries []), .qopUnsubscribe head0 256,
    .idleTimeout 8, .notifyPeriodic 8 0, .notifyEvent 8 0],
  [.hostLeapInsert head0 (2 ^ 96), .hostLeapDelete head0 (2 ^ 96), .hostLeapWithdraw head0 (2 ^ 96), .chRelease head0 19 ⟨1, 1⟩,
    .apllRelease head0 0 ⟨1, 1⟩, .outRealign head0 16 ⟨1, 1⟩, .outRelease head0 16 ⟨1, 1⟩, .plsRelease head0 4 ⟨1, 1⟩,
    .portRecalibrate head0 6 ⟨1, 1⟩, .portRelease head0 6 ⟨1, 1⟩, .keyExpiry 0x8400],
  [.beatReceive (packetAt 3) beat0, .replicationPacket (packetAt 3) ⟨0, 0, true, []⟩, .skovwinCalDone 3 none 0, .skovwinPortUp 3,
    .skovwinLinkDown 3 false, .skFaultClear head0 3 ⟨1, 1⟩, .skRelease head0 3 ⟨1, 1⟩],
  [.powerOnReset 8 false false, .domainPowerGood 8, .opSettleFail 11, .pmbusFault 128, .moscTrip 0, .moscTrip 4, .forcedSwitch 256,
    .supplyWarning (2 ^ 11) 0],
  [.memRead ⟨6, 0, 0, 0, 0⟩ 4, .memRead ⟨0, 0, 16, 0, 0⟩ 4, .memWrite ⟨6, 0, 0, 0, 0⟩ [] true, .memWrite ⟨0, 0, 16, 0, 0⟩ [] true,
    .memWrite ⟨0, 0, 0, 0, 0⟩ [256] true, .masterReset 6 0 0, .drainTimeout 6],
  [.pairFault [(128, 0)], .railFault 128 0, .railFault 0 1, .railFaultEnd 128, .domainRestart 8, .evtClear head0 128 ⟨1, 1⟩,
    .faultInjectCheckBit head0 256 0 0 0, .faultInjectPair head0 0 256 0 0, .faultInjectRail head0 0 0 256 0,
    .faultInjectCheckBit head0 0 0 0 256, .pcWindowClose 64, .pcClear head0 64 ⟨1, 1⟩, .pcsStatusChange 6 ⟨true, true, false, 0, 0, 0⟩,
    .pairQuiet 128, .plsPulseEnd 4]]

theorem test_wf_refuses_what_is_not_there : (misfits.all fun c => !c.wf) = true := by decide +kernel

/-- The Write rows, each with an entry of another row and with no item at all. -/
def wrongWrites : List Instr :=
  let x : Item := ⟨0x2000, 1, 1, 0⟩
  [[x], []].flatMap fun l => [.apllPlanWrite head0 l, .mgtAddressWrite head0 l, .chSource head0 l, .portEnableWrite head0 l,
    .keySlotSpec head0 l, .pcConfigurationWrite head0 l]

theorem test_wf_refuses_entries_of_other_rows :
    (wrongWrites.all fun c => !c.wf) = true ∧ (Instr.qopWrite head0 []).wf = false ∧
      (Instr.qopWrite head0 [⟨65536, 0, 1, 0⟩]).wf = false ∧ (Instr.qopWrite head0 [⟨0, 256, 1, 0⟩]).wf = false := by
  decide +kernel

/-- Commands at the last value that names something. -/
def fits : List Instr := List.flatten [
  [.sequencerOverrun 7, .timerFire 31, .inputEdgeStamp 18 1 0 7 64 none, .windowMiss 15, .calTimeout 20 1, .waitingTimerExpiry 17,
    .apllLock 1, .apllLock 3, .outputActivityLoss 0x30, .outputActivityLoss 0x43, .todiMessage 3 [255], .notchDisengage 1 3, .portUp 5,
    .scheduledSend ⟨4, 9, 5, 0⟩ true, .pauseReceive 5 65535, .arpRequest 6 (2 ^ 32 - 1) (2 ^ 48 - 1), .esmcPduReceive 5 15 none,
    .grantLapse 1056767 0, .qopOpen head0 255 255 (2 ^ 128 - 1), .idleTimeout 7, .hostLeapInsert head0 (2 ^ 96 - 1), .keyExpiry 0x83FF,
    .moscTrip 3, .memWrite ⟨5, 0, 15, 0, 0⟩ [255] false, .pairFault [(127, 0)], .railFault 127 3, .pcWindowClose 63],
  [.apllPlanWrite head0 [⟨0x4011, 1, 1, 0⟩], .mgtAddressWrite head0 [⟨0x1401, 6, 2, 0⟩], .chSource head0 [⟨0x241F, 1, 1, 0⟩],
    .portEnableWrite head0 [⟨0x5815, 3, 1, 0⟩], .keySlotSpec head0 [⟨0x693F, 1, 1, 0⟩], .pcConfigurationWrite head0 [⟨0x893F, 4, 1, 0⟩]]]

theorem test_wf_admits_the_last_of_each : (fits.all Instr.wf) = true := by decide +kernel

/-! ### Worked examples of the spec -/

/-- 01_architecture, the example of R33: frame 1,000 of a second starts at its cycle 305,175,782. -/
theorem test_frame_1000_starts_at_cycle_305175782 :
    (State.cycles ⟨⟨5 * secondUnits * subUnits, 5 * secondUnits + 1000 * frameUnits, false, false, true, 1⟩, ⟨[], []⟩, base, []⟩) =
      305175782 := by decide +kernel

/-- 00_scope, the example of R20. -/
theorem test_ct64_window :
    ctDiff 0x0000010000000000 0xFFFFFF0000000000 = 2 ^ 41 ∧ inWindow 0xFFFFFF0000000000 0x0000010000000000 = true ∧
      inWindow 0xFFFFFF0000000000 0x7FFFFF0000000000 = false := by decide

/-- The example of R107: −3,200 ns at SlewLimit 500. -/
def slewed : Dev := (({ base with slewLeft := -(3200 * 65536 * subUnits : Int) } : Dev).set Dict.slewLimit 500).slewEngine

/-- 03_timescale: 5 ns/s takes about 288,230,376 units from each cycle, and never more. -/
theorem test_slew_share : -288230376 ≤ slewed.getI Hid.slewIncNext ∧ slewed.getI Hid.slewIncNext ≤ -288230000 := by decide +kernel

/-- 03_timescale: the timer of the 10 kHz converter fires 25 µs after each tick. -/
theorem test_aligned_timer :
    (setAll base [(Dict.tmrMode 5, 3), (Dict.tmrPeriod 5, 6553600000), (Dict.tmrOffset 5, 1638400000)]).nextAligned 5 (5 * secondUnits) true =
      5 * secondUnits + 1638400000 := by decide +kernel

/-- A bin table of 64 counts, code 0 first. -/
def binsOf (l : List Nat) : Nat := l.foldl (fun a x => a * 65536 + x) 0

/-- The device of the example of 04_measurement: REFIN3 on channel 3, with its bin table and delays. -/
def refin3 : Dev :=
  putAll base ([(Dict.chPathDelay0 3, 92576), (Dict.chPathCoeffPad 3, 350), (Dict.chPathCoeffCentre 3, 200), (Dict.tapTempCoeff, 1100),
    (Dict.tapVoltCoeff, 2 ^ 32 - 1200), (Dict.chBoardDelay 3, 154010), (Dict.regionTemp 3, 61000), (Dict.regionTemp 2, 58500)] ++
    [(Dict.regionVoltage 2, 800000), (Hid.tableTemp 6, 57700), (Hid.tableVolt 6, 800500), (Dict.chSource 3, 3),
      (Hid.binTable 6 0, binsOf (List.replicate 63 8192 ++ [8204])), (Hid.binTable 6 1, binsOf (List.replicate 63 8192 ++ [8004])),
      (Hid.binTable 6 2, binsOf (List.replicate 16 12394 ++ [12396, 12600] ++ List.replicate 45 6548 ++ [6540]))])

/-- 04_measurement: Φ(3), P(2, 17), and the converted edge 223,706 units before the second. -/
theorem test_edge_conversion :
    refin3.phasePos 6 3 = 6291600 ∧ refin3.codePos 6 2 17 = 5423600 ∧
      refin3.convert 3 6 ((5 * secondUnits + 7200) * subUnits) 2 17 = (5 * secondUnits : Int) - 223706 := by decide +kernel

/-- 06_servo_holdover: the frequency command of R236's example, "FRQ -41450" CR LF. -/
theorem test_steering_template :
    Dev.render (-41450) [0x46, 0x52, 0x51, 0x20, 0x7E, 0x01, 0x0D, 0x0A, 0x7E, 0x00] [] =
      some [0x46, 0x52, 0x51, 0x20, 0x2D, 0x34, 0x31, 0x34, 0x35, 0x30, 0x0D, 0x0A] := by decide

/-- The plan of the example of 07_synthesis_outputs, with ApllBandwidth of APLL2. -/
def plans (bandwidth : Nat) : Dev :=
  setAll base ([(Hid.moscFreq, 100000000), (Dict.apllRefScale 1, 1), (Dict.apllRefDivider 1, 1), (Dict.apllFeedback 1, 50),
    (Dict.apllBandwidth 1, 3), (Dict.apllEnable 1, 1), (Dict.apllEnable 2, 1), (Dict.apllRefScale 2, 0), (Dict.apllRefDivider 2, 8)] ++
    [(Dict.apllFeedback 2, 825), (Dict.apllBandwidth 2, bandwidth), (Dict.outApll 0, 1), (Dict.outDivider 0, 64), (Dict.outApll 4, 2),
      (Dict.outDivider 4, 64)])

/-- 07_synthesis_outputs: both plans are valid, 800 kHz on APLL2 is not; the periods of alignment are 1 s and 2 s. -/
theorem test_synthesis_plans :
    (plans 2).planValid 1 = true ∧ (plans 2).planValid 2 = true ∧ (plans 3).planValid 2 = false ∧ (plans 2).alignPeriod 0 = 1 ∧
      (plans 2).alignPeriod 4 = 2 := by decide +kernel

/-- A device in a frame of a second. -/
def inFrame (second frame : Nat) (d : Dev) : Dev :=
  { d with view := ⟨second * secondUnits + frame * frameUnits, second * secondUnits + frame * frameUnits, 0, second * 4096 + frame⟩ }

/-- CKO0 of that example, aligned in frame 1. -/
def cko0 : Dev :=
  (inFrame 6 1 (setAll (plans 2) [(Dict.outAlignPeriod 0, 1), (Dict.regionTemp 3, 55000), (Dict.outFormat 0, 1)])).realign 0 [100]

/-- 07_synthesis_outputs: c = 55, f = 302 ps, residual −400 fs. -/
theorem test_output_alignment :
    cko0.getI (Dict.outCoarseSteps 0) = 55 ∧ cko0.getI (Dict.outFineDelay 0) = 302 ∧ cko0.getI (Dict.outAlignResidual 0) = -400 := by
  decide +kernel

/-- P0 of the example of 10_ports, in the frame of arrival. -/
def port0 : Dev :=
  inFrame 5 1725 (putAll base [(Dict.portCalTemp 0, 41500), (Dict.portRxTempCoeff 0, 600), (Dict.portRxDelay 0 2, 11953766),
    (Dict.regionTemp 0, 63500), (Dict.portRxExtDelay 0, 0)])

/-- 10_ports: the receive stamp is 421,337,707 ns and fraction 0xFB81. -/
theorem test_receive_stamp :
    port0.rxTime ⟨0, 2, (421337890512 * 65536 / 1000 - 1725 * frameUnits) * subUnits, 116364, 0⟩ =
      5 * secondUnits + 421337707 * 65536 + 0xFB81 := by decide +kernel

/-- 11_time_protocols: sequenceId 20,487, the new base 10,244, and sequenceId 20,488 in frame 2,257. -/
theorem test_rate_change :
    (inFrame 1780000000 2001 base).dueNow (some (-4, 0)) 1745 false = some (28480000007, 20487) ∧
      (inFrame 1780000000 2010 base).newBase (-4) (-3) 0 = 10244 ∧
      (inFrame 1780000000 2257 base).dueNow (some (-3, 10244)) 1745 false = some (14240000004, 20488) := by decide +kernel

/-- 11_time_protocols: HMAC blocks of Sync, Delay_Resp and Delay_Req; the 13, 16, 13 and 23 AES blocks of an NTS exchange. -/
theorem test_crypto_costs :
    [hmacBlocks 102, hmacBlocks 112, hmacBlocks 54] = [3, 3, 2] ∧
      [sivBlocks false [4, 16] 68, sivBlocks true [192, 16] 0, sivBlocks true [84, 16] 108] = [13, 16, 23] := by decide

/-- The partner link of the example of 13_keeper_cascade, seen by B. -/
def linkB : Dev :=
  let f := 6 * secondUnits + frameUnits
  let d := inFrame 6 3 (setAll base [(Dict.skMediumAsymmetry 0, 786)])
  let d := { d with marks := [⟨0, 6 * 4096 + 1, toCt64 (f + 2000 * 65536), f + 7100 * 65536 + 2753 + 1⟩] }
  d.transfer 0 { beat0 with flags := 128, bound := unbounded, growth := 2, markerTx := toCt64 (f + 2000 * 65536),
                            markerRx := toCt64 (f + 7100 * 65536 - 2753) } true

/-- 13_keeper_cascade: d = 5,100.000 ns, and x = 30 ps to the unit of a stamp. -/
theorem test_partner_transfer :
    linkB.getI (Dict.skMeanDelay 0) = 5100 * 65536 ∧ 1965 ≤ linkB.getI (Dict.skOffset 0) ∧ linkB.getI (Dict.skOffset 0) ≤ 1967 := by
  decide +kernel

/-- 17_selftest_lifetime: 145,000,000 octets in 64 frames are 74,240,000,000 bit/s. -/
theorem test_port_bandwidth :
    ((setAll base [(Dict.pcCount 3, 145000000), (Hid.pcFrames 3, 64), (Dict.pcMode 3, 3)]).pcClose 3).get (Dict.pcRate 3) = 74240000000 := by
  decide +kernel

/-! ### Published check values of the algorithms the spec names -/

/-- The check value of the CRC-32 that R63 names. -/
theorem test_crc32 : crc32 [0x31, 0x32, 0x33, 0x34, 0x35, 0x36, 0x37, 0x38, 0x39] = 0xCBF43926 := by decide +kernel

/-- FIPS 197, the AES-128 example. -/
theorem test_aes128 :
    aes128 0x000102030405060708090A0B0C0D0E0F 0x00112233445566778899AABBCCDDEEFF = 0x69C4E0D86A7B0430D8CDB78070B4C55A := by
  decide +kernel

/-- FIPS 180-4: SHA-256 of "abc". -/
theorem test_sha256 :
    sha256 [0x61, 0x62, 0x63] = 0xBA7816BF8F01CFEA414140DE5DAE2223B00361A396177A9CB410FF61F20015AD := by decide +kernel

/-! ### One step -/

/-- An empty queue idles. -/
theorem test_empty_queue_idles : step State.reset = .next State.reset := rfl

/-- A word spells no command, so nothing is queued. -/
theorem test_word_spells_nothing : (State.reset.withFetchWord 16 0x1234).pending = [] := rfl

/-! ### Witnesses: for every clause of every obligation that has hypotheses, a state and operands that meet them all -/

theorem cookie_opens : Dev.openCookie 99 cookie = some (1111, 2222) := by
  have h : sivOpen 99 [cookie.take 4, (cookie.drop 4).take 16] (cookie.drop 20) =
      some ([0, 15, 0, 0] ++ octetsOf 32 1111 ++ octetsOf 32 2222) :=
    sivOpen_sivSeal 99 [[1, 0, 0, 3], List.replicate 16 7] ([0, 15, 0, 0] ++ octetsOf 32 1111 ++ octetsOf 32 2222)
  have h1 : ¬(cookie.length ≠ 104 ∨ cookie.getD 0 0 ≠ 1) := by decide +kernel
  unfold Dev.openCookie
  rw [if_neg h1, h]
  decide +kernel

/-- The block in frame 3 of second 5 with an aborted SPI frame at the front of its queue. -/
def queued : State := { mk [] with pending := [.spiFrameAbort, .esmcTimeout 2] }

theorem met_FrontCommandRunsOrTheBlockIdles :
    (∃ (c : Instr) (rest : List Instr) (s : State), s.pending = c :: rest) ∧ ∃ s : State, s.pending = [] :=
  ⟨⟨.spiFrameAbort, [.esmcTimeout 2], queued, rfl⟩, mk [], rfl⟩

theorem met_StepKeepsMemoryCanonical : ∃ s t : State, MemoryCanonical s ∧ step s = .next t :=
  ⟨{ queued with mem := ⟨[(5, 3)], []⟩ }, _, by unfold MemoryCanonical; decide +kernel, rfl⟩

theorem met_StepKeepsClockInFrame : ∃ s t : State, ClockInFrame s ∧ step s = .next t :=
  ⟨queued, _, by unfold ClockInFrame; decide +kernel, rfl⟩

theorem met_CommandsLeaveTheQueue : ∃ (c : Instr) (s t : State), exec c s = .next t := ⟨.spiFrameAbort, queued, _, rfl⟩

theorem met_OnlyFrameEventsMoveTheTimescale :
    ∃ (c : Instr) (s t : State), (∀ i, c ≠ .frameStart i) ∧ c ≠ .stepApply ∧ c ≠ .setApply ∧ (∀ a b, c ≠ .firstFrame a b) ∧
      exec c s = .next t :=
  ⟨.spiFrameAbort, queued, _, nofun, nofun, nofun, nofun, rfl⟩

theorem met_OnlyMemoryCommandsChangeMemory :
    ∃ (c : Instr) (s t : State), (∀ i, c ≠ .frameStart i) ∧ (∀ o n, c ≠ .memRead o n) ∧ (∀ o l b, c ≠ .memWrite o l b) ∧
      (∀ n, c ≠ .fillComplete n) ∧ (∀ a b e, c ≠ .powerOnReset a b e) ∧ exec c s = .next t :=
  ⟨.spiFrameAbort, queued, _, nofun, nofun, nofun, nofun, nofun, rfl⟩

theorem met_MemoryOctetsReadAsWritten :
    ∃ (m : Mem) (_target : Nat) (_offset : Nat) (_other : Nat) (_v : BitVec 8), m.wf = true :=
  ⟨⟨[(5, 3)], []⟩, 3, 7, 8, 9, by decide +kernel⟩

theorem met_FrameStartsAtFirstEdge :
    ∃ (s : State) (_i : FrameInput), s.inService = true ∧ s.clock.atStart = false ∧ s.dev.corr = none ∧ s.clock.ts < s.clock.boundary * subUnits ∧
    2 ≤ s.dev.get Dict.incrementActive :=
  ⟨mk [(Dict.incrementActive, Dict.incrementActive.reset), (Hid.slewExtra, 3), (Hid.slewBack, 1)], inp, by decide +kernel⟩

theorem met_CorrectionAppliesAtFrameStart :
    ∃ (s : State) (c : Correction), s.inService = true ∧ s.clock.atStart = false ∧ s.dev.corr = some c ∧ c.due ≤ s.clock.boundary ∧
    s.clock.boundary ≤ s.nextStart / subUnits ∧ 0 ≤ (s.nextStart : Int) + c.size * (subUnits : Int) :=
  ⟨mk [] (fun d => { d with corr := some ⟨false, 70, 327728000000000⟩ }), ⟨false, 70, 327728000000000⟩, by decide +kernel⟩

theorem met_OverrunIsCountedAndRaised :
    ∃ (s : State) (slot : Nat), slot < 8 ∧ s.serves .time = true ∧ s.dev.get Hid.abortedSlots = 0 :=
  ⟨mk [(Hid.abortedSlots, 0)], 7, by decide +kernel⟩

theorem met_LeapChangesUtcOffset :
    ∃ (s : State), s.serves .time = true ∧ (s.dev.get Dict.leapPending = 1 ∨ s.dev.get Dict.leapPending = 2) ∧
    ofTime96 (s.dev.get Dict.leapTime) < s.clock.boundary ∧ -(2 ^ 31) < s.dev.getI Dict.utcOffset ∧ s.dev.getI Dict.utcOffset < 2 ^ 31 - 1 :=
  ⟨mk [(Dict.leapPending, 1), (Dict.leapTime, toTime96 (5 * secondUnits)), (Dict.utcOffset, 37)], by decide +kernel⟩

theorem met_HostCorrectionsAreScheduled :
    (∃ (s : State) (h : Head) (v : Value) (x : Session), s.admits h [Dict.timeSet.item v] x = true) ∧
    (∃ (s : State) (h : Head) (v : Value) (x : Session), s.admits h [Dict.timeAdjust.item v] x = true ∧ s.dev.lifeCycle = 3) ∧
    (∃ (s : State) (h : Head) (v : Value) (x : Session), s.admits h [Dict.timeAdjust.item v] x = true ∧ s.dev.lifeCycle ≠ 3 ∧
    s.dev.is Dict.stepEnable = false) :=
  ⟨⟨mk [(Dict.lifeCycleState, 2)] open1, host (.write [Dict.timeSet.item ⟨12, toTime96 (9 * secondUnits)⟩]), ⟨12, toTime96 (9 * secondUnits)⟩, sess,
   by decide +kernel⟩,
   ⟨mk [(Dict.lifeCycleState, 3)] open1, host (.write [Dict.timeAdjust.item ⟨8, 70⟩]), ⟨8, 70⟩, sess, by decide +kernel⟩,
   ⟨mk [(Dict.lifeCycleState, 2), (Dict.stepEnable, 0), (Dict.deviceState, 1)] open1, host (.write [Dict.timeAdjust.item ⟨8, 70⟩]), ⟨8, 70⟩, sess,
   by decide +kernel⟩⟩

theorem met_HostLeapsAnnounceAtS0 :
    (∃ (s : State) (h : Head) (time : Nat) (x : Session), time < 2 ^ 96 ∧ s.admits h ([Dict.hostLeapAnnounce.item ⟨16, 1 * 2 ^ 120 + time⟩]) x = true) ∧
    (∃ (s : State) (h : Head) (time : Nat) (x : Session), time < 2 ^ 96 ∧ s.admits h ([Dict.hostLeapAnnounce.item ⟨16, 2 * 2 ^ 120 + time⟩]) x = true) ∧
    (∃ (s : State) (h : Head) (time : Nat) (x : Session), time < 2 ^ 96 ∧ s.admits h ([Dict.hostLeapAnnounce.item ⟨16, time⟩]) x = true) :=
  ⟨⟨mkLast [(Dict.lifeCycleState, 2), (Dict.utcSource, 0), (Dict.utcOffset, 37)] open1, host (.write [Dict.hostLeapAnnounce.item ⟨16,
   1 * 2 ^ 120 + toTime96 ((2678400 + 38) * secondUnits)⟩]), toTime96 ((2678400 + 38) * secondUnits), sess,
   by unfold State.admits State.hears State.heard; rw [mkLast_met]; decide +kernel⟩,
   ⟨mkLast [(Dict.lifeCycleState, 2), (Dict.utcSource, 0), (Dict.utcOffset, 37)] open1, host (.write [Dict.hostLeapAnnounce.item ⟨16,
   2 * 2 ^ 120 + toTime96 ((2678400 + 36) * secondUnits)⟩]), toTime96 ((2678400 + 36) * secondUnits), sess,
   by unfold State.admits State.hears State.heard; rw [mkLast_met]; decide +kernel⟩,
   ⟨mk [(Dict.lifeCycleState, 2), (Dict.utcSource, 0), (Dict.utcOffset, 37)] open1, host (.write [Dict.hostLeapAnnounce.item ⟨16, 0⟩]), 0, sess,
   by decide +kernel⟩⟩

theorem met_TimersArmFireAndDisarm :
    (∃ (s : State) (h : Head) (n : Nat) (x : Session), n < 32 ∧ s.admits h ([(Dict.tmrArm n).item ⟨1, 1⟩]) x = true) ∧
    (∃ (s : State) (h : Head) (n : Nat) (x : Session), n < 32 ∧ s.admits h ([(Dict.tmrArm n).item ⟨1, 0⟩]) x = true) ∧
    (∃ (s : State) (n : Nat), n < 32 ∧ s.serves .time = true ∧ s.dev.get (Dict.tmrState n) = 1 ∧ ((s.begin s.start).pendingTarget n) < s.clock.boundary ∧
    s.clock.boundary ≤ s.start + 2 * frameUnits ∧ 0x10 ≤ (s.dev.get (Dict.tmrDestination n)) ∧ (s.dev.get (Dict.tmrDestination n)) ≤ 0x1F) ∧
    (∃ (s : State) (n : Nat), n < 32 ∧ s.serves .time = true ∧ s.dev.get (Dict.tmrState n) = 1 ∧ ((s.begin s.start).pendingTarget n) < s.clock.boundary ∧
    s.clock.boundary ≤ s.start + 2 * frameUnits ∧ (s.dev.get (Dict.tmrDestination n)) < 8 ∧ s.dev.is (Dict.trgEnable (s.dev.get (Dict.tmrDestination
    n))) = true ∧ s.dev.is (Hid.trgRemoved (s.dev.get (Dict.tmrDestination n))) = false) ∧
    (∃ (s : State) (n : Nat) (p : Nat), n < 32 ∧ p < 4 ∧ s.serves .time = true ∧ s.dev.get (Dict.tmrState n) = 1 ∧ ((s.begin s.start).pendingTarget n) <
    s.clock.boundary ∧ s.clock.boundary ≤ s.start + 2 * frameUnits ∧ s.dev.get (Dict.tmrDestination n) = 0x20 + p ∧ (s.begin (max s.start ((s.begin
    s.start).pendingTarget n))).barOf p ((s.begin s.start).pendingTarget n) = 0 ∧ s.dev.is (Dict.plsEnable p) = true ∧ s.dev.is (Hid.plsRemoved p) =
    false ∧ s.dev.is Dict.outputsPermitted = true ∧ s.dev.is Dict.startServiceHoldActive = false) ∧
    (∃ (s : State) (m : Nat), m < 8 ∧ s.serves .synth = true ∧ s.dev.is (Hid.trgHigh m) = true ∧ s.dev.get (Hid.trgEnd m) ≤ s.clock.boundary) :=
  ⟨⟨mk [(Dict.lifeCycleState, 2), (Dict.tmrMode 31, 3), (Dict.tmrState 31, 0), (Dict.tmrDestination 31, 0x1F), (Dict.tmrPeriod 31, secondUnits),
   (Dict.tmrOffset 31, 0)] open1, host (.write [(Dict.tmrArm 31).item ⟨1, 1⟩]), 31, sess, by decide +kernel⟩,
   ⟨mk [(Dict.lifeCycleState, 2)] open1, host (.write [(Dict.tmrArm 31).item ⟨1, 0⟩]), 31, sess, by decide +kernel⟩,
   ⟨mk [(Dict.tmrState 31, 1), (Dict.tmrMode 31, 1), (Dict.tmrNextFire 31, toCt64 (5 * secondUnits + 3 * frameUnits + 5)), (Hid.tmrTargets 31,
   5 * secondUnits + 3 * frameUnits + 5), (Dict.tmrDestination 31, 0x1F)], 31, by decide +kernel⟩,
   ⟨mk [(Dict.tmrState 31, 1), (Dict.tmrMode 31, 1), (Dict.tmrNextFire 31, toCt64 (5 * secondUnits + 3 * frameUnits + 5)), (Hid.tmrTargets 31,
   5 * secondUnits + 3 * frameUnits + 5), (Dict.tmrDestination 31, 7), (Dict.trgEnable 7, 1), (Hid.trgRemoved 7, 0)], 31, by decide +kernel⟩,
   ⟨mk [(Dict.tmrState 31, 1), (Dict.tmrMode 31, 1), (Dict.tmrNextFire 31, toCt64 (5 * secondUnits + 3 * frameUnits + 5)), (Hid.tmrTargets 31,
   5 * secondUnits + 3 * frameUnits + 5), (Dict.tmrDestination 31, 0x23), (Dict.plsEnable 3, 1), (Hid.plsRemoved 3, 0),
   (Dict.deviceState, 3), (Dict.outputsPermitted, 1), (Dict.startServiceHoldActive, 0)], 31, 3, by decide +kernel⟩,
   ⟨mk [(Hid.trgHigh 7, 1), (Hid.trgEnd 7, 5 * secondUnits)], 7, by decide +kernel⟩⟩

theorem met_ChannelStampsAndMissesAreCounted :
    (∃ (s : State) (c : Nat) (line : Nat) (cycle : Nat) (j : Nat) (f : Nat), c < 16 ∧ line < 2 ∧ j < 8 ∧ f ≤ 64 ∧ s.serves .time = true ∧ (s.dev.get
    (Dict.chState c) = 2 ∨ s.dev.get (Dict.chState c) = 3) ∧ s.dev.get (Dict.chWinMode c) = 0 ∧ s.dev.get (Dict.chPrescale c) ≤ 1 ∧ s.dev.get
    Hid.slewExtra = 0 ∧ s.dev.is Hid.slewBack = false ∧ line = s.met.lineFor c ((s.met.convert c (c * 2 + line) (s.clock.ts + cycle * s.dev.get
    Dict.incrementActive) j f).toNat) ∧ s.dev.get (s.met.edgesAt c ((s.met.convert c (c * 2 + line) (s.clock.ts + cycle * s.dev.get
    Dict.incrementActive) j f).toNat)) < 64 ∧ s.dev.get (Hid.lastStop (c * 2 + line)) + 8 * unitsPerNs ≤ ((s.met.convert c (c * 2 + line) (s.clock.ts
    + cycle * s.dev.get Dict.incrementActive) j f).toNat)) ∧
    (∃ (s : State) (c : Nat), c < 16 ∧ s.serves .time = true ∧ (s.dev.get (Dict.chState c) = 2 ∨ s.dev.get (Dict.chState c) = 3) ∧ s.dev.get
    (Dict.chWinMode c) = 1 ∧ s.met.nextWindow c + s.met.winHalf c < (s.start / frameUnits + 1) * frameUnits) ∧
    (∃ (s : State) (c : Nat), c < 16 ∧ s.serves .time = true ∧ (s.dev.get (Dict.chState c) = 2 ∨ s.dev.get (Dict.chState c) = 3) ∧ s.dev.get
    (Dict.chWinMode c) = 2 ∧ s.dev.is (Dict.chWindowSearch c) = false ∧ s.dev.get (Hid.missRun c) + 1 < 2 ^ 16 ∧ s.met.nextWindow c + s.met.winHalf c
    < (s.start / frameUnits + 1) * frameUnits) :=
  ⟨⟨mkLast [(Dict.chState 15, 2), (Dict.chActiveLine 15, 1), (Dict.chWinMode 15, 0), (Dict.chPrescale 15, 1), (Hid.frameEdges 15, 3),
   (Hid.slewExtra, 0), (Hid.slewBack, 0), (Hid.lastStop 31, 0)] (fun d => putAll d [(Dict.chPathDelay0 15, 0), (Dict.chPathCoeffPad 15, 0), (Dict.chPathCoeffCentre 15, 0),
   (Dict.tapTempCoeff, 0), (Dict.tapVoltCoeff, 0)]), 15, 1, 40, 7, 64, by rw [mkLast_met]; decide +kernel⟩,
   ⟨mk [(Dict.chState 15, 3), (Dict.chWinMode 15, 1), (Dict.chPeriod 15, 256), (Dict.chWinHalf 15, 1)], 15, by decide +kernel⟩,
   ⟨mk [(Dict.chState 15, 2), (Dict.chWinMode 15, 2), (Dict.chWindowSearch 15, 0), (Hid.missRun 15, 200), (Dict.chMissLimit 15, 201),
   (Hid.winCentre 15, 5 * secondUnits), (Dict.chPeriod 15, secondUnits)], 15, by decide +kernel⟩⟩

theorem met_TwinSwapChangesLine :
    ∃ (s : State) (c : Nat), c < 19 ∧ s.serves .time = true ∧ s.dev.get (chStateReg c) = 2 ∧ s.met.framesToSwap c = 0 ∧
    s.dev.get (chLineReg c) < 2 ∧ s.dev.get (Hid.lineResult (c * 2 + (1 - s.dev.get (chLineReg c)))) = 1 ∧ s.dev.get (Hid.twinState c) = 1 :=
  ⟨mkAt (6 * secondUnits + 512 * frameUnits) [(Dict.linkChState 2, 2), (Dict.linkChActiveLine 2, 1), (Hid.lineResult 36, 1), (Hid.twinState 18, 1)],
  18, by decide +kernel⟩

theorem met_CalibrationPassesOrFailsALine :
    (∃ (s : State) (c : Nat) (line : Nat) (hist : List (List Nat)) (first : List Nat) (_temp : Int) (_volt : Nat), c < 19 ∧ line < 2 ∧ s.serves .time =
    true ∧ s.dev.collecting c line = true ∧ Dev.wholeCollection hist first = true ∧ s.clock.frames ≤ s.dev.get (Hid.lineStart (c * 2 + line)) +
    Dev.collectionFrames ∧ Dev.histogramCheck hist first = 0) ∧
    (∃ (s : State) (p : Nat) (line : Nat) (hist : List (List Nat)) (first : List Nat) (_temp : Int) (_volt : Nat), p < 2 ∧ line < 2 ∧ s.serves .time = true
    ∧ s.dev.get (Dev.pctState p) = 0 ∧ s.dev.get (Hid.pctResult (p * 2 + (1 - line))) = 1 ∧ Dev.wholeCollection hist first = true ∧ s.clock.frames ≤
    s.dev.get (Hid.pctStart (p * 2 + line)) + Dev.collectionFrames ∧ Dev.histogramCheck hist first = 0) ∧
    (∃ (s : State) (c : Nat) (line : Nat), c < 19 ∧ line < 2 ∧ s.serves .time = true ∧ s.dev.get (chStateReg c) = 0 ∧ s.dev.get (Hid.lineResult (c * 2 +
    line)) = 0 ∧ s.dev.get (Hid.lineStart (c * 2 + line)) + Dev.collectionFrames ≤ s.clock.frames) :=
  ⟨⟨mk [(Dict.linkChState 2, 0), (Hid.lineStart 37, 20480)], 18, 1, good, List.replicate 8 262144, 40000, 800000, by decide +kernel⟩,
   ⟨mk [(Dev.pctState 1, 0), (Hid.pctResult 2, 1), (Hid.pctStart 3, 20480)], 1, 1, good, List.replicate 8 262144, 40000, 800000, by decide +kernel⟩,
   ⟨mk [(Dict.linkChState 2, 0), (Hid.lineResult 37, 0)], 18, 1, by decide +kernel⟩⟩

theorem met_ChannelWritesTakeEffectAtS0 :
    (∃ (s : State) (h : Head) (items : List Item) (x : Session), s.admits h items x = true) ∧
    (∃ (_d : Dev) (c : Nat) (source : Nat), c < 16 ∧ source < 256) ∧
    (∃ (s : State) (h : Head) (c : Nat) (v : Value) (x : Session), c < 16 ∧ s.admits h [(Dict.chRelease c).item v] x = true) ∧
    (∃ (s : State) (h : Head) (m : Nat) (v : Value) (x : Session), m < 3 ∧ s.admits h [(Dict.linkChRelease m).item v] x = true) :=
  ⟨⟨mk [(Dict.lifeCycleState, 2), (Dict.chAssigned 15, 0)] open1, host (.write [(Dict.chSource 15).item ⟨1, 0x10⟩]), [(Dict.chSource 15).item ⟨1,
   0x10⟩], sess, by decide +kernel⟩,
   ⟨base, 15, 0x31, by decide +kernel⟩,
   ⟨mk [(Dict.lifeCycleState, 2), (Dict.chState 15, 4)] open1, host (.write [(Dict.chRelease 15).item ⟨1, 1⟩]), 15, ⟨1, 1⟩, sess, by decide +kernel⟩,
   ⟨mk [(Dict.lifeCycleState, 2), (Dict.linkChState 2, 4)] open1, host (.write [(Dict.linkChRelease 2).item ⟨1, 1⟩]), 2, ⟨1, 1⟩, sess,
   by decide +kernel⟩⟩

theorem met_WaitingReferenceQualifies :
    ∃ (s : State) (r : Nat), r < 18 ∧ s.serves .time = true ∧ s.dev.get (Dict.refState r) = 2 ∧ s.dev.get (Hid.refDeadline r) ≤ s.start ∧
    s.dev.is (Dict.refExclude r) = false ∧ s.dev.get (Dict.refQc r) ≤ s.dev.get Dict.refQcMinimum :=
  ⟨mk [(Dict.refState 17, 2), (Hid.refDeadline 17, secondUnits), (Dict.refExclude 17, 0), (Dict.refQc 17, 3), (Dict.refQcMinimum, 3)], 17,
  by decide +kernel⟩

theorem met_HandOverWindowFixesBuildOut :
    ∃ (s : State), s.serves .time = true ∧ s.dev.get Dict.switchState = 1 ∧ s.dev.handover.length = 16 ∧ s.dev.state = 3 ∧
    s.dev.get Dict.apll0State ≠ 3 :=
  ⟨mk [(Dict.switchState, 1), (Dict.deviceState, 3), (Dict.apll0State, 2)] (fun d => { d with handover := List.replicate 16 5 }), by decide +kernel⟩

theorem met_WatershedWritesTakeEffectAtS0 :
    (∃ (s : State) (h : Head) (v : Value) (x : Session), s.admits h [Dict.watershedForcedRef.item v] x = true) ∧
    (∃ (s : State) (h : Head) (v : Value) (x : Session), s.admits h [Dict.watershedStatsClear.item v] x = true) :=
  ⟨⟨mk [(Dict.lifeCycleState, 2)] open1, host (.write [Dict.watershedForcedRef.item ⟨1, 17⟩]), ⟨1, 17⟩, sess, by decide +kernel⟩,
   ⟨mk [(Dict.lifeCycleState, 2)] open1, host (.write [Dict.watershedStatsClear.item ⟨1, 1⟩]), ⟨1, 1⟩, sess, by decide +kernel⟩⟩

theorem met_ServoStagesAdvanceAndUnlock :
    (∃ (s : State), s.serves .time = true ∧ s.dev.state = 3 ∧ s.dev.dwellServed = true ∧ s.dev.nextStage < 256) ∧
    (∃ (s : State), s.serves .time = true ∧ s.dev.state = 2 ∧ s.dev.dwellServed = true ∧ s.dev.nextStage < 256 ∧
    s.dev.get Dict.servoLockedStage ≤ s.dev.nextStage) ∧
    (∃ (s : State), s.serves .time = true ∧ s.dev.state = 3 ∧ 64 ≤ s.dev.get Hid.unlockFrames) :=
  ⟨⟨mk [(Dict.deviceState, 3), (Hid.dwellFrames, 0), (Dict.servoStage, 4), (Dict.servoFinalStage, 6)], by decide +kernel⟩,
   ⟨mk [(Dict.deviceState, 2), (Hid.dwellFrames, 0), (Dict.servoStage, 4), (Dict.servoFinalStage, 6), (Dict.servoLockedStage, 5)], by decide +kernel⟩,
   ⟨mk [(Dict.deviceState, 3), (Hid.unlockFrames, 64)], by decide +kernel⟩⟩

theorem met_SteeringUpdatesAreSentAndJudged :
    (∃ (s : State), s.serves .time = true ∧ s.frameNumber % max 1 (s.dev.get Dict.steerUpdateFrames) = 0 ∧ s.dev.is Dict.steerPermitted = true ∧ s.dev.get
    Dict.steerState ≠ 0 ∧ s.dev.get Dict.servoMode = 1 ∧ s.dev.get Dict.steerMode = 1 ∧ s.dev.get Dict.steerCodeMin ≤ s.dev.get Dict.steerCodeMax ∧
    s.dev.get Dict.steerCodeMax < 2 ^ 32) ∧
    (∃ (s : State) (octets : List Nat), s.serves .time = true ∧ s.frameNumber % max 1 (s.dev.get Dict.steerUpdateFrames) = 0 ∧ s.dev.is Dict.steerPermitted
    = true ∧ s.dev.get Dict.steerState ≠ 0 ∧ s.dev.get Dict.servoMode = 1 ∧ s.dev.get Dict.steerMode = 2 ∧ Dev.render (roundNear
    (s.dev.permittedCommand (s.dev.q Q.rTot) * ((10 ^ s.dev.get Dict.steerTplScale : Nat) : Rat))) s.dev.templateOctets [] = some octets) ∧
    (∃ (s : State) (octets : List Nat), s.serves .time = true ∧ s.dev.is Hid.steerReplyDue = true ∧ s.dev.get Dict.steerState = 1 ∧ (let begins := (octetsOf 8 (s.dev.get Dict.steerReplyPrefix)).takeWhile (· != 0)
      octets.take begins.length = begins)) ∧
    (∃ (s : State), s.serves .time = true ∧ s.dev.is Hid.steerReplyDue = true ∧ s.dev.get Dict.steerState = 1 ∧ s.dev.get Dict.steerFailLimit ≤ s.dev.get
    Hid.steerBad + 1) :=
  ⟨⟨mk [(Dict.steerUpdateFrames, 1), (Dict.steerPermitted, 1), (Dict.steerState, 1), (Dict.servoMode, 1), (Dict.steerMode, 1), (Dict.steerCodeMin,
   100), (Dict.steerCodeMax, 0xFFFFF)], by decide +kernel⟩,
   ⟨mk [(Dict.steerUpdateFrames, 1), (Dict.steerPermitted, 1), (Dict.steerState, 1), (Dict.servoMode, 1), (Dict.steerMode, 2), (Dict.steerTplScale,
   3), (Dict.steerTemplate, 0x417E010D * 256 ^ 60 + 0x7E00 * 256 ^ 58)], [0x41, 0x2B, 0x30, 0x0D], by decide +kernel⟩,
   ⟨mk [(Hid.steerReplyDue, 1), (Dict.steerState, 1), (Dict.steerReplyPrefix, 0x4F4B * 256 ^ 6)], [0x4F, 0x4B, 0x0D], by decide +kernel⟩,
   ⟨mk [(Hid.steerReplyDue, 1), (Dict.steerState, 1), (Dict.steerFailLimit, 3), (Hid.steerBad, 2)], by decide +kernel⟩⟩

theorem met_OscillatorBlocksCloseAndReset :
    (∃ (s : State), s.serves .time = true ∧ s.frameNumber = 0 ∧ s.start / secondUnits % 64 = 0 ∧ s.dev.q Q.blockCount = 262144 ∧ s.dev.get Hid.fitAt ≠
    s.clock.frames + 1 ∧ s.dev.get Dict.deviceState ≠ 4 ∧ s.dev.get Dict.oscModelState = 0 ∧ 64 ≤ s.dev.get Dict.oscLearnWindow) ∧
    (∃ (s : State) (h : Head) (v : Value) (x : Session), s.admits h [Dict.oscModelReset.item v] x = true) :=
  ⟨⟨mkAt (128 * secondUnits) [(Dict.oscModelState, 0), (Dict.oscLearnWindow, 604800)] (fun d => d.setQ Q.blockCount 262144), by decide +kernel⟩,
   ⟨mk [(Dict.lifeCycleState, 2)] open1, host (.write [Dict.oscModelReset.item ⟨1, 1⟩]), ⟨1, 1⟩, sess, by decide +kernel⟩⟩

theorem met_ApllStatesAdvance :
    (∃ (s : State), s.dev.powered .time = true ∧ s.dev.get Dict.apll0State = 1) ∧
    (∃ (s : State), s.dev.powered .time = true ∧ s.dev.get Dict.apll0State = 1 ∧ s.dev.is Hid.apll0FromHold = true) ∧
    (∃ (s : State), s.dev.powered .time = true ∧ s.dev.get Dict.apll0State = 2 ∧ s.dev.get Dict.apll0Source = 2 ∧ s.dev.get Dict.moscState = 2) ∧
    (∃ (s : State) (a : Nat), 1 ≤ a ∧ a ≤ 3 ∧ s.dev.powered .synth = true ∧ s.dev.get (Dict.apllState a) = 1) ∧
    (∃ (s : State) (a : Nat), 1 ≤ a ∧ a ≤ 3 ∧ s.dev.powered .synth = true ∧ s.dev.get (Dict.apllState a) = 2) ∧
    (∃ (s : State) (a : Nat), 1 ≤ a ∧ a ≤ 3 ∧ s.dev.powered .synth = true ∧ s.dev.get (Dict.apllState a) = 1) ∧
    (∃ (s : State) (a : Nat), 1 ≤ a ∧ a ≤ 3 ∧ s.dev.powered .synth = true ∧ s.dev.get (Dict.apllState a) = 3 ∧ s.dev.get Dict.moscState = 2) :=
  ⟨⟨mk [(Dict.apll0State, 1)], by decide +kernel⟩,
   ⟨mk [(Dict.apll0State, 1), (Hid.apll0FromHold, 1)], by decide +kernel⟩,
   ⟨mk [(Dict.apll0State, 2), (Dict.apll0Source, 2), (Dict.moscState, 2)], by decide +kernel⟩,
   ⟨mk [(Dict.apllState 1, 1)], 1, by decide +kernel⟩,
   ⟨mk [(Dict.apllState 1, 2)], 1, by decide +kernel⟩,
   ⟨mk [(Dict.apllState 1, 1)], 1, by decide +kernel⟩,
   ⟨mk [(Dict.apllState 1, 3), (Dict.moscState, 2)], 1, by decide +kernel⟩⟩

theorem met_SynthesisWritesTakeEffectAtS0 :
    (∃ (s : State) (h : Head) (items : List Item) (x : Session), s.admits h items x = true) ∧
    (∃ (_d : Dev) (a : Nat) (scale : Nat), 1 ≤ a ∧ a ≤ 3 ∧ scale < 256) ∧
    (∃ (s : State) (h : Head) (a : Nat) (v : Value) (x : Session), 1 ≤ a ∧ a ≤ 3 ∧ s.admits h [(Dict.apllRelease a).item v] x = true) ∧
    (∃ (s : State) (h : Head) (n : Nat) (v : Value) (x : Session), n < 16 ∧ s.admits h [(Dict.outRealign n).item v] x = true) ∧
    (∃ (s : State) (h : Head) (n : Nat) (v : Value) (x : Session), n < 16 ∧ s.admits h [(Dict.outRelease n).item v] x = true) ∧
    (∃ (s : State) (h : Head) (p : Nat) (v : Value) (x : Session), p < 4 ∧ s.admits h [(Dict.plsRelease p).item v] x = true) :=
  ⟨⟨mk [(Dict.lifeCycleState, 2), (Dict.apllEnable 3, 0)] open1, host (.write [(Dict.apllRefScale 3).item ⟨1, 2⟩]), [(Dict.apllRefScale 3).item ⟨1,
   2⟩], sess, by decide +kernel⟩,
   ⟨base, 3, 2, by decide +kernel⟩,
   ⟨mk [(Dict.lifeCycleState, 2), (Dict.apllState 3, 5)] open1, host (.write [(Dict.apllRelease 3).item ⟨1, 1⟩]), 3, ⟨1, 1⟩, sess, by decide +kernel⟩,
   ⟨mk [(Dict.lifeCycleState, 2)] open1, host (.write [(Dict.outRealign 15).item ⟨1, 1⟩]), 15, ⟨1, 1⟩, sess, by decide +kernel⟩,
   ⟨mk [(Dict.lifeCycleState, 2), (Dict.outState 15, 5)] open1, host (.write [(Dict.outRelease 15).item ⟨1, 1⟩]), 15, ⟨1, 1⟩, sess, by decide +kernel⟩,
   ⟨mk [(Dict.lifeCycleState, 2), (Hid.plsRemoved 3, 1)] open1, host (.write [(Dict.plsRelease 3).item ⟨1, 1⟩]), 3, ⟨1, 1⟩, sess, by decide +kernel⟩⟩

theorem met_OutputsReportAndTimeOfDayIsChecked :
    (∃ (s : State) (n : Nat), n < 16 ∧ s.serves .synth = true ∧ s.dev.is (Dict.outEnable n) = true ∧ s.dev.get (Dict.outState n) ≠ 5) ∧
    (∃ (s : State) (p : Nat), p < 4 ∧ s.serves .synth = true ∧ s.dev.is (Dict.plsEnable p) = true ∧ s.dev.is (Hid.plsRemoved p) = false) ∧
    (∃ (s : State) (p : Nat), p < 4 ∧ s.serves .synth = true ∧ s.dev.is (Hid.plsHigh p) = true ∧ s.dev.get (Hid.plsEnd p) ≤ s.clock.boundary) ∧
    (∃ (s : State) (m : Nat), m < 2 ∧ s.serves .synth = true ∧ s.dev.get (Hid.todReady m) ≠ 0 ∧ s.dev.get (Hid.todReady m) ≤ s.clock.boundary ∧ s.dev.is
    (Dict.todEnable m) = true ∧ s.dev.is (Hid.todRemoved m) = false ∧ (s.dev.todTimer m).isSome = true ∧ s.dev.is Dict.outputsPermitted = true) ∧
    (∃ (s : State) (m : Nat), m < 2 ∧ s.serves .synth = true ∧ s.dev.get (Hid.todReady m) ≠ 0 ∧ s.dev.get (Hid.todReady m) ≤ s.clock.boundary ∧ s.dev.is
    (Dict.todEnable m) = true ∧ s.dev.is (Hid.todRemoved m) = false ∧ (s.dev.todTimer m).isSome = true ∧ s.dev.is Dict.outputsPermitted = false) ∧
    (∃ (s : State) (k : Nat) (octets : List Nat), k < 4 ∧ s.serves .time = true ∧ octets.length = 48 ∧ octets.take 4 = [0x5A, 0x54, 1, 48] ∧ ofOctets
    (octets.drop 44) = crc32 (octets.take 44) % 2 ^ 32) ∧
    (∃ (s : State) (k : Nat) (octets : List Nat), k < 4 ∧ s.serves .time = true ∧ octets.length = 48 ∧ ofOctets (octets.drop 44) ≠ crc32 (octets.take 44) %
    2 ^ 32) ∧
    (∃ (s : State) (k : Nat), k < 4 ∧ s.serves .time = true) :=
  ⟨⟨mk [(Dict.outEnable 15, 1), (Dict.outState 15, 3)], 15, by decide +kernel⟩,
   ⟨mk [(Dict.plsEnable 3, 1), (Hid.plsRemoved 3, 0)], 3, by decide +kernel⟩,
   ⟨mk [(Hid.plsHigh 3, 1), (Hid.plsEnd 3, 5 * secondUnits)], 3, by decide +kernel⟩,
   ⟨mk [(Hid.todReady 1, 5 * secondUnits + 4 * frameUnits), (Dict.deviceState, 3), (Dict.todEnable 1, 1), (Dict.todPulse 1, 2), (Dict.tmrState 4, 1), (Dict.tmrDestination 4, 0x22), (Dict.tmrMode 4, 3),
   (Dict.tmrPeriod 4, secondUnits), (Dict.outputsPermitted, 1), (Hid.todMessage 1, 0x5A54)], 1, by decide +kernel⟩,
   ⟨mk [(Hid.todReady 1, 5 * secondUnits + 4 * frameUnits), (Dict.deviceState, 1), (Dict.todEnable 1, 1), (Dict.todPulse 1, 2), (Dict.tmrState 4, 1), (Dict.tmrDestination 4, 0x22), (Dict.tmrMode 4, 3),
   (Dict.tmrPeriod 4, secondUnits), (Dict.outputsPermitted, 0)], 1, by decide +kernel⟩,
   ⟨mk [], 3, [0x5A, 0x54, 1, 48] ++ List.replicate 40 0 ++ octetsOf 4 (crc32 ([0x5A, 0x54, 1, 48] ++ List.replicate 40 0)), by decide +kernel⟩,
   ⟨mk [], 3, [0x5A, 0x54, 1, 48] ++ List.replicate 44 0, by decide +kernel⟩,
   ⟨mk [], 3, by decide +kernel⟩⟩

theorem met_ReceiverStartsAndTakesCommands :
    (∃ (s : State) (_sec : GnssSecond), s.serves .time = true ∧ s.dev.powered .gnss = true ∧ s.dev.is Dict.gnssEnable = true ∧ s.dev.get Dict.gnssState = 0) ∧
    (∃ (s : State) (b : Nat), b < 2 ∧ s.serves .gnss = true ∧ s.met.clockMissing b = true ∧ s.dev.get (Dict.gsClockState b) = 1) ∧
    (∃ (s : State) (_x : Int) (_y : Int) (_z : Int), s.serves .gnss = true ∧ (s.dev.get Dict.gnssState = 4 ∨ s.dev.get Dict.gnssState = 5) ∧ 64 *
    framesPerSecond ≤ s.met.framesSince (s.dev.get Hid.posCheckFrom - 1)) ∧
    (∃ (s : State) (h : Head) (v : Value) (x : Session), s.admits h [Dict.gnssRelease.item v] x = true) ∧
    (∃ (s : State) (h : Head) (v : Value) (x : Session), s.admits h [Dict.gnssSurveyRestart.item v] x = true) ∧
    (∃ (s : State) (h : Head) (v : Value) (x : Session), s.admits h [Dict.gnssTrustedTimeSet.item v] x = true) ∧
    (∃ (s : State) (h : Head) (v : Value) (x : Session), s.admits h [Dict.gnssBankRelease.item v] x = true) :=
  ⟨⟨mk [(Dict.gnssEnable, 1), (Dict.gnssState, 0)], ⟨0, true, []⟩, by decide +kernel⟩,
   ⟨mkLast [(Dict.gnssBandEnable, 3), (Dict.gsClockState 1, 1), (Hid.gsLast 1, 5 * secondUnits - 4 * (secondUnits / 1000))], 1,
   by rw [mkLast_met]; decide +kernel⟩,
   ⟨mkAt (100 * secondUnits) [(Dict.gnssState, 4), (Hid.posCheckFrom, 1)], 10, -20, 30, by decide +kernel⟩,
   ⟨mk [(Dict.lifeCycleState, 2), (Dict.gnssState, 6)] open1, host (.write [Dict.gnssRelease.item ⟨1, 1⟩]), ⟨1, 1⟩, sess, by decide +kernel⟩,
   ⟨mk [(Dict.lifeCycleState, 2), (Dict.gnssState, 4)] open1, host (.write [Dict.gnssSurveyRestart.item ⟨1, 1⟩]), ⟨1, 1⟩, sess, by decide +kernel⟩,
   ⟨mkLast [(Dict.lifeCycleState, 2)] open1, host (.write [Dict.gnssTrustedTimeSet.item ⟨12, toTime96 (5 * secondUnits)⟩]), ⟨12,
   toTime96 (5 * secondUnits)⟩, sess, by unfold State.admits State.hears State.heard; rw [mkLast_met]; decide +kernel⟩,
   ⟨mk [(Dict.lifeCycleState, 2), (Dict.gnssBankState 11, 1)] open1, host (.write [Dict.gnssBankRelease.item ⟨1, 12⟩]), ⟨1, 12⟩, sess,
   by decide +kernel⟩⟩

theorem met_ChannelsFollowTheWantedSignals :
    (∃ (s : State) (_sky : List SkySat), s.serves .gnss = true ∧ (s.dev.get Dict.gnssState = 1 ∨ s.dev.get Dict.gnssState = 6)) ∧
    (∃ (s : State) (sky : List SkySat) (w : SkySat × Nat), s.serves .gnss = true ∧ s.dev.get Dict.gnssState = 4 ∧ (∀ k < 192,
    s.dev.get (Dict.gnssChannelStatus k) = 0) ∧ s.dev.get (Dict.gnssBankState 0) = 0 ∧ s.dev.wantedSignals sky = [w] ∧ 0 < Dev.signalId w.1 w.2 ∧
    Dev.signalId w.1 w.2 < 2 ^ 13) :=
  ⟨⟨mk [(Dict.gnssState, 6), (Dict.gnssChannelStatus 191, 77)], [], by decide +kernel⟩,
   ⟨mk [(Dict.gnssState, 4), (Dict.gnssBankState 0, 0), (Dict.gnssBandEnable, 3), (Dict.gsClockState 0, 1), (Dict.gnssSystemEnable, 15),
   (Dict.gnssElevationMask, 10)] (fun d => setAll d ((List.range 192).map fun k => (Dict.gnssChannelStatus k, 0))), [(⟨2, 11, 300, 90, true, false,
   false⟩ : SkySat)], ((⟨2, 11, 300, 90, true, false, false⟩ : SkySat), 0), by decide +kernel⟩⟩

theorem met_SolutionFormsARecord :
    (∃ (s : State) (e : GnssEpoch), s.serves .gnss = true ∧ s.dev.get Dict.gnssState = 4 ∧ (s.dev.get Dict.gnssInterferenceMode = 0 ∨ s.dev.get
    Dict.gnssInterferenceMode = 1) ∧ (let found : Dev := Dev.showCalibration { s.met with g0Formed := none }
      let rated : Dev := { found with g0Rates := ((ofFrac64 (found.getI (Dict.refFrequency 16)) - found.q Q.rTot) :: found.g0Rates).take 64 }
      let p := Dev.prepareSats rated e (s.start / secondUnits) s.met.bandsInUse
      p.1.enoughSats p.2 = true)) ∧
    (∃ (s : State) (e : GnssEpoch), s.serves .gnss = true ∧ s.dev.get Dict.gnssState = 4 ∧ e.sats = [] ∧ 0 < s.dev.get Dict.gnssMinSats) ∧
    (∃ (s : State) (r : G0Record), s.serves .gnss = true ∧ s.dev.g0Formed = some r ∧ s.start / secondUnits ≤ r.epoch) ∧
    (∃ (s : State) (r : G0Record), s.serves .gnss = true ∧ s.dev.g0Formed = some r ∧ r.epoch < s.start / secondUnits) :=
  ⟨⟨mk [(Dict.gnssState, 4), (Dict.gnssBandEnable, 3), (Dict.gsClockState 0, 1), (Dict.gsClockState 1, 1), (Dict.gnssSystemEnable, 15),
   (Dict.gnssElevationMask, 10), (Dict.gnssCn0Mask, 10), (Dict.gnssMinSats, 1), (Dict.gnssTimeSystem, 0), (Dict.gnssAuthPolicy, 0),
   (Dict.gnssInterferenceMode, 0)], ⟨[(⟨1, 7, 400, 450, 450, 22000000000000, 22000000000000, 0, 0, 22000000000000, 0, 0, 0, 0, 0, true, true,
   1000⟩ : SatObs)], none, 0, 0, 0, 0, 0, 0, 18, none, [0, 0, 0, 0], []⟩, by decide +kernel⟩,
   ⟨mk [(Dict.gnssState, 4), (Dict.gnssMinSats, 1)], ⟨[], none, 0, 0, 0, 0, 0, 0, 18, none, [0, 0, 0, 0], []⟩, by decide +kernel⟩,
   ⟨mk [] (fun d => { d with g0Formed := some ⟨5, 10, 20, 30, 0, 8, 1, 37, 0, 0, 0, [0, 0, 0, 0]⟩ }), ⟨5, 10, 20, 30, 0, 8, 1, 37, 0, 0, 0, [0, 0, 0,
   0]⟩, by decide +kernel⟩,
   ⟨mk [] (fun d => { d with g0Formed := some ⟨4, 10, 20, 30, 0, 8, 1, 37, 0, 0, 0, [0, 0, 0, 0]⟩ }), ⟨4, 10, 20, 30, 0, 8, 1, 37, 0, 0, 0, [0, 0, 0,
   0]⟩, by decide +kernel⟩⟩

theorem met_NotchesAndAuthenticationMaterial :
    (∃ (s : State) (b : Nat) (hz : Int), b < 2 ∧ s.serves .gnss = true ∧ s.dev.get Dict.gnssInterferenceMode = 1 ∧ s.dev.get (Dict.gsNotchCentre b 0) =
    0x7FFFFFFF ∧ 0 ≤ hz ∧ hz < 2 ^ 31) ∧
    (∃ (s : State) (b : Nat) (k : Nat), b < 2 ∧ k < 4 ∧ s.serves .gnss = true ∧ s.dev.getI (Dict.gsNotchCentre b k) ≠ 0x7FFFFFFF) ∧
    (∃ (s : State) (tag : OsnmaTag), s.serves .gnss = true ∧ s.dev.get Dict.gnssState = 4 ∧ tag.keyId < 256 ∧ tag.chainId < 256) ∧
    (∃ (s : State) (_keyId : Nat) (_material : List Nat) (_proof : List Nat), s.serves .gnss = true ∧ s.dev.nodeUsable 7 = true ∧ (s.dev.key 7).isSome =
    true ∧ bit (s.dev.nodeUse 7).2.1 6 = true ∧ s.dev.mustWait 7 = false) ∧
    (∃ (s : State), s.serves .time = true ∧ s.dev.get Dict.selectedRef = 16 ∧ s.dev.is (Hid.refAuth 16) = true ∧ s.dev.state = 3 ∧ s.dev.get
    Dict.boundTimescale < 0xFFFFFFFF) :=
  ⟨⟨mk [(Dict.gnssInterferenceMode, 1), (Dict.gsNotchCentre 1 0, 0x7FFFFFFF)], 1, 2147483647, by decide +kernel⟩,
   ⟨mk [(Dict.gsNotchCentre 1 3, 1000)], 1, 3, by decide +kernel⟩,
   ⟨mk [(Dict.gnssState, 4)], ⟨1, 255, 3, true, 11, 0, [1, 2], 5, 40, 9, none, none⟩, by decide +kernel⟩,
   ⟨mk [] (fun d => { d with keys := [⟨7, 1, 64, 1, 1, 0, 0, 0, 0, 0, 0, 99, 0⟩] }), 3, [1, 2], [3], by decide +kernel⟩,
   ⟨mk [(Dict.selectedRef, 16), (Hid.refAuth 16, 1), (Dict.deviceState, 3), (Dict.boundTimescale, 0xFFFFFFFE)], by decide +kernel⟩⟩

theorem met_AuditRecordsAreStoredOrLost :
    (∃ (s : State) (frame : Nat) (record : Nat) (rest : List (Nat × Nat)), s.serves .time = true ∧ s.dev.auditWaiting = (frame, record) :: rest ∧
    s.clock.frames - frame ≤ 64 ∧ s.dev.powered .crypt = true ∧ s.dev.powered .mem = true ∧ s.dev.nodeUsable (s.dev.auditNode) = true ∧ bit
    (s.dev.nodeUse (s.dev.auditNode)).2.1 2 = true) ∧
    (∃ (s : State) (frame : Nat) (record : Nat) (rest : List (Nat × Nat)), s.serves .time = true ∧ s.dev.auditWaiting = (frame, record) :: rest ∧
    s.clock.frames - frame ≤ 64 ∧ s.dev.powered .crypt = true ∧ s.dev.powered .mem = true ∧ s.dev.nodeUsable (s.dev.auditNode) = false) ∧
    (∃ (s : State) (frame : Nat) (record : Nat) (rest : List (Nat × Nat)), s.serves .time = true ∧ s.dev.auditWaiting = (frame, record) :: rest ∧ 64 <
    s.clock.frames - frame) ∧
    (∃ (s : State), bit (s.dev.get Hid.nvWanted) 2 = true ∧ s.dev.passHeld 0 = true) ∧
    (∃ (s : State) (h : Head) (v : Value) (x : Session), s.admits h [Dict.auditArchiveDays.item v] x = true) :=
  ⟨⟨mk [(Dict.auditArchiveDays, 30), (Dict.keyAuditSlot, 8), (Dev.specEntry 8, 4 * 256 ^ 95 + 4 * 256 ^ 94 + 9 * 256 ^ 92 + 3 * 256 ^ 90)]
   (fun d => { d with auditWaiting := [(20440, 5 * 256 ^ 48), (20441, 6)], keys := [⟨9, 2, 1, 1, 5, 0, 0, 0, 0, 0, 0, 55, 0⟩], slots := [⟨8, 2, 0, 1, 1, 0, 0, 0, 99, [], 0⟩] }), 20440, 5 * 256 ^ 48, [(20441, 6)], by decide +kernel⟩,
   ⟨mk [(Dict.auditArchiveDays, 30)] (fun d => { d with auditWaiting := [(20440, 5 * 256 ^ 48), (20441, 6)] }), 20440, 5 * 256 ^ 48, [(20441, 6)],
   by decide +kernel⟩,
   ⟨mk [] (fun d => { d with auditWaiting := [(20000, 5 * 256 ^ 48), (20441, 6)] }), 20000, 5 * 256 ^ 48, [(20441, 6)], by decide +kernel⟩,
   ⟨mk [(Hid.nvWanted, 4), (Dict.passGranted, 1)], by decide +kernel⟩,
   ⟨mk [(Dict.lifeCycleState, 2)] open1, host (.write [Dict.auditArchiveDays.item ⟨2, 90⟩]), ⟨2, 90⟩, sess, by decide +kernel⟩⟩

theorem met_PortCalibrationEndsInTraining :
    (∃ (s : State) (q : Nat) (lanes : List LaneDelays), q < 6 ∧ s.serves .net = true ∧ s.dev.get (Dict.portState q) = 1 ∧ s.met.portCalCheck q lanes = 0) ∧
    (∃ (s : State) (q : Nat), q < 6 ∧ s.serves .net = true ∧ s.dev.get (Dict.portState q) = 1 ∧ s.dev.get (Dev.pctState (portRegion q)) ≠ 1 ∧
    s.met.portCalLate q = true) :=
  ⟨⟨mkLast [(Dict.portState 0, 1), (Dev.pctState (portRegion 0), 1), (Hid.portCalAt 0, lastUnit), (Dict.portCalFactoryLimit, 0xFFFFFFFF)], 0,
   List.replicate 4 ⟨1000000, 1000000, 5000, 5000⟩, by rw [mkLast_met]; decide +kernel⟩,
   ⟨mkLast [(Dict.portState 0, 1), (Dev.pctState (portRegion 0), 0), (Hid.portCalAt 0, 1)], 0, by rw [mkLast_met]; decide +kernel⟩⟩

theorem met_PortsComeUpAndGoDown :
    (∃ (s : State) (q : Nat), q < 6 ∧ s.serves .net = true ∧ s.dev.get (Dict.portState q) = 2 ∧ s.dev.is (Hid.portLocked q) = true ∧ s.met.heldFor q
    (s.dev.get (Dict.portUpHold q)) = true) ∧
    (∃ (s : State) (q : Nat), q < 6 ∧ s.serves .net = true ∧ s.dev.get (Dict.portState q) = 3 ∧ s.dev.is (Hid.portLocked q) = false ∧ s.met.heldFor q
    (s.dev.get (Dict.portDownHold q)) = true ∧ s.dev.needsCal q = false) ∧
    (∃ (s : State) (q : Nat), q < 6 ∧ s.serves .net = true ∧ s.dev.get (Dict.portState q) = 3 ∧ s.dev.is (Hid.portLocked q) = true ∧ s.dev.is
    (Hid.portHiBer q) = false) ∧
    (∃ (s : State) (up : Bool), s.serves .net = true ∧ s.dev.is Dict.mgtLinkUp = !up) :=
  ⟨⟨mkLast [(Dict.portState 0, 2), (Hid.portLocked 0, 1), (Hid.portLockAt 0, 1), (Dict.portUpHold 0, 100)], 0, by rw [mkLast_met]; decide +kernel⟩,
   ⟨mkLast [(Dict.portState 0, 3), (Hid.portLocked 0, 0), (Hid.portLockAt 0, 1), (Dict.portDownHold 0, 100), (Dict.portCalStatus 0, 2)], 0, by rw [mkLast_met]; decide +kernel⟩,
   ⟨mk [(Dict.portState 0, 3), (Hid.portLocked 0, 1), (Hid.portHiBer 0, 0)], 0, by decide +kernel⟩,
   ⟨mk [(Dict.mgtLinkUp, 0)], true, by decide +kernel⟩⟩

theorem met_ReceivedFramesAndPausesAreCounted :
    (∃ (s : State) (f : RxFrame), f.rx.port < 6 ∧ s.serves .net = true ∧ s.dev.get (Dict.portState f.rx.port) = 3 ∧ 64 ≤ f.length ∧
    f.length ≤ s.dev.get (Dict.portMaxFrame f.rx.port) + 4 * f.tags.length ∧ f.fcsOk = true) ∧
    (∃ (s : State) (f : RxFrame), f.rx.port < 6 ∧ s.serves .net = true ∧ s.dev.get (Dict.portState f.rx.port) = 3 ∧ 64 ≤ f.length ∧
    f.length ≤ s.dev.get (Dict.portMaxFrame f.rx.port) + 4 * f.tags.length ∧ f.fcsOk = false) ∧
    (∃ (s : State) (q : Nat) (quanta : Nat), q < 6 ∧ quanta < 65536 ∧ s.serves .net = true ∧ s.dev.get (Dict.portState q) = 3) ∧
    (∃ (s : State) (q : Nat) (_enable : Nat) (_times : List Nat), q < 6 ∧ s.serves .net = true ∧ s.dev.get (Dict.portState q) = 3) ∧
    (∃ (s : State) (q : Nat), q < 6 ∧ s.serves .net = true ∧ s.dev.get (Hid.pauseMark q) ≠ 0 ∧ s.met.pauseEnd q ≤ s.anyInstant) :=
  ⟨⟨mk [(Dict.portState 0, 3), (Dict.portMaxFrame 0, 1518)], ⟨⟨0, 0, 5, 0, 0xAB⟩, 64, true, [], 0, 0, false, 0, 0, none⟩, by decide +kernel⟩,
   ⟨mk [(Dict.portState 0, 3), (Dict.portMaxFrame 0, 1518)], ⟨⟨0, 0, 5, 0, 0xAB⟩, 1522, false, [(0x8100, 5)], 0, 0, false, 0, 0, none⟩,
   by decide +kernel⟩,
   ⟨mk [(Dict.portState 0, 3), (Dict.portPauseMode 0, 0)], 0, 65535, by decide +kernel⟩,
   ⟨mk [(Dict.portState 0, 3), (Dict.portPauseMode 0, 0)], 0, 0x81, [0, 1, 2, 3, 4, 5, 6, 65535], by decide +kernel⟩,
   ⟨mkLast ([(Hid.pauseMark 0, 7)] ++ (List.range 8).map fun k => (Hid.pauseUntil 0 k, secondUnits)), 0,
   by rw [mkLast_met, mkLast_anyInstant]; decide +kernel⟩⟩

theorem met_ExceptionPathCarriesStampsAndFrames :
    (∃ (s : State) (q : Nat) (first : HeldFrame), q < 6 ∧ s.serves .net = true ∧ (s.dev.held.find? fun h => h.job.port == q) = some first ∧ first.deadline
    ≤ s.start) ∧
    (∃ (s : State) (q : Nat), q < 6 ∧ s.serves .net = true ∧ 32 ≤ (s.dev.stampQueue.filter fun e => e.port == q).length ∧ s.dev.excReady = true ∧
    (s.dev.openMarkers.find? fun m => m.port == q) = none ∧ (s.dev.held.find? fun h => h.job.port == q) = none) ∧
    (∃ (s : State) (f : HostFrame), f.port < 6 ∧ s.serves .net = true ∧ s.dev.is Dict.mgtLinkUp = true ∧ s.dev.get Dict.excBoundPort ≠ 0 ∧ f.address =
    s.dev.get Dict.excBoundAddress ∧ f.version = 1 ∧ f.kind = 2 ∧ f.length = f.octets ∧ 14 ≤ f.octets ∧ bit f.flags 0 = false ∧ s.dev.get
    (Hid.excSecond f.port) = s.start / secondUnits + 1 ∧ s.dev.get (Hid.excTaken f.port) < s.dev.get (Dict.portExcRateLimit f.port) ∧ f.octets + 4 ≤
    s.dev.get (Dict.portMaxFrame f.port) + 4 * f.tags.length ∧ s.dev.get (Dict.portState f.port) = 3 ∧ 24 + f.octets ≤ s.dev.get Dict.excMaxDatagram) ∧
    (∃ (s : State) (f : HostFrame), f.port < 6 ∧ s.serves .net = true ∧ s.dev.is Dict.mgtLinkUp = true ∧ f.address ≠ s.dev.get Dict.excBoundAddress ∧
    s.dev.get (Hid.excSecond f.port) = s.start / secondUnits + 1) :=
  ⟨⟨mk [] (fun d => { d with held := [⟨⟨0, 0, 64, true, false, .host 9 true⟩, 5 * secondUnits⟩, ⟨⟨0, 0, 64, true, false, .host 10 true⟩, 0⟩] }), 0,
   ⟨⟨0, 0, 64, true, false, .host 9 true⟩, 5 * secondUnits⟩, by decide +kernel⟩,
   ⟨mk [(Dict.excBoundPort, 4000), (Dict.excBoundAddress, 77), (Dict.mgtLinkUp,
   1)] (fun d => { d with stampQueue := (List.range 33).map fun k => ⟨1, 0, k, 7, 1, 100⟩ }), 0, by decide +kernel⟩,
   ⟨mk [(Dict.mgtLinkUp, 1), (Dict.excBoundPort, 4000), (Dict.excBoundAddress, 77), (Hid.excSecond 0, 6), (Hid.excTaken 0, 9),
   (Dict.portExcRateLimit 0, 10), (Dict.portMaxFrame 0, 1518), (Dict.portState 0, 3)], ⟨77, 1, 2, 0, 0, 60, 5, 60, []⟩, by decide +kernel⟩,
   ⟨mk [(Dict.mgtLinkUp, 1), (Dict.excBoundAddress, 78), (Hid.excSecond 0, 6)], ⟨77, 1, 2, 0, 0, 60, 5, 60, []⟩, by decide +kernel⟩⟩

theorem met_AddressRequestsAndEsmcPdus :
    (∃ (s : State) (_toward : Nat), s.serves .net = true ∧ s.dev.is Dict.mgtLinkUp = true ∧ s.dev.get Dict.mgtIpv4Address ≠ 0) ∧
    (∃ (s : State) (_toward : Nat), s.serves .net = true ∧ s.dev.is Dict.mgtLinkUp = true ∧ s.dev.get Dict.mgtIpv6Address ≠ 0) ∧
    (∃ (s : State) (q : Nat) (address : Nat) (_toward : Nat), q < 6 ∧ s.serves .net = true ∧ address ≠ s.dev.get (Dict.svcIpv4Address q)) ∧
    (∃ (s : State) (q : Nat) (ssm : Nat) (_enhanced : Option Nat), q < 6 ∧ ssm < 16 ∧ s.serves .net = true ∧ s.dev.get (Dict.portState q) = 3) ∧
    (∃ (s : State) (q : Nat), q < 6 ∧ s.serves .net = true ∧ s.dev.get (Dict.portState q) = 3 ∧ s.dev.get (Dict.esmcRxState q) = 1 ∧ s.dev.get (Hid.esmcAt
    q) ≠ 0 ∧ s.dev.get (Hid.esmcAt q) - 1 + 5 * secondUnits ≤ s.start ∧ s.dev.is (Dict.refEnable (8 + q)) = false) ∧
    (∃ (s : State) (q : Nat), q < 6 ∧ s.serves .net = true ∧ s.dev.get (Dict.portState q) = 3 ∧ s.dev.is (Hid.esmcSending q) = true ∧ s.dev.get
    (Hid.esmcSecond q) ≤ s.start / secondUnits) :=
  ⟨⟨mk [(Dict.mgtLinkUp, 1), (Dict.mgtIpv4Address, 0x0A000001)], 0xBB, by decide +kernel⟩,
   ⟨mk [(Dict.mgtLinkUp, 1), (Dict.mgtIpv6Address, 0xFE80)], 0xBB, by decide +kernel⟩,
   ⟨mk [(Dict.svcIpv4Address 5, 1)], 5, 2, 0xBB, by decide +kernel⟩,
   ⟨mk [(Dict.portState 0, 3)], 0, 15, some 0x20, by decide +kernel⟩,
   ⟨mk [(Dict.portState 0, 3), (Dict.esmcRxState 0, 1), (Hid.esmcAt 0, 1), (Dict.refEnable (8 + 0), 0)], 0, by decide +kernel⟩,
   ⟨mk [(Dict.portState 0, 3), (Hid.esmcSending 0, 1), (Hid.esmcSecond 0, 5)], 0, by decide +kernel⟩⟩

theorem met_PortCommandsAreTaken :
    (∃ (s : State) (h : Head) (v : Value) (x : Session), s.admits h [Dict.portCountersClear.item v] x = true) ∧
    (∃ (s : State) (h : Head) (v : Value) (x : Session), s.admits h [Dict.excBind.item v] x = true ∧ v.value < 65536) ∧
    (∃ (s : State) (h : Head) (q : Nat) (v : Value) (x : Session), q < 6 ∧ s.admits h [(Dict.portRecalibrate q).item v] x = true) ∧
    (∃ (s : State) (h : Head) (q : Nat) (v : Value) (x : Session), q < 6 ∧ s.admits h [(Dict.portRelease q).item v] x = true) ∧
    (∃ (s : State) (h : Head) (items : List Item) (x : Session), s.admits h items x = true) ∧
    (∃ (d : Dev) (q : Nat), q < 6 ∧ d.get (Dict.portState q) = 3) :=
  ⟨⟨mk [(Dict.lifeCycleState, 2)] open1, host (.write [Dict.portCountersClear.item ⟨1, 127⟩]), ⟨1, 127⟩, sess, by decide +kernel⟩,
   ⟨mk [(Dict.lifeCycleState, 2), (Dict.mgtIpv4Address,
   0x0A000001)] (fun d => { d with sessions := [{ sess with onSpi := false, peer := ⟨9, 8, 0xFFFF * 2 ^ 32 + 0x0A000001, 7440⟩ }] }),
   { host (.write [Dict.excBind.item ⟨2, 65535⟩]) with onSpi := false, peer := ⟨9, 8, 0xFFFF * 2 ^ 32 + 0x0A000001, 7440⟩ }, ⟨2, 65535⟩,
   { sess with onSpi := false, peer := ⟨9, 8, 0xFFFF * 2 ^ 32 + 0x0A000001, 7440⟩ }, by decide +kernel⟩,
   ⟨mk [(Dict.lifeCycleState, 2)] (fun d => open1 (setAll d ((List.range 32).flatMap fun i => [(Dict.instEnable i, 0), (Dict.refEnable i, 0),
   (Dict.nrefEnable i, 0)]))), host (.write [(Dict.portRecalibrate 0).item ⟨1, 1⟩]), 0, ⟨1, 1⟩, sess, by decide +kernel⟩,
   ⟨mk [(Dict.lifeCycleState, 2), (Dict.portState 0, 4)] open1, host (.write [(Dict.portRelease 0).item ⟨1, 1⟩]), 0, ⟨1, 1⟩, sess, by decide +kernel⟩,
   ⟨mk [(Dict.lifeCycleState, 2)] open1, host (.write [(Dict.portEnable 5).item ⟨1, 1⟩]), [(Dict.portEnable 5).item ⟨1, 1⟩], sess, by decide +kernel⟩,
   ⟨base.set (Dict.portState 5) 3, 5, by decide +kernel⟩⟩

theorem met_BusAccessesReachMemory :
    (∃ (s : State) (op : BusOp) (octets : Nat), s.met.portIssues op.master = true ∧ 0 < octets ∧ s.met.reachable op octets = true ∧
    s.met.targetUp op.target = true ∧ 1 ≤ op.target ∧ op.target ≤ 4 ∧ s.mem.checks = []) ∧
    (∃ (s : State) (op : BusOp) (data : List Nat), s.met.portIssues op.master = true ∧ 0 < data.length ∧ s.met.reachable op data.length = true ∧
    s.met.targetUp op.target = true ∧ 1 ≤ op.target ∧ op.target ≤ 4 ∧ s.mem.checks = [] ∧ s.mem.wf = true ∧ (∀ v ∈ data, v < 256) ∧
    op.offset + data.length ≤ 2 ^ 40) ∧
    (∃ (s : State) (op : BusOp) (octets : Nat), s.met.portIssues op.master = true ∧ 0 < octets ∧ s.met.reachable op octets = false) ∧
    (∃ (s : State) (op : BusOp) (octets : Nat), reachesRegisters s.met op octets = true) ∧
    (∃ (s : State) (op : BusOp) (data : List Nat), reachesRegisters s.met op data.length = true) :=
  ⟨⟨mk [(Dict.busPortState 0, 0), (Dict.fillState, 2), (Dict.dramState, 2), (Dict.dramUsable, 2 ^ 34)], (⟨0, 9, 4, 0, 100⟩ : BusOp), 4,
   by decide +kernel⟩,
   ⟨mk [(Dict.busPortState 0, 0), (Dict.fillState, 2), (Dict.dramState, 2), (Dict.dramUsable, 2 ^ 34)], (⟨0, 9, 4, 0, 100⟩ : BusOp), [1, 2, 0, 255],
   by decide +kernel⟩,
   ⟨mk [(Dict.busPortState 5, 0), (Dict.fillState, 2), (Dict.dramState, 2), (Dict.dramUsable, 2 ^ 34)], (⟨5, 9, 0, 8, 100⟩ : BusOp), 4,
   by decide +kernel⟩,
   ⟨mk [(Dict.busPortState 0, 0), (Dict.fillState, 2), (Dict.dramState, 2), (Dict.dramUsable, 2 ^ 34)], (⟨0, 9, 5, 8, 100⟩ : BusOp), 4,
   by decide +kernel⟩,
   ⟨mk [(Dict.busPortState 0, 0), (Dict.fillState, 2), (Dict.dramState, 2), (Dict.dramUsable, 2 ^ 34)], (⟨0, 9, 5, 8, 100⟩ : BusOp), [1, 2, 0, 255],
   by decide +kernel⟩⟩

theorem met_MastersDrainAndTestsWaitForS0 :
    (∃ (s : State) (m : Nat) (outstanding : Nat) (time : Nat), m < 6 ∧ s.dev.get (Dict.busPortState m) ≠ 1 ∧ time ≤ 2000 ∧ 0 < outstanding) ∧
    (∃ (s : State) (m : Nat) (outstanding : Nat) (time : Nat), m < 6 ∧ s.dev.get (Dict.busPortState m) ≠ 1 ∧ 2000 < time ∧ 0 < outstanding ∧
    outstanding < 65536) ∧
    (∃ (s : State) (m : Nat), m < 6 ∧ s.dev.get (Dict.busPortState m) = 1) ∧
    (∃ (s : State) (h : Head) (v : Value) (x : Session), s.admits h [Dict.memCountersClear.item v] x = true) ∧
    (∃ (s : State) (h : Head) (v : Value) (x : Session), s.admits h [Dict.memTestWrite.item v] x = true) ∧
    (∃ (s : State) (h : Head) (v : Value) (x : Session), s.admits h [Dict.memTestRead.item v] x = true) :=
  ⟨⟨mk [(Dict.busPortState 5, 0)], 5, 3, 2000, by decide +kernel⟩,
   ⟨mk [(Dict.busPortState 5, 0)], 5, 65535, 2001, by decide +kernel⟩,
   ⟨mk [(Dict.busPortState 5, 1), (Dict.busOutstanding 5, 4)], 5, by decide +kernel⟩,
   ⟨mk [(Dict.lifeCycleState, 3), (Dict.memTestTarget, 1), (Dict.memTestLine, 3), (Dict.memTestMode, 1)] open1,
   host (.write [Dict.memCountersClear.item ⟨1, 1⟩]), ⟨1, 1⟩, sess, by decide +kernel⟩,
   ⟨mk [(Dict.lifeCycleState, 3), (Dict.memTestTarget, 1), (Dict.memTestLine, 3), (Dict.memTestMode, 1)] open1,
   host (.write [Dict.memTestWrite.item ⟨1, 1⟩]), ⟨1, 1⟩, sess, by decide +kernel⟩,
   ⟨mk [(Dict.lifeCycleState, 3), (Dict.memTestTarget, 1), (Dict.memTestLine, 3), (Dict.memTestMode, 1)] open1,
   host (.write [Dict.memTestRead.item ⟨1, 1⟩]), ⟨1, 1⟩, sess, by decide +kernel⟩⟩

theorem met_SessionsAreOpenedAndEnded :
    (∃ (s : State) (h : Head) (level : Nat) (nonce : Nat) (slot : Nat), s.met.reaches h = true ∧ isNoise h 1 (openBody level 0xFF nonce) = false ∧
    s.dev.get Hid.bootPhase = 5 ∧ h.length = 52 ∧ h.session = 0 ∧ level < 3 ∧ (s.dev.sessions.filter fun y => y.onSpi == h.onSpi).length < 4 ∧
    ((s.dev.sessions.filter fun y => y.onSpi == h.onSpi).filter fun y => !y.isOpen).length < 2 ∧ s.dev.sessions.length < 8 ∧ ((if h.onSpi then [4, 5,
    6, 7] else [0, 1, 2, 3]).find? fun k => !s.dev.sessions.any fun y => y.slot == k) = some slot ∧ s.met.openUnkeyed h.onSpi level = true) ∧
    (∃ (s : State) (h : Head) (level : Nat) (nonce : Nat) (slot : Nat) (material : Nat) (d : Dev), s.met.reaches h = true ∧ isNoise h 1 (openBody level 0
    nonce) = false ∧ s.dev.get Hid.bootPhase = 5 ∧ h.length = 52 ∧ h.session = 0 ∧ level < 3 ∧ (s.dev.sessions.filter fun y => y.onSpi ==
    h.onSpi).length < 4 ∧ ((s.dev.sessions.filter fun y => y.onSpi == h.onSpi).filter fun y => !y.isOpen).length < 2 ∧ d.sessions.length < 8 ∧ ((if
    h.onSpi then [4, 5, 6, 7] else [0, 1, 2, 3]).find? fun k => !d.sessions.any fun y => y.slot == k) = some slot ∧ s.dev.lifeCycle ≠ 4 ∧ (s.dev.key
    (level + (if h.onSpi then 3 else 0))).isSome = true ∧ (s.met.arrive h).dispatch (level + (if h.onSpi then 3 else 0)) 1 = (d, .key material)) ∧
    (∃ (s : State) (h : Head) (x : Session), s.met.reaches h = true ∧ isNoise h 3 [] = false ∧ h.length = 32 ∧ h.sequence = 1 ∧ (s.dev.sessions.find? fun y
    => y.id == h.session && y.onSpi == h.onSpi) = some x ∧ x.isOpen = false ∧ Dev.tagRight x h 0x03 [] = true ∧ x.sent < 0xFFFFFFFF ∧ (x.onSpi ||
    s.dev.routable x.peer) = true) ∧
    (∃ (s : State) (slot : Nat) (x : Session), (s.dev.sessions.find? fun y => y.slot == slot) = some x ∧ x.isOpen = false ∧ 5 * framesPerSecond ≤
    s.met.framesSince x.lastFrame) ∧
    (∃ (s : State) (slot : Nat) (x : Session), (s.dev.sessions.find? fun y => y.slot == slot) = some x ∧ x.isOpen = true ∧ s.dev.get Dict.qopIdleTimeout *
    framesPerSecond ≤ s.met.framesSince x.lastFrame) :=
  ⟨⟨mk [(Dict.lifeCycleState, 1)], framed ⟨true, ⟨0, 0, 0, 0⟩, 52, 0, 0, 77, 0, 0⟩ 1 (openBody 2 0xFF 12345), 2, 12345, 4, by decide +kernel⟩,
   ⟨opening, openHead, 2, 12345, 4, 99, ((opening.met.arrive openHead).dispatch 5 1).1,
   by and_intros <;> first | with_reducible exact Prod.ext rfl (by decide +kernel) | decide +kernel⟩,
   ⟨mk [] (fun d => { d with sessions := [{ sess with isOpen := false, highest := 0, seen := [], sent := 0 }] }), framed ⟨true, ⟨0, 0, 0, 0⟩, 32, 7, 1, 77, 0, 0⟩ 3 [],
   { sess with isOpen := false, highest := 0, seen := [], sent := 0 }, by decide +kernel⟩,
   ⟨mk [] (fun d => { d with sessions := [{ sess with isOpen := false, highest := 0, seen := [], lastFrame := 4 }] }), 4,
   { sess with isOpen := false, highest := 0, seen := [], lastFrame := 4 }, by decide +kernel⟩,
   ⟨mk [(Dict.qopIdleTimeout, 4)] open1, 4, sess, by decide +kernel⟩⟩

theorem met_RequestsAreAnswered :
    (∃ (s : State) (h : Head) (l : List (Nat × Nat)) (x : Session), s.hears h (.read l) x = true ∧
    responseLength ((s.heard h x).readItems (s.met.accepted x h.sequence) l) ≤ 1400) ∧
    (∃ (s : State) (h : Head) (items : List Item) (x : Session), s.admits h items x = true) ∧
    (∃ (s : State) (h : Head) (items : List Item) (x : Session), s.hears h (.write items) x = true ∧ Dev.mayContend items = true ∧
    Dev.allOk ((s.heard h x).itemStatuses x.onSpi x.level items) = true) ∧
    (∃ (s : State) (h : Head) (items : List Item) (x : Session), s.hears h (.write items) x = true ∧
    Dev.allOk ((s.heard h x).itemStatuses x.onSpi x.level items) = false) ∧
    (∃ (s : State) (h : Head) (subType : Nat) (period : Nat) (sel : Selection) (x : Session), s.hears h (.subscribe subType period sel) x = true ∧
    (s.heard h x).subscribeStatus (s.met.accepted x h.sequence) subType period sel = 0) ∧
    (∃ (s : State) (h : Head) (id : Nat) (x : Session), s.hears h (.unsubscribe id) x = true ∧ (x.subs.any fun z => z.id == id) = true) ∧
    (∃ (s : State) (h : Head) (x : Session), s.hears h .keepalive x = true) ∧
    (∃ (s : State) (h : Head) (x : Session), s.hears h .close x = true) :=
  ⟨⟨mk [(Dict.lifeCycleState, 2)] open1, host (.read [(0x1010, 1), (0x1010, 3), (0x3FFF, 0)]), [(0x1010, 1), (0x1010, 3), (0x3FFF, 0)], sess,
   by decide +kernel⟩,
   ⟨mk [(Dict.lifeCycleState, 2)] open1, host (.write [(Dict.outRealign 15).item ⟨1, 1⟩]), [(Dict.outRealign 15).item ⟨1, 1⟩], sess,
   by decide +kernel⟩,
   ⟨mk [(Dict.lifeCycleState, 2)] open1, host (.write [Dict.gnssPositionUnc.item ⟨4, 50⟩]), [Dict.gnssPositionUnc.item ⟨4, 50⟩], sess,
   by decide +kernel⟩,
   ⟨mk [(Dict.lifeCycleState, 2)] open1, host (.write [(Dict.outRealign 15).item ⟨1, 9⟩, Dict.watershedForcedRef.item ⟨1, 17⟩]),
   [(Dict.outRealign 15).item ⟨1, 9⟩, Dict.watershedForcedRef.item ⟨1, 17⟩], sess, by decide +kernel⟩,
   ⟨mk [] open1, host (.subscribe 1 64 (.entries [(0x1010, 1)])), 1, 64, .entries [(0x1010, 1)], sess, by decide +kernel⟩,
   ⟨mk [] (fun d => { d with sessions := [{ sess with subs := [⟨3, 0, 64, .entries [(0x1010, 1), (0x1010, 3)], 100, 5, [], []⟩, ⟨4, 2, 64, .events 7 0, 100, 5, [], [[1, 2], [3]]⟩] }] }),
   host (.unsubscribe 3), 3,
   { sess with subs := [⟨3, 0, 64, .entries [(0x1010, 1), (0x1010, 3)], 100, 5, [], []⟩, ⟨4, 2, 64, .events 7 0, 100, 5, [], [[1, 2], [3]]⟩] },
   by decide +kernel⟩,
   ⟨mk [] open1, host .keepalive, sess, by decide +kernel⟩,
   ⟨mk [] open1, host .close, sess, by decide +kernel⟩⟩

theorem met_NotificationsAndFramesLeave :
    (∃ (s : State) (slot : Nat) (id : Nat) (y : Session) (sub : Subscription) (l : List (Nat × Nat)), s.serves .ctrl = true ∧ s.dev.subOf slot id = some
    (y, sub) ∧ sub.sel = .entries l ∧ sub.subType = 0 ∧ sub.periodFrames ≤ s.met.framesSince sub.lastFrame ∧ y.sent < 0xFFFFFFFF ∧ (if y.onSpi then
    !s.dev.spiFull else s.dev.routable y.peer) = true ∧ 48 + ((s.met.readItems y l).map fun i => 6 + i.octets).sum ≤ 1400) ∧
    (∃ (s : State) (slot : Nat) (id : Nat) (y : Session) (sub : Subscription), s.serves .ctrl = true ∧ s.dev.subOf slot id = some (y, sub) ∧ 0 <
    sub.waiting.length ∧ sub.waiting.length ≤ 56 ∧ sub.periodFrames ≤ s.met.framesSince sub.lastFrame ∧ y.sent < 0xFFFFFFFF ∧ (if y.onSpi then
    !s.dev.spiFull else s.dev.routable y.peer) = true) ∧
    (∃ (s : State), s.dev.powered .ctrl = true) ∧
    (∃ (s : State), s.dev.powered .ctrl = true) ∧
    (∃ (s : State) (h : Head) (items : List Item), s.met.listens h = true ∧ isNoise h 0x11 (Body.octets (.write items)) = true) ∧
    (∃ (s : State) (m : QopMessage) (rest : List QopMessage), s.dev.powered .ctrl = true ∧ s.dev.spiQueue = m :: rest) ∧
    (∃ (s : State) (h : Head) (v : Value) (x : Session), s.admits h [Dict.qopCountersClear.item v] x = true) ∧
    (∃ (s : State) (h : Head) (v : Value) (x : Session), s.admits h [Dict.seqStatsClear.item v] x = true) ∧
    (∃ (s : State) (h : Head) (items : List Item) (x : Session), s.admits h items x = true) ∧
    (∃ (_d : Dev) (v : Nat), v < 2 ^ 32) :=
  ⟨⟨mk [] (fun d => { d with sessions := [{ sess with subs := [⟨3, 0, 64, .entries [(0x1010, 1), (0x1010, 3)], 100, 5, [], []⟩, ⟨4, 2, 64, .events 7 0, 100, 5, [], [[1, 2], [3]]⟩] }] }),
   4, 3, { sess with subs := [⟨3, 0, 64, .entries [(0x1010, 1), (0x1010, 3)], 100, 5, [], []⟩, ⟨4, 2, 64, .events 7 0, 100, 5, [], [[1, 2], [3]]⟩] },
   ⟨3, 0, 64, .entries [(0x1010, 1), (0x1010, 3)], 100, 5, [], []⟩, [(0x1010, 1), (0x1010, 3)], by decide +kernel⟩,
   ⟨mk [] (fun d => { d with sessions := [{ sess with subs := [⟨3, 0, 64, .entries [(0x1010, 1), (0x1010, 3)], 100, 5, [], []⟩, ⟨4, 2, 64, .events 7 0, 100, 5, [], [[1, 2], [3]]⟩] }] }),
   4, 4, { sess with subs := [⟨3, 0, 64, .entries [(0x1010, 1), (0x1010, 3)], 100, 5, [], []⟩, ⟨4, 2, 64, .events 7 0, 100, 5, [], [[1, 2], [3]]⟩] },
   ⟨4, 2, 64, .events 7 0, 100, 5, [], [[1, 2], [3]]⟩, by decide +kernel⟩,
   ⟨mk [], by decide +kernel⟩,
   ⟨mk [], by decide +kernel⟩,
   ⟨mk [], { host (.write [Dict.storeCommit.item ⟨1, 1⟩]) with fcs := 0 }, [Dict.storeCommit.item ⟨1, 1⟩], by decide +kernel⟩,
   ⟨mk [] (fun d => { d with spiQueue := [⟨0x12, 7, 3, 77, 0, [], [], 0⟩, ⟨0x12, 7, 3, 77, 0, [], [], 0⟩] }), ⟨0x12, 7, 3, 77, 0, [], [], 0⟩, [⟨0x12,
   7, 3, 77, 0, [], [], 0⟩], by decide +kernel⟩,
   ⟨mk [(Dict.lifeCycleState, 2)] open1, host (.write [Dict.qopCountersClear.item ⟨1, 1⟩]), ⟨1, 1⟩, sess, by decide +kernel⟩,
   ⟨mk [(Dict.lifeCycleState, 2)] open1, host (.write [Dict.seqStatsClear.item ⟨1, 1⟩]), ⟨1, 1⟩, sess, by decide +kernel⟩,
   ⟨mk [(Dict.lifeCycleState, 2)] open1, host (.write [Dict.mgtIpv4Address.item ⟨4, 0x0A000002⟩]), [Dict.mgtIpv4Address.item ⟨4, 0x0A000002⟩], sess,
   by decide +kernel⟩,
   ⟨base, 2 ^ 32 - 1, by decide +kernel⟩⟩

theorem met_StoreCommitsRevertsAndErases :
    (∃ (s : State) (h : Head) (v : Value) (x : Session), s.admits h [Dict.storeCommit.item v] x = true) ∧
    (∃ (s : State) (values : List (Nat × Nat)) (_ok : Bool), s.dev.powered .ctrl = true ∧ s.dev.storeImage = some values ∧ s.dev.passHeld 0 = true ∧
    s.dev.get Dict.storeStatus ≠ 2) ∧
    (∃ (s : State) (h : Head) (v : Value) (x : Session), s.admits h [Dict.storeRevert.item v] x = true) ∧
    (∃ (_d : Dev) (e : Entry), e.sub < 256 ∧ inImage e.index e.sub = true) ∧
    (∃ (s : State) (h : Head) (v : Value) (x : Session), s.admits h [Dict.storeErase.item v] x = true) ∧
    (∃ (s : State) (h : Head) (v : Value) (x : Session), s.admits h [Dict.deviceReset.item v] x = true) :=
  ⟨⟨mk [(Dict.lifeCycleState, 2), (Dict.storeStatus, 0)] open1, host (.write [Dict.storeCommit.item ⟨1, 1⟩]), ⟨1, 1⟩, sess, by decide +kernel⟩,
   ⟨mk [(Dict.passGranted, 1)] (fun d => { d with storeImage := some [(0x300003, 5)] }), [(0x300003, 5)], true, by decide +kernel⟩,
   ⟨mk [(Dict.lifeCycleState, 2)] open1, host (.write [Dict.storeRevert.item ⟨1, 1⟩]), ⟨1, 1⟩, sess, by decide +kernel⟩,
   ⟨base, Dict.watershedForcedRef, by decide +kernel⟩,
   ⟨mk [(Dict.lifeCycleState, 1), (Dict.storeStatus, 0)] open1, host (.write [Dict.storeErase.item ⟨1, 1⟩]), ⟨1, 1⟩, sess, by decide +kernel⟩,
   ⟨mk [(Dict.lifeCycleState, 2)] open1, host (.write [Dict.deviceReset.item ⟨1, 90⟩]), ⟨1, 90⟩, sess, by decide +kernel⟩⟩

theorem met_KeysAreCommittedAndExpire :
    (∃ (s : State) (h : Head) (v : Value) (x : Session), s.admits h [Dict.keyLoad.item v] x = true) ∧
    (∃ (s : State) (h : Head) (v : Value) (x : Session), s.admits h [Dict.keyDelete.item v] x = true) ∧
    (∃ (s : State) (h : Head) (v : Value) (x : Session), s.admits h [Dict.keyRederiveAll.item v] x = true) ∧
    (∃ (s : State) (h : Head) (items : List Item) (x : Session), s.admits h items x = true) ∧
    (∃ (d : Dev) (n : Nat) (v : Nat), n < 1024 ∧ v < 256 ^ 96 ∧ d.slots = [] ∧ (SlotSpec.ofValue v).parent < 64 ∧ d.nodeValid (SlotSpec.ofValue v).parent
    true = true ∧ bit (d.nodeUse (SlotSpec.ofValue v).parent).2.1 0 = true ∧ (d.nodeUse (SlotSpec.ofValue v).parent).2.2.1 = 0) ∧
    (∃ (s : State) (i : KeyImage) (job : KeyJob), s.dev.powered .ctrl = true ∧ s.dev.keyCommit = some (i, job) ∧ s.dev.passHeld 0 = true ∧ s.dev.get
    Dict.keyStoreStatus ≠ 2 ∧ s.dev.keyJobs = []) ∧
    (∃ (s : State) (i : KeyImage) (job : KeyJob), s.dev.powered .ctrl = true ∧ s.dev.keyCommit = some (i, job) ∧ s.dev.passHeld 0 = true ∧ s.dev.get
    Dict.keyStoreStatus ≠ 2 ∧ s.dev.keyJobs = []) ∧
    (∃ (s : State) (job : KeyJob) (rest : List KeyJob), s.dev.powered .ctrl = true ∧ s.dev.get Dict.keyStoreStatus = 4 ∧ s.dev.keyCommit = none ∧
    s.dev.keyJobs = job :: rest ∧ s.dev.get Hid.keyDone + framesPerSecond ≤ s.clock.frames + 1) ∧
    (∃ (s : State) (k : KeyRec), s.serves .time = true ∧ s.dev.key k.index = some k ∧ 6 ≤ k.index ∧ k.index < 64 ∧ k.state = 1 ∧ k.expiryKind = 1 ∧
    ofTime96 k.notAfter ≤ s.start ∧ s.dev.slots = []) :=
  ⟨⟨mk [(Dict.lifeCycleState, 1), (Hid.keyDone, 0), (Dict.keyStoreStatus,
   0)] (fun d => open1 { d with images := [⟨0, 7, true, 2, [⟨9, 2, 1, 1, 5, 0, 0, 0, 0, 0, 0, 99, 0⟩], []⟩], keys := [⟨9, 2, 1, 1, 5, 0, 0, 0, 0, 0, 0, 99, 0⟩] }),
   host (.write [Dict.keyLoad.item ⟨96, 9 * 256 ^ 95 + 2 * 256 ^ 94 + 1 * 256 ^ 93 + 32 * 256 ^ 91 + 1000 * 256 ^ 80 + 99 * 256 ^ 32⟩]), ⟨96,
   9 * 256 ^ 95 + 2 * 256 ^ 94 + 1 * 256 ^ 93 + 32 * 256 ^ 91 + 1000 * 256 ^ 80 + 99 * 256 ^ 32⟩, sess, by decide +kernel⟩,
   ⟨mk [(Dict.lifeCycleState, 1), (Hid.keyDone, 0), (Dict.keyStoreStatus,
   0)] (fun d => open1 { d with images := [⟨0, 7, true, 2, [⟨9, 2, 1, 1, 5, 0, 0, 0, 0, 0, 0, 99, 0⟩], []⟩], keys := [⟨9, 2, 1, 1, 5, 0, 0, 0, 0, 0, 0, 99, 0⟩] }),
   host (.write [Dict.keyDelete.item ⟨1, 9⟩]), ⟨1, 9⟩, sess, by decide +kernel⟩,
   ⟨mk [(Dict.lifeCycleState, 2)] open1, host (.write [Dict.keyRederiveAll.item ⟨1, 1⟩]), ⟨1, 1⟩, sess, by decide +kernel⟩,
   ⟨mk [(Dict.lifeCycleState,
   2)] (fun d => open1 { d with images := [⟨0, 7, true, 2, [⟨9, 2, 1, 1, 5, 0, 0, 0, 0, 0, 0, 99, 0⟩], []⟩], keys := [⟨9, 2, 1, 1, 5, 0, 0, 0, 0, 0, 0, 99, 0⟩] }),
   host (.write [(Dict.keySlotSpec 7 127).item ⟨96,
   2 * 256 ^ 95 + 1 * 256 ^ 94 + 9 * 256 ^ 92 + 3 * 256 ^ 90 + 2 * 256 ^ 89 + 0x414243 * 256 ^ 61 + 0x5859 * 256 ^ 38⟩]),
   [(Dict.keySlotSpec 7 127).item ⟨96,
   2 * 256 ^ 95 + 1 * 256 ^ 94 + 9 * 256 ^ 92 + 3 * 256 ^ 90 + 2 * 256 ^ 89 + 0x414243 * 256 ^ 61 + 0x5859 * 256 ^ 38⟩], sess, by decide +kernel⟩,
   ⟨{ base with keys := [⟨9, 2, 1, 1, 5, 0, 0, 0, 0, 0, 0, 99, 0⟩] }, 1023,
   2 * 256 ^ 95 + 1 * 256 ^ 94 + 9 * 256 ^ 92 + 3 * 256 ^ 90 + 2 * 256 ^ 89 + 0x414243 * 256 ^ 61 + 0x5859 * 256 ^ 38, by decide +kernel⟩,
   ⟨mk [(Dict.passGranted,
   1)] (fun d => { d with keyCommit := some (⟨1, 8, false, 2, [], []⟩, .delete 9), images := [⟨0, 7, true, 2, [⟨9, 2, 1, 1, 5, 0, 0, 0, 0, 0, 0, 99, 0⟩], []⟩] }),
   ⟨1, 8, false, 2, [], []⟩, .delete 9, by decide +kernel⟩,
   ⟨mk [(Dict.passGranted,
   1)] (fun d => { d with keyCommit := some (⟨1, 8, false, 2, [], []⟩, .delete 9), images := [⟨0, 7, true, 2, [⟨9, 2, 1, 1, 5, 0, 0, 0, 0, 0, 0, 99, 0⟩], []⟩] }),
   ⟨1, 8, false, 2, [], []⟩, .delete 9, by decide +kernel⟩,
   ⟨mk [(Dict.keyStoreStatus, 4), (Hid.keyDone,
   16000)] (fun d => { d with keyJobs := [.delete 9, .expire 10], images := [⟨0, 7, true, 2, [⟨9, 2, 1, 1, 5, 0, 0, 0, 0, 0, 0, 99, 0⟩], []⟩] }),
   .delete 9, [.expire 10], by decide +kernel⟩,
   ⟨mk [(Dict.keyGeneration 63, 5)] (fun d => { d with keys := [⟨63, 3, 4, 1, 5, 0, 0, 0, 1, toTime96 (5 * secondUnits), 0, 99, 0⟩] }), ⟨63, 3, 4, 1,
   5, 0, 0, 0, 1, toTime96 (5 * secondUnits), 0, 99, 0⟩, by decide +kernel⟩⟩

theorem met_LifeCycleChangesByCommit :
    (∃ (s : State) (h : Head) (x : Session) (c : Instr) (toward : Nat), ((c = .lifeCycleToProvisioning h ∧ toward = 1) ∨ (c = .lifeCycleToService h ∧
    toward = 2) ∨ (c = .lifeCycleToMaintenance h ∧ toward = 3) ∨ (c = .lifeCycleToBlank h ∧ toward = 0) ∨ (c = .lifeCycleToRetired h ∧ toward = 4)) ∧
    s.admits h [Dict.lifeCycleRequest.item ⟨1, toward⟩] x = true ∧ s.dev.keyCommit = none ∧ s.dev.get Hid.keyDone = 0) ∧
    (∃ (s : State) (i : KeyImage) (toward : Nat), s.dev.powered .ctrl = true ∧ s.dev.keyCommit = some (i, .lifeCycle toward) ∧ s.dev.passHeld 0 = true ∧
    s.dev.get Dict.keyStoreStatus ≠ 2 ∧ s.dev.keyJobs = []) ∧
    (∃ (d : Dev) (toward : Nat), toward ≤ 4 ∧ d.keyEffect = some (.lifeCycle toward)) :=
  ⟨⟨mk [(Dict.lifeCycleState, 3), (Hid.keyDone, 0), (Dict.keyStoreStatus, 0)] (fun d => open1 { d with images := [⟨0, 7, true, 2, [], []⟩] }),
   host (.write [Dict.lifeCycleRequest.item ⟨1, 1⟩]), sess, .lifeCycleToProvisioning (host (.write [Dict.lifeCycleRequest.item ⟨1, 1⟩])), 1,
   by decide +kernel⟩,
   ⟨mk [(Dict.passGranted, 1)] (fun d => { d with keyCommit := some (⟨1, 8, false, 4, [], []⟩, .lifeCycle 4), images := [⟨0, 7, true, 2, [], []⟩] }), ⟨1, 8,
   false, 4, [], []⟩, 4, by decide +kernel⟩,
   ⟨{ base with keyEffect := some (.lifeCycle 0) }, 0, by decide +kernel⟩⟩

theorem met_PtpMessagesLeave :
    (∃ (s : State) (m : Send) (_late : Bool) (n : Nat) (sequence : Nat) (interval : Int), s.serves .proto = true ∧ (m.kind = 0 ∨ m.kind = 2) ∧
    m.slot = 0 ∧ s.met.due m = some (n, sequence, interval) ∧
    (let d : Dev := { s.met with sentNow := s.dev.sentNow ++ [(2 * sendKey m, 0)] }
     d.fits (s.met.sendCost m n).1 (s.met.sendCost m n).2 0 (0,
    0) = true) ∧ s.dev.get (Dict.instAuthMode m.sender) = 0 ∧ s.met.stopped m.port (s.dev.get (Dict.portPcp m.port)) = false) ∧
    (∃ (s : State) (m : PtpRx) (i : Nat), m.rx.port < 6 ∧ s.serves .net = true ∧ s.dev.powered .proto = true ∧
    (s.begin (s.arrival m.rx)).instanceFor m = some i ∧ (s.begin (s.arrival m.rx)).instServes i = true ∧ s.dev.get (Dict.portState m.rx.port) = 3 ∧
    s.dev.protoQueue = [] ∧ ((s.begin (s.arrival m.rx)).inc (Dict.instDelayReqRx i)).changesLeft = true ∧
    ((s.begin (s.arrival m.rx)).inc (Dict.instDelayReqRx i)).fits (((s.begin (s.arrival m.rx)).inc (Dict.instDelayReqRx i)).ptpWorkCost i (.delayReq m)).1 (((s.begin (s.arrival m.rx)).inc (Dict.instDelayReqRx i)).ptpWorkCost i (.delayReq m)).2 0 ((s.begin (s.arrival m.rx)).inc (Dict.instDelayReqRx i)).reserved = true ∧ s.dev.get (Dict.instAuthMode i) = 0 ∧ s.dev.get (Dict.instMode i) = 0 ∧ (if s.dev.get (Hid.mcastSecond i m.rx.port) = s.start / secondUnits + 1 then s.dev.get (Hid.mcastCount i m.rx.port) else 0) < s.dev.get (Dict.instMcastDelayReqLimit i) ∧ bit (s.dev.get Dict.boundTlvMessages) 2 = false ∧ (s.begin (s.arrival m.rx)).stopped m.rx.port (s.dev.get (Dict.portPcp m.rx.port)) = false) :=
  ⟨⟨mkAt (5 * secondUnits) ([(Dict.lifeCycleState, 2), (Dict.deviceState, 3), (Dict.outputsPermitted, 1), (Dict.startServiceHoldActive, 0),
   (Dict.hmacLanesInService, 32), (Dict.aesLanesInService, 16), (Dict.sysClockSource, 1), (Dict.opActive, 2), (Hid.protoFrame,
   0)] ++ (List.range 8).map (fun i => (Dict.instEnable i, 0)) ++ (List.range 6).flatMap (fun q => (List.range 8).map fun k => (Hid.pauseUntil q k,
   0)) ++ [(Dict.instEnable 7, 1), (Dict.instPortMask 7, 32), (Dict.instDomain 7, 24), (Dict.instTransport 7, 0), (Dict.instAuthMode 7, 0),
   (Dict.portState 5, 3), (Dict.portPcp 5, 6)] ++ [(Dict.instMode 7, 0), (Dict.instSyncSeqBase 7, 0), (Dict.instAnnounceSeqBase 7, 0),
   (Dict.instLogSync 7, 0), (Dict.instLogAnnounce 7, 0), (Hid.announceFrom 7, 0), (Hid.syncFrom 7, 0)]), ⟨0, 7, 5, 0⟩, false, 5, 5, 0,
   by decide +kernel⟩,
   ⟨mk ([(Dict.lifeCycleState, 2), (Dict.deviceState, 3), (Dict.outputsPermitted, 1), (Dict.startServiceHoldActive, 0), (Dict.hmacLanesInService,
   32), (Dict.aesLanesInService, 16), (Dict.sysClockSource, 1), (Dict.opActive, 2), (Hid.protoFrame,
   0)] ++ (List.range 8).map (fun i => (Dict.instEnable i, 0)) ++ (List.range 6).flatMap (fun q => (List.range 8).map fun k => (Hid.pauseUntil q k,
   0)) ++ [(Dict.instEnable 7, 1), (Dict.instPortMask 7, 32), (Dict.instDomain 7, 24), (Dict.instTransport 7, 0), (Dict.instAuthMode 7, 0),
   (Dict.portState 5, 3), (Dict.portPcp 5, 6)] ++ [(Dict.instMode 7, 0), (Dict.instMcastDelayReqLimit 7, 3), (Hid.mcastSecond 7 5, 6),
   (Hid.mcastCount 7 5, 2), (Dict.boundTlvMessages, 0)]), ⟨⟨5, 0, 2 ^ 60, 0, 0xAB⟩, 0, 0xAB, 0, false, 24, 0x1234, 77, 500, [], none⟩, 7,
   by decide +kernel⟩⟩

theorem met_UnicastGrantsBeginAndEnd :
    (∃ (s : State) (m : PtpRx) (u : UnicastTlv) (i : Nat) (c : Client), s.serves .net = true ∧ s.dev.powered .proto = true ∧
    (s.begin (s.arrival m.rx)).instanceFor m = some i ∧ (s.begin (s.arrival m.rx)).instServes i = true ∧ s.dev.get (Dict.instMode i) = 1 ∧
    s.dev.get (Dict.portState m.rx.port) = 3 ∧ s.dev.protoQueue = [] ∧
    ((s.begin (s.arrival m.rx)).inc (Dict.instSignallingRx i)).changesLeft = true ∧
    ((s.begin (s.arrival m.rx)).inc (Dict.instSignallingRx i)).fits (((s.begin (s.arrival m.rx)).inc (Dict.instSignallingRx i)).ptpWorkCost i (.request m [u])).1 (((s.begin (s.arrival m.rx)).inc (Dict.instSignallingRx i)).ptpWorkCost i (.request m [u])).2 0 ((s.begin (s.arrival m.rx)).inc (Dict.instSignallingRx i)).reserved = true ∧ s.dev.get (Dict.instAuthMode i) = 0 ∧ s.dev.lookup i m.rx.port m.transport m.source = some c ∧ u.type = 11 ∧ u.period = s.dev.getI (Dict.instLogAnnounce i)) ∧
    (∃ (s : State) (m : PtpRx) (u : UnicastTlv) (i : Nat), s.serves .net = true ∧ s.dev.powered .proto = true ∧
    (s.begin (s.arrival m.rx)).instanceFor m = some i ∧ (s.begin (s.arrival m.rx)).instServes i = true ∧ s.dev.get (Dict.instMode i) = 1 ∧
    s.dev.get (Dict.portState m.rx.port) = 3 ∧ s.dev.protoQueue = [] ∧
    ((s.begin (s.arrival m.rx)).inc (Dict.instSignallingRx i)).changesLeft = true ∧
    ((s.begin (s.arrival m.rx)).inc (Dict.instSignallingRx i)).fits (((s.begin (s.arrival m.rx)).inc (Dict.instSignallingRx i)).ptpWorkCost i (.request m [u])).1 (((s.begin (s.arrival m.rx)).inc (Dict.instSignallingRx i)).ptpWorkCost i (.request m [u])).2 0 ((s.begin (s.arrival m.rx)).inc (Dict.instSignallingRx i)).reserved = true ∧ s.dev.get (Dict.instAuthMode i) = 0 ∧ s.dev.periodOk i u = false) ∧
    (∃ (s : State) (m : PtpRx) (i : Nat) (c : Client), s.serves .net = true ∧ s.dev.powered .proto = true ∧
    (s.begin (s.arrival m.rx)).instanceFor m = some i ∧ (s.begin (s.arrival m.rx)).instServes i = true ∧ s.dev.get (Dict.instMode i) = 1 ∧
    s.dev.get (Dict.portState m.rx.port) = 3 ∧ s.dev.protoQueue = [] ∧
    ((s.begin (s.arrival m.rx)).inc (Dict.instSignallingRx i)).changesLeft = true ∧
    ((s.begin (s.arrival m.rx)).inc (Dict.instSignallingRx i)).fits (((s.begin (s.arrival m.rx)).inc (Dict.instSignallingRx i)).ptpWorkCost i (.cancel m [11])).1 (((s.begin (s.arrival m.rx)).inc (Dict.instSignallingRx i)).ptpWorkCost i (.cancel m [11])).2 0 ((s.begin (s.arrival m.rx)).inc (Dict.instSignallingRx i)).reserved = true ∧ s.dev.get (Dict.instAuthMode i) = 0 ∧ s.dev.lookup i m.rx.port m.transport m.source = some c ∧ (s.dev.clients.find? fun y => y.slot == c.slot) = some c ∧ c.logSync ≠ noGrant) ∧
    (∃ (s : State) (slot : Nat) (c : Client), s.serves .proto = true ∧ (s.dev.clients.find? fun y => y.slot == slot) = some c ∧
    s.met.grantOver c 11 = true) ∧
    (∃ (s : State) (h : Head) (v : Value) (x : Session), s.admits h [Dict.clientDelete.item v] x = true) ∧
    (∃ (s : State) (h : Head) (v : Value) (x : Session), s.admits h [Dict.cryptoLaneRelease.item v] x = true) ∧
    (∃ (s : State) (h : Head) (v : Value) (x : Session), s.admits h [Dict.protoCountersClear.item v] x = true) :=
  ⟨⟨mk ([(Dict.lifeCycleState, 2), (Dict.deviceState, 3), (Dict.outputsPermitted, 1), (Dict.startServiceHoldActive, 0), (Dict.hmacLanesInService,
   32), (Dict.aesLanesInService, 16), (Dict.sysClockSource, 1), (Dict.opActive, 2), (Hid.protoFrame,
   0)] ++ (List.range 8).map (fun i => (Dict.instEnable i, 0)) ++ (List.range 6).flatMap (fun q => (List.range 8).map fun k => (Hid.pauseUntil q k,
   0)) ++ [(Dict.instEnable 7, 1), (Dict.instPortMask 7, 32), (Dict.instDomain 7, 24), (Dict.instTransport 7, 0), (Dict.instAuthMode 7, 0),
   (Dict.portState 5, 3), (Dict.portPcp 5, 6)] ++ [(Dict.instMode 7, 1), (Dict.instLogAnnounce 7, 1), (Dict.instGrantMin 7, 60),
   (Dict.instGrantMax 7, 300), (Dict.keeperRole,
   0)]) (fun d => { d with clients := [⟨12, false, 7, 5, 0, 0xAB, 0xAB, 0x1234, 0x7F, 0, 0x7F, 0, 0, 9, 0, 0, 0, 0, 0⟩] }), ⟨⟨5, 0, 2 ^ 60, 0, 0xAB⟩,
   0, 0xAB, 0, true, 24, 0x1234, 77, 500, [], none⟩, ⟨11, 1, 1000⟩, 7, ⟨12, false, 7, 5, 0, 0xAB, 0xAB, 0x1234, 0x7F, 0, 0x7F, 0, 0, 9, 0, 0, 0, 0,
   0⟩, by decide +kernel⟩,
   ⟨mk ([(Dict.lifeCycleState, 2), (Dict.deviceState, 3), (Dict.outputsPermitted, 1), (Dict.startServiceHoldActive, 0), (Dict.hmacLanesInService,
   32), (Dict.aesLanesInService, 16), (Dict.sysClockSource, 1), (Dict.opActive, 2), (Hid.protoFrame,
   0)] ++ (List.range 8).map (fun i => (Dict.instEnable i, 0)) ++ (List.range 6).flatMap (fun q => (List.range 8).map fun k => (Hid.pauseUntil q k,
   0)) ++ [(Dict.instEnable 7, 1), (Dict.instPortMask 7, 32), (Dict.instDomain 7, 24), (Dict.instTransport 7, 0), (Dict.instAuthMode 7, 0),
   (Dict.portState 5, 3), (Dict.portPcp 5, 6)] ++ [(Dict.instMode 7, 1), (Dict.instLogAnnounce 7, 1), (Dict.instGrantMin 7, 60),
   (Dict.instGrantMax 7, 300), (Dict.keeperRole,
   0)]) (fun d => { d with clients := [⟨12, false, 7, 5, 0, 0xAB, 0xAB, 0x1234, 0x7F, 0, 0x7F, 0, 0, 9, 0, 0, 0, 0, 0⟩] }), ⟨⟨5, 0, 2 ^ 60, 0, 0xAB⟩,
   0, 0xAB, 0, true, 24, 0x1234, 77, 500, [], none⟩, ⟨11, 2, 1000⟩, 7, by decide +kernel⟩,
   ⟨mk ([(Dict.lifeCycleState, 2), (Dict.deviceState, 3), (Dict.outputsPermitted, 1), (Dict.startServiceHoldActive, 0), (Dict.hmacLanesInService,
   32), (Dict.aesLanesInService, 16), (Dict.sysClockSource, 1), (Dict.opActive, 2), (Hid.protoFrame,
   0)] ++ (List.range 8).map (fun i => (Dict.instEnable i, 0)) ++ (List.range 6).flatMap (fun q => (List.range 8).map fun k => (Hid.pauseUntil q k,
   0)) ++ [(Dict.instEnable 7, 1), (Dict.instPortMask 7, 32), (Dict.instDomain 7, 24), (Dict.instTransport 7, 0), (Dict.instAuthMode 7, 0),
   (Dict.portState 5, 3), (Dict.portPcp 5, 6)] ++ [(Dict.instMode 7, 1), (Dict.instLogAnnounce 7, 1), (Dict.instGrantMin 7, 60),
   (Dict.instGrantMax 7, 300), (Dict.keeperRole,
   0)]) (fun d => { d with clients := [⟨12, false, 7, 5, 0, 0xAB, 0xAB, 0x1234, 1, 0, 0x7F, 0, 0, 9, 0, 0, 0, 0, 0⟩] }), ⟨⟨5, 0, 2 ^ 60, 0, 0xAB⟩, 0,
   0xAB, 0, true, 24, 0x1234, 77, 500, [], none⟩, 7, ⟨12, false, 7, 5, 0, 0xAB, 0xAB, 0x1234, 1, 0, 0x7F, 0, 0, 9, 0, 0, 0, 0, 0⟩, by decide +kernel⟩,
   ⟨mk [] (fun d => { d with clients := [⟨12, false, 7, 5, 0, 0xAB, 0xAB, 0x1234, 1, 0, 0x7F, 0, 4, 900, 0, 0, 0, 0, 0⟩] }), 12, ⟨12, false, 7, 5, 0,
   0xAB, 0xAB, 0x1234, 1, 0, 0x7F, 0, 4, 900, 0, 0, 0, 0, 0⟩, by decide +kernel⟩,
   ⟨mk [(Dict.lifeCycleState,
   2)] (fun d => open1 { d with clients := [⟨12, false, 7, 5, 0, 0xAB, 0xAB, 0x1234, 0x7F, 0, 0x7F, 0, 0, 9, 0, 0, 0, 0, 0⟩] }),
   host (.write [Dict.clientDelete.item ⟨24, 7 * 256 ^ 23 + 5 * 256 ^ 22 + 0xAB⟩]), ⟨24, 7 * 256 ^ 23 + 5 * 256 ^ 22 + 0xAB⟩, sess, by decide +kernel⟩,
   ⟨mk [(Dict.lifeCycleState, 2), (Dict.hmacLaneMask, 0xFFFFFF00)] open1, host (.write [Dict.cryptoLaneRelease.item ⟨1, 7⟩]), ⟨1, 7⟩, sess,
   by decide +kernel⟩,
   ⟨mk [(Dict.lifeCycleState, 2)] open1, host (.write [Dict.protoCountersClear.item ⟨1, 1⟩]), ⟨1, 1⟩, sess, by decide +kernel⟩⟩

theorem met_NtpRequestsAreAnswered :
    (∃ (s : State) (m : NtpRx), m.rx.port < 6 ∧ s.serves .net = true ∧ s.dev.powered .proto = true ∧
    (s.begin (s.arrival m.rx)).ntpServed m = true ∧ m.mode = 3 ∧ (m.version = 3 ∨ m.version = 4) ∧ s.dev.is Dict.ntpAllowPlain = true ∧
    s.dev.protoQueue = [] ∧
    ((s.begin (s.arrival m.rx)).inc Dict.ntpRequests).fits 2 0 0 ((s.begin (s.arrival m.rx)).inc Dict.ntpRequests).reserved = true ∧
    s.dev.buckets = [] ∧ 1 ≤ s.dev.get Dict.ntpRateBurst ∧ 0 < s.dev.get Dict.ntpStratum ∧
    (s.begin (s.arrival m.rx)).stopped m.rx.port (s.dev.get (Dict.portPcp m.rx.port)) = false) ∧
    (∃ (s : State) (m : NtsRx) (slot : Nat) (material : Nat) (c2s : Nat) (s2c : Nat) (p : List Nat), m.base.rx.port < 6 ∧ s.serves .net = true ∧
    s.dev.powered .proto = true ∧ (s.begin (s.arrival m.base.rx)).ntpServed m.base = true ∧ s.dev.is Dict.ntsEnable = true ∧
    s.dev.protoQueue = [] ∧
    (((s.begin (s.arrival m.base.rx)).inc Dict.ntpRequests).inc Dict.ntsRequests).fits ((((s.begin (s.arrival m.base.rx)).inc Dict.ntpRequests).inc Dict.ntsRequests).workCost (.nts m)).1 ((((s.begin (s.arrival m.base.rx)).inc Dict.ntpRequests).inc Dict.ntsRequests).workCost (.nts m)).2.1 ((((s.begin (s.arrival m.base.rx)).inc Dict.ntpRequests).inc Dict.ntsRequests).workCost (.nts m)).2.2 (((s.begin (s.arrival m.base.rx)).inc Dict.ntpRequests).inc Dict.ntsRequests).reserved = true ∧ s.dev.buckets = [] ∧ 1 ≤ s.dev.get Dict.ntpRateBurst ∧ 0 < s.dev.get Dict.ntpStratum ∧ Dev.ntsFormOk m = true ∧ (s.begin (s.arrival m.base.rx)).stopped m.base.rx.port (s.dev.get (Dict.portPcp m.base.rx.port)) = false ∧ s.dev.cookieSlot (ofOctets (((m.cookies.headD []).drop 2).take 2)) = some slot ∧ s.dev.nodeUsable (0x8000 + slot) = true ∧ bit (s.dev.nodeUse (0x8000 + slot)).2.1 5 = true ∧ bit (s.dev.nodeUse (0x8000 + slot)).2.1 4 = true ∧ (s.dev.nodeUse (0x8000 + slot)).2.2.1 = 0 ∧ s.dev.get Dict.ntsSlotCurrent = slot ∧ slot < 1024 ∧ s.dev.nodeMaterial (0x8000 + slot) = material ∧ Dev.openCookie material (m.cookies.headD []) = some (c2s,
    s2c) ∧ sivOpen c2s [m.covered, m.nonce] m.sealedPart = some p) :=
  ⟨⟨mk ([(Dict.lifeCycleState, 2), (Dict.deviceState, 3), (Dict.outputsPermitted, 1), (Dict.startServiceHoldActive, 0), (Dict.hmacLanesInService,
   32), (Dict.aesLanesInService, 16), (Dict.sysClockSource, 1), (Dict.opActive, 2), (Hid.protoFrame,
   0)] ++ (List.range 8).map (fun i => (Dict.instEnable i, 0)) ++ (List.range 6).flatMap (fun q => (List.range 8).map fun k => (Hid.pauseUntil q k,
   0)) ++ [(Dict.instEnable 7, 1), (Dict.instPortMask 7, 32), (Dict.instDomain 7, 24), (Dict.instTransport 7, 0), (Dict.instAuthMode 7, 0),
   (Dict.portState 5, 3), (Dict.portPcp 5, 6)] ++ [(Dict.ntpEnable, 1), (Dict.ntpPortMask, 32), (Dict.svcIpv4Address 5, 0x0A000005),
   (Dict.ntpAllowPlain, 1), (Dict.ntpRateBurst, 1), (Dict.ntpStratum, 1), (Dict.ntpRateLimit, 5)]), ⟨⟨5, 0, 2 ^ 60, 0, 0xAB⟩, 4,
   0xFFFF * 2 ^ 32 + 0x0A000099, 0xFFFF * 2 ^ 32 + 0x0A000005, 3, 3, 6, 12345⟩, by decide +kernel⟩,
   ⟨mk ([(Dict.lifeCycleState, 2), (Dict.deviceState, 3), (Dict.outputsPermitted, 1), (Dict.startServiceHoldActive, 0), (Dict.hmacLanesInService,
   32), (Dict.aesLanesInService, 16), (Dict.sysClockSource, 1), (Dict.opActive, 2), (Hid.protoFrame,
   0)] ++ (List.range 8).map (fun i => (Dict.instEnable i, 0)) ++ (List.range 6).flatMap (fun q => (List.range 8).map fun k => (Hid.pauseUntil q k,
   0)) ++ [(Dict.instEnable 7, 1), (Dict.instPortMask 7, 32), (Dict.instDomain 7, 24), (Dict.instTransport 7, 0), (Dict.instAuthMode 7, 0),
   (Dict.portState 5, 3), (Dict.portPcp 5, 6)] ++ [(Dict.ntpEnable, 1), (Dict.ntpPortMask, 32), (Dict.svcIpv4Address 5, 0x0A000005),
   (Dict.ntpAllowPlain, 1), (Dict.ntpRateBurst, 1), (Dict.ntpStratum, 1), (Dict.ntpRateLimit, 5), (Dict.ntsEnable, 1), (Dict.ntsSlotCurrent, 8),
   (Dict.ntsKeyIdCurrent, 3), (Dev.specEntry 8,
   4 * 256 ^ 95 + 0x30 * 256 ^ 94 + 9 * 256 ^ 92 + 3 * 256 ^ 90)]) (fun d => { d with keys := [⟨9, 2, 1, 1, 5, 0, 0, 0, 0, 0, 0, 55, 0⟩], slots := [⟨8, 2, 0, 1, 1, 0, 0, 0, 99, [], 0⟩] }),
   ⟨⟨⟨5, 0, 2 ^ 60, 0, 0xAB⟩, 4, 0xFFFF * 2 ^ 32 + 0x0A000099, 0xFFFF * 2 ^ 32 + 0x0A000005, 4, 3, 6, 12345⟩, [List.replicate 32 1], [cookie], [104,
   104], true, (List.replicate 48 5), List.replicate 16 3, sivSeal 1111 [(List.replicate 48 5), List.replicate 16 3] [], false⟩, 8, 99, 1111, 2222, [],
   by
      iterate 20 refine .intro (by decide +kernel) ?_
      exact ⟨cookie_opens, sivOpen_sivSeal 1111 [List.replicate 48 5, List.replicate 16 3] []⟩⟩⟩

theorem met_NrefFollowsItsMaster :
    (∃ (s : State) (n : Nat) (m : PtpRx) (u : UnicastTlv), s.serves .net = true ∧ s.dev.powered .proto = true ∧ s.dev.fromMaster n m = true ∧
    32 ≤ s.dev.get (Dict.nrefSa n) ∧ s.dev.get (Dict.nrefState n) = 2 ∧ (u.type = 11 ∨ u.type = 9) ∧ 0 < u.duration) ∧
    (∃ (s : State) (n : Nat), n < 2 ∧ s.serves .proto = true ∧ s.dev.get (Dict.nrefState n) = 1 ∧
    (s.dev.nrefRun n).since + 4 * secondUnits ≤ s.anyInstant) ∧
    (∃ (s : State) (n : Nat), n < 2 ∧ s.serves .proto = true ∧ s.dev.get (Dict.nrefState n) = 3 ∧
    (s.dev.nrefRun n).since + 8 * secondUnits ≤ s.anyInstant) ∧
    (∃ (s : State) (n : Nat) (p : Nat × Int) (g : Nat × Int × Nat × Nat), n < 2 ∧ s.serves .proto = true ∧ s.dev.get (Dict.nrefState n) = 2 ∧
    p ∈ s.dev.nrefWanted n ∧ ((s.dev.nrefRun n).grants.find? fun x => x.1 == p.1) = some g ∧ (s.dev.nrefRun n).renewed.contains p.1 = false ∧
    g.2.2.2 ≤ 2 * (s.start / secondUnits - g.2.2.1)) ∧
    (∃ (s : State) (n : Nat) (type : Nat) (g : Nat × Int × Nat × Nat), n < 2 ∧ s.serves .proto = true ∧ s.dev.get (Dict.nrefState n) = 2 ∧
    ((s.dev.nrefRun n).grants.find? fun x => x.1 == type) = some g) ∧
    (∃ (s : State) (n : Nat) (m : PtpRx) (_twoStep : Bool) (_t1 : Nat), s.serves .net = true ∧ s.dev.powered .proto = true ∧
    s.dev.fromMaster n m = true ∧ 32 ≤ s.dev.get (Dict.nrefSa n) ∧ s.dev.get (Dict.nrefState n) = 2 ∧ s.dev.is (Dict.refRequireAuth (14 + n)) = false) ∧
    (∃ (s : State) (n : Nat) (m : PtpRx) (t3 : Nat) (_t4 : Nat) (y : NrefSync), s.serves .net = true ∧ s.dev.powered .proto = true ∧
    s.dev.fromMaster n m = true ∧ 32 ≤ s.dev.get (Dict.nrefSa n) ∧ s.dev.get (Dict.nrefState n) = 2 ∧ s.dev.get (Dict.nrefBoundSource n) ≠ 0 ∧
    ((s.dev.nrefRun n).requests.find? fun p => p.1 == m.sequence) = some (m.sequence, t3) ∧
    ((s.dev.nrefRun n).syncs.find? fun z => !z.waiting && decide (z.t2 < t3)) = some y) ∧
    (∃ (s : State) (n : Nat) (m : PtpRx) (a : AnnounceRx), s.serves .net = true ∧ s.dev.powered .proto = true ∧ s.dev.fromMaster n m = true ∧
    32 ≤ s.dev.get (Dict.nrefSa n) ∧ s.dev.get (Dict.nrefState n) = 2 ∧ a.clockClass < 256) :=
  ⟨⟨mk [(Dict.nrefPort 1, 5), (Dict.nrefTransport 1, 0), (Dict.nrefDomain 1, 24), (Dict.nrefMasterAddress 1, 0xAB), (Dict.nrefSa 1, 0xFF),
   (Dict.nrefState 1, 2)] (fun d => { d with nrefs := [⟨1, 1, [(9, 0, 4, 300)], [], [], [], false, none⟩] }), 1, ⟨⟨5, 0, 2 ^ 60, 0, 0xAB⟩, 0, 0xAB,
   0, true, 24, 0x1234, 77, 500, [], none⟩, ⟨11, 1, 300⟩, by decide +kernel⟩,
   ⟨mkLast [(Dict.nrefPort 1, 5), (Dict.nrefTransport 1, 0), (Dict.nrefDomain 1, 24), (Dict.nrefMasterAddress 1, 0xAB), (Dict.nrefSa 1, 0xFF),
   (Dict.nrefState 1, 1)] (fun d => { d with nrefs := [⟨1, secondUnits, [(11, 1, 4, 300)], [], [], [], false, none⟩] }), 1,
   by rw [mkLast_anyInstant]; decide +kernel⟩,
   ⟨mkAt (8 * secondUnits) [(Dict.nrefPort 1, 5), (Dict.nrefTransport 1, 0), (Dict.nrefDomain 1, 24), (Dict.nrefMasterAddress 1, 0xAB),
   (Dict.nrefSa 1, 0xFF), (Dict.nrefState 1, 3)] (fun d => { d with nrefs := [⟨1, 0, [], [], [], [], false, none⟩] }), 1, ⟨by decide +kernel,
   by decide +kernel, by decide +kernel, Nat.le_trans (by decide +kernel) (State.start_le_anyInstant _)⟩⟩,
   ⟨mk [(Dict.nrefPort 1, 5), (Dict.nrefTransport 1, 0), (Dict.nrefDomain 1, 24), (Dict.nrefMasterAddress 1, 0xAB), (Dict.nrefSa 1, 0xFF),
   (Dict.nrefState 1, 2), (Dict.nrefLogSync 1, 0)] (fun d => { d with nrefs := [⟨1, 1, [(0, 0, 1, 8)], [], [], [], false, none⟩] }), 1, (0, 0), (0,
   0, 1, 8), by decide +kernel⟩,
   ⟨mk [(Dict.nrefPort 1, 5), (Dict.nrefTransport 1, 0), (Dict.nrefDomain 1, 24), (Dict.nrefMasterAddress 1, 0xAB), (Dict.nrefSa 1, 0xFF),
   (Dict.nrefState 1, 2)] (fun d => { d with nrefs := [⟨1, 1, [(0, 0, 1, 8)], [], [], [], false, none⟩] }), 1, 0, (0, 0, 1, 8), by decide +kernel⟩,
   ⟨mk [(Dict.nrefPort 1, 5), (Dict.nrefTransport 1, 0), (Dict.nrefDomain 1, 24), (Dict.nrefMasterAddress 1, 0xAB), (Dict.nrefSa 1, 0xFF),
   (Dict.nrefState 1, 2), (Dict.refRequireAuth 15, 0)] (fun d => { d with nrefs := [⟨1, 1, [], [], [], [], false, none⟩] }), 1, ⟨⟨5, 0, 2 ^ 60, 0,
   0xAB⟩, 0, 0xAB, 0, true, 24, 0x1234, 77, 500, [], none⟩, false, 5 * secondUnits, by decide +kernel⟩,
   ⟨mk [(Dict.nrefPort 1, 5), (Dict.nrefTransport 1, 0), (Dict.nrefDomain 1, 24), (Dict.nrefMasterAddress 1, 0xAB), (Dict.nrefSa 1, 0xFF),
   (Dict.nrefState 1, 2), (Dict.nrefBoundSource 1,
   1)] (fun d => { d with nrefs := [⟨1, 1, [], [], [⟨5, 327800000000000, 327700000000000, 7, false, false⟩], [(77, 327900000000000)], false, none⟩] }),
   1, ⟨⟨5, 0, 2 ^ 60, 0, 0xAB⟩, 0, 0xAB, 0, true, 24, 0x1234, 77, 500, [], none⟩, 327900000000000, 327990000000000, ⟨5, 327800000000000,
   327700000000000, 7, false, false⟩, by decide +kernel⟩,
   ⟨mk [(Dict.nrefPort 1, 5), (Dict.nrefTransport 1, 0), (Dict.nrefDomain 1, 24), (Dict.nrefMasterAddress 1, 0xAB), (Dict.nrefSa 1, 0xFF),
   (Dict.nrefState 1, 2)] (fun d => { d with nrefs := [⟨1, 1, [], [], [], [], false, none⟩] }), 1, ⟨⟨5, 0, 2 ^ 60, 0, 0xAB⟩, 0, 0xAB, 0, true, 24,
   0x1234, 77, 500, [], none⟩, ⟨6, 0x21, 37, true, false, false⟩, by decide +kernel⟩⟩

theorem met_KeeperRolesChangeAndAreAnnounced :
    (∃ (s : State) (_high : Bool) (_inverse : Bool), s.serves .time = true ∧ s.dev.peerBeat 2 = none) ∧
    (∃ (s : State), s.serves .time = true ∧ s.dev.get Dict.keeperRole = 2 ∧ s.dev.get Dict.keeperMissLimit ≤ s.dev.get Dict.keeperMissedCount ∧ s.dev.get
    Dict.keeperInterlockIn = 0 ∧ s.dev.is Hid.peerSeen = true ∧ (max (s.dev.get Dict.keeperInnings) (s.dev.get Dict.keeperPeerInnings) + 1) < 2 ^ 32) ∧
    (∃ (s : State), s.serves .time = true ∧ s.dev.get Dict.keeperRole = 2 ∧ s.dev.get Dict.keeperStartWait ≤ s.met.serviceSeconds ∧ s.dev.get
    Dict.keeperInterlockIn = 0 ∧ s.dev.is Hid.peerSeen = false ∧ (max (s.dev.get Dict.keeperInnings) (s.dev.get Dict.keeperPeerInnings) + 1) < 2 ^ 32) ∧
    (∃ (s : State), s.serves .time = true ∧ s.dev.get Dict.keeperRole = 1 ∧ s.dev.get Dict.keeperHandOverState = 2 ∧ s.dev.get Hid.handOverAt ≤ s.start +
    frameUnits ∧ s.dev.get Hid.handOverAt ≤ s.clock.boundary + 4000 * unitsPerNs) ∧
    (∃ (s : State), s.serves .time = true ∧ s.dev.get Dict.keeperRole = 2 ∧ s.dev.get Dict.keeperHandOverState = 2 ∧ s.dev.get Hid.handOverAt ≤ s.start +
    frameUnits ∧ s.dev.get Hid.handOverAt ≤ s.clock.boundary ∧ s.dev.get Dict.keeperInterlockIn = 0 ∧ (max (s.dev.get Dict.keeperInnings) (s.dev.get
    Dict.keeperPeerInnings) + 1) < 2 ^ 32) ∧
    (∃ (s : State), s.serves .time = true ∧ s.dev.get Dict.keeperRole = 1 ∧ s.dev.get Dict.keeperHandOverState = 1 ∧ s.dev.get Hid.handOverFrame + 3 ≤
    s.clock.frames ∧ s.dev.get Hid.handOverSource = 0) ∧
    (∃ (s : State), s.serves .time = true ∧ s.dev.reverting = true ∧ s.dev.get Dict.keeperHandOverState = 0 ∧ s.dev.get Dict.keeperRevertHold *
    framesPerSecond ≤ s.dev.get Hid.readyFrames) ∧
    (∃ (s : State) (h : Head) (v : Value) (x : Session), s.admits h [Dict.keeperSwitchover.item v] x = true) ∧
    (∃ (s : State) (h : Head) (v : Value) (x : Session), s.admits h [Dict.keeperRejoin.item v] x = true) ∧
    (∃ (s : State), s.serves .net = true ∧ s.dev.get Dict.keeperRole = 1 ∧ 0 < s.dev.get Hid.announceLeft ∧ s.dev.get Hid.announceLeft < 256 ∧ s.dev.get
    Hid.announceDue ≤ s.clock.frames ∧ (∀ q < 6, s.met.stopped q (s.dev.get (Dict.portPcp q)) = false)) :=
  ⟨⟨mk [], true, true, by decide +kernel⟩,
   ⟨mk [(Dict.keeperRole, 2), (Dict.keeperMissLimit, 4), (Dict.keeperMissedCount, 4), (Hid.peerSeen, 1), (Dict.keeperInnings, 6),
   (Dict.keeperPeerInnings, 9), (Dict.keeperMode, 1), (Dict.keeperInterlockIn, 0)], by decide +kernel⟩,
   ⟨mk [(Dict.keeperRole, 2), (Dict.keeperStartWait, 2), (Hid.serviceFrame, 100), (Hid.peerSeen, 0), (Dict.keeperInnings, 6),
   (Dict.keeperPeerInnings, 9), (Dict.keeperMode, 1), (Dict.keeperInterlockIn, 0)], by decide +kernel⟩,
   ⟨mk [(Dict.keeperRole, 1), (Dict.keeperHandOverState, 2), (Hid.handOverAt, 5 * secondUnits + 4 * frameUnits), (Hid.handOverCause, 3),
   (Dict.keeperInnings, 6), (Dict.keeperPeerInnings, 9), (Dict.keeperMode, 1), (Dict.keeperInterlockIn, 0)], by decide +kernel⟩,
   ⟨mk [(Dict.keeperRole, 2), (Dict.keeperHandOverState, 2), (Hid.handOverAt, 5 * secondUnits + 4 * frameUnits), (Dict.keeperInnings, 6),
   (Dict.keeperPeerInnings, 9), (Dict.keeperMode, 1), (Dict.keeperInterlockIn, 0)], by decide +kernel⟩,
   ⟨mk [(Dict.keeperRole, 1), (Dict.keeperHandOverState, 1), (Hid.handOverFrame, 20481), (Hid.handOverSource, 0), (Dict.keeperInnings, 6),
   (Dict.keeperPeerInnings, 9), (Dict.keeperMode, 1), (Dict.keeperInterlockIn, 0)], by decide +kernel⟩,
   ⟨mk [(Dict.keeperRole, 1), (Dict.keeperRevertive, 1), (Dict.keeperStandbyReady, 1), (Dict.keeperPreferred, 0), (Dict.keeperHandOverState, 0),
   (Dict.keeperRevertHold, 5), (Hid.readyFrames,
   20480)] (fun d => { d with peers := [⟨2, ⟨2, 0, 2 ^ 14, 0, 0, 0, 0, 0, 0, 0, 0, 0, 0, 0, 0, 0, 0, 0, 0, 0, 0⟩, false, 20483⟩] }),
   by decide +kernel⟩,
   ⟨mk [(Dict.lifeCycleState, 2), (Dict.keeperStandbyReady, 1), (Dict.keeperRole, 1)] open1, host (.write [Dict.keeperSwitchover.item ⟨1, 1⟩]), ⟨1,
   1⟩, sess, by decide +kernel⟩,
   ⟨mk [(Dict.lifeCycleState, 2), (Dict.keeperRole, 3)] open1, host (.write [Dict.keeperRejoin.item ⟨1, 1⟩]), ⟨1, 1⟩, sess, by decide +kernel⟩,
   ⟨mkLast [(Dict.portState 5, 3), (Dict.keeperRole, 1), (Hid.announceLeft, 255), (Hid.announceDue, 20484), (Dict.svcIpv4Address 5, 9)],
   by rw [mkLast_met]; decide +kernel⟩⟩

theorem met_SkovwinPortsFollowTheLink :
    (∃ (s : State) (p : SkPacket) (_b : Beat), p.port < 3 ∧ p.sequence < 2 ^ 32 ∧ s.serves .net = true ∧
    (s.dev.get (Dict.skState p.port) = 2 ∨ s.dev.get (Dict.skState p.port) = 3) ∧ p.crcOk = true ∧
    (s.dev.get (Hid.skSequence p.port) = 0 ∨ s.dev.get (Hid.skSequence p.port) < p.sequence + 1) ∧ s.dev.is Dict.skAuthRequired = false) ∧
    (∃ (s : State) (p : SkPacket) (_b : Beat), p.port < 3 ∧ s.serves .net = true ∧
    (s.dev.get (Dict.skState p.port) = 2 ∨ s.dev.get (Dict.skState p.port) = 3) ∧ p.crcOk = false) ∧
    (∃ (s : State) (p : SkPacket) (_x : Replication), p.port = 2 ∧ p.sequence < 2 ^ 32 ∧ s.serves .net = true ∧
    (s.dev.get (Dict.skState 2) = 2 ∨ s.dev.get (Dict.skState 2) = 3) ∧ p.crcOk = true ∧
    (s.dev.get (Hid.skSequence 2) = 0 ∨ s.dev.get (Hid.skSequence 2) < p.sequence + 1) ∧ s.dev.is Dict.skAuthRequired = false) ∧
    (∃ (s : State) (m : Nat) (l : LaneDelays) (_distribution : Int), m < 3 ∧ s.serves .net = true ∧ s.dev.get (Dict.skState m) = 1 ∧
    s.dev.skCheck m (some l) = 0) ∧
    (∃ (s : State) (m : Nat), m < 3 ∧ s.serves .net = true ∧ s.dev.get (Dict.skState m) = 2 ∧ 64 ≤ s.dev.get (Hid.skValidRun m)) ∧
    (∃ (s : State) (m : Nat), m < 3 ∧ s.serves .net = true ∧ s.dev.get (Dict.skState m) = 3) ∧
    (∃ (s : State) (h : Head) (m : Nat) (v : Value) (x : Session), m < 3 ∧ s.admits h [(Dict.skFaultClear m).item v] x = true) ∧
    (∃ (s : State) (h : Head) (m : Nat) (v : Value) (x : Session), m < 3 ∧ s.admits h [(Dict.skRelease m).item v] x = true) :=
  ⟨⟨mk [(Dict.skState 2, 3), (Hid.skSequence 2, 10), (Dict.skAuthRequired, 0)], ⟨2, true, 10, 0⟩, ⟨2, 0, 2 ^ 14, 0, 0, 0, 0, 0, 0, 0, 0, 0, 0, 0, 0,
   0, 0, 0, 0, 0, 0⟩, by decide +kernel⟩,
   ⟨mk [(Dict.skState 2, 3)], ⟨2, false, 10, 0⟩, ⟨2, 0, 2 ^ 14, 0, 0, 0, 0, 0, 0, 0, 0, 0, 0, 0, 0, 0, 0, 0, 0, 0, 0⟩, by decide +kernel⟩,
   ⟨mk [(Dict.skState 2, 3), (Hid.skSequence 2, 10), (Dict.skAuthRequired, 0)], ⟨2, true, 10, 0⟩, ⟨5, 0, true, [⟨1, 2, 3⟩]⟩, by decide +kernel⟩,
   ⟨mk [(Dict.skState 2, 1), (Dict.pctStateEast, 1), (Dict.portCalFactoryLimit, 0xFFFFFFFF)], 2, ⟨1000000, 1000000, 5000, 5000⟩, 0, by decide +kernel⟩,
   ⟨mk [(Dict.skState 2, 2), (Hid.skValidRun 2, 64)], 2, by decide +kernel⟩,
   ⟨mk [(Dict.skState 2, 3), (Dict.keeperRole, 0)], 2, by decide +kernel⟩,
   ⟨mk [(Dict.lifeCycleState, 2), (Dict.skState 2, 4)] open1, host (.write [(Dict.skFaultClear 2).item ⟨1, 1⟩]), 2, ⟨1, 1⟩, sess, by decide +kernel⟩,
   ⟨mk [(Dict.lifeCycleState, 2), (Dict.skState 2, 5)] open1, host (.write [(Dict.skRelease 2).item ⟨1, 1⟩]), 2, ⟨1, 1⟩, sess, by decide +kernel⟩⟩

theorem met_ResetsReachTheirDomains :
    (∃ (s : State), s.dev.get Hid.bootPhase ≠ 0) ∧
    (∃ (s : State), s.dev.get Hid.bootPhase ≠ 0) ∧
    (∃ (s : State), s.dev.get Hid.bootPhase ≠ 0 ∧ s.dev.get Hid.resetRequest ≠ 0 ∧ s.dev.get Hid.resetAhead = 0) ∧
    (∃ (s : State), s.dev.get Hid.bootPhase = 5) ∧
    (∃ (s : State), s.dev.get Hid.bootPhase = 0) ∧
    (∃ (s : State) (_ns : Nat), s.dev.get Hid.bootPhase = 6) :=
  ⟨⟨mk [(Hid.bootPhase, 5), (Dict.keeperInnings, 6)] open1, by decide +kernel⟩,
   ⟨mk [(Hid.bootPhase, 5), (Dict.keeperInnings, 6)] open1, by decide +kernel⟩,
   ⟨mk [(Hid.bootPhase, 5), (Hid.resetRequest, 2)] open1, by decide +kernel⟩,
   ⟨mk [(Hid.bootPhase, 5)] open1, by decide +kernel⟩,
   ⟨mk [(Hid.bootPhase, 0), (Dict.lastResetCause, 4)], by decide +kernel⟩,
   ⟨mk [(Hid.bootPhase, 6)] open1, 5000, by decide +kernel⟩⟩

theorem met_StartReachesTimeService :
    (∃ (s : State) (x : Nat), s.dev.powerNext (Domain.ofBit x) = true) ∧
    (∃ (s : State) (r : TestResults), s.dev.get Hid.bootPhase = 1 ∧ (switchedDomains.any fun x => !s.dev.powered x && !s.dev.isolated x) = false ∧
    s.dev.is Hid.bootCounted = false ∧ s.dev.shutRecords = [] ∧ r.failed = []) ∧
    (∃ (s : State), s.dev.get Dict.dramState = 1 ∧ s.dev.get (Hid.trainFails 0) < 2 ∧ s.dev.get (Hid.trainFails 1) < 2) ∧
    (∃ (s : State), s.dev.get Dict.dramState = 1 ∧ s.dev.get (Hid.trainFails 0) < 2 ∧ s.dev.get (Hid.trainFails 1) < 2) ∧
    (∃ (s : State) (micros : Nat), s.dev.fillEnds = true ∧ s.dev.isolated .mem = false ∧ s.dev.get Hid.bootPhase = 2 ∧ micros < 2 ^ 32) ∧
    (∃ (s : State), s.dev.get Hid.bootPhase = 3 ∧ s.dev.is Hid.bootCounted = false) ∧
    (∃ (s : State) (_micros : Nat) (_ns : Nat), s.dev.get Hid.bootPhase = 4 ∧ s.dev.powered .time = true) ∧
    (∃ (s : State) (h : Head) (x : Session), s.admits h [Dict.powerStateRequest.item ⟨1, 0⟩] x = true) ∧
    (∃ (s : State) (h : Head) (x : Session), s.admits h [Dict.powerStateRequest.item ⟨1, 1⟩] x = true) ∧
    (∃ (s : State) (h : Head) (x : Session), s.admits h [Dict.powerStateRequest.item ⟨1, 2⟩] x = true) ∧
    (∃ (s : State) (h : Head) (v : Value) (x : Session), s.admits h [Dict.startServiceRelease.item v] x = true) :=
  ⟨⟨mk [(Hid.bootPhase, 1), (Hid.poweredDomains, 0), (Dict.isolatedDomains, 0)], 7, by decide +kernel⟩,
   ⟨mk [(Hid.bootPhase, 1), (Hid.bootCounted, 0)], ⟨[], [], 123456⟩, by decide +kernel⟩,
   ⟨mk [(Dict.dramState, 1), (Hid.trainFails 0, 1), (Hid.trainFails 1, 0)], by decide +kernel⟩,
   ⟨mk [(Dict.dramState, 1), (Hid.trainFails 0, 1), (Hid.trainFails 1, 0)], by decide +kernel⟩,
   ⟨mk [(Dict.fillState, 1), (Hid.bootPhase, 2), (Dict.dramState, 2), (Dict.isolatedDomains, 0)], 2 ^ 32 - 1, by decide +kernel⟩,
   ⟨mk [(Hid.bootPhase, 3), (Hid.bootCounted, 0)], by decide +kernel⟩,
   ⟨mk [(Hid.bootPhase, 4), (Dict.coarseUncertainty, 0xFFFFFFFFFFFFFFFF), (Hid.coarse, 5 * secondUnits)], 100, 5000, by decide +kernel⟩,
   ⟨mk [(Dict.lifeCycleState, 2), (Dict.deviceState, 1), (Dict.lowPowerState, 1), (Dict.keeperMode, 0), (Dict.keeperRole, 0)] open1,
   host (.write [Dict.powerStateRequest.item ⟨1, 0⟩]), sess, by decide +kernel⟩,
   ⟨mk [(Dict.lifeCycleState, 2), (Dict.deviceState, 1), (Dict.lowPowerState, 0), (Dict.keeperMode, 0), (Dict.keeperRole, 0)] open1,
   host (.write [Dict.powerStateRequest.item ⟨1, 1⟩]), sess, by decide +kernel⟩,
   ⟨mk [(Dict.lifeCycleState, 2), (Dict.deviceState, 1), (Dict.lowPowerState, 0), (Dict.keeperMode, 0), (Dict.keeperRole, 0)] open1,
   host (.write [Dict.powerStateRequest.item ⟨1, 2⟩]), sess, by decide +kernel⟩,
   ⟨mk [(Dict.lifeCycleState, 2), (Dict.startServiceHoldActive, 1)] open1, host (.write [Dict.startServiceRelease.item ⟨1, 1⟩]), ⟨1, 1⟩, sess,
   by decide +kernel⟩⟩

theorem met_PowerFollowsItsSupplies :
    (∃ (s : State), s.dev.get Dict.sysClockSource ≠ 0 ∧ (s.dev.get Dict.opActive) < 2 ∧ s.dev.passHeld ((s.dev.get Dict.opActive) + 1) = true ∧ s.dev.get
    Hid.opCommanded ≤ (s.dev.get Dict.opActive) ∧ (s.dev.get Dict.opActive) < s.dev.targetPoint) ∧
    (∃ (s : State), s.dev.get Dict.sysClockSource ≠ 0 ∧ (s.dev.get Dict.opActive) < 2 ∧ s.dev.passHeld ((s.dev.get Dict.opActive) + 1) = true ∧ (s.dev.get
    Dict.opActive) < s.dev.get Hid.opCommanded ∧ s.dev.get Hid.opCommandFrame < s.clock.frames ∧ s.dev.voltageReached ((s.dev.get Dict.opActive) + 1)
    = true ∧ s.dev.get Hid.opStepFrame ≠ s.clock.frames + 1) ∧
    (∃ (s : State) (_rail : Nat), s.dev.get Dict.opActive < s.dev.get Hid.opCommanded ∧ 2 ≤ s.met.framesSince (s.dev.get Hid.opCommandFrame)) ∧
    (∃ (s : State), 1 ≤ (s.dev.get Dict.opActive) ∧ (s.dev.get Dict.opActive) ≤ 2 ∧ s.dev.passHeld (s.dev.get Dict.opActive) = false ∧ s.dev.get
    Hid.opCommanded = (s.dev.get Dict.opActive) ∧ s.dev.get (Dict.railVoltage 2) ≤ opVoltage (s.dev.get Dict.opActive) + 10000 ∧ s.dev.get
    (Dict.railVoltage 3) ≤ opVoltage (s.dev.get Dict.opActive) + 10000 ∧ s.dev.get Hid.opStepFrame ≠ s.clock.frames + 1) ∧
    (∃ (s : State), (s.dev.get Dict.opActive) < s.dev.get Hid.opCommanded ∧ s.dev.passHeld ((s.dev.get Dict.opActive) + 1) = false) ∧
    (∃ (s : State) (r : Nat) (_lowest : Nat), r < 11 ∧ s.dev.railMasked r = false ∧ s.dev.is Dict.supplyEpisodeActive = false) ∧
    (∃ (s : State), s.dev.is Dict.supplyEpisodeActive = true) ∧
    (∃ (s : State), s.dev.is Dict.supplyEpisodeActive = false ∧ 8 ≤ s.met.framesSince (s.dev.get Hid.episodeEndFrame)) ∧
    (∃ (s : State), 4096 ≤ s.dev.get Hid.coolFrames) ∧
    (∃ (s : State) (h : Head) (v : Value) (x : Session), s.admits h [Dict.supplyStatsClear.item v] x = true) :=
  ⟨⟨mk [(Dict.sysClockSource, 1), (Dict.passGranted, 6), (Dict.opMode, 0), (Dict.opTarget, 2), (Dict.shutdownState, 0), (Dict.opActive, 1),
   (Hid.opCommanded, 1)], by decide +kernel⟩,
   ⟨mk [(Dict.sysClockSource, 1), (Dict.passGranted, 6), (Dict.opMode, 0), (Dict.opTarget, 2), (Dict.shutdownState, 0), (Dict.opActive, 1),
   (Hid.opCommanded, 2), (Hid.opCommandFrame, 100), (Dict.railVoltage 2, 840000), (Dict.railVoltage 3, 850000)], by decide +kernel⟩,
   ⟨mk [(Dict.opActive, 1), (Hid.opCommanded, 2), (Hid.opCommandFrame, 20482)], 2, by decide +kernel⟩,
   ⟨mk [(Dict.opActive, 2), (Hid.opCommanded, 2), (Dict.passGranted, 0), (Dict.railVoltage 2, 860000),
   (Dict.railVoltage 3, 860000)], by decide +kernel⟩,
   ⟨mk [(Dict.opActive, 1), (Hid.opCommanded, 2), (Dict.passGranted, 2)], by decide +kernel⟩,
   ⟨mk [(Dict.supplyEpisodeActive, 0)], 0, 700000, by decide +kernel⟩,
   ⟨mk [(Dict.supplyEpisodeActive, 1), (Dict.supplyEpisodeStart, toTime96 (4 * secondUnits))], by decide +kernel⟩,
   ⟨mk [(Dict.supplyEpisodeActive, 0), (Hid.episodeEndFrame, 20476)], by decide +kernel⟩,
   ⟨mk [(Hid.coolFrames, 4096)], by decide +kernel⟩,
   ⟨mk [(Dict.lifeCycleState, 2)] open1, host (.write [Dict.supplyStatsClear.item ⟨1, 1⟩]), ⟨1, 1⟩, sess, by decide +kernel⟩⟩

theorem met_ClockSourcesChangeState :
    (∃ (s : State) (estimate : Nat), s.met.xoMayQualify estimate = true ∧ estimate < 2 ^ 32) ∧
    (∃ (s : State), s.dev.get Dict.xoState ≠ 4) ∧
    (∃ (s : State), s.dev.get Dict.xoState = 4 ∧ s.met.sinceMark (s.dev.get Hid.xoFailMark) framesPerSecond = true) ∧
    (∃ (s : State), s.dev.get Dict.xoState = 3 ∧ s.dev.get Dict.sysClockSource = 0 ∧ s.met.sinceMark (s.dev.get Hid.spllMark) 64 = true) ∧
    (∃ (s : State), s.dev.get Dict.sysClockSource ≠ 0) ∧
    (∃ (s : State), s.dev.get Dict.moscState ≠ 2 ∧ 3 ≤ s.dev.get Dict.xoState ∧ s.met.sinceMark (s.dev.get Hid.moscBreak) (s.dev.get Dict.moscQualifyTime *
    framesPerSecond) = true) ∧
    (∃ (s : State) (cause : Nat), 1 ≤ cause ∧ cause ≤ 3 ∧ (s.dev.get Dict.moscState = 1 ∨ s.dev.get Dict.moscState = 2) ∧ (cause = 3 → s.dev.onMosc = true)) ∧
    (∃ (s : State) (h : Head) (v : Value) (x : Session), s.admits h [Dict.moscReturn.item v] x = true) ∧
    (∃ (_s : State) (mux : Nat), mux < 256) :=
  ⟨⟨mk [(Dict.xoState, 1), (Dict.xoNominalFrequency, 20000000)], 20100000, by decide +kernel⟩,
   ⟨mk [(Dict.xoState, 3)], by decide +kernel⟩,
   ⟨mk [(Dict.xoState, 4)], by decide +kernel⟩,
   ⟨mk [(Dict.xoState, 3), (Dict.sysClockSource, 0)], by decide +kernel⟩,
   ⟨mk [(Dict.sysClockSource, 1), (Dict.opActive, 2), (Dict.passGranted, 6)], by decide +kernel⟩,
   ⟨mk [(Dict.moscState, 1), (Dict.xoState, 3)], by decide +kernel⟩,
   ⟨mk [(Dict.moscState, 2)], 1, by decide +kernel⟩,
   ⟨mk [(Dict.lifeCycleState, 2), (Dict.apll0State, 2), (Dict.apll0Source, 2), (Dict.moscState, 2)] open1, host (.write [Dict.moscReturn.item ⟨1,
   1⟩]), ⟨1, 1⟩, sess, by decide +kernel⟩,
   ⟨mk [], 255, by decide +kernel⟩⟩

theorem met_RefereeConfirmsAndReacts :
    (∃ (s : State) (n : Nat) (hardware : Nat), (n < 36 ∨ 47 < n) ∧ n ≤ 127 ∧ s.met.masked n = false ∧ s.dev.is (Hid.evtArmed n) = true ∧ s.dev.get
    Dict.refereeSequence < 0xFFFFFFFF ∧ ((s.dev.posted.find? fun p => p.source == n).getD ⟨n, hardware, false, false, true⟩).railFault = false ∧
    ((s.dev.posted.find? fun p => p.source == n).getD ⟨n, hardware, false, false, true⟩).injected = false ∧ ((s.dev.posted.find? fun p => p.source ==
    n).getD ⟨n, hardware, false, false, true⟩).act = true ∧ s.dev.get (Dict.evtSeverity n) = 1 ∧ s.dev.windows = []) ∧
    (∃ (s : State) (n : Nat) (hardware : Nat), (n < 36 ∨ 47 < n) ∧ n ≤ 127 ∧ s.met.masked n = false ∧ s.dev.is (Hid.evtArmed n) = true ∧ s.dev.get
    Dict.refereeSequence < 0xFFFFFFFF ∧ ((s.dev.posted.find? fun p => p.source == n).getD ⟨n, hardware, false, false, true⟩).railFault = false ∧
    ((s.dev.posted.find? fun p => p.source == n).getD ⟨n, hardware, false, false, true⟩).injected = false ∧ ((s.dev.posted.find? fun p => p.source ==
    n).getD ⟨n, hardware, false, false, true⟩).act = true ∧ s.dev.get (Dict.evtSeverity n) = 4) ∧
    (∃ (s : State) (n : Nat) (_levels : Nat), n < 126 ∧ Dev.defined n = true ∧ s.met.masked n = false ∧ s.dev.get (Dict.evtRailState n) ≠ 2 ∧ s.dev.get
    (Dict.evtSeverity n) ≤ 1 ∧ s.dev.get (Dict.evtSeverity 126) ≤ 1) ∧
    (∃ (s : State) (n : Nat), n < 128 ∧ s.dev.get (Dict.evtRailState n) = 2) ∧
    (∃ (s : State) (n : Nat), n < 128 ∧ s.dev.get (Dict.evtRailState n) = 1) ∧
    (∃ (s : State) (x : Nat), s.dev.isolated (Domain.ofBit x) = true ∧ bit (s.dev.get Dict.latchedDomains) (Domain.ofBit x).bit = false ∧ s.dev.get
    (Hid.restartDue (Domain.ofBit x).bit) ≤ s.clock.frames) :=
  ⟨⟨mkLast [(Dict.evtRailState 0, 0), (Hid.evtArmed 0, 1), (Dict.refereeSequence, 0xFFFFFFFE), (Dict.evtSeverity 0,
   1)] (fun d => { d with posted := [⟨0, 77, false, false, true⟩, ⟨5, 3, false, false, true⟩] }), 0, 9, by rw [mkLast_met]; decide +kernel⟩,
   ⟨mkLast [(Dict.evtRailState 0, 0), (Hid.evtArmed 0, 1), (Dict.refereeSequence, 0xFFFFFFFE), (Dict.evtSeverity 0,
   4)] (fun d => { d with posted := [⟨0, 77, false, false, true⟩, ⟨5, 3, false, false, true⟩] }), 0, 9, by rw [mkLast_met]; decide +kernel⟩,
   ⟨mkLast [(Dict.evtRailState 0, 0), (Dict.evtSeverity 0, 1), (Dict.evtSeverity 126, 0)], 0, 3, by rw [mkLast_met]; decide +kernel⟩,
   ⟨mk [(Dict.evtRailState 127, 2)], 127, by decide +kernel⟩,
   ⟨mk [(Dict.evtRailState 127, 1)], 127, by decide +kernel⟩,
   ⟨mk [(Dict.isolatedDomains, 1), (Hid.poweredDomains, 510), (Dict.latchedDomains, 0), (Hid.restartDue 0, 20484)], 0, by decide +kernel⟩⟩

theorem met_RefereeCommandsActAtS0 :
    (∃ (s : State) (h : Head) (v : Value) (x : Session), s.admits h [Dict.domainRelease.item v] x = true) ∧
    (∃ (s : State) (h : Head) (v : Value) (x : Session), s.admits h [Dict.evtAcknowledge.item v] x = true) ∧
    (∃ (s : State) (h : Head) (n : Nat) (v : Value) (x : Session), n < 128 ∧ s.admits h [(Dict.evtClear n).item v] x = true) ∧
    (∃ (s : State) (h : Head) (v : Value) (x : Session), s.admits h [Dict.refereeClearAll.item v] x = true) ∧
    (∃ (s : State) (h : Head) (source : Nat) (count : Nat) (unit : Nat) (options : Nat) (mode : Nat) (c : Instr) (x : Session), source < 128 ∧
    count < 256 ∧ unit < 256 ∧ options < 256 ∧ ((c = .faultInjectCheckBit h source count unit options ∧
    mode = 1) ∨ (c = .faultInjectPair h source count unit options ∧ mode = 2) ∨ (c = .faultInjectRail h source count unit options ∧ mode = 3)) ∧
    s.admits h ([Dict.faultInject.item ⟨5, source * 2 ^ 32 + mode * 2 ^ 24 + count * 2 ^ 16 + unit * 2 ^ 8 + options⟩]) x = true) :=
  ⟨⟨mk [(Dict.lifeCycleState, 2), (Dict.latchedDomains, 16), (Dict.isolatedDomains, 16)] open1, host (.write [Dict.domainRelease.item ⟨1, 4⟩]), ⟨1,
   4⟩, sess, by decide +kernel⟩,
   ⟨mk [(Dict.lifeCycleState, 2)] open1, host (.write [Dict.evtAcknowledge.item ⟨17, 2 ^ 127 + 1⟩]), ⟨17, 2 ^ 127 + 1⟩, sess, by decide +kernel⟩,
   ⟨mk [(Dict.lifeCycleState, 2)] open1, host (.write [(Dict.evtClear 127).item ⟨1, 1⟩]), 127, ⟨1, 1⟩, sess, by decide +kernel⟩,
   ⟨mk [(Dict.lifeCycleState, 2)] open1, host (.write [Dict.refereeClearAll.item ⟨1, 1⟩]), ⟨1, 1⟩, sess, by decide +kernel⟩,
   ⟨mk [(Dict.lifeCycleState, 3)] open1, host (.write [Dict.faultInject.item ⟨5, 127 * 2 ^ 32 + 1 * 2 ^ 24 + 16 * 2 ^ 16 + 1 * 2 ^ 8 + 1⟩]), 127, 16,
   1, 1, 1, .faultInjectCheckBit (host (.write [Dict.faultInject.item ⟨5, 127 * 2 ^ 32 + 1 * 2 ^ 24 + 16 * 2 ^ 16 + 1 * 2 ^ 8 + 1⟩])) 127 16 1 1,
   sess, by decide +kernel⟩⟩

theorem met_ShutdownRecordsAndPerformanceCounters :
    (∃ (s : State), s.dev.get Hid.bootPhase = 5 ∧ s.dev.is Hid.shutdownPin = false) ∧
    (∃ (s : State), s.dev.get Dict.shutdownState = 1 ∧ s.dev.get Dict.deviceState = 5) ∧
    (∃ (s : State) (r : TestResults), s.dev.get Dict.shutdownState = 2 ∧ s.dev.passHeld 4 = true ∧ r.failed = []) ∧
    (∃ (s : State) (_micros : Nat), s.dev.get Dict.shutdownState = 3 ∧ s.dev.passHeld 4 = true) ∧
    (∃ (s : State) (_tested : Nat) (_micros : Nat), s.dev.get Dict.shutdownState = 3 ∧ s.met.testTimeOver = true) ∧
    (∃ (s : State), bit (s.dev.get Hid.nvWanted) 3 = true ∧ s.dev.passHeld 0 = true) ∧
    (∃ (s : State) (n : Nat), n < 64 ∧ s.serves .time = true ∧ s.dev.get (Dict.pcWindow n) ≠ 0 ∧ s.met.globalFrame % s.dev.get (Dict.pcWindow n) = 0 ∧
    s.dev.get (Dict.pcWindowEnd n) ≠ toTime96 s.start) ∧
    (∃ (s : State) (h : Head) (items : List Item) (x : Session), s.admits h items x = true) ∧
    (∃ (_d : Dev) (n : Nat) (v : Nat), n < 64 ∧ v < 2 ^ 16) ∧
    (∃ (s : State) (h : Head) (v : Value) (x : Session), s.admits h [Dict.pcSnapshot.item v] x = true) ∧
    (∃ (s : State) (h : Head) (v : Value) (x : Session), s.admits h [Dict.pcClearAll.item v] x = true) ∧
    (∃ (s : State) (h : Head) (n : Nat) (v : Value) (x : Session), n < 64 ∧ s.admits h [(Dict.pcClear n).item v] x = true) :=
  ⟨⟨mk [(Hid.shutdownPin, 0)], by decide +kernel⟩,
   ⟨mk [(Dict.shutdownState, 1), (Dict.deviceState, 5)], by decide +kernel⟩,
   ⟨mk [(Dict.shutdownState, 2), (Dict.passGranted, 16)], ⟨[], [], 5⟩, by decide +kernel⟩,
   ⟨mk [(Dict.shutdownState, 3), (Dict.passGranted, 16)] (fun d => open1 { d with shutRecords := [1, 2] }), 7, by decide +kernel⟩,
   ⟨mkLast [(Dict.shutdownState, 3)] (fun d => open1 { d with shutRecords := [1, 2] }), 3, 7, by rw [mkLast_met]; decide +kernel⟩,
   ⟨mk [(Hid.nvWanted, 8), (Dict.passGranted, 1)] (fun d => { d with nvLife := [⟨4, false, []⟩, ⟨3, true, [(1, 2)]⟩] }), by decide +kernel⟩,
   ⟨mkAt (5 * secondUnits + 4 * frameUnits) [(Dict.pcWindow 63, 3), (Dict.pcWindowEnd 63, 0), (Dict.pcCount 63, 77), (Dict.pcMode 63, 0)], 63,
   by decide +kernel⟩,
   ⟨mk [(Dict.lifeCycleState, 2)] open1, host (.write [(Dict.pcEvent 63).item ⟨2, 0⟩]), [(Dict.pcEvent 63).item ⟨2, 0⟩], sess, by decide +kernel⟩,
   ⟨base, 63, 65535, by decide +kernel⟩,
   ⟨mk [(Dict.lifeCycleState, 2)] open1, host (.write [Dict.pcSnapshot.item ⟨1, 1⟩]), ⟨1, 1⟩, sess, by decide +kernel⟩,
   ⟨mk [(Dict.lifeCycleState, 2)] open1, host (.write [Dict.pcClearAll.item ⟨1, 1⟩]), ⟨1, 1⟩, sess, by decide +kernel⟩,
   ⟨mk [(Dict.lifeCycleState, 2)] open1, host (.write [(Dict.pcClear 63).item ⟨1, 1⟩]), 63, ⟨1, 1⟩, sess, by decide +kernel⟩⟩

end Sys2Proof.Tests
end

section
/-!
PROOF. The sequencer's frame start (R33, R101, R107): how many TCLK cycles the counter takes to the frame boundary, and what
FRAME_START makes of the counter.

The counter grows at one rate in the first `extra` cycles of a frame, which slew, and by the increment alone afterwards. The key
fact is `lt_cyclesOver_iff`: the cycles before `cyclesOver` are exactly those at which the counter has not yet grown by the gap.
-/
namespace Sys2Proof.Machine

/-! ### The counter's cycles -/

theorem lt_divUp_iff {a b n : Nat} (hb : 0 < b) : n < divUp a b ↔ n * b < a := by
  rw [divUp, ← Nat.add_one_le_iff, Nat.le_div_iff_mul_le hb, Nat.add_mul, Nat.one_mul]
  omega

/-- What a slewing cycle adds (R107). -/
def slewRate (inc : Nat) (back : Bool) : Nat := if back then inc - 1 else inc + 1

theorem slewRate_pos {inc : Nat} (back : Bool) (hinc : 2 ≤ inc) : 0 < slewRate inc back := by
  cases back
  · exact Nat.succ_pos inc
  · exact Nat.sub_pos_of_lt hinc

@[simp] theorem advanceOf_zero (inc extra : Nat) (back : Bool) : advanceOf inc extra back 0 = 0 := by
  cases back <;> rw [advanceOf, Nat.zero_mul, Nat.zero_min] <;> rfl

theorem advanceOf_slewing {inc extra n : Nat} (back : Bool) (hn : n ≤ extra) :
    advanceOf inc extra back n = n * slewRate inc back := by
  cases back
  · simp only [advanceOf, slewRate, Nat.min_eq_left hn, Nat.mul_add, Nat.mul_one, Bool.false_eq_true, if_false]
  · simp only [advanceOf, slewRate, Nat.min_eq_left hn, Nat.mul_sub, Nat.mul_one, if_true]

theorem advanceOf_slewed {inc extra n : Nat} (back : Bool) (hn : extra ≤ n) :
    advanceOf inc extra back n = if back then n * inc - extra else n * inc + extra := by
  rw [advanceOf, Nat.min_eq_right hn]

theorem advanceOf_le_succ {inc : Nat} (extra : Nat) (back : Bool) (n : Nat) (hinc : 1 ≤ inc) :
    advanceOf inc extra back n ≤ advanceOf inc extra back (n + 1) := by
  cases back <;> simp only [advanceOf, Nat.add_mul, Bool.false_eq_true, if_true, if_false] <;> omega

/-- The counter does not run backward within a frame (R107). -/
theorem advanceOf_mono {inc m n : Nat} (extra : Nat) (back : Bool) (hinc : 1 ≤ inc) (h : m ≤ n) :
    advanceOf inc extra back m ≤ advanceOf inc extra back n := by
  induction h with
  | refl => exact Nat.le_refl _
  | step _ ih => exact Nat.le_trans ih (advanceOf_le_succ extra back _ hinc)

/-- One cycle adds no more than the increment and one unit (R101, R107). -/
theorem advanceOf_succ_le (inc extra : Nat) (back : Bool) (n : Nat) :
    advanceOf inc extra back (n + 1) ≤ advanceOf inc extra back n + (inc + 1) := by
  cases back <;> simp only [advanceOf, Nat.add_mul, Bool.false_eq_true, if_true, if_false] <;> omega

theorem cyclesOver_eq (inc extra : Nat) (back : Bool) (gap : Nat) :
    cyclesOver inc extra back gap =
      if divUp gap (slewRate inc back) ≤ extra then divUp gap (slewRate inc back)
      else if back then divUp (gap + extra) inc else divUp (gap - extra) inc := by
  cases back <;> rfl

/-- The rounded-up quotient in the cycles that no longer slew. -/
theorem lt_slewedCycles_iff {inc extra gap n : Nat} (back : Bool) (hinc : 1 ≤ inc) (hn : extra ≤ n) :
    n < (if back then divUp (gap + extra) inc else divUp (gap - extra) inc) ↔ advanceOf inc extra back n < gap := by
  have hgrown : extra ≤ n * inc := Nat.le_trans hn (Nat.le_mul_of_pos_right n hinc)
  rw [advanceOf_slewed back hn]
  cases back <;> simp only [Bool.false_eq_true, if_true, if_false, lt_divUp_iff hinc] <;> omega

/-- The first edge at which the counter has grown by the gap (R33): it has not at any edge before, and has at every one from there. -/
theorem lt_cyclesOver_iff {inc : Nat} (extra : Nat) (back : Bool) (gap n : Nat) (hinc : 2 ≤ inc) :
    n < cyclesOver inc extra back gap ↔ advanceOf inc extra back n < gap := by
  have hpos : 1 ≤ inc := Nat.le_of_succ_le hinc
  have hslewing : ∀ m ≤ extra, m < divUp gap (slewRate inc back) ↔ advanceOf inc extra back m < gap := fun m hm => by
    rw [lt_divUp_iff (slewRate_pos back hinc), advanceOf_slewing back hm]
  have hextra := hslewing extra (Nat.le_refl _)
  rw [cyclesOver_eq]
  split
  next hearly =>
    rcases Nat.lt_or_ge extra n with hn | hn
    · have hreached : gap ≤ advanceOf inc extra back extra := by omega
      have hmono := advanceOf_mono extra back hpos (Nat.le_of_lt hn)
      exact iff_of_false (by omega) (by omega)
    · exact hslewing n hn
  next hlate =>
    rcases Nat.lt_or_ge n extra with hn | hn
    · have hshort : advanceOf inc extra back extra < gap := hextra.1 (Nat.not_le.1 hlate)
      have hmono := advanceOf_mono extra back hpos (Nat.le_of_lt hn)
      have hmore := (lt_slewedCycles_iff back hpos (Nat.le_refl extra)).2 hshort
      exact iff_of_true (Nat.lt_trans hn hmore) (Nat.lt_of_le_of_lt hmono hshort)
    · exact lt_slewedCycles_iff back hpos hn

theorem gap_le_advanceOf_cyclesOver {inc : Nat} (extra : Nat) (back : Bool) (gap : Nat) (hinc : 2 ≤ inc) :
    gap ≤ advanceOf inc extra back (cyclesOver inc extra back gap) :=
  Nat.not_lt.1 (mt (lt_cyclesOver_iff extra back gap _ hinc).2 (Nat.lt_irrefl _))

/-- At that edge the counter is past the gap by less than one cycle's addition. -/
theorem advanceOf_cyclesOver_lt {inc gap : Nat} (extra : Nat) (back : Bool) (hinc : 2 ≤ inc) (hgap : 0 < gap) :
    advanceOf inc extra back (cyclesOver inc extra back gap) < gap + (inc + 1) := by
  have hfirst : 0 < cyclesOver inc extra back gap :=
    (lt_cyclesOver_iff extra back gap 0 hinc).2 (by rwa [advanceOf_zero])
  obtain ⟨m, hm⟩ := Nat.exists_eq_succ_of_ne_zero (Nat.ne_of_gt hfirst)
  have hbefore : advanceOf inc extra back m < gap := (lt_cyclesOver_iff extra back gap m hinc).1 (by omega)
  have hstep := advanceOf_succ_le inc extra back m
  rw [hm, Nat.succ_eq_add_one]
  omega

/-! ### What FRAME_START makes of the counter -/

namespace State

theorem reach_ts {s : State} (h : s.clock.atStart = false) : s.reach.clock.ts = s.nextStart := by
  rw [reach, h]
  rfl

theorem reach_frames {s : State} (h : s.clock.atStart = false) : s.reach.clock.frames = s.clock.frames + 1 := by
  rw [reach, h]
  rfl

@[simp] theorem reach_pending (s : State) : s.reach.pending = s.pending := by
  unfold reach
  split <;> rfl

@[simp] theorem reach_corr (s : State) : s.reach.dev.corr = s.dev.corr := by
  unfold reach
  split <;> rfl

theorem dueJump_of_corr_none {s : State} (h : s.dev.corr = none) : s.dueJump = s := by
  rw [dueJump, h]

/-- The slots of a frame leave the counter, the count of frames and the queue; the frame start is behind. -/
theorem runSlots_frame (s : State) (i : FrameInput) :
    (s.runSlots i).clock.ts = s.clock.ts ∧ (s.runSlots i).clock.frames = s.clock.frames ∧
      (s.runSlots i).clock.atStart = false ∧ (s.runSlots i).pending = s.pending := by
  unfold runSlots
  dsimp only
  split <;> exact ⟨rfl, rfl, rfl, rfl⟩

/-- The state a frame starts from: the outputs of the last command gone, a fresh free value. -/
def beforeFrame (s : State) : State := { s with dev := { s.dev with emit := [], free := s.dev.free + 1 } }

theorem runFrame_of_corr_none {s : State} (i : FrameInput) (hcorr : s.dev.corr = none) :
    s.runFrame i = s.beforeFrame.reach.runSlots i :=
  congrArg (·.runSlots i) (dueJump_of_corr_none ((reach_corr s.beforeFrame).trans hcorr))

/-- A frame with no correction pending ends with the counter at the frame start that was next (R33). -/
theorem runFrame_frame {s : State} (i : FrameInput) (hstart : s.clock.atStart = false) (hcorr : s.dev.corr = none) :
    (s.runFrame i).clock.ts = s.nextStart ∧ (s.runFrame i).clock.frames = s.clock.frames + 1 ∧
      (s.runFrame i).clock.atStart = false ∧ (s.runFrame i).pending = s.pending := by
  obtain ⟨hts, hframes, hat, hpending⟩ := s.beforeFrame.reach.runSlots_frame i
  rw [runFrame_of_corr_none i hcorr]
  exact ⟨hts.trans (reach_ts (s := s.beforeFrame) hstart), hframes.trans (reach_frames (s := s.beforeFrame) hstart), hat,
    hpending.trans s.beforeFrame.reach_pending⟩

/-- The next frame start is not before the boundary of the frame that runs (R33). -/
theorem boundary_le_nextStart {s : State} (hinc : 2 ≤ s.dev.get Dict.incrementActive) :
    s.clock.boundary * subUnits ≤ s.nextStart :=
  Nat.sub_le_iff_le_add'.1 (gap_le_advanceOf_cyclesOver _ _ _ hinc)

/-- The next frame start is past the boundary by less than one cycle's addition. -/
theorem nextStart_lt {s : State} (hbefore : s.clock.ts < s.clock.boundary * subUnits)
    (hinc : 2 ≤ s.dev.get Dict.incrementActive) :
    s.nextStart < s.clock.boundary * subUnits + s.dev.get Dict.incrementActive + 1 := by
  have hover := advanceOf_cyclesOver_lt (s.dev.get Hid.slewExtra) (s.dev.is Hid.slewBack) hinc (Nat.sub_pos_of_lt hbefore)
  simp only [nextStart, cycles]
  omega

/-- No edge before the next frame start is at the boundary. -/
theorem count_lt_boundary {s : State} {m : Nat} (hinc : 2 ≤ s.dev.get Dict.incrementActive) (hm : m < s.cycles) :
    s.clock.ts + advanceOf (s.dev.get Dict.incrementActive) (s.dev.get Hid.slewExtra) (s.dev.is Hid.slewBack) m <
      s.clock.boundary * subUnits :=
  Nat.add_lt_of_lt_sub' ((lt_cyclesOver_iff _ _ _ m hinc).1 hm)

end State

/-- FRAME_START in service runs the frame; the pins of the test access port touch nothing but the device. -/
theorem exec_frameStart_inService {s : State} (i : FrameInput) (h : s.inService = true) :
    exec (.frameStart i) s = .next { s.runFrame i with dev := (s.runFrame i).dev.tapPins i.tap } := by
  change execFrameStart i s = _
  rw [execFrameStart, h]
  rfl

/-- Settles O9: FRAME_START runs the counter for `cyclesOver` cycles, and the edge after them is the first at or past the boundary. -/
theorem frameStartsAtFirstEdge : Obligations.FrameStartsAtFirstEdge := by
  unfold Obligations.FrameStartsAtFirstEdge
  intro s i hservice hstart hcorr hbefore hinc
  obtain ⟨hts, hframes, hat, hpending⟩ := State.runFrame_frame i hstart hcorr
  refine ⟨_, s.cycles, exec_frameStart_inService i hservice, hts, ?_, fun m hm => State.count_lt_boundary hinc hm, ?_, hframes, hat,
    hpending⟩
  · exact le_of_le_of_eq (State.boundary_le_nextStart hinc) hts.symm
  · exact lt_of_eq_of_lt hts (State.nextStart_lt hbefore hinc)

end Sys2Proof.Machine
end

section
/-!
PROOF. The leap second (R118): what LEAP_APPLIED makes of the device and leaves of the state.

UtcOffset is an I32 whose write saturates: the offset that follows the leap reads back as it was meant exactly because it stays within the
type (`Entry.toInt_ofInt`). The clock goes on because a leap leaves the registers of power alone (`Clock.follow_of_powered`).
-/
namespace Sys2Proof.Machine

/-! ### Integers in signed registers -/

theorem Entry.even_modulus {e : Entry} (hsize : e.ty.size ≠ 0) : 2 ∣ e.modulus := by
  obtain ⟨n, hn⟩ := Nat.exists_eq_succ_of_ne_zero hsize
  rw [Entry.modulus, hn, Nat.pow_succ]
  exact Nat.dvd_trans (by decide) (Nat.dvd_mul_left 256 _)

/-- A signed entry reads an integer within its type as it was encoded (R11). -/
theorem Entry.toInt_ofInt {e : Entry} {i : Int} (hsigned : e.ty.signed = true) (hsize : e.ty.size ≠ 0)
    (hlow : -(e.modulus / 2 : Int) ≤ i) (hhigh : i < (e.modulus / 2 : Int)) : e.toInt (e.ofInt i % e.modulus) = i := by
  have heven := Entry.even_modulus hsize
  have hcode : (e.ofInt i : Int) = if i < 0 then i + e.modulus else i := by
    have hclamp : max (-(e.modulus / 2 : Int)) (min i ((e.modulus / 2 : Int) - 1)) = i := by omega
    rw [Entry.ofInt, hsigned, if_pos rfl, hclamp, Int.toNat_of_nonneg (Int.emod_nonneg _ (by omega))]
    split
    · rw [← Int.add_emod_right, Int.emod_eq_of_lt (by omega) (by omega)]
    · exact Int.emod_eq_of_lt (by omega) (by omega)
  have hfits : e.ofInt i < e.modulus := by split at hcode <;> omega
  rw [Nat.mod_eq_of_lt hfits, Entry.toInt, hsigned, Bool.true_and, hcode]
  split at hcode <;> simp only [decide_eq_true_eq] <;> split <;> omega

namespace Dev

/-- A signed register reads the integer last written to it, where its type holds it. -/
theorem getI_setI_self (d : Dev) {e : Entry} {i : Int} (hsigned : e.ty.signed = true) (hsize : e.ty.size ≠ 0)
    (hlow : -(e.modulus / 2 : Int) ≤ i) (hhigh : i < (e.modulus / 2 : Int)) : (d.setI e i).getI e = i :=
  (congrArg e.toInt (get_set_self d e _)).trans (Entry.toInt_ofInt hsigned hsize hlow hhigh)

theorem get_clear_ne (d : Dev) (e f : Entry) (h : e.addr ≠ f.addr) : (d.clear e).get f = d.get f := get_set_ne d e f _ h

@[simp] theorem get_clear_self (d : Dev) (e : Entry) : (d.clear e).get e = e.reset :=
  (get_set_self d e _).trans (Nat.mod_mod _ _)

@[simp] theorem get_post (d : Dev) (n : Nat) (l : List (Nat × Nat)) (e : Entry) : (d.post n l).get e = d.get e := rfl

theorem posted_post (d : Dev) (n : Nat) (l : List (Nat × Nat)) : (d.post n l).posted = d.posted ++ [⟨n, packDetail l, false, false, true⟩] :=
  rfl

/-! ### What a leap makes of the device -/

/-- The offset before the leap is kept, with the leap's instant (R118, R451). -/
def rememberLeap (d : Dev) : Dev :=
  (d.set Hid.leapAt (ofTime96 (d.get Dict.leapTime) + 1)).setI Hid.leapOffset (d.getI Dict.utcOffset)

/-- The announcement is over (R118). -/
def endLeap (d : Dev) : Dev := (d.clear Dict.leapPending).clear Dict.leapTime

theorem applyLeap_eq {d : Dev} (h : d.get Dict.leapPending ≠ 0) :
    d.applyLeap = ((d.rememberLeap.setI Dict.utcOffset (d.rememberLeap.offsetAfter (d.rememberLeap.get Dict.leapPending))).endLeap).post 10 [] :=
  if_neg h

theorem get_rememberLeap_ne (d : Dev) {e : Entry} (hat : Hid.leapAt.addr ≠ e.addr) (hoffset : Hid.leapOffset.addr ≠ e.addr) :
    d.rememberLeap.get e = d.get e :=
  (get_setI_ne _ _ _ _ hoffset).trans (get_set_ne _ _ _ _ hat)

theorem get_endLeap_ne (d : Dev) {e : Entry} (hpending : Dict.leapPending.addr ≠ e.addr) (htime : Dict.leapTime.addr ≠ e.addr) :
    d.endLeap.get e = d.get e :=
  (get_clear_ne _ _ _ htime).trans (get_clear_ne _ _ _ hpending)

theorem get_endLeap_leapPending (d : Dev) : d.endLeap.get Dict.leapPending = 0 :=
  (get_clear_ne _ _ _ (by decide)).trans (get_clear_self d Dict.leapPending)

theorem posted_rememberLeap (d : Dev) : d.rememberLeap.posted = d.posted := (set_posted _ _ _).trans (set_posted _ _ _)

theorem posted_endLeap (d : Dev) : d.endLeap.posted = d.posted := (set_posted _ _ _).trans (set_posted _ _ _)

theorem view_rememberLeap (d : Dev) : d.rememberLeap.view = d.view := (set_view _ _ _).trans (set_view _ _ _)

theorem view_endLeap (d : Dev) : d.endLeap.view = d.view := (set_view _ _ _).trans (set_view _ _ _)

theorem offsetAfter_rememberLeap (d : Dev) (kind : Nat) : d.rememberLeap.offsetAfter kind = d.offsetAfter kind := by
  rw [offsetAfter, offsetAfter, getI, getI, get_rememberLeap_ne d (by decide) (by decide)]

theorem offsetAfter_of_leap (d : Dev) {kind : Nat} (h : kind = 1 ∨ kind = 2) :
    d.offsetAfter kind = d.getI Dict.utcOffset + (if kind = 1 then 1 else -1) := by
  rcases h with rfl | rfl <;> rfl

/-- UtcOffset takes the offset that follows the leap, where an I32 holds it. -/
theorem getI_applyLeap_utcOffset {d : Dev} (h : d.get Dict.leapPending ≠ 0)
    (hlow : -(2 ^ 31) ≤ d.offsetAfter (d.get Dict.leapPending)) (hhigh : d.offsetAfter (d.get Dict.leapPending) < 2 ^ 31) :
    d.applyLeap.getI Dict.utcOffset = d.offsetAfter (d.get Dict.leapPending) := by
  rw [applyLeap_eq h, offsetAfter_rememberLeap, get_rememberLeap_ne d (by decide) (by decide), getI, get_post,
    get_endLeap_ne _ (by decide) (by decide)]
  exact getI_setI_self _ rfl (by decide) hlow hhigh

theorem get_applyLeap_leapPending {d : Dev} (h : d.get Dict.leapPending ≠ 0) : d.applyLeap.get Dict.leapPending = 0 := by
  rw [applyLeap_eq h, get_post, get_endLeap_leapPending]

theorem posted_applyLeap {d : Dev} (h : d.get Dict.leapPending ≠ 0) :
    d.applyLeap.posted = d.posted ++ [⟨10, packDetail [], false, false, true⟩] := by
  rw [applyLeap_eq h, posted_post, posted_endLeap, setI, set_posted, posted_rememberLeap]

theorem view_applyLeap {d : Dev} (h : d.get Dict.leapPending ≠ 0) : d.applyLeap.view = d.view := by
  rw [applyLeap_eq h, post_view, view_endLeap, setI, set_view, view_rememberLeap]

/-- The registers a leap writes (R118, R451). -/
def leapRegisters : List Entry := [Dict.utcOffset, Dict.leapPending, Dict.leapTime, Hid.leapAt, Hid.leapOffset]

/-- A leap leaves every register but its own. -/
theorem get_applyLeap_ne {d : Dev} (h : d.get Dict.leapPending ≠ 0) {e : Entry} (he : ∀ x ∈ leapRegisters, x.addr ≠ e.addr) :
    d.applyLeap.get e = d.get e := by
  simp only [leapRegisters, List.forall_mem_cons] at he
  obtain ⟨hutc, hpending, htime, hat, hoffset, -⟩ := he
  rw [applyLeap_eq h, get_post, get_endLeap_ne _ hpending htime, get_setI_ne _ _ _ _ hutc, get_rememberLeap_ne d hat hoffset]

theorem powered_applyLeap {d : Dev} (h : d.get Dict.leapPending ≠ 0) (x : Domain) : d.applyLeap.powered x = d.powered x :=
  congrArg (bit · x.bit) (get_applyLeap_ne h (by decide))

end Dev

/-! ### LEAP_APPLIED -/

/-- Frames run on while TIME is powered. -/
theorem Clock.follow_of_powered (c : Clock) {d : Dev} (h : d.powered .time = true) : c.follow d = c := by
  rw [Clock.follow, h, Bool.and_true]

/-- When LEAP_APPLIED acts: at LeapTime, or at the start of a frame that begins after it (R118). -/
def State.leapInstant (s : State) : Nat := max s.start (ofTime96 (s.dev.get Dict.leapTime))

/-- In service LEAP_APPLIED acts where the frame that runs reaches LeapTime. -/
theorem exec_leapApplied {s : State} (hserves : s.serves .time = true) (hpending : s.dev.get Dict.leapPending ≠ 0)
    (htime : ofTime96 (s.dev.get Dict.leapTime) < s.clock.boundary) :
    exec .leapApplied s = .next (s.onDevAt s.leapInstant Dev.applyLeap) := by
  have hdue : s.dev.leapDue (s.clock.boundary - 1) = true := by
    rw [Dev.leapDue, Bool.and_eq_true, bne_iff_ne, decide_eq_true_iff]
    exact ⟨hpending, Nat.le_sub_one_of_lt htime⟩
  change execLeapApplied s = _
  rw [execLeapApplied, hserves, hdue]
  rfl

/-- Settles O12: the offset of the kind that is pending fits UtcOffset, and the leap writes nothing that the clock follows. -/
theorem leapChangesUtcOffset : Obligations.LeapChangesUtcOffset := by
  unfold Obligations.LeapChangesUtcOffset
  intro s hserves hkind htime hlow hhigh
  have hpowered : s.dev.powered .time = true := (Bool.and_eq_true_iff.1 hserves).2
  have hpending : (s.begin s.leapInstant).get Dict.leapPending ≠ 0 := by rw [State.begin_get]; omega
  have hafter : (s.begin s.leapInstant).offsetAfter (s.dev.get Dict.leapPending) =
      s.dev.getI Dict.utcOffset + (if s.dev.get Dict.leapPending = 1 then 1 else -1) := Dev.offsetAfter_of_leap _ hkind
  have hutc : (s.begin s.leapInstant).applyLeap.getI Dict.utcOffset =
      (s.begin s.leapInstant).offsetAfter (s.dev.get Dict.leapPending) :=
    Dev.getI_applyLeap_utcOffset hpending (by rw [State.begin_get, hafter]; split <;> omega)
      (by rw [State.begin_get, hafter]; split <;> omega)
  exact ⟨_, exec_leapApplied hserves hpending htime, hutc.trans hafter, Dev.get_applyLeap_leapPending hpending,
    congrArg View.now (Dev.view_applyLeap hpending), Dev.posted_applyLeap hpending,
    Clock.follow_of_powered _ ((Dev.powered_applyLeap hpending _).trans hpowered),
    rfl, rfl, rfl, rfl, fun _ he => Dev.get_applyLeap_ne hpending he⟩

end Sys2Proof.Machine
end

section
/-!
PROOF. What every command can do to the memories, the timescale and the queue (R32 to R34, R597, R606), said once: `exec_effect`.
All commands but eight act on the device alone; each whole-machine invariant is then a case analysis over the nine effects.
-/
namespace Sys2Proof.Machine

/-! ### Facts about one unit of a bounded family -/

/-- What holds of every unit below the bound holds of this one. Used as `apply of_lt hn; decide`, which reads no other hypothesis. -/
theorem of_lt {bound n : Nat} {p : Nat → Prop} (hn : n < bound) (h : ∀ i, i < bound → p i) : p n := h n hn

theorem of_lt₂ {bound bound' m n : Nat} {p : Nat → Nat → Prop} (hm : m < bound) (hn : n < bound')
    (h : ∀ i, i < bound → ∀ j, j < bound' → p i j) : p m n := h m hm n hn

/-- What holds of every entry of a list holds of this one. -/
theorem of_mem {α : Type} {l : List α} {e : α} {p : α → Prop} (he : e ∈ l) (h : ∀ y ∈ l, p y) : p e := h e he

/-- What holds of every two different units holds of these. -/
theorem of_ne {bound bound' m n : Nat} {p : Nat → Nat → Prop} (hm : m < bound) (hn : n < bound') (hne : m ≠ n)
    (h : ∀ i, i < bound → ∀ j, j < bound' → i ≠ j → p i j) : p m n := h m hm n hn hne

/-! ### Commands that act on the device alone -/

/-- No octet of memory, no command of the queue, and nothing of the timescale at frame starts changed. -/
structure DeviceStep (s t : State) : Prop where
  mem : t.mem = s.mem
  pending : t.pending = s.pending
  ts : t.clock.ts = s.clock.ts
  boundary : t.clock.boundary = s.clock.boundary
  frames : t.clock.frames = s.clock.frames

namespace State

theorem deviceStep_quiet (s : State) : DeviceStep s s.quiet := ⟨rfl, rfl, rfl, rfl, rfl⟩

theorem deviceStep_onDevAt (s : State) (now : Nat) (f : Dev → Dev) : DeviceStep s (s.onDevAt now f) := ⟨rfl, rfl, rfl, rfl, rfl⟩

theorem deviceStep_onDev (s : State) (f : Dev → Dev) : DeviceStep s (s.onDev f) := s.deviceStep_onDevAt _ f

theorem deviceStep_duringAt (s : State) (c : Bool) (now : Nat) (f : Dev → Dev) : DeviceStep s (s.duringAt c now f) := by
  cases c
  · exact s.deviceStep_quiet
  · exact s.deviceStep_onDevAt now f

theorem deviceStep_during (s : State) (c : Bool) (f : Dev → Dev) : DeviceStep s (s.during c f) := s.deviceStep_duringAt c _ f

end State

/-! ### Every command -/

/-- The state in which a pending step or set applies at the frame start that is reached (R112). -/
def State.atJump (s : State) : State := s.beforeFrame.reach.dueJump

/-- What a command makes of the memories, the timescale and the queue. -/
inductive ExecEffect : Instr → State → State → Prop
  | device {c : Instr} {s t : State} : DeviceStep s t → ExecEffect c s t
  | frame (i : FrameInput) (s : State) (d : Dev) : ExecEffect (.frameStart i) s { s.runFrame i with dev := d }
  | step (s : State) : ExecEffect .stepApply s s.atJump
  | set (s : State) : ExecEffect .setApply s s.atJump
  | start (bootMicros coarseNs : Nat) (s : State) : ExecEffect (.firstFrame bootMicros coarseNs) s (s.serviceStart bootMicros coarseNs)
  | powerOn (cascId : Nat) (keepPref pinLow : Bool) {s t : State} :
      DeviceStep s t → ExecEffect (.powerOnReset cascId keepPref pinLow) s t.fill
  | filled (micros : Nat) {s t : State} : DeviceStep s t → ExecEffect (.fillComplete micros) s t.fill
  | read (op : BusOp) (octets : Nat) (s : State) (d : Dev) :
      ExecEffect (.memRead op octets) s { s with mem := (memRead s.mem (s.begin s.anyInstant) op octets).1, dev := d }
  | write (op : BusOp) (data : List Nat) (last : Bool) (s : State) (d : Dev) :
      ExecEffect (.memWrite op data last) s { s with mem := (memWrite s.mem (s.begin s.anyInstant) op data last).1, dev := d }

/-- A command that ends in the next state has one of the nine effects. -/
theorem exec_effect {c : Instr} {s t : State} (h : exec c s = .next t) : ExecEffect c s t := by
  cases c with
  | frameStart i =>
    obtain rfl := Host.Outcome.next.inj h
    by_cases hservice : s.inService = true
    · simp only [hservice, if_true]
      exact .frame i s _
    · simp only [hservice]
      exact .device ⟨rfl, rfl, rfl, rfl, rfl⟩
  | stepApply =>
    obtain rfl := Host.Outcome.next.inj h
    split
    · exact .step s
    · exact .device s.deviceStep_quiet
  | setApply =>
    obtain rfl := Host.Outcome.next.inj h
    split
    · exact .set s
    · exact .device s.deviceStep_quiet
  | firstFrame bootMicros coarseNs =>
    obtain rfl := Host.Outcome.next.inj h
    split
    · exact .start bootMicros coarseNs s
    · exact .device s.deviceStep_quiet
  | powerOnReset cascId keepPref pinLow =>
    obtain rfl := Host.Outcome.next.inj h
    exact .powerOn cascId keepPref pinLow (s.deviceStep_onDev _)
  | fillComplete micros =>
    obtain rfl := Host.Outcome.next.inj h
    split
    · exact .filled micros (s.deviceStep_onDev _)
    · exact .device s.deviceStep_quiet
  | memRead op octets =>
    change execMemRead op octets s = _ at h
    simp only [execMemRead] at h
    split at h
    · cases h
    · obtain rfl := Host.Outcome.next.inj h
      exact .read op octets s _
  | memWrite op data last =>
    change execMemWrite op data last s = _ at h
    simp only [execMemWrite] at h
    split at h
    · cases h
    · obtain rfl := Host.Outcome.next.inj h
      exact .write op data last s _
  | sequencerOverrun | inputEdgeStamp | windowMiss | twinSwap | calCollectionComplete | calTimeout | waitingTimerExpiry |
    handoverWindowClose | dwellComplete | servoUnlock | steerUpdate | steerReply | steerReplyTimeout | oscModelFit | apll0Lock |
    apll0LockTimeout | apll0ReturnToMosc | apllBandFound | apllLock | apllLockTimeout | apllLockLoss | outputActivityLoss | todiMessage
    | todiOctetGap | gnssStateEvaluate | channelAllocation | sampleClockFault | gnssSolution | g0RecordPost | positionCheck |
    notchEngage | notchDisengage | osnmaTagVerify | dsmPkrReceive | trustedTimeUpdate | auditRecordStore | auditRecordLost |
    portCalibrationDone | portCalIncomplete | portUp | portDown | scheduledSend | pauseReceive | pfcReceive | pauseExpiry |
    stampHoldExpiry | stampQueueDrain | hostFrameForTransmission | arpRequest | neighbourSolicitation | esmcPduReceive | esmcTimeout |
    esmcInformationPdu | grantLapse | nrefNegotiationTimeout | nrefFaultRetry | nrefRenewal | nrefGrantLoss | notifyPeriodic |
    notifyEvent | spiFrameAbort | storeCommitDone | lifeCycleChange | keyStoreCommitDone | keyStorePacingEnd | keyExpiry | beatReceive |
    replicationPacket | kholdInputChange | keeperTakeover | keeperStartWaitExpiry | handOverAbandon | revertHoldExpiry | addressAnnounce
    | skovwinCalDone | skovwinPortUp | skovwinLinkDown | pcWindowClose | pcsStatusChange | mgtLinkChange | outboundFrameShiftedOut |
    hostSpiNoiseFrame =>
    obtain rfl := Host.Outcome.next.inj h
    exact .device (s.deviceStep_during _ _)
  | leapApplied | timerFire | trgPulseEnd | ztodSend | receivedFrame | delayReq | requestUnicastTransmission | cancelUnicastTransmission
    | ntpRequest | ntsRequest | nrefGrantReceive | nrefSyncReceive | nrefDelayRespReceive | nrefAnnounceReceive | handOverRelease |
    handOverAt | plsPulseEnd =>
    obtain rfl := Host.Outcome.next.inj h
    exact .device (s.deviceStep_duringAt _ _ _)
  | opStepUp | opStepDown =>
    obtain rfl := Host.Outcome.next.inj h
    exact .device (s.deviceStep_onDevAt _ _)
  | _ =>
    obtain rfl := Host.Outcome.next.inj h
    exact .device (s.deviceStep_onDev _)

/-! ### Frame starts -/

theorem frameEnd_mod (t : Nat) (jumped : Bool) : frameEnd t jumped % frameUnits = 0 := by
  have hnext : (t / frameUnits + 1) * frameUnits % frameUnits = 0 := Nat.mul_mod_left _ _
  simp only [frameEnd]
  split
  · rw [Nat.add_mod_right, hnext]
  · exact hnext

theorem lt_frameEnd (t : Nat) (jumped : Bool) : t < frameEnd t jumped := by
  have hnext : t < (t / frameUnits + 1) * frameUnits := by
    rw [Nat.add_mul, Nat.one_mul, Nat.mul_comm]
    exact Nat.lt_mul_div_succ t (by decide)
  simp only [frameEnd]
  split
  · exact Nat.lt_add_right _ hnext
  · exact hnext

namespace State

/-- A counter whose frame ends at its `frameEnd` stands inside that frame. -/
theorem clockInFrame_of_frameEnd {s : State} (jumped : Bool) (h : s.clock.boundary = frameEnd (s.clock.ts / subUnits) jumped) :
    ClockInFrame s :=
  ⟨h ▸ lt_frameEnd _ jumped, h ▸ frameEnd_mod _ jumped⟩

/-- Reaching a frame start and jumping there leave the memories and the queue. -/
theorem reach_mem (s : State) : s.reach.mem = s.mem := by
  unfold reach
  split <;> rfl

theorem dueJump_mem (s : State) : s.dueJump.mem = s.mem := by
  unfold dueJump
  split
  · split <;> rfl
  · rfl

theorem dueJump_pending (s : State) : s.dueJump.pending = s.pending := by
  unfold dueJump
  split
  · split <;> rfl
  · rfl

theorem atJump_mem (s : State) : s.atJump.mem = s.mem := (dueJump_mem _).trans (reach_mem _)

theorem atJump_pending (s : State) : s.atJump.pending = s.pending := (dueJump_pending _).trans (reach_pending _)

theorem clockInFrame_reach {s : State} (h : ClockInFrame s) : ClockInFrame s.reach := by
  unfold reach
  split
  · exact h
  · exact clockInFrame_of_frameEnd false rfl

theorem clockInFrame_dueJump {s : State} (h : ClockInFrame s) : ClockInFrame s.dueJump := by
  unfold dueJump
  split
  · split
    · exact clockInFrame_of_frameEnd true rfl
    · exact h
  · exact h

theorem clockInFrame_atJump {s : State} (h : ClockInFrame s) : ClockInFrame s.atJump :=
  clockInFrame_dueJump (clockInFrame_reach (s := s.beforeFrame) h)

theorem clockInFrame_runSlots {s : State} (i : FrameInput) (h : ClockInFrame s) : ClockInFrame (s.runSlots i) := by
  have hboundary : (s.runSlots i).clock.boundary = s.clock.boundary := by
    unfold runSlots
    dsimp only
    split <;> rfl
  unfold ClockInFrame
  rw [hboundary, (s.runSlots_frame i).1]
  exact h

theorem wf_runSlots {s : State} (i : FrameInput) (h : s.mem.wf = true) : (s.runSlots i).mem.wf = true := by
  unfold runSlots
  dsimp only
  split
  · exact h
  · exact memoryFrame_wf _ i h

theorem clockInFrame_serviceStart (s : State) (bootMicros coarseNs : Nat) : ClockInFrame (s.serviceStart bootMicros coarseNs) :=
  clockInFrame_of_frameEnd _ (congrArg (frameEnd · _) (Nat.mul_div_cancel _ (by decide)).symm)

end State

/-! ### The invariants, kept by every command -/

theorem DeviceStep.clockInFrame {s t : State} (h : DeviceStep s t) (hs : ClockInFrame s) : ClockInFrame t := by
  unfold ClockInFrame
  rw [h.ts, h.boundary]
  exact hs

theorem exec_keeps_clockInFrame {c : Instr} {s t : State} (hs : ClockInFrame s) (h : exec c s = .next t) : ClockInFrame t := by
  cases exec_effect h with
  | device hd => exact hd.clockInFrame hs
  | frame i => exact State.clockInFrame_runSlots i (State.clockInFrame_atJump hs)
  | step | set => exact State.clockInFrame_atJump hs
  | start => exact State.clockInFrame_serviceStart _ _ _
  | powerOn _ _ _ hd | filled _ hd => exact hd.clockInFrame hs
  | read | write => exact hs

theorem exec_keeps_memoryCanonical {c : Instr} {s t : State} (hs : MemoryCanonical s) (h : exec c s = .next t) : MemoryCanonical t := by
  cases exec_effect h with
  | device hd => exact (congrArg Mem.wf hd.mem).trans hs
  | frame i => exact State.wf_runSlots i ((congrArg Mem.wf s.atJump_mem).trans hs)
  | step | set => exact (congrArg Mem.wf s.atJump_mem).trans hs
  | start => exact hs
  | powerOn _ _ _ hd | filled _ hd => exact Mem.wf_fill ((congrArg Mem.wf hd.mem).trans hs)
  | read op octets => exact memRead_wf _ op octets hs
  | write op data last => exact memWrite_wf _ op data last hs

/-- Settles O1: the two branches of `step`. -/
theorem frontCommandRunsOrTheBlockIdles : Obligations.FrontCommandRunsOrTheBlockIdles := by
  unfold Obligations.FrontCommandRunsOrTheBlockIdles
  exact ⟨fun c rest s h => by rw [step, h], fun s h => by rw [step, h]⟩

/-- What every command keeps, every step keeps, when taking a command from the queue keeps it. -/
theorem step_keeps {p : State → Prop} (hpop : ∀ (s : State) (rest : List Instr), p s → p { s with pending := rest })
    (hexec : ∀ {c : Instr} {s t : State}, p s → exec c s = .next t → p t) {s t : State} (hs : p s) (h : step s = .next t) : p t := by
  unfold step at h
  split at h
  · exact Host.Outcome.next.inj h ▸ hs
  · exact hexec (hpop s _ hs) h

/-- Settles O3: every command keeps the canonical form, whatever memory operation it runs. -/
theorem stepKeepsMemoryCanonical : Obligations.StepKeepsMemoryCanonical := by
  unfold Obligations.StepKeepsMemoryCanonical
  exact fun s t => step_keeps (fun _ _ hs => hs) exec_keeps_memoryCanonical

/-- Settles O4: a counter that moves at a frame start takes the end of the frame it then lies in. -/
theorem stepKeepsClockInFrame : Obligations.StepKeepsClockInFrame := by
  unfold Obligations.StepKeepsClockInFrame
  exact fun s t => step_keeps (fun _ _ hs => hs) exec_keeps_clockInFrame

/-- Settles O5: every one of the nine effects leaves the queue. -/
theorem commandsLeaveTheQueue : Obligations.CommandsLeaveTheQueue := by
  unfold Obligations.CommandsLeaveTheQueue
  intro c s t h
  cases exec_effect h with
  | device hd => exact hd.pending
  | frame i => exact (State.runSlots_frame _ i).2.2.2.trans s.atJump_pending
  | step | set => exact s.atJump_pending
  | start => rfl
  | powerOn _ _ _ hd | filled _ hd => exact hd.pending
  | read | write => rfl

/-- Settles O6: of the nine effects only those of the four frame events move the timescale. -/
theorem onlyFrameEventsMoveTheTimescale : Obligations.OnlyFrameEventsMoveTheTimescale := by
  unfold Obligations.OnlyFrameEventsMoveTheTimescale
  intro c s t hframe hstep hset hstart h
  cases exec_effect h with
  | device hd => exact ⟨hd.ts, hd.boundary, hd.frames⟩
  | frame i => exact absurd rfl (hframe i)
  | step => exact absurd rfl hstep
  | set => exact absurd rfl hset
  | start a b => exact absurd rfl (hstart a b)
  | powerOn _ _ _ hd | filled _ hd => exact ⟨hd.ts, hd.boundary, hd.frames⟩
  | read | write => exact ⟨rfl, rfl, rfl⟩

/-- Settles O7: of the nine effects only those of the memory commands change the memories. -/
theorem onlyMemoryCommandsChangeMemory : Obligations.OnlyMemoryCommandsChangeMemory := by
  unfold Obligations.OnlyMemoryCommandsChangeMemory
  intro c s t hframe hread hwrite hfill hpower h target offset
  have hmem : t.mem = s.mem := by
    cases exec_effect h with
    | device hd => exact hd.mem
    | frame i => exact absurd rfl (hframe i)
    | step | set => exact s.atJump_mem
    | start => rfl
    | powerOn a b e => exact absurd rfl (hpower a b e)
    | filled n => exact absurd rfl (hfill n)
    | read op n => exact absurd rfl (hread op n)
    | write op data last => exact absurd rfl (hwrite op data last)
  rw [hmem]

/-- Settles O8. -/
theorem memoryOctetsReadAsWritten : Obligations.MemoryOctetsReadAsWritten := by
  unfold Obligations.MemoryOctetsReadAsWritten
  exact fun m target offset other v hwf => ⟨Mem.read_write_self target offset v hwf,
    fun hne => Mem.read_write_ne target offset other v (Ne.symm hne), Mem.wf_write target offset v hwf⟩

end Sys2Proof.Machine
end

section
/-!
PROOF. Rules of the register file that the proofs below share: what an update of one register leaves of the others, and what leaves
everything but the registers.

`Dev.Keeps es d d'` says that every register outside a list reads as before; `Dev.rest` is the device without its registers and exact
quantities, so that an equation of `rest` says that a step touched registers and quantities alone.
-/
namespace Sys2Proof.Machine

/-! ### Addresses -/

theorem Entry.addr_ne_of_sub {e f : Entry} (h : e.sub ≠ f.sub) (he : e.sub < 256) (hf : f.sub < 256) : e.addr ≠ f.addr := by
  unfold Entry.addr
  omega

theorem Entry.addr_ne_of_index {e f : Entry} (h : e.index ≠ f.index) (he : e.sub < 256) (hf : f.sub < 256) : e.addr ≠ f.addr := by
  unfold Entry.addr
  omega

/-! ### Loops over units -/

/-- A property that each round keeps holds after the loop. -/
theorem foldl_keeps {α β : Type} {p : α → Prop} {f : α → β → α} {l : List β} {a : α} (h0 : p a)
    (hf : ∀ x, ∀ b ∈ l, p x → p (f x b)) : p (l.foldl f a) := by
  induction l generalizing a with
  | nil => exact h0
  | cons b t ih => exact ih (hf a b (.head _) h0) fun x c hc => hf x c (.tail _ hc)

theorem forUnits_keeps {α : Type} {p : α → Prop} {n : Nat} {f : Nat → α → α} {a : α} (h0 : p a)
    (hf : ∀ i < n, ∀ x, p x → p (f i x)) : p (forUnits n f a) :=
  foldl_keeps h0 fun x i hi => hf i (List.mem_range.1 hi) x

/-- What each round leaves alone the loop leaves alone. -/
theorem foldl_view {α β γ : Type} (g : α → γ) {f : α → β → α} {l : List β} {a : α} (hf : ∀ x, ∀ b ∈ l, g (f x b) = g x) :
    g (l.foldl f a) = g a :=
  foldl_keeps (p := fun x => g x = g a) rfl fun x b hb hx => (hf x b hb).trans hx

theorem forUnits_view {α γ : Type} (g : α → γ) {n : Nat} {f : Nat → α → α} {a : α} (hf : ∀ i < n, ∀ x, g (f i x) = g x) :
    g (forUnits n f a) = g a :=
  foldl_view g fun x i hi => hf i (List.mem_range.1 hi) x

namespace Dev

/-! ### One register -/

theorem get_add_ne (d : Dev) (e f : Entry) (n : Nat) (h : e.addr ≠ f.addr) : (d.add e n).get f = d.get f := get_set_ne d e f _ h

theorem get_clearAll_ne (d : Dev) (es : List Entry) (f : Entry) (h : ∀ e ∈ es, e.addr ≠ f.addr) : (d.clearAll es).get f = d.get f :=
  foldl_view (get · f) fun x e he => get_clear_ne x e f (h e he)

theorem get_setAll_ne (d : Dev) (es : List Entry) (v : Nat) (f : Entry) (h : ∀ e ∈ es, e.addr ≠ f.addr) :
    (d.setAll es v).get f = d.get f :=
  foldl_view (get · f) fun x e he => get_set_ne x e f v (h e he)

@[simp] theorem get_setQ (d : Dev) (k : Nat) (v : Rat) (e : Entry) : (d.setQ k v).get e = d.get e := rfl

@[simp] theorem get_dropQ (d : Dev) (p : Nat → Bool) (e : Entry) : (d.dropQ p).get e = d.get e := rfl

@[simp] theorem get_out (d : Dev) (x : Emit) (e : Entry) : (d.out x).get e = d.get e := rfl

@[simp] theorem get_setB_self (d : Dev) (e : Entry) (b : Bool) : (d.setB e b).get e = (if b then 1 else 0) % e.modulus :=
  get_set_self d e _

theorem get_lt_of_set (d : Dev) (e : Entry) {v : Nat} (h : v < e.modulus) : (d.set e v).get e = v :=
  (get_set_self d e v).trans (Nat.mod_eq_of_lt h)

/-- A counter that is counted up reads one more, or stays at all ones. -/
theorem get_inc (d : Dev) (e : Entry) : (d.inc e).get e = min (d.get e + 1) (e.modulus - 1) := by
  have hpos : 0 < e.modulus := Nat.pow_pos (by decide)
  rw [get_inc_self, Nat.mod_eq_of_lt (by omega)]

/-! ### Every register but some -/

/-- Every register outside the list reads as before. -/
def Keeps (es : List Entry) (d d' : Dev) : Prop := ∀ e : Entry, (∀ x ∈ es, x.addr ≠ e.addr) → d'.get e = d.get e

namespace Keeps

variable {es fs : List Entry} {d d' d'' : Dev}

theorem refl (es : List Entry) (d : Dev) : Keeps es d d := fun _ _ => rfl

theorem trans (h : Keeps es d d') (h' : Keeps es d' d'') : Keeps es d d'' := fun e he => (h' e he).trans (h e he)

theorem mono (h : Keeps es d d') (hsub : es ⊆ fs) : Keeps fs d d' := fun e he => h e fun x hx => he x (hsub hx)

theorem of_regs (h : d'.regs = d.regs) : Keeps es d d' := fun e _ => get_congr e h

theorem set {e : Entry} (h : Keeps es d d') (he : e ∈ es) (v : Nat) : Keeps es d (d'.set e v) :=
  fun f hf => (get_set_ne d' e f v (hf e he)).trans (h f hf)

theorem setB {e : Entry} (h : Keeps es d d') (he : e ∈ es) (b : Bool) : Keeps es d (d'.setB e b) := h.set he _

theorem setI {e : Entry} (h : Keeps es d d') (he : e ∈ es) (i : Int) : Keeps es d (d'.setI e i) := h.set he _

theorem add {e : Entry} (h : Keeps es d d') (he : e ∈ es) (n : Nat) : Keeps es d (d'.add e n) := h.set he _

theorem inc {e : Entry} (h : Keeps es d d') (he : e ∈ es) : Keeps es d (d'.inc e) := h.set he _

theorem clear {e : Entry} (h : Keeps es d d') (he : e ∈ es) : Keeps es d (d'.clear e) := h.set he _

theorem clearAll {l : List Entry} (h : Keeps es d d') (hl : l ⊆ es) : Keeps es d (d'.clearAll l) :=
  fun f hf => (get_clearAll_ne d' l f fun e he => hf e (hl he)).trans (h f hf)

theorem setQ (h : Keeps es d d') (k : Nat) (v : Rat) : Keeps es d (d'.setQ k v) := h

theorem post (h : Keeps es d d') (n : Nat) (l : List (Nat × Nat)) : Keeps es d (d'.post n l) := h

theorem out (h : Keeps es d d') (x : Emit) : Keeps es d (d'.out x) := h

theorem ite {c : Prop} [Decidable c] {a b : Dev} (ha : Keeps es d a) (hb : Keeps es d b) : Keeps es d (if c then a else b) := by
  split
  · exact ha
  · exact hb

theorem forUnits {n : Nat} {f : Nat → Dev → Dev} (h : Keeps es d d') (hf : ∀ i < n, ∀ x, Keeps es x (f i x)) :
    Keeps es d (forUnits n f d') :=
  forUnits_keeps h fun i hi x hx => hx.trans (hf i hi x)

theorem foldl {β : Type} {f : Dev → β → Dev} {l : List β} (h : Keeps es d d') (hf : ∀ x, ∀ b ∈ l, Keeps es x (f x b)) :
    Keeps es d (l.foldl f d') :=
  foldl_keeps h fun x b hb hx => hx.trans (hf x b hb)

end Keeps

/-! ### Everything but the registers and the exact quantities -/

/-- The device without its registers and exact quantities. -/
def rest (d : Dev) : Dev := { d with regs := [], rats := [] }

@[simp] theorem rest_set (d : Dev) (e : Entry) (v : Nat) : (d.set e v).rest = d.rest := (rfl)
@[simp] theorem rest_setB (d : Dev) (e : Entry) (b : Bool) : (d.setB e b).rest = d.rest := (rfl)
@[simp] theorem rest_setI (d : Dev) (e : Entry) (i : Int) : (d.setI e i).rest = d.rest := (rfl)
@[simp] theorem rest_add (d : Dev) (e : Entry) (n : Nat) : (d.add e n).rest = d.rest := (rfl)
@[simp] theorem rest_inc (d : Dev) (e : Entry) : (d.inc e).rest = d.rest := (rfl)
@[simp] theorem rest_clear (d : Dev) (e : Entry) : (d.clear e).rest = d.rest := (rfl)
@[simp] theorem rest_setQ (d : Dev) (k : Nat) (v : Rat) : (d.setQ k v).rest = d.rest := (rfl)
@[simp] theorem rest_dropQ (d : Dev) (p : Nat → Bool) : (d.dropQ p).rest = d.rest := (rfl)
@[simp] theorem rest_post (d : Dev) (n : Nat) (l : List (Nat × Nat)) : (d.post n l).rest = d.rest.post n l := (rfl)
@[simp] theorem rest_out (d : Dev) (x : Emit) : (d.out x).rest = d.rest.out x := (rfl)
@[simp] theorem rest_clearAll (d : Dev) (es : List Entry) : (d.clearAll es).rest = d.rest := foldl_view rest fun _ _ _ => rfl
@[simp] theorem rest_setAll (d : Dev) (es : List Entry) (v : Nat) : (d.setAll es v).rest = d.rest := foldl_view rest fun _ _ _ => rfl

/-- Whatever is read off the device without its registers reads the same on both. -/
theorem of_rest {γ : Type} {g : Dev → γ} {d d' : Dev} (h : d'.rest = d.rest) (hg : ∀ x : Dev, g x.rest = g x := by exact fun _ => rfl) :
    g d' = g d :=
  (hg d').symm.trans ((congrArg g h).trans (hg d))

end Dev

/-! ### Commands on the device -/

/-- A command on the device that keeps every register outside a list. -/
theorem DeviceStep.onlyRegisters {s t : State} {es : List Entry} (h : DeviceStep s t) (hkeeps : Dev.Keeps es s.dev t.dev) :
    OnlyRegisters s t es :=
  ⟨h.mem, h.pending, h.ts, h.boundary, hkeeps⟩

theorem DeviceStep.deviceOnly {s t : State} (h : DeviceStep s t) : DeviceOnly s t := ⟨h.mem, h.pending, h.ts, h.boundary⟩

namespace State

/-- A register program of a command changes the registers that it names. -/
theorem onDevAt_onlyRegisters (s : State) (now : Nat) {f : Dev → Dev} {es : List Entry} (h : Dev.Keeps es (s.begin now) (f (s.begin now))) :
    OnlyRegisters s (s.onDevAt now f) es :=
  (s.deviceStep_onDevAt now f).onlyRegisters h

theorem onDev_onlyRegisters (s : State) {f : Dev → Dev} {es : List Entry} (h : Dev.Keeps es s.met (f s.met)) :
    OnlyRegisters s (s.onDev f) es :=
  s.onDevAt_onlyRegisters _ h

/-- A command whose condition holds acts on the device. -/
theorem during_of {s : State} {c : Bool} (h : c = true) (f : Dev → Dev) : s.during c f = s.onDev f := by rw [h]; rfl

theorem duringAt_of {s : State} {c : Bool} (h : c = true) (now : Nat) (f : Dev → Dev) : s.duringAt c now f = s.onDevAt now f := by
  rw [h]; rfl

@[simp] theorem met_get (s : State) (e : Entry) : s.met.get e = s.dev.get e := rfl

end State

end Sys2Proof.Machine
end

section
/-!
PROOF. The state after reset (R10, R695), and the sequencer's corrections and overruns (R44, R56, R109 to R112).
-/
namespace Sys2Proof.Machine

/-! ### The state after reset -/

theorem Sparse.mem_of_find {α : Type} {l : List (Nat × α)} {k : Nat} {v : α} (h : Sparse.find l k = some v) : (k, v) ∈ l := by
  induction l with
  | nil => cases h
  | cons x t ih =>
    unfold Sparse.find at h
    split at h
    next hk => exact List.mem_cons.2 (.inl (Prod.ext hk.symm (Option.some.inj h).symm))
    next => exact .tail _ (ih h)

/-- A register that is not listed reads its default (R10). -/
theorem Dev.get_of_not_listed {d : Dev} {e : Entry} (h : ∀ p ∈ d.regs, p.1 ≠ e.addr) : d.get e = e.reset := by
  unfold Dev.get
  split
  next hv => exact absurd rfl (h _ (Sparse.mem_of_find hv))
  next => rfl

/-- Whether the reset may list a register: the two dictionary entries that it sets, or an internal register. -/
def listedAtReset (addr : Nat) : Bool :=
  addr == Dict.lastResetDomains.addr || (List.range 128).any (fun n => addr == (Dict.evtRailState n).addr) || decide (0x1000000 ≤ addr)

theorem reset_lists : State.reset.dev.regs.all (fun p => listedAtReset p.1) = true := by decide +kernel

/-- Settles O2: the reset lists no other entry, and the test access port is run on the 36 edges. -/
theorem resetReadsDefaultsAndIsSound : Obligations.ResetReadsDefaultsAndIsSound := by
  unfold Obligations.ResetReadsDefaultsAndIsSound
  refine ⟨⟨rfl, rfl, rfl, rfl, rfl, rfl, fun e hindex hsub hdomains hrail => Dev.get_of_not_listed fun p hp hpe => ?_⟩,
    ⟨rfl, by decide, by decide⟩, by decide⟩
  have hlisted := List.all_eq_true.1 reset_lists p hp
  simp only [listedAtReset, hpe, Bool.or_eq_true, beq_iff_eq, List.any_eq_true, List.mem_range, decide_eq_true_eq] at hlisted
  rcases hlisted with (h | ⟨n, hn, h⟩) | h
  · exact hdomains h
  · exact hrail n hn h
  · unfold Entry.addr at h
    omega

/-! ### A step or set at its frame start -/

namespace Dev

/-- What is pending and what is left to slew. -/
def pace (d : Dev) : Option Correction × Int := (d.corr, d.slewLeft)

theorem pace_of_rest {d d' : Dev} (h : d'.rest = d.rest) : d'.pace = d.pace := of_rest (g := pace) h

@[simp] theorem pace_set (d : Dev) (e : Entry) (v : Nat) : (d.set e v).pace = d.pace := (rfl)
@[simp] theorem pace_setB (d : Dev) (e : Entry) (b : Bool) : (d.setB e b).pace = d.pace := (rfl)
@[simp] theorem pace_setI (d : Dev) (e : Entry) (i : Int) : (d.setI e i).pace = d.pace := (rfl)
@[simp] theorem pace_add (d : Dev) (e : Entry) (n : Nat) : (d.add e n).pace = d.pace := (rfl)
@[simp] theorem pace_inc (d : Dev) (e : Entry) : (d.inc e).pace = d.pace := (rfl)
@[simp] theorem pace_setQ (d : Dev) (k : Nat) (v : Rat) : (d.setQ k v).pace = d.pace := (rfl)
@[simp] theorem pace_clearAll (d : Dev) (es : List Entry) : (d.clearAll es).pace = d.pace := foldl_view pace fun _ _ _ => rfl
@[simp] theorem pace_post (d : Dev) (n : Nat) (l : List (Nat × Nat)) : (d.post n l).pace = d.pace := (rfl)
@[simp] theorem pace_out (d : Dev) (x : Emit) : (d.out x).pace = d.pace := (rfl)
@[simp] theorem pace_drive (d : Dev) (pin : Nat) (level : PinLevel) (t : Nat) : (d.drive pin level t).pace = d.pace := (rfl)

theorem pace_recordDiscontinuity (d : Dev) (isSet : Bool) (size : Int) : (d.recordDiscontinuity isSet size).pace = (none, 0) := by
  cases isSet <;> rfl

theorem pace_shiftBuildOut (d : Dev) (r : Nat) (units : Rat) : (d.shiftBuildOut r units).pace = d.pace := by
  simp only [shiftBuildOut]
  split
  · split <;> rfl
  · split <;> split <;> rfl

@[simp] theorem pace_shiftEstimate (d : Dev) (r : Nat) (units : Rat) : (d.shiftEstimate r units).pace = d.pace :=
  pace_shiftBuildOut _ r units

theorem pace_moved (d : Dev) (e : Entry) (v : Nat) : (if d.get e = 0 then d else d.set e v).pace = d.pace := by
  split <;> rfl

theorem pace_moveKept (d : Dev) (units : Int) (e : Entry) : (d.moveKept units e).pace = d.pace := pace_moved d e _

theorem pace_shiftHistories (d : Dev) (units : Int) : (d.shiftHistories units).pace = d.pace := (rfl)

theorem pace_shiftReferences (d : Dev) (units : Int) : (d.shiftReferences units).pace = d.pace := by
  unfold shiftReferences
  rw [pace_shiftHistories]
  refine (forUnits_view pace fun _ _ x => pace_moveKept x units _).trans ?_
  refine forUnits_view pace fun r _ x => (foldl_view pace fun y _ _ => pace_moveKept y units _).trans ?_
  split <;> split <;> simp only [pace_setQ, pace_shiftEstimate]

theorem pace_shiftClockStamps (d : Dev) (units : Int) : (d.shiftClockStamps units).pace = d.pace :=
  forUnits_view pace fun _ _ _ => rfl

theorem pace_held (d : Dev) (held : List HeldFrame) (queue : List StampEntry) :
    ({ d with held := held, stampQueue := queue } : Dev).pace = d.pace := (rfl)

theorem pace_shiftPorts (d : Dev) (units : Int) : (d.shiftPorts units).pace = d.pace := by
  unfold shiftPorts
  rw [pace_held]
  exact forUnits_view pace fun _ _ _ => (forUnits_view pace fun _ _ x => pace_moved x _ _).trans (foldl_view pace fun x _ _ => pace_moved x _ _)

theorem pace_shiftProtocols (d : Dev) (units : Int) : (d.shiftProtocols units).pace = d.pace := (rfl)

theorem pace_shiftMarks (d : Dev) (units : Int) : (d.shiftMarks units).pace = d.pace := (rfl)

theorem pace_xoStamps (d : Dev) (l : List (Nat × Nat)) : ({ d with xoStamps := l } : Dev).pace = d.pace := (rfl)

theorem pace_moveWindows (d : Dev) (units : Int) : (d.moveWindows units).pace = d.pace := by
  unfold moveWindows
  rw [pace_xoStamps, forUnits_view pace fun _ _ x => pace_moved x _ _]
  refine forUnits_view pace fun _ _ x => ?_
  dsimp only
  split <;> simp only [pace_set, pace_clearAll]

theorem pace_movePulses (d : Dev) (size : Int) : (d.movePulses size).pace = d.pace :=
  (forUnits_view pace fun _ _ x => pace_moved x _ _).trans (forUnits_view pace fun _ _ x => pace_moved x _ _)

@[simp] theorem rest_ownDest (d : Dev) (n : Nat) (own : Bool) : (d.ownDest n own).rest = d.rest := by
  simp only [ownDest]
  split <;> split <;> rfl

@[simp] theorem rest_endTimer (d : Dev) (n state : Nat) : (d.endTimer n state).rest = d.rest := by
  simp [endTimer]

theorem pace_endTimer (d : Dev) (n state : Nat) : (d.endTimer n state).pace = d.pace := pace_of_rest (rest_endTimer d n state)

theorem pace_setNext (d : Dev) (n u : Nat) : (d.setNext n u).pace = d.pace := pace_set d _ _

theorem pace_recordFire (d : Dev) (n target : Nat) : (d.recordFire n target).pace = d.pace := (pace_inc _ _).trans (pace_set d _ _)

theorem pace_fireDest (d : Dev) (n instant : Nat) : (d.fireDest n instant).pace = d.pace := by
  simp only [fireDest]
  split
  · split <;> simp only [pace_drive, pace_set, pace_setB, pace_setI]
  · split <;> rfl

theorem pace_missGroup (d : Dev) (n limit : Nat) (atStep : Bool) : (d.missGroup n limit atStep).pace = d.pace := by
  unfold missGroup
  dsimp only
  split
  · rfl
  · split <;> rw [apply_ite pace] <;>
      simp only [pace_endTimer, pace_setNext, pace_fireDest, pace_recordFire, pace_post, pace_set, pace_add, ite_self]

theorem pace_timersAfterStep (d : Dev) (instant : Nat) : (d.timersAfterStep instant).pace = d.pace :=
  forUnits_view pace fun _ _ x => pace_missGroup x _ _ _

theorem pace_timersAfterSet (d : Dev) : d.timersAfterSet.pace = d.pace :=
  forUnits_view pace fun n _ x => by
    split
    · split <;> simp only [pace_setNext, pace_post, pace_endTimer]
    · rfl

theorem pace_realignAfterJump (d : Dev) (size : Int) : (d.realignAfterJump size).pace = d.pace :=
  forUnits_view pace fun n _ x => by
    dsimp only
    split
    · rfl
    · split
      · exact pace_setQ _ _ _
      · rfl

end Dev

/-- After a step or set nothing is pending and nothing is left to slew (R112). -/
theorem State.jump_pace (s : State) (isSet : Bool) (size : Int) : (s.jump isSet size).dev.pace = (none, 0) := by
  unfold State.jump
  dsimp only
  rw [Dev.pace_realignAfterJump]
  cases isSet <;>
    simp only [Bool.false_eq_true, if_false, if_true, Dev.pace_timersAfterStep, Dev.pace_setB, Dev.pace_timersAfterSet, Dev.pace_movePulses,
      Dev.pace_moveWindows, Dev.pace_shiftMarks, Dev.pace_shiftProtocols, Dev.pace_shiftPorts, Dev.pace_shiftClockStamps,
      Dev.pace_shiftReferences, Dev.pace_recordDiscontinuity]

namespace State

theorem beforeFrame_nextStart (s : State) : s.beforeFrame.nextStart = s.nextStart := (rfl)

/-- A pending correction that is due where the counter stands applies. -/
theorem dueJump_of_due {s : State} {c : Correction} (hcorr : s.dev.corr = some c) (hdue : c.due ≤ s.clock.ts / subUnits) :
    s.dueJump = s.jump c.isSet c.size := by
  simp only [dueJump, hcorr, hdue, decide_true, if_true]

/-- A correction that is due at the next frame start applies there. -/
theorem atJump_of_due {s : State} {c : Correction} (hstart : s.clock.atStart = false) (hcorr : s.dev.corr = some c)
    (hdue : c.due ≤ s.nextStart / subUnits) : s.atJump = s.beforeFrame.reach.jump c.isSet c.size :=
  dueJump_of_due ((reach_corr _).trans hcorr) (by rw [reach_ts (s := s.beforeFrame) hstart]; exact hdue)

theorem jumpDue_of_due {s : State} {c : Correction} (hstart : s.clock.atStart = false) (hcorr : s.dev.corr = some c)
    (hdue : c.due ≤ s.clock.boundary) : s.jumpDue c.isSet = true := by
  simp [jumpDue, hcorr, hstart, hdue]

end State

/-- In service STEP_APPLY and SET_APPLY bring the counter to the frame start at which their correction is due. -/
theorem exec_apply_of_due {s : State} {isSet : Bool} (hservice : s.inService = true) (hdue : s.jumpDue isSet = true) :
    exec (if isSet then .setApply else .stepApply) s = .next s.atJump := by
  cases isSet
  · change execStepApply s = _
    rw [execStepApply, hservice, hdue]
    rfl
  · change execSetApply s = _
    rw [execSetApply, hservice, hdue]
    rfl

/-- Settles O10: the counter jumps from the next frame start, where the correction leaves nothing to follow. -/
theorem correctionAppliesAtFrameStart : Obligations.CorrectionAppliesAtFrameStart := by
  unfold Obligations.CorrectionAppliesAtFrameStart
  intro s c hservice hstart hcorr hdue hreach hsize
  have hjump : s.atJump = s.beforeFrame.reach.jump c.isSet c.size := State.atJump_of_due hstart hcorr (Nat.le_trans hdue hreach)
  have hpace : s.atJump.dev.pace = (none, 0) := hjump ▸ State.jump_pace _ _ _
  refine ⟨_, exec_apply_of_due hservice (State.jumpDue_of_due hstart hcorr hdue), ?_, ?_, ?_, congrArg Prod.fst hpace,
    congrArg Prod.snd hpace, s.atJump_mem, s.atJump_pending⟩
  · have hts : s.atJump.clock.ts = ((s.nextStart : Int) + c.size * (subUnits : Int)).toNat := by
      rw [hjump, ← State.beforeFrame_nextStart, ← State.reach_ts (s := s.beforeFrame) hstart]
      rfl
    rw [hts, Int.toNat_of_nonneg hsize]
  · rw [hjump]
    rfl
  · rw [hjump]
    rfl

/-! ### An overrun -/

theorem Dev.sequencerOverrun_first {d : Dev} {slot : Nat} (number : Nat) (hslot : slot < 8) (hnone : d.get Hid.abortedSlots = 0) :
    d.sequencerOverrun slot number =
      (((d.inc Dict.seqOverrunCount).set Dict.seqLastOverrunSlot slot).set Hid.abortedSlots (2 ^ slot)).post 8 [(2, number), (1, slot)] := by
  have hruns : d.slotRuns slot = true := by
    rw [Dev.slotRuns, hnone]
    apply of_lt hslot; decide
  have hbit : setBit 0 slot = 2 ^ slot := by apply of_lt hslot; decide
  simp only [Dev.sequencerOverrun, Nat.not_le.2 hslot, hruns, hnone, hbit, Bool.not_true, Bool.false_eq_true, or_self, if_false,
    beq_self_eq_true, if_true]

/-- Settles O11: no slot is aborted yet, so the overrun is the frame's first and is raised. -/
theorem overrunIsCountedAndRaised : Obligations.OverrunIsCountedAndRaised := by
  unfold Obligations.OverrunIsCountedAndRaised
  intro s slot hslot hserves hnone
  have hexec : exec (.sequencerOverrun slot) s = .next (s.onDev fun d => d.sequencerOverrun slot s.nextFrameNumber) :=
    congrArg _ (State.during_of hserves _)
  have heffect := Dev.sequencerOverrun_first (d := s.met) s.nextFrameNumber hslot hnone
  have hpow : 2 ^ slot < Hid.abortedSlots.modulus := Nat.pow_lt_pow_right (n := 8) (by decide) hslot
  refine ⟨_, hexec, ?_, ?_, ?_, ?_, s.onDev_onlyRegisters ?_⟩
  · refine (congrArg (Dev.get · _) heffect).trans ?_
    rw [Dev.get_post, Dev.get_set_ne _ _ _ _ (by decide), Dev.get_set_ne _ _ _ _ (by decide), Dev.get_inc, State.met_get]
  · refine (congrArg (Dev.get · _) heffect).trans ?_
    rw [Dev.get_post, Dev.get_set_ne _ _ _ _ (by decide)]
    exact Dev.get_lt_of_set _ _ (Nat.lt_trans hslot (by decide))
  · exact (congrArg (Dev.get · _) heffect).trans (Dev.get_lt_of_set _ _ hpow)
  · exact (congrArg Dev.posted heffect)
  · rw [heffect]
    exact ((((Dev.Keeps.refl _ _).inc (by simp)).set (by simp) _).set (by simp) _).post _ _

end Sys2Proof.Machine
end

section
/-!
PROOF. Writes of any items: a refutation of the statements that take every admitted Write (O27, O39, O43, O44, O46, O60).

`State.admits` judges a Write on the device as the message finds it; the device judges it after the lanes have served the message's tag
(R79, R460), which counts up the HMAC blocks of the frame. No register within its width makes the two differ. But the statements
quantify over raw registers as well: where the OutApll of CKO0 holds 0x16FF0, beyond its one octet, the rate of that output is read
from the address of the HMAC blocks, and OutEnable is refused though it was admitted.
-/
namespace Sys2Proof.Machine

/-- OutEnable of CKO0. -/
def rateItem : Item := (Dict.outEnable 0).item ⟨1, 1⟩

/-- An authenticated session of a Custodian on host SPI. -/
def rateSession : Session := ⟨4, 7, true, ⟨0, 0, 0, 0⟩, 2, false, true, 1, 2, 0, 0, 5, [5], 9, [], [], 1000, none, 0, 0, 0⟩

/-- The head of its next Write, tagged and checked. -/
def rateHead : Head :=
  let body := Body.octets (.write [rateItem])
  let length := 32 + body.length
  let h : Head := ⟨true, ⟨0, 0, 0, 0⟩, length, 7, 6, 77, tagOf rateSession.hostKey (headerOctets 0x11 length 7 6 77 ++ body), 0⟩
  { h with fcs := frameCheck h 0x11 body }

/-- A device whose OutApll of CKO0 lies beyond its width: `apllRefScale` of that APLL is the register of the frame's HMAC blocks. -/
def rateState : State :=
  let regs := [(Hid.poweredDomains.addr, 0x1FF), ((Dict.outApll 0).addr, 0x16FF0), (Hid.moscFreq.addr, 100000000), (Hid.protoFrame.addr, 1),
    (Hid.protoHmac.addr, 2)]
  ⟨Clock.reset, ⟨[], []⟩, { Dev.factory with regs := regs, sessions := [rateSession] }, []⟩

theorem apllRefScale_is_protoHmac : (Dict.apllRefScale 0x16FF0).addr = Hid.protoHmac.addr := by decide

theorem rateState_admits : rateState.admits rateHead [rateItem] rateSession = true := by decide +kernel

theorem rateState_refuses : (rateState.met.request rateHead (.write [rateItem])).staged = [] := by decide +kernel

/-- A command that serves a Write does not accept this one. -/
theorem not_accepted_of_admits {command : Head → List Item → Instr}
    (hserves : ∀ h items s, exec (command h items) s = .next (s.onDev fun d => d.request h (.write items))) :
    ¬ ∀ (s : State) (h : Head) (items : List Item) (x : Session), s.admits h items x = true →
      ∃ t, exec (command h items) s = .next t ∧ Accepted s t h items x := by
  intro haccepts
  obtain ⟨t, hexec, hstaged, -⟩ := haccepts rateState rateHead [rateItem] rateSession rateState_admits
  obtain rfl := Host.Outcome.next.inj ((hserves _ _ _).symm.trans hexec)
  have hnone : [] = rateState.dev.staged ++ [(⟨[rateItem], none, rateSession.slot⟩ : Staged)] := rateState_refuses.symm.trans hstaged
  exact absurd hnone (by simp)

/-- Refutes O27: APLL_PLAN_WRITE with the items of `rateState`. -/
theorem not_synthesisWritesTakeEffectAtS0 : ¬ Obligations.SynthesisWritesTakeEffectAtS0 := by
  unfold Obligations.SynthesisWritesTakeEffectAtS0
  rintro ⟨haccepts, -⟩
  exact not_accepted_of_admits (command := .apllPlanWrite) (fun _ _ _ => rfl) haccepts

/-- Refutes O39: PORT_ENABLE_WRITE with the items of `rateState`. -/
theorem not_portCommandsAreTaken : ¬ Obligations.PortCommandsAreTaken := by
  unfold Obligations.PortCommandsAreTaken
  rintro ⟨-, -, -, -, haccepts, -⟩
  exact not_accepted_of_admits (command := .portEnableWrite) (fun _ _ _ => rfl) haccepts

/-- Refutes O43: WRITE with the items of `rateState`. -/
theorem not_requestsAreAnswered : ¬ Obligations.RequestsAreAnswered := by
  unfold Obligations.RequestsAreAnswered
  rintro ⟨-, haccepts, -⟩
  exact not_accepted_of_admits (command := .qopWrite) (fun _ _ _ => rfl) haccepts

/-- Refutes O44: MGT_ADDRESS_WRITE with the items of `rateState`. -/
theorem not_notificationsAndFramesLeave : ¬ Obligations.NotificationsAndFramesLeave := by
  unfold Obligations.NotificationsAndFramesLeave
  rintro ⟨-, -, -, -, -, -, -, haccepts, -⟩
  exact not_accepted_of_admits (command := .mgtAddressWrite) (fun _ _ _ => rfl) haccepts

/-- Refutes O46: KEY_SLOT_SPEC with the items of `rateState`. -/
theorem not_keysAreCommittedAndExpire : ¬ Obligations.KeysAreCommittedAndExpire := by
  unfold Obligations.KeysAreCommittedAndExpire
  rintro ⟨-, -, -, haccepts, -⟩
  exact not_accepted_of_admits (command := .keySlotSpec) (fun _ _ _ => rfl) haccepts

/-- Refutes O60: PC_CONFIGURATION_WRITE with the items of `rateState`. -/
theorem not_shutdownRecordsAndPerformanceCounters : ¬ Obligations.ShutdownRecordsAndPerformanceCounters := by
  unfold Obligations.ShutdownRecordsAndPerformanceCounters
  rintro ⟨-, -, -, -, -, -, -, haccepts, -⟩
  exact not_accepted_of_admits (command := .pcConfigurationWrite) (fun _ _ _ => rfl) haccepts

end Sys2Proof.Machine
end

section
/-!
PROOF. Messages received on a lane that no port has: a refutation of the statements that time what a message receives (O48, O50, O51).

`Rx.lane` is any number, and `Dev.rxTime` reads the delay of that lane (R382). Read beyond the lanes of its port, the delay is some other
register: here the frame of the budget (R459), which the message's own admission writes. So what the device records of the message's
arrival differs from the time that `Dev.rxTime` gives at its arrival.
-/
namespace Sys2Proof.Machine

/-- The lane of a port beyond its own whose delay would be the frame of the budget. -/
def budgetLane (q : Nat) : Nat := Hid.protoFrame.addr - (Dict.portRxDelay q 0).addr

theorem portRxDelay_budgetLane : (Dict.portRxDelay 5 (budgetLane 5)).addr = Hid.protoFrame.addr := by decide

/-- A message that port 5 received on that lane. -/
def budgetRx : Rx := ⟨5, budgetLane 5, 2 ^ 60, 0, 0xAB⟩

/-- The block in frame 3 of second 50 with the protocol engine in service, port 5 up and a budget last used in a frame far off. -/
def laneState (l : List (Entry × Nat)) (nrefs : List NrefRun) : State :=
  let start := 50 * secondUnits + 3 * frameUnits
  let base := [(Hid.bootPhase, 5), (Hid.poweredDomains, 0x1FF), (Dict.hmacLanesInService, 32), (Dict.aesLanesInService, 16), (Dict.sysClockSource, 1),
    (Dict.opActive, 2), (Hid.protoFrame, 2 ^ 50), (Dict.portState 5, 3), (Dict.lifeCycleState, 2), (Dict.deviceState, 3), (Dict.outputsPermitted, 1),
    (Dict.startServiceHoldActive, 0), (Dict.portCalTemp 5, 0), (Dict.portRxTempCoeff 5, 0), (Dict.regionTemp (portRegion 5), 0),
    (Dict.portRxExtDelay 5, 0)]
  let regs := (l ++ base).map fun p => (p.1.addr, p.2)
  ⟨⟨start * subUnits, start + frameUnits, false, false, true, start / frameUnits + 1⟩, ⟨[], []⟩, { Dev.factory with regs := regs, nrefs := nrefs }, []⟩

/-! ### A Delay_Req -/

def laneDelayReq : PtpRx := ⟨budgetRx, 0, 0xAB, 0, false, 24, 0x1234, 77, 500, [], none⟩

def delayReqState : State :=
  laneState ([(Dict.instEnable 7, 1), (Dict.instPortMask 7, 32), (Dict.instDomain 7, 24), (Dict.instTransport 7, 0), (Dict.instAuthMode 7, 0),
    (Dict.portPcp 5, 6), (Dict.instMode 7, 0), (Dict.instMcastDelayReqLimit 7, 3), (Dict.boundTlvMessages, 0)] ++ (List.range 7).map fun i => (Dict.instEnable i, 0)) []

/-- The body of the one PTP message that leaves. -/
def ptpBody : List Emit → Option (List Nat)
  | [.frame f] => match f.payload with
    | .ptp _ x => some x.body
    | _ => none
  | _ => none

theorem ptpBody_of_frame {f : SentFrame} {r : Route} {x : PtpMessage} (h : f.payload = .ptp r x) : ptpBody [.frame f] = some x.body := by
  simp [ptpBody, h]

theorem ptpBody_differs :
    let d := delayReqState.begin (delayReqState.arrival budgetRx)
    ptpBody (d.delayReq laneDelayReq).emit ≠ some (ptpTimestamp (d.rxTime budgetRx) ++ octetsOf 10 0x1234) := by decide +kernel

/-- Refutes O48: the Delay_Resp of `delayReqState` states another receive time. -/
theorem not_ptpMessagesLeave : ¬ Obligations.PtpMessagesLeave := by
  unfold Obligations.PtpMessagesLeave
  rintro ⟨-, hanswers⟩
  obtain ⟨t, f, r, x, hexec, hemit, -, hpayload, -, -, -, hbody, -⟩ := hanswers delayReqState laneDelayReq 7 (by decide)
    (by decide) (by decide) (by decide) (by decide) (by decide) (by decide) (by decide)
    (by decide) (by decide) (by decide) (by decide) (by decide) (by decide)
  have hserves : (delayReqState.serves .net && delayReqState.dev.powered .proto) = true := by decide
  obtain rfl := Host.Outcome.next.inj ((congrArg Host.Outcome.next (State.duringAt_of hserves _ _)).symm.trans hexec)
  exact ptpBody_differs ((congrArg ptpBody hemit).trans ((ptpBody_of_frame hpayload).trans (congrArg some hbody)))

/-! ### An NTP request -/

def laneNtpRx : NtpRx := ⟨budgetRx, 4, 0xFFFF * 2 ^ 32 + 0x0A000099, 0xFFFF * 2 ^ 32 + 0x0A000005, 3, 3, 6, 12345⟩

def ntpState : State :=
  laneState [(Dict.ntpEnable, 1), (Dict.ntpPortMask, 32), (Dict.svcIpv4Address 5, 0x0A000005), (Dict.ntpAllowPlain, 1), (Dict.ntpRateBurst, 1),
    (Dict.ntpStratum, 1), (Dict.ntpRateLimit, 5)] []

/-- The receive time of the one NTP message that leaves. -/
def ntpReceive : List Emit → Option Nat
  | [.frame f] => match f.payload with
    | .ntp _ x => some x.receive
    | _ => none
  | _ => none

theorem ntpReceive_of_frame {f : SentFrame} {r : Route} {x : NtpMessage} (h : f.payload = .ntp r x) : ntpReceive [.frame f] = some x.receive := by
  simp [ntpReceive, h]

theorem ntpReceive_differs :
    let d := ntpState.begin (ntpState.arrival budgetRx)
    ntpReceive (d.ntpRequest laneNtpRx).emit ≠ some (ntpTimestamp (d.rxTime budgetRx) (ntpState.dev.utcOffsetAt (d.rxTime budgetRx))) := by
  decide +kernel

/-- Refutes O50: the response of `ntpState` states another receive time. -/
theorem not_ntpRequestsAreAnswered : ¬ Obligations.NtpRequestsAreAnswered := by
  unfold Obligations.NtpRequestsAreAnswered
  rintro ⟨hanswers, -⟩
  obtain ⟨t, f, r, x, hexec, hemit, -, hpayload, -, -, hreceive, -⟩ := hanswers ntpState laneNtpRx (by decide)
    (by decide) (by decide) (by decide) (by decide) (by decide) (by decide) (by decide)
    (by decide) (by decide) (by decide) (by decide) (by decide)
  have hserves : (ntpState.serves .net && ntpState.dev.powered .proto) = true := by decide
  obtain rfl := Host.Outcome.next.inj ((congrArg Host.Outcome.next (State.duringAt_of hserves _ _)).symm.trans hexec)
  exact ntpReceive_differs ((congrArg ntpReceive hemit).trans ((ntpReceive_of_frame hpayload).trans (congrArg some hreceive)))

/-! ### A Sync to an NREF -/

def laneSync : PtpRx := ⟨budgetRx, 0, 0xAB, 0, true, 24, 0x1234, 77, 500, [], none⟩

def nrefState : State :=
  laneState [(Dict.nrefPort 1, 5), (Dict.nrefTransport 1, 0), (Dict.nrefDomain 1, 24), (Dict.nrefMasterAddress 1, 0xAB), (Dict.nrefSa 1, 0xFF),
    (Dict.nrefState 1, 2), (Dict.refRequireAuth 15, 0)] [⟨1, 1, [], [], [], [], false, none⟩]

theorem nrefSyncs_differ :
    let d := nrefState.begin (nrefState.arrival budgetRx)
    (((d.nrefSync 1 laneSync false false 9 none).nrefRun 1).syncs.map (·.t2)).head? ≠ some (d.rxTime budgetRx) := by
  decide +kernel

/-- Refutes O51: the Sync that `nrefState` holds states another receive time. -/
theorem not_nrefFollowsItsMaster : ¬ Obligations.NrefFollowsItsMaster := by
  unfold Obligations.NrefFollowsItsMaster
  rintro ⟨-, -, -, -, -, hsync, -⟩
  obtain ⟨t, hexec, hsyncs, -⟩ := hsync nrefState 1 laneSync false 9 (by decide) (by decide) (by decide)
    (by decide) (by decide) (by decide)
  have hserves : (nrefState.serves .net && nrefState.dev.powered .proto) = true := by decide
  obtain rfl := Host.Outcome.next.inj ((congrArg Host.Outcome.next (State.duringAt_of hserves _ _)).symm.trans hexec)
  exact nrefSyncs_differ (congrArg (fun l : List NrefSync => (l.map (·.t2)).head?) hsyncs)

end Sys2Proof.Machine
end

section
/-!
PROOF. Three statements that a state of raw registers refutes: O20, O28, O30.
-/
namespace Sys2Proof.Machine

/-- What a command on the device leaves of a register that it may not change. -/
theorem State.get_of_onlyRegisters {s : State} {f : Dev → Dev} {es : List Entry} (h : OnlyRegisters s (s.onDev f) es) (e : Entry)
    (he : ∀ x ∈ es, x.addr ≠ e.addr) : (f s.met).get e = s.dev.get e := by
  obtain ⟨-, -, -, -, hkeeps⟩ := h
  exact hkeeps e he

/-! ### A reference that has just begun to wait -/

/-- Reference 0 waits, its timer over, since a frame that lies ahead of the frames that ran. -/
def waitingState : State := laneState [(Dict.refState 0, 2), (Dict.refQc 0, 0), (Hid.refWaitFrame 0, 2 ^ 50)] []

theorem waitingState_waits : (waitingState.met.waitingExpiry 0).get (Dict.refState 0) = 2 := by decide

/-- Refutes O20: WAITING_TIMER_EXPIRY also asks for a frame since the reference began to wait (`Hid.refWaitFrame`). -/
theorem not_waitingReferenceQualifies : ¬ Obligations.WaitingReferenceQualifies := by
  unfold Obligations.WaitingReferenceQualifies
  intro hqualifies
  obtain ⟨t, hexec, hstate, -⟩ := hqualifies waitingState 0 (by decide) (by decide) (by decide) (by decide)
    (by decide) (by decide)
  have hserves : waitingState.serves .time = true := by decide
  obtain rfl := Host.Outcome.next.inj ((congrArg Host.Outcome.next (State.during_of hserves _)).symm.trans hexec)
  exact absurd (waitingState_waits.symm.trans hstate) (by decide)

/-! ### A message of a reference's ToD companion -/

/-- Reference 0 takes its time of day from input 0, and holds a UTC report. -/
def companionState : State := laneState [(Dict.refTodInput 0, 0), (Dict.refMode 0, 2), (Hid.utcReport 0, 7)] []

/-- A message of the ToD format with 40 octets of zeros. -/
def companionOctets : List Nat :=
  let checked := [0x5A, 0x54, 1, 48] ++ List.replicate 40 0
  checked ++ octetsOf 4 (crc32 checked)

/-- A report to the references of input 0 reaches reference 0 where that is its companion. -/
theorem utcReport_reportUtc (d : Dev) (hinput : d.get (Dict.refTodInput 0) = 0) (hmode : d.get (Dict.refMode 0) = 2) :
    (d.reportUtc 0 0 0 0).get (Hid.utcReport 0) = 0 := by
  have hsplit : List.range 8 = 0 :: (List.range 7).map (· + 1) := by decide
  unfold Dev.reportUtc forUnits
  rw [hsplit, List.foldl_cons, foldl_view (Dev.get · (Hid.utcReport 0))]
  · simp only [hinput, hmode, and_self, if_true]
    rw [Dev.get_set_ne _ _ _ _ (by decide), Dev.get_set_ne _ _ _ _ (by decide), Dev.get_set_self, Nat.zero_mod]
  · intro x r hr
    obtain ⟨k, -, rfl⟩ := List.mem_map.1 hr
    have hother : (Hid.utcReport (k + 1)).index ≠ (Hid.utcReport 0).index := by simp [Hid.utcReport, Hid.reg]
    dsimp only
    split
    · rw [Dev.get_set_ne _ (Hid.utcLeapTime (k + 1)) _ _ (Entry.addr_ne_of_index hother (by decide : 22 < 256) (by decide)),
        Dev.get_set_ne _ (Hid.utcLeapKind (k + 1)) _ _ (Entry.addr_ne_of_index hother (by decide : 21 < 256) (by decide)),
        Dev.get_set_ne _ (Hid.utcReport (k + 1)) _ _ (Entry.addr_ne_of_index hother (by decide : 20 < 256) (by decide))]
    · rfl

theorem companionOctets_good : crc32 (companionOctets.take 44) % 2 ^ 32 = ofOctets (companionOctets.drop 44) := by decide +kernel

theorem utcReport_todiMessage : (companionState.met.todiMessage 0 companionOctets).get (Hid.utcReport 0) = 0 := by
  unfold Dev.todiMessage
  have hgood : (companionOctets.length == 48 && ofOctets ((companionOctets.drop 0).take 2) == 0x5A54 &&
    ofOctets ((companionOctets.drop 2).take 1) == 1 && ofOctets ((companionOctets.drop 3).take 1) == 48 &&
    ofOctets ((companionOctets.drop 44).take 4) == crc32 (companionOctets.take 44) % 2 ^ 32) = true := by decide +kernel
  have hplain : bit (ofOctets ((companionOctets.drop 6).take 2)) 14 = false := by decide
  simp only [hgood, hplain, Bool.not_true, Bool.false_eq_true, if_false]
  have hkeep (e : Entry) (hne : ∀ x ∈ [Hid.todSearch 0, Dict.todInGoodCount 0, Dict.todInLast 0, Hid.todAt 0, Hid.todPulse 0,
      Hid.todQuantisation 0], x.addr ≠ e.addr) (d : Dev) (a b c g : Nat) :
      ((((((d.setB (Hid.todSearch 0) true).inc (Dict.todInGoodCount 0)).set (Dict.todInLast 0) a).set (Hid.todAt 0) b).set
        (Hid.todPulse 0) c).set (Hid.todQuantisation 0) g).get e = d.get e :=
    ((((((Dev.Keeps.refl _ d).setB (by simp) true).inc (by simp)).set (by simp) a).set (by simp) b).set (by simp) c).set (by simp) g e hne
  exact utcReport_reportUtc _ ((hkeep _ (by decide) _ _ _ _ _).trans (by decide))
    ((hkeep _ (by decide) _ _ _ _ _).trans (by decide))

/-- Refutes O28: the message reports UTC to the references of its input, reference 0 here, not to number 10 + k. -/
theorem not_outputsReportAndTimeOfDayIsChecked : ¬ Obligations.OutputsReportAndTimeOfDayIsChecked := by
  unfold Obligations.OutputsReportAndTimeOfDayIsChecked
  rintro ⟨-, -, -, -, -, hgood, -⟩
  obtain ⟨t, hexec, -, -, -, honly⟩ := hgood companionState 0 companionOctets (by decide) (by decide) (by decide)
    (by decide +kernel) (by decide +kernel)
  have hserves : companionState.serves .time = true := by decide
  obtain rfl := Host.Outcome.next.inj ((congrArg Host.Outcome.next (State.during_of hserves _)).symm.trans hexec)
  have hkept := State.get_of_onlyRegisters honly (Hid.utcReport 0) (by decide)
  have hbefore : companionState.dev.get (Hid.utcReport 0) = 7 := by decide
  rw [utcReport_todiMessage, hbefore] at hkept
  exact absurd hkept (by decide)

/-! ### The statuses of the channels that no signal takes -/

/-- An entry at the address of channel 1's status with another reset value. -/
def channelStatusReset5 : Entry := { Dict.gnssChannelStatus 1 with dflt := 5 }

def skySat : SkySat := ⟨2, 3, 450, 90, true, false, false⟩

/-- The receiver in Holding with band 0 good and the status of channel 1 listed at zero. -/
def channelState : State :=
  laneState [(Dict.gnssState, 4), (Dict.gnssChannelStatus 1, 0), (Dict.gnssSystemEnable, 2), (Dict.gsClockState 0, 1), (Dict.gnssBandEnable, 3)] []

theorem wantedSignals_channelState : channelState.dev.wantedSignals [skySat] = [(skySat, 0)] := by decide

theorem channelStatusReset5_allocated : (channelState.met.allocateChannels [skySat]).get channelStatusReset5 = 5 := by decide +kernel

/-- Refutes O30: the channels that track nothing return to their reset value, which an entry of another reset value at their address
shows. -/
theorem not_channelsFollowTheWantedSignals : ¬ Obligations.ChannelsFollowTheWantedSignals := by
  unfold Obligations.ChannelsFollowTheWantedSignals
  rintro ⟨-, htakes⟩
  obtain ⟨t, hexec, -, -, honly⟩ := htakes channelState [skySat] (skySat, 0) (by decide +kernel) (by decide +kernel) (by decide +kernel)
    (by decide) wantedSignals_channelState (by decide) (by decide)
  have hserves : channelState.serves .gnss = true := by decide
  obtain rfl := Host.Outcome.next.inj ((congrArg Host.Outcome.next (State.during_of hserves _)).symm.trans hexec)
  have hkept := State.get_of_onlyRegisters honly channelStatusReset5 (by decide)
  have hbefore : channelState.dev.get channelStatusReset5 = 0 := by decide
  rw [channelStatusReset5_allocated, hbefore] at hkept
  exact absurd hkept (by decide)

end Sys2Proof.Machine
end

section
/-!
PROOF. Sessions in slots that the block does not have: a refutation of the statements that read a register after the session has shown
itself (O13, O47).

A session's slot is any number, and SESSION_STATE of a slot beyond the eight lies at the address of some other register.
-/
namespace Sys2Proof.Machine

/-- An unauthenticated Custodian on host SPI in a slot whose SessionState lies at an address. -/
def slotSession (address : Nat) : Session :=
  ⟨address - (Dict.sessionState 0).addr, 7, true, ⟨0, 0, 0, 0⟩, 2, true, true, 1, 2, 0, 0, 5, [5], 9, [], [], 1000, none, 0, 0, 0⟩

/-- The head of its next Write, checked. -/
def slotHead (items : List Item) : Head :=
  let body := Body.octets (.write items)
  let length := 32 + body.length
  let h : Head := ⟨true, ⟨0, 0, 0, 0⟩, length, 7, 6, 77, 0, 0⟩
  { h with fcs := frameCheck h 0x11 body }

/-- The device in Maintenance with that session. -/
def slotState (address : Nat) (regs : List (Entry × Nat)) : State :=
  let regs := (regs ++ [(Hid.poweredDomains, 0x1FF), (Dict.lifeCycleState, 3)]).map fun p : Entry × Nat => (p.1.addr, p.2)
  ⟨Clock.reset, ⟨[], []⟩, { Dev.factory with regs := regs, sessions := [slotSession address] }, []⟩

/-- A correction of 1,000 units in Maintenance, asked for in the slot whose SessionState is StepLeadFrames. -/
def adjustState : State := slotState Dict.stepLeadFrames.addr []

def adjustValue : Value := ⟨8, 1000⟩

theorem adjustState_admits :
    adjustState.admits (slotHead [Dict.timeAdjust.item adjustValue]) [Dict.timeAdjust.item adjustValue] (slotSession Dict.stepLeadFrames.addr) =
      true := by decide +kernel

theorem adjustState_due :
    (adjustState.met.request (slotHead [Dict.timeAdjust.item adjustValue]) (.write [Dict.timeAdjust.item adjustValue])).corr ≠
      some ⟨true, Dict.stepPendingSize.toInt adjustValue.value,
        (adjustState.start / frameUnits + adjustState.dev.get Dict.stepLeadFrames) * frameUnits⟩ := by decide +kernel

/-- Refutes O13: the correction of `adjustState` is due after as many frames as the session's SessionState says. -/
theorem not_hostCorrectionsAreScheduled : ¬ Obligations.HostCorrectionsAreScheduled := by
  unfold Obligations.HostCorrectionsAreScheduled
  rintro ⟨-, hadjusts, -⟩
  obtain ⟨t, hexec, -, -, hcorr⟩ := hadjusts adjustState _ adjustValue _ adjustState_admits (by decide)
  obtain rfl := Host.Outcome.next.inj hexec
  exact adjustState_due hcorr

/-! ### A request of the life cycle -/

/-- A request for Provisioning in the slot whose SessionState is KeyStoreGeneration. -/
def provisionState : State := slotState Dict.keyStoreGeneration.addr []

theorem provisionState_admits :
    provisionState.admits (slotHead [Dict.lifeCycleRequest.item ⟨1, 1⟩]) [Dict.lifeCycleRequest.item ⟨1, 1⟩]
      (slotSession Dict.keyStoreGeneration.addr) = true := by decide +kernel

/-- The generation of the image in commit. -/
def Dev.commitGeneration (d : Dev) : Option Nat := d.keyCommit.map fun c => c.1.generation

theorem Dev.commitGeneration_of_some {d : Dev} {i : KeyImage} {job : KeyJob} (h : d.keyCommit = some (i, job)) :
    d.commitGeneration = some i.generation := by
  rw [Dev.commitGeneration, h, Option.map_some]

theorem Dev.commitGeneration_request {s t : State} {h : Head} {i : KeyImage} {job : KeyJob}
    (hexec : exec (.lifeCycleToProvisioning h) s = .next t) (hcommit : t.dev.keyCommit = some (i, job)) :
    (s.met.request h (.write [Dict.lifeCycleRequest.item ⟨1, 1⟩])).commitGeneration = some i.generation := by
  obtain rfl := Host.Outcome.next.inj hexec
  exact Dev.commitGeneration_of_some hcommit

theorem provisionState_commits :
    (provisionState.met.request (slotHead [Dict.lifeCycleRequest.item ⟨1, 1⟩]) (.write [Dict.lifeCycleRequest.item ⟨1, 1⟩])).commitGeneration ≠
      some (provisionState.dev.get Dict.keyStoreGeneration + 1) := by decide +kernel

/-- Refutes O47: the image of `provisionState` follows the generation that the session's SessionState shows. -/
theorem not_lifeCycleChangesByCommit : ¬ Obligations.LifeCycleChangesByCommit := by
  unfold Obligations.LifeCycleChangesByCommit
  rintro ⟨hrequests, -⟩
  obtain ⟨t, hexec, -, -, hcommit, -⟩ := hrequests provisionState (slotHead [Dict.lifeCycleRequest.item ⟨1, 1⟩]) _ _ 1 (Or.inl ⟨rfl, rfl⟩)
    provisionState_admits (by decide) (by decide)
  exact provisionState_commits (Dev.commitGeneration_request hexec hcommit)

end Sys2Proof.Machine
end

section
/-!
PROOF. Two statements that a state out of the block's range refutes: frames that run while TIME is unpowered (O55), and an operating
point wider than its register (O56).
-/
namespace Sys2Proof.Machine

/-- MEM fills at a start whose frames run although TIME is not powered. -/
def unpoweredState : State :=
  let regs := [(Hid.poweredDomains.addr, 64), (Hid.bootPhase.addr, 2), (Dict.fillState.addr, 1), (Dict.dramState.addr, 2)]
  ⟨{ Clock.reset with running := true }, ⟨[], []⟩, { Dev.factory with regs := regs }, []⟩

theorem unpoweredState_stops : (unpoweredState.clock.follow (unpoweredState.met.fillComplete 0)).running = false := by decide

/-- The clock after FILL_COMPLETE. -/
theorem clock_of_fillComplete {s t : State} {micros : Nat} (hexec : exec (.fillComplete micros) s = .next t)
    (hends : (s.begin s.start).fillEnds = true) : t.clock = s.clock.follow (s.met.fillComplete micros) := by
  have hnext : exec (.fillComplete micros) s = .next (s.onDev fun d => d.fillComplete micros).fill := by
    change execFillComplete micros s = _
    rw [execFillComplete, if_pos hends]
  obtain rfl := Host.Outcome.next.inj (hnext.symm.trans hexec)
  rfl

/-- Refutes O55: in `unpoweredState` the frames stop with FILL_COMPLETE. -/
theorem not_startReachesTimeService : ¬ Obligations.StartReachesTimeService := by
  unfold Obligations.StartReachesTimeService
  rintro ⟨-, -, -, hfills, -⟩
  obtain ⟨t, hexec, -, -, -, -, -, hclock, -⟩ := hfills unpoweredState 0 (by decide) (by decide) (by decide) (by decide)
  have hstays : t.clock.running = true := by rw [hclock]; rfl
  rw [clock_of_fillComplete hexec (by decide), unpoweredState_stops] at hstays
  exact Bool.noConfusion hstays

/-! ### An operating point that its register cannot hold -/

/-- A step up from point 300 is under way, its pass recalled. -/
def pointState : State :=
  ⟨Clock.reset, ⟨[], []⟩, { Dev.factory with regs := [(Dict.opActive.addr, 300), (Hid.opCommanded.addr, 400)] }, []⟩

theorem pointState_commands : ((pointState.begin pointState.start).opStepDown).get Hid.opCommanded = 44 := by decide

theorem get_of_opStepDown {s t : State} (hexec : exec .opStepDown s = .next t) (e : Entry) :
    t.dev.get e = (s.begin s.start).opStepDown.get e := by
  obtain rfl := Host.Outcome.next.inj hexec
  rfl

/-- Refutes O56: the point that `pointState` takes back does not fit the commanded point's octet. -/
theorem not_powerFollowsItsSupplies : ¬ Obligations.PowerFollowsItsSupplies := by
  unfold Obligations.PowerFollowsItsSupplies
  rintro ⟨-, -, -, htaken, -⟩
  obtain ⟨t, hexec, -, hcommanded, -⟩ := htaken pointState (by decide) (by decide)
  rw [get_of_opStepDown hexec, pointState_commands] at hcommanded
  exact absurd hcommanded (by decide)

end Sys2Proof.Machine
end

section
/-!
PROOF. A use of a working slot that the key tree does not have: a refutation of the statement that a pause ends with its marks clear
(O36).

`Dict.saSlotCurrent` may hold any number, and the status of a slot beyond the tree lies at the address of some other register. An
authenticated message that waits for the end of the pause uses the slot, and its status then stands in `Hid.pauseMark`.
-/
namespace Sys2Proof.Machine

/-- The slot whose status entry is the mark of the pause on port 5. -/
def markSlot : Nat := ((Hid.pauseMark 5).addr - (Dict.keySlotStatus 0 0).addr) / 256 * 128 + ((Hid.pauseMark 5).addr - (Dict.keySlotStatus 0 0).addr) % 256

theorem keySlotStatus_markSlot : (Dict.keySlotStatus (markSlot / 128) (markSlot % 128)).addr = (Hid.pauseMark 5).addr := by decide

/-- An authenticated Signalling message that waits on port 5 for the end of the pause. -/
def markJob : TxJob := ⟨5, 0, 0, false, false, .ptp 8 0 ⟨0, 0, 0, 0, 320, 1, 0⟩ ⟨12, 24, 0, 0, 0, 0, 0, 0, []⟩ .none⟩

/-- A specification under stored key 10 with the usage of sending. -/
def markSpec : Nat := 3 * 256 ^ 95 + 4 * 256 ^ 94 + 10 * 256 ^ 92

/-- Port 5 is paused, in a frame of one unit, and the message waits. -/
def pauseState : State :=
  let start := 50 * secondUnits
  let regs := [(Hid.bootPhase, 5), (Hid.poweredDomains, 0x1FF), (Dict.portState 5, 3), (Hid.pauseMark 5, 1), (Dict.saSlotCurrent 0, markSlot),
    (Dev.specEntry markSlot, markSpec)].map fun p : Entry × Nat => (p.1.addr, p.2)
  ⟨⟨start * subUnits, start + 1, false, false, true, 9⟩, ⟨[], []⟩,
    { Dev.factory with regs := regs, txWaiting := [markJob], slots := [⟨markSlot, 2, 0, 1, 0, 0, 0, 0, 5, [], 0⟩],
                       keys := [⟨10, 2, 1, 1, 0, 0, 0, 0, 0, 0, 0, 7, 0⟩] }, []⟩

/-- In a frame of one unit the instant of a command is the frame's start. -/
theorem anyInstant_pauseState : pauseState.anyInstant = pauseState.start := by
  have hearliest : pauseState.earliest = pauseState.start := by decide
  have hone : pauseState.clock.boundary - pauseState.start = 1 := by decide
  rw [State.anyInstant, hearliest, hone, Nat.mod_one, Nat.add_zero]

theorem met_pauseState : pauseState.met = pauseState.begin pauseState.start := congrArg _ anyInstant_pauseState

theorem pauseMark_pauseState : (pauseState.met.pauseExpiry 5).get (Hid.pauseMark 5) ≠ 0 := by
  rw [met_pauseState]
  decide

/-- What a command whose condition holds makes of the device. -/
theorem State.dev_of_during {s t : State} {c : Bool} {f : Dev → Dev}
    (hexec : (.next (s.during c f) : Host.Outcome State Fault Refusal) = .next t) (hc : c = true) : t.dev = f s.met := by
  obtain rfl := Host.Outcome.next.inj hexec
  rw [State.during_of hc]
  rfl

/-- Refutes O36: the mark of the pause on port 5 of `pauseState` shows the slot that the waiting message used. -/
theorem not_receivedFramesAndPausesAreCounted : ¬ Obligations.ReceivedFramesAndPausesAreCounted := by
  unfold Obligations.ReceivedFramesAndPausesAreCounted
  rintro ⟨-, -, -, -, hexpires⟩
  obtain ⟨t, hexec, hmark, -⟩ := hexpires pauseState 5 (by decide) (by decide) (by decide)
    (by rw [anyInstant_pauseState, met_pauseState]; decide)
  rw [State.dev_of_during hexec (by decide)] at hmark
  exact pauseMark_pauseState hmark

end Sys2Proof.Machine
end

section
/-!
PROOF. Answers to address requests and the ESMC of the ports (O38).

That two registers of a port lie at different addresses is decided for all six ports at once.
-/
namespace Sys2Proof.Machine

/-- A command whose condition holds acts on the device as it finds it, and on nothing else. -/
theorem State.during_next {s : State} {c : Bool} (h : c = true) (f : Dev → Dev) :
    ∃ t, (.next (s.during c f) : Host.Outcome State Fault Refusal) = .next t ∧ t.dev = f s.met ∧ DeviceStep s t :=
  ⟨_, congrArg _ (State.during_of h f), rfl, s.deviceStep_onDev f⟩

namespace Dev

theorem get_is_of_eq {d d' : Dev} {e : Entry} (h : d'.get e = d.get e) : d'.is e = d.is e := by rw [is, is, h]

/-! ### Address requests -/

/-- MGT answers a request for an address of its own (R81, R427). -/
theorem answerAddress_mgt {d : Dev} {ip address toward : Nat} (hup : d.is Dict.mgtLinkUp = true) (hne : address ≠ 0)
    (hown : (if ip = 4 then d.get Dict.mgtIpv4Address else d.get Dict.mgtIpv6Address) = address) :
    d.answerAddress 6 ip address toward =
      ((d.inc Dict.mgtRxFrames).inc Dict.mgtTxFrames).out
        (.frame ⟨6, 64, d.now, d.get Dict.mgtMacAddress, [], .resolved ip address (d.get Dict.mgtMacAddress) toward, false⟩) := by
  have h4 : (d.inc Dict.mgtRxFrames).get Dict.mgtIpv4Address = d.get Dict.mgtIpv4Address := get_inc_ne _ _ _ (by decide)
  have h6 : (d.inc Dict.mgtRxFrames).get Dict.mgtIpv6Address = d.get Dict.mgtIpv6Address := get_inc_ne _ _ _ (by decide)
  have hlink : (d.inc Dict.mgtRxFrames).is Dict.mgtLinkUp = true := (get_is_of_eq (get_inc_ne _ _ _ (by decide))).trans hup
  have hmac : (d.inc Dict.mgtRxFrames).get Dict.mgtMacAddress = d.get Dict.mgtMacAddress := get_inc_ne _ _ _ (by decide)
  simp only [answerAddress, hne, h4, h6, hown, hlink, sendResolved, hmac, Nat.lt_irrefl, or_self, if_false, if_true, decide_true,
    Bool.and_self]
  rfl

end Dev

/-- What an answer of MGT leaves. -/
theorem DeviceStep.answerAddress_mgt {s t : State} {ip address toward : Nat} (hstep : DeviceStep s t)
    (hdev : t.dev = s.met.answerAddress 6 ip address toward) (hup : s.dev.is Dict.mgtLinkUp = true) (hne : address ≠ 0)
    (hown : (if ip = 4 then s.dev.get Dict.mgtIpv4Address else s.dev.get Dict.mgtIpv6Address) = address) :
    t.dev.emit = [.frame ⟨6, 64, s.anyInstant, s.dev.get Dict.mgtMacAddress, [],
      .resolved ip address (s.dev.get Dict.mgtMacAddress) toward, false⟩] ∧
    Counts s t Dict.mgtRxFrames ∧ Counts s t Dict.mgtTxFrames ∧ PresentsNone s t ∧ OnlyRegisters s t [Dict.mgtRxFrames, Dict.mgtTxFrames] := by
  rw [Dev.answerAddress_mgt (d := s.met) hup hne hown] at hdev
  refine ⟨by rw [hdev]; rfl, ?_, ?_, by rw [PresentsNone, hdev]; rfl, hstep.onlyRegisters ?_⟩
  · rw [Counts, hdev, Dev.get_out, Dev.get_inc_ne _ _ _ (by decide), Dev.get_inc, State.met_get]
  · rw [Counts, hdev, Dev.get_out, Dev.get_inc, Dev.get_inc_ne _ _ _ (by decide), State.met_get]
  · rw [hdev]
    exact (((Dev.Keeps.refl _ s.met).inc (by simp)).inc (by simp)).out _

/-! ### ESMC -/

namespace Dev

/-- Another address is not answered. -/
theorem answerAddress_other {d : Dev} {q ip address toward : Nat} (hq : q < 6)
    (hother : (if ip = 4 then d.get (Dict.svcIpv4Address q) else d.get (Dict.svcIpv6Address q)) ≠ address) :
    d.answerAddress q ip address toward = d := by
  have hne : q ≠ 6 := by omega
  simp only [answerAddress, hne, hother, if_false, decide_false, Bool.false_and, Bool.false_eq_true, ite_self]

theorem esmcReceive_up {d : Dev} {q ssm : Nat} {enhanced : Option Nat} (hq : q < 6) (hup : d.get (Dict.portState q) = 3) :
    d.esmcReceive q ssm enhanced =
      ((d.inc (Dict.esmcRx q)).set (Hid.esmcAt q) (d.now + 1)).set (Hid.esmcNext q)
        (ssm % 256 * 256 + enhanced.getD 0xFF % 256 + 1) := by
  simp only [esmcReceive, hup, Nat.not_le.2 hq, ne_eq, not_true, or_self, if_false]

/-- The quality of SyncE without a received QL is 15. -/
theorem gradeReference_syncE {d : Dev} {q : Nat} (hq : q < 6) (hstate : d.get (Dict.esmcRxState q) ≠ 1)
    (hoff : d.is (Dict.refEnable (8 + q)) = false) : d.gradeReference (8 + q) = d.set (Dict.refQc (8 + q)) 15 := by
  have h14 : 8 + q < 14 := by omega
  have hat : 8 + q - 8 = q := by omega
  simp only [gradeReference, Nat.not_lt.2 (Nat.le_add_right 8 q), h14, hat, hstate, hoff, if_true, if_false, Bool.false_and,
    Bool.false_eq_true]

theorem esmcTimeout_due {d : Dev} {q : Nat} (hq : q < 6) (hstate : d.get (Dict.esmcRxState q) = 1) (hat : d.get (Hid.esmcAt q) ≠ 0)
    (hdue : d.get (Hid.esmcAt q) - 1 + 5 * secondUnits ≤ d.now) (hoff : d.is (Dict.refEnable (8 + q)) = false) :
    d.esmcTimeout q = ((d.set (Dict.esmcRxState q) 2).set (Dict.refQc (8 + q)) 15).post 95 [] := by
  have htwo : (d.set (Dict.esmcRxState q) 2).get (Dict.esmcRxState q) ≠ 1 := by
    rw [get_lt_of_set _ _ (show 2 < 256 ^ 1 by decide)]
    decide
  have hoff' : (d.set (Dict.esmcRxState q) 2).is (Dict.refEnable (8 + q)) = false :=
    (get_is_of_eq (get_set_ne _ _ _ _ (by apply of_lt hq; decide))).trans hoff
  simp only [esmcTimeout, hstate, hat, Nat.not_le.2 hq, Nat.not_lt.2 hdue, or_self, if_false, Nat.reduceEqDiff,
    gradeReference_syncE hq htwo hoff']

/-- A message of the device's own without a stamp leaves its port, or waits for its priority. -/
theorem keeps_submit_plain {es : List Entry} {d d' : Dev} (h : Keeps es d d') {q prio octets : Nat} {host late : Bool} {p : Payload}
    (hframes : Dict.txFrames q ∈ es) (hoctets : Dict.txOctets q ∈ es) : Keeps es d (d'.submit ⟨q, prio, octets, host, late, .plain p⟩) := by
  unfold submit
  refine .ite h ?_
  unfold commit
  exact .ite h (((h.inc hframes).add hoctets _).out _)

end Dev

/-- No frame starts before the frame that runs. -/
theorem State.start_le_now (s : State) : s.start ≤ s.met.now := by
  change s.start ≤ s.earliest + _
  unfold State.earliest
  split <;> omega

/-- Settles O38: each command's effect on the device, and the registers that the effect writes. -/
theorem addressRequestsAndEsmcPdus : Obligations.AddressRequestsAndEsmcPdus := by
  unfold Obligations.AddressRequestsAndEsmcPdus
  refine ⟨?_, ?_, ?_, ?_, ?_, ?_⟩
  · intro s toward hserves hup hne
    obtain ⟨t, hexec, hdev, hstep⟩ := State.during_next hserves (·.answerAddress 6 4 (s.dev.get Dict.mgtIpv4Address) toward)
    exact ⟨t, hexec, hstep.answerAddress_mgt hdev hup hne (if_pos rfl)⟩
  · intro s toward hserves hup hne
    obtain ⟨t, hexec, hdev, hstep⟩ := State.during_next hserves (·.answerAddress 6 6 (s.dev.get Dict.mgtIpv6Address) toward)
    exact ⟨t, hexec, hstep.answerAddress_mgt hdev hup hne (if_neg (by decide))⟩
  · intro s q address toward hq hserves hother
    obtain ⟨t, hexec, hdev, hstep⟩ := State.during_next hserves (·.answerAddress q 4 address toward)
    rw [Dev.answerAddress_other (d := s.met) hq (by rw [if_pos rfl]; exact hother.symm)] at hdev
    exact ⟨t, hexec, by rw [hdev]; rfl, by rw [PresentsNone, hdev]; rfl, hstep.onlyRegisters (hdev ▸ .refl _ s.met)⟩
  · intro s q ssm enhanced hq hssm hserves hup
    obtain ⟨t, hexec, hdev, hstep⟩ := State.during_next hserves (·.esmcReceive q ssm enhanced)
    rw [Dev.esmcReceive_up (d := s.met) hq hup] at hdev
    refine ⟨t, hexec, ?_, ?_, by rw [PresentsNone, hdev]; rfl, hstep.onlyRegisters ?_⟩
    · simp (disch := apply of_lt hq; decide) only [Counts, hdev, Dev.get_set_ne, Dev.get_inc, State.met_get]
    · have hpos : 0 < (Hid.esmcNext q).modulus := Nat.pow_pos (by decide)
      have hlt : ssm * 256 + enhanced.getD 0xFF % 256 + 1 < (Hid.esmcNext q).modulus := by
        change _ < 256 ^ 4
        omega
      rw [hdev, Nat.mod_eq_of_lt (show ssm < 256 by omega), Dev.get_lt_of_set _ _ hlt]
    · rw [hdev]
      exact (((Dev.Keeps.refl _ s.met).inc (by simp)).set (by simp) _).set (by simp) _
  · intro s q hq hserves hup hstate hat hdue hoff
    obtain ⟨t, hexec, hdev, hstep⟩ := State.during_next hserves (·.esmcTimeout q)
    rw [Dev.esmcTimeout_due (d := s.met) hq hstate hat (Nat.le_trans hdue s.start_le_now) hoff] at hdev
    refine ⟨t, hexec, ?_, by rw [Presents, hdev]; rfl, hstep.onlyRegisters ?_⟩
    · simp (disch := apply of_lt hq; decide) only [hdev, Dev.get_post, Dev.get_set_ne]
      exact Dev.get_lt_of_set _ _ (show 2 < 256 ^ 1 by decide)
    · rw [hdev]
      exact (((Dev.Keeps.refl _ s.met).set (by simp) _).set (by simp) _).post _ _
  · intro s q hq hserves hup hsending hsecond
    obtain ⟨t, hexec, hdev, hstep⟩ := State.during_next hserves (·.esmcInformation q)
    have hnew : s.met.get (Hid.esmcSecond q) ≠ s.met.second + 1 := Nat.ne_of_lt (Nat.lt_succ_of_le hsecond)
    have heffect : s.met.esmcInformation q = (s.met.set (Hid.esmcSecond q) (s.met.second + 1)).sendEsmc q false := by
      have hsending' : s.met.is (Hid.esmcSending q) = true := hsending
      have hup' : s.met.get (Dict.portState q) = 3 := hup
      simp only [Dev.esmcInformation, hsending', hup', hnew, Nat.not_le.2 hq, Bool.not_true, Bool.false_eq_true, ne_eq, not_true, or_self,
        if_false]
    rw [heffect] at hdev
    have hkeeps : Dev.Keeps [Dict.txFrames q, Dict.txOctets q]
        ((s.met.set (Hid.esmcSecond q) (s.met.second + 1)).inc (Dict.esmcTx q)) t.dev := by
      rw [hdev]
      exact Dev.keeps_submit_plain (.refl _ _) (by simp) (by simp)
    refine ⟨t, hexec, ?_, ?_, hstep.onlyRegisters ?_⟩
    · rw [Counts, hkeeps _ ?_, Dev.get_inc,
        Dev.get_set_ne s.met (Hid.esmcSecond q) (Dict.esmcTx q) _ (by apply of_lt hq; decide), State.met_get]
      (apply of_lt hq; decide)
    · rw [hkeeps _ ?_, Dev.get_inc_ne _ (Dict.esmcTx q) (Hid.esmcSecond q) (by apply of_lt hq; decide), Dev.get_set_self]
      · rfl
      · (apply of_lt hq; decide)
    · exact (((Dev.Keeps.refl _ s.met).set (by simp) _).inc (by simp)).trans (hkeeps.mono (by simp))

end Sys2Proof.Machine
end

section
/-!
PROOF. What a frame that is committed to a port leaves alone (R393 to R400, R464), and the exception path (O37).

`Dev.core` is the device without anything that a commit can touch; every function between `dispatch` and `submit` keeps it.
-/
namespace Sys2Proof.Machine

namespace Dev

/-! ### What a commit leaves alone -/

/-- The device without its registers, keys, sessions, queues of stamps and of sent messages, outputs and presented pairs. -/
def core (d : Dev) : Dev :=
  { d with regs := [], rats := [], posted := [], emit := [], slots := [], keys := [], keyJobs := [], sessions := [], stampQueue := [],
           openMarkers := [], txWaiting := [], sentNow := [], nrefs := [] }

theorem core_of_rest {d d' : Dev} (h : d'.rest = d.rest) : d'.core = d.core := of_rest h

@[simp] theorem core_set (d : Dev) (e : Entry) (v : Nat) : (d.set e v).core = d.core := (rfl)
@[simp] theorem core_setB (d : Dev) (e : Entry) (b : Bool) : (d.setB e b).core = d.core := (rfl)
@[simp] theorem core_add (d : Dev) (e : Entry) (n : Nat) : (d.add e n).core = d.core := (rfl)
@[simp] theorem core_inc (d : Dev) (e : Entry) : (d.inc e).core = d.core := (rfl)
@[simp] theorem core_clear (d : Dev) (e : Entry) : (d.clear e).core = d.core := (rfl)
@[simp] theorem core_clearAll (d : Dev) (es : List Entry) : (d.clearAll es).core = d.core := core_of_rest (rest_clearAll d es)
@[simp] theorem core_post (d : Dev) (n : Nat) (l : List (Nat × Nat)) : (d.post n l).core = d.core := (rfl)
@[simp] theorem core_out (d : Dev) (x : Emit) : (d.out x).core = d.core := (rfl)

theorem core_postSecond (d : Dev) (place source : Nat) (l : List (Nat × Nat)) : (d.postSecond place source l).core = d.core := by
  unfold postSecond
  split <;> rfl

theorem core_foldl {β : Type} {f : Dev → β → Dev} (hf : ∀ x b, (f x b).core = x.core) (l : List β) (d : Dev) :
    (l.foldl f d).core = d.core := foldl_view core fun x b _ => hf x b

/-! ### Keys -/

theorem core_showSession (d : Dev) (slot : Nat) : (d.showSession slot).core = d.core := by
  unfold showSession
  split <;> rfl

theorem core_endSession (d : Dev) (slot : Nat) : (d.endSession slot).core = d.core := by
  unfold endSession
  split
  · rw [core_showSession]
    split
    · exact core_clearAll _ _
    · rfl
  · rfl

theorem core_endSessions (d : Dev) (p : Session → Bool) : (d.endSessions p).core = d.core := core_foldl core_endSession _ d

theorem core_showKey (d : Dev) (i : Nat) : (d.showKey i).core = d.core := by
  unfold showKey
  dsimp only
  split
  · split <;> rfl
  · exact core_clearAll d _

theorem core_putKey (d : Dev) (k : KeyRec) : (d.putKey k).core = d.core := core_showKey _ _

theorem core_putSlot (d : Dev) (s : WorkSlot) : (d.putSlot s).core = d.core := by
  unfold putSlot countSlots
  dsimp only
  rw [core_set, core_set]
  rfl

theorem core_announceInvalid (d : Dev) (node cause generation : Nat) : (d.announceInvalid node cause generation).core = d.core := by
  unfold announceInvalid
  split <;> rfl

theorem core_makeStale (d : Dev) (n cause : Nat) : (d.makeStale n cause).core = d.core := by
  unfold makeStale
  dsimp only
  split
  · rfl
  · rw [core_announceInvalid, core_inc, core_putSlot]

theorem core_staleBelow (d : Dev) (node cause : Nat) : (d.staleBelow node cause).core = d.core :=
  (core_foldl (fun _ _ => core_makeStale _ _ _) _ _).trans (core_foldl (fun _ _ => core_makeStale _ _ _) _ _)

theorem core_invalidate (d : Dev) (node : Nat) (expired : Bool) : (d.invalidate node expired).core = d.core := by
  unfold invalidate
  dsimp only
  rw [core_announceInvalid, core_staleBelow]
  split
  · split
    · split
      · exact core_putKey _ _
      · split
        · exact (core_endSessions _ _).trans (core_putKey _ _)
        · exact core_putKey _ _
    · rfl
  · exact core_putSlot _ _

theorem core_countUse (d : Dev) (node : Nat) : (d.countUse node).core = d.core := by
  unfold countUse
  split
  split
  · split
    · dsimp only
      split
      · rw [core_invalidate]
        split <;> exact core_putKey _ _
      · split <;> exact core_putKey _ _
    · rfl
  · dsimp only
    split
    · rw [core_invalidate, core_putSlot]
    · exact core_putSlot _ _

theorem core_dispatch (d : Dev) (node usage : Nat) : (d.dispatch node usage).1.core = d.core := by
  unfold dispatch
  dsimp only
  split
  · rfl
  · split
    · rfl
    · split
      · rfl
      · exact core_countUse d node

/-! ### Frames -/

theorem core_authenticate (d : Dev) (sa : Nat) (m : PtpMessage) : (d.authenticate sa m).1.core = d.core := by
  unfold authenticate
  dsimp only
  split <;> exact core_dispatch _ _ _

theorem core_sendFrame (d : Dev) (f : SentFrame) : (d.sendFrame f).core = d.core := (rfl)

theorem core_countSent (d : Dev) (sender type : Nat) : (d.countSent sender type).core = d.core := by
  unfold countSent
  split
  · rfl
  · split <;> rfl

theorem core_loseStamp (d : Dev) (q tag : Nat) : (d.loseStamp q tag).core = d.core := by
  unfold loseStamp
  dsimp only
  rw [core_postSecond, core_inc]
  split <;> rfl

theorem core_commitHost (d : Dev) (q octets tag : Nat) (stamp : Bool) : (d.commitHost q octets tag stamp).core = d.core := by
  unfold commitHost
  dsimp only
  split
  · rfl
  · split
    · rw [core_loseStamp, core_sendFrame]
    · rfl

theorem core_commitNtp (d : Dev) (q : Nat) (r : Route) (m : NtpMessage) (nts : Option NtsAnswer) (late : Bool) :
    (d.commitNtp q r m nts late).core = d.core := by
  unfold commitNtp
  dsimp only
  rw [core_sendFrame, apply_ite core, apply_ite core]
  simp only [core_post, core_inc, core_add, servedTime, core_setB, carriedBound, core_set, ite_self]

theorem core_commitPtp (d : Dev) (q sender sa : Nat) (r : Route) (m : PtpMessage) (fill : Fill) (late : Bool) :
    (d.commitPtp q sender sa r m fill late).core = d.core := by
  unfold commitPtp
  extract_lets time next m₁ m₂ m₃ stomped
  clear_value m₃
  have hcore : (if sa < 32 then d.authenticate sa m₃ else (d, some m₃)).1.core = d.core := by
    split
    · exact core_authenticate _ _ _
    · rfl
  generalize (if sa < 32 then d.authenticate sa m₃ else (d, some m₃)) = done at hcore
  obtain ⟨d', sent⟩ := done
  cases sent with
  | none =>
    dsimp only
    split
    · exact hcore
    · unfold skipped
      split <;> exact hcore
  | some sent =>
    dsimp -zeta only
    extract_lets tags octets d₁ d₂ d₃ d₄ d₅
    have h₁ : d₁.core = d'.core := (apply_ite core _ _ _).trans (ite_self _)
    have h₂ : d₂.core = d₁.core := (apply_ite core _ _ _).trans ((congrArg _ (core_countSent _ _ _)).trans (ite_self _))
    have h₃ : d₃.core = d₂.core := (apply_ite core _ _ _).trans (ite_self _)
    have h₄ : d₄.core = d₃.core := (apply_ite core _ _ _).trans (ite_self _)
    have h₅ : d₅.core = d₄.core := by cases fill <;> rfl
    exact (core_sendFrame _ _).trans (h₅.trans (h₄.trans (h₃.trans (h₂.trans (h₁.trans hcore)))))

theorem core_commit (d : Dev) (j : TxJob) : (d.commit j).core = d.core := by
  unfold commit
  split
  · rfl
  · split
    · exact core_commitPtp _ _ _ _ _ _ _ _
    · exact core_commitNtp _ _ _ _ _ _
    · exact core_commitHost _ _ _ _ _
    · exact core_sendFrame _ _

theorem core_submit (d : Dev) (j : TxJob) : (d.submit j).core = d.core := by
  unfold submit
  split
  · rfl
  · exact core_commit d j

theorem held_submit (d : Dev) (j : TxJob) : (d.submit j).held = d.held := (congrArg held (core_submit d j) :)

/-! ### Held frames -/

end Dev

theorem length_startDeadline (q deadline : Nat) (l : List HeldFrame) : (startDeadline q deadline l).length = l.length := by
  induction l with
  | nil => rfl
  | cons h l ih =>
    unfold startDeadline
    split
    · rfl
    · simp only [List.length_cons, ih]

namespace Dev

theorem length_held_startHold (d : Dev) (q : Nat) : (d.startHold q).held.length = d.held.length := by
  unfold startHold
  split
  · split
    · rfl
    · have hcore := core_postSecond ({ d with held := startDeadline q (d.now + 64000 * unitsPerNs) d.held }.inc (Dict.stampHolds q))
        (40 + q) 88 []
      exact (congrArg (fun x => x.held.length) hcore).trans (length_startDeadline _ _ _)
  · rfl

/-- Frames that are released leave the hold. -/
theorem length_held_releaseHeld_le (q fuel : Nat) (d : Dev) : (d.releaseHeld q fuel).held.length ≤ d.held.length := by
  induction fuel generalizing d with
  | zero => exact Nat.le_refl _
  | succ fuel ih =>
    unfold releaseHeld
    split
    · split
      · exact Nat.le_of_eq (length_held_startHold d q)
      · refine Nat.le_trans (ih _) ?_
        rw [held_submit]
        exact List.length_eraseP_le
    · exact Nat.le_refl _

theorem length_held_stampHoldExpiry_lt {d : Dev} {q : Nat} {first : HeldFrame} (hfirst : (d.held.find? fun h => h.job.port == q) = some first)
    (hdue : first.deadline ≤ d.now) : (d.stampHoldExpiry q).held.length < d.held.length := by
  simp only [stampHoldExpiry, hfirst, Nat.not_lt.2 hdue, if_false]
  refine Nat.lt_of_le_of_lt (length_held_releaseHeld_le _ _ _) ?_
  rw [held_submit]
  have hmem := List.mem_of_find?_eq_some hfirst
  have hlen := List.length_eraseP_of_mem hmem (List.find?_some hfirst)
  have hpos := List.length_pos_of_mem hmem
  exact hlen ▸ Nat.sub_lt hpos Nat.one_pos

/-! ### The queue of stamps -/

theorem openMarkers_sendDatagram (d : Dev) (kind q reason length tag stamp : Nat) (entries : List StampEntry) :
    (d.sendDatagram kind q reason length tag stamp entries).openMarkers = d.openMarkers := (rfl)

/-- Without a held frame of the port nothing is released. -/
theorem releaseHeld_of_none {d : Dev} {q : Nat} (hheld : (d.held.find? fun h => h.job.port == q) = none) (fuel : Nat) :
    d.releaseHeld q fuel = d := by
  cases fuel with
  | zero => rfl
  | succ fuel =>
    unfold releaseHeld
    rw [hheld]

/-- 32 entries that wait leave in one datagram. -/
theorem stampDrain_full {d : Dev} {q : Nat} (hfull : 32 ≤ (d.stampQueue.filter fun e : StampEntry => e.port == q).length)
    (hready : d.excReady = true) (hmarker : (d.openMarkers.find? fun m => m.port == q) = none)
    (hheld : (d.held.find? fun h => h.job.port == q) = none) :
    d.stampDrain q =
      { d.sendDatagram 3 q 0 (16 * 32) 32 0 ((d.stampQueue.filter fun e : StampEntry => e.port == q).take 32) with
        stampQueue := (d.stampQueue.filter fun e : StampEntry => e.port != q) ++
          (d.stampQueue.filter fun e : StampEntry => e.port == q).drop 32 }.showStamps q := by
  have htake : ((d.stampQueue.filter fun e : StampEntry => e.port == q).take 32).length = 32 := by
    rw [List.length_take]
    omega
  simp only [stampDrain, hfull, hready, decide_true, Bool.true_or, Bool.not_true, Bool.or_self, Bool.false_eq_true, if_false, htake,
    openMarkers_sendDatagram, hmarker]
  exact congrArg (fun x : Dev => x.showStamps q) (releaseHeld_of_none (by exact hheld) 512)

/-! ### Frames of the host -/

/-- Within the second the counts go on. -/
theorem excWindow_of_second {d : Dev} {q : Nat} (hq : q < 6) (hsecond : d.get (Hid.excSecond q) = d.second + 1) :
    (d.inc Dict.mgtRxFrames).excWindow q = d.inc Dict.mgtRxFrames := by
  unfold excWindow
  simp (disch := apply of_lt hq; decide) only [get_inc_ne, hsecond]
  exact if_pos rfl

/-- The priority of a host frame: that of its outer tag. -/
def hostPriority (f : HostFrame) : Nat :=
  match f.tags with
  | t :: _ => t.2 % 8
  | [] => 0

/-- A frame of the bound host within the rate goes on to its port. -/
theorem hostFrame_taken {d : Dev} {f : HostFrame} (hq : f.port < 6) (hup : d.is Dict.mgtLinkUp = true) (hbound : d.get Dict.excBoundPort ≠ 0)
    (haddress : f.address = d.get Dict.excBoundAddress) (hversion : f.version = 1) (hkind : f.kind = 2) (hlength : f.length = f.octets)
    (hoctets : 14 ≤ f.octets) (hstamp : bit f.flags 0 = false) (hsecond : d.get (Hid.excSecond f.port) = d.second + 1)
    (hrate : d.get (Hid.excTaken f.port) < d.get (Dict.portExcRateLimit f.port))
    (hlong : f.octets + 4 ≤ d.get (Dict.portMaxFrame f.port) + 4 * f.tags.length) (hstate : d.get (Dict.portState f.port) = 3)
    (hmax : 24 + f.octets ≤ d.get Dict.excMaxDatagram) :
    d.hostFrame f = (((d.inc Dict.mgtRxFrames).inc (Hid.excTaken f.port)).inc (Dict.excFromHost f.port)).submit
      ⟨f.port, hostPriority f, max 64 (f.octets + 4), true, false, .host f.tag false⟩ := by
  obtain ⟨address, version, kind, q, flags, length, tag, octets, tags⟩ := f
  dsimp only at *
  have hwindow : (d.inc Dict.mgtRxFrames).excWindow q = d.inc Dict.mgtRxFrames := excWindow_of_second hq hsecond
  simp (disch := apply of_lt hq; decide) only [hostFrame, hup, hwindow, Nat.not_le.2 hq, get_inc_ne, haddress, hbound, hversion,
    hkind, hlength, Nat.not_lt.2 hoctets, Nat.not_le.2 hrate, Nat.not_lt.2 hmax, Nat.not_lt.2 hlong, hstate, hstamp, Bool.not_true, Bool.false_eq_true,
    decide_false, ne_eq, not_true, or_self, if_false, offerFrame]
  rfl

/-- A host frame without a stamp leaves its port, or waits for its priority. -/
theorem keeps_submit_host {es : List Entry} {d d' : Dev} (h : Keeps es d d') {q prio octets tag : Nat} {host late : Bool}
    (hframes : Dict.txFrames q ∈ es) (hoctets : Dict.txOctets q ∈ es) : Keeps es d (d'.submit ⟨q, prio, octets, host, late, .host tag false⟩) := by
  unfold submit
  refine .ite h ?_
  unfold commit
  exact .ite h (((h.inc hframes).add hoctets _).out _)

/-- A frame from elsewhere than the bound host is dropped. -/
theorem hostFrame_stranger {d : Dev} {f : HostFrame} (hq : f.port < 6) (hup : d.is Dict.mgtLinkUp = true)
    (haddress : f.address ≠ d.get Dict.excBoundAddress) (hsecond : d.get (Hid.excSecond f.port) = d.second + 1) :
    d.hostFrame f = (d.inc Dict.mgtRxFrames).inc (Dict.excDropped f.port) := by
  obtain ⟨address, version, kind, q, flags, length, tag, octets, tags⟩ := f
  dsimp only at *
  have hwindow : (d.inc Dict.mgtRxFrames).excWindow q = d.inc Dict.mgtRxFrames := excWindow_of_second hq hsecond
  simp (disch := apply of_lt hq; decide) only [hostFrame, hup, hwindow, Nat.not_le.2 hq, get_inc_ne, haddress, Bool.not_true,
    Bool.false_eq_true, ne_eq, not_false_eq_true, true_or, or_true, if_false, if_true]

end Dev

/-- Settles O37: the exception path keeps its hold, its queue of stamps and its counters. -/
theorem exceptionPathCarriesStampsAndFrames : Obligations.ExceptionPathCarriesStampsAndFrames := by
  unfold Obligations.ExceptionPathCarriesStampsAndFrames
  refine ⟨?_, ?_, ?_, ?_⟩
  · intro s q first hq hserves hfirst hdue
    obtain ⟨t, hexec, hdev, hstep⟩ := State.during_next hserves (·.stampHoldExpiry q)
    refine ⟨t, hexec, ?_, hstep.deviceOnly⟩
    rw [hdev]
    exact Dev.length_held_stampHoldExpiry_lt (d := s.met) hfirst (Nat.le_trans hdue s.start_le_now)
  · intro s q hq hserves hfull hready hmarker hheld
    obtain ⟨t, hexec, hdev, hstep⟩ := State.during_next hserves (·.stampDrain q)
    rw [Dev.stampDrain_full (d := s.met) hfull hready hmarker hheld] at hdev
    refine ⟨t, hexec, by rw [hdev]; rfl, ?_, by rw [PresentsNone, hdev]; rfl, hstep.onlyRegisters ?_⟩
    · have hqueue : t.dev.stampQueue = (s.dev.stampQueue.filter fun e => e.port != q) ++
          (s.dev.stampQueue.filter fun e => e.port == q).drop 32 := by
        rw [hdev]
        rfl
      have hothers : ((s.dev.stampQueue.filter fun e => e.port != q).filter fun e => e.port == q) = [] := by
        simp [List.filter_filter]
      have hmine : ((s.dev.stampQueue.filter fun e => e.port == q).drop 32).filter (fun e => e.port == q) =
          (s.dev.stampQueue.filter fun e => e.port == q).drop 32 :=
        List.filter_eq_self.2 fun e he => (List.mem_filter.1 (List.mem_of_mem_drop he)).2
      rw [hqueue, List.filter_append, hothers, hmine, List.nil_append]
    · rw [hdev]
      refine .set (.trans (.inc (.refl _ s.met) ?_) (.of_regs rfl)) ?_ _ <;> simp
  · intro s f hq hserves hup hbound haddress hversion hkind hlength hoctets hstamp hsecond hrate hlong hstate hmax
    obtain ⟨t, hexec, hdev, hstep⟩ := State.during_next hserves (·.hostFrame f)
    rw [Dev.hostFrame_taken (d := s.met) hq hup hbound haddress hversion hkind hlength hoctets hstamp hsecond hrate hlong hstate hmax] at hdev
    have hkeeps : Dev.Keeps [Dict.txFrames f.port, Dict.txOctets f.port]
        (((s.met.inc Dict.mgtRxFrames).inc (Hid.excTaken f.port)).inc (Dict.excFromHost f.port)) t.dev := by
      rw [hdev]
      exact Dev.keeps_submit_host (.refl _ _) (by simp) (by simp)
    generalize f.port = q at hq hkeeps ⊢
    refine ⟨t, hexec, ?_, ?_, ?_, hstep.onlyRegisters ?_⟩
    · rw [Counts, hkeeps _ (by apply of_lt hq; decide), Dev.get_inc]
      simp (disch := apply of_lt hq; decide) only [Dev.get_inc_ne, State.met_get]
    · rw [Counts, hkeeps _ (by apply of_lt hq; decide)]
      simp (disch := apply of_lt hq; decide) only [Dev.get_inc_ne, Dev.get_inc, State.met_get]
    · rw [hkeeps _ (by apply of_lt hq; decide)]
      simp (disch := apply of_lt hq; decide) only [Dev.get_inc_ne, State.met_get]
    · exact ((((Dev.Keeps.refl _ s.met).inc (by simp)).inc (by simp)).inc (by simp)).trans (hkeeps.mono (by simp))
  · intro s f hq hserves hup haddress hsecond
    obtain ⟨t, hexec, hdev, hstep⟩ := State.during_next hserves (·.hostFrame f)
    rw [Dev.hostFrame_stranger (d := s.met) hq hup haddress hsecond] at hdev
    have hnone : PresentsNone s t := by
      rw [PresentsNone, hdev]
      rfl
    generalize f.port = q at hq hdev ⊢
    refine ⟨t, hexec, ?_, ?_, hnone, hstep.onlyRegisters ?_⟩
    · rw [Counts, hdev, Dev.get_inc]
      simp (disch := apply of_lt hq; decide) only [Dev.get_inc_ne, State.met_get]
    · rw [Counts, hdev]
      simp (disch := apply of_lt hq; decide) only [Dev.get_inc_ne, Dev.get_inc, State.met_get]
    · rw [hdev]
      exact ((Dev.Keeps.refl _ s.met).inc (by simp)).inc (by simp)

end Sys2Proof.Machine
end

section
/-!
PROOF. The channels: the swap of the twins (O17), and the edges that they stamp and miss (O16).
-/
namespace Sys2Proof.Machine

namespace Dev

/-! ### The start of a collection -/

/-- The registers that the start of a line's collection writes (R147, R156, R160). -/
def collectionRegisters (c line : Nat) : List Entry :=
  [Hid.lineResult (c * 2 + line), Hid.tempBase (c * 2 + line), Hid.voltBase (c * 2 + line), Hid.readBase (c * 2 + line),
    Hid.lineStart (c * 2 + line), Hid.lineRestarted (c * 2 + line), Hid.twinCount c, Hid.twinSum c, Hid.twinMax c, Hid.twinState c]

theorem keeps_startCollection (d : Dev) (c line : Nat) : Keeps (collectionRegisters c line) d (d.startCollection c line) := by
  unfold startCollection markCollection collectionRegisters
  refine .clearAll (.setB (.set (.set (.set (.set (.clear (.refl _ d) ?_) ?_ _) ?_ _) ?_ _) ?_ _) ?_ _) ?_ <;> simp

/-- Nothing is decided of a line whose collection starts. -/
theorem lineResult_startCollection {c line : Nat} (hc : c < 19) (hline : line < 2) (d : Dev) :
    (d.startCollection c line).get (Hid.lineResult (c * 2 + line)) = 0 := by
  unfold startCollection markCollection
  simp (disch := apply of_lt₂ hc hline; decide) only [clearAll, List.foldl_cons, List.foldl_nil, setB, get_clear_ne, get_set_ne,
    get_clear_self]
  rfl

theorem posted_startCollection (d : Dev) (c line : Nat) : (d.startCollection c line).posted = d.posted := by
  unfold startCollection
  exact of_rest (g := posted) (d := d) (by simp [markCollection])

/-- The table of the line in service is shown in the channel's entries. -/
theorem keeps_showTable (d : Dev) (c : Nat) : Keeps (if c < 16 then (List.range 8).map (Dict.chBinTable c) else []) d (d.showTable c) := by
  unfold showTable
  by_cases hc : c < 16
  · rw [if_pos hc, if_neg (Nat.not_le.2 hc)]
    exact .forUnits (.refl _ d) fun j hj x => .set (.refl _ x) (List.mem_map_of_mem (List.mem_range.2 hj)) _
  · rw [if_pos (Nat.not_lt.1 hc)]
    exact .refl _ d

theorem rest_showTable (d : Dev) (c : Nat) : (d.showTable c).rest = d.rest := by
  unfold showTable
  split
  · rfl
  · exact forUnits_view rest fun _ _ _ => rfl

/-! ### The swap -/

/-- What the swap itself writes: the line in service, its count and its instant, and the state of calibration. -/
def swapLine (d : Dev) (c next : Nat) : Dev :=
  ((((d.set (chLineReg c) next).inc (chReg Dict.chCalCount Dict.linkChCalCount c)).set (Hid.swapAt c) d.view.frameStart).set
    (chCalStatusReg c) 0).set (Hid.calFailRun c) 0

/-- At its frame start the line whose table and twin check passed goes into service, and the other starts its collection. -/
theorem twinSwap_due {d : Dev} {c old : Nat} (hc : c < 19) (hold : old < 2) (hstate : d.get (chStateReg c) = 2) (hdue : d.framesToSwap c = 0)
    (hline : d.get (chLineReg c) = old) (hresult : d.get (Hid.lineResult (c * 2 + (1 - old))) = 1) (htwin : d.get (Hid.twinState c) = 1) :
    d.twinSwap c = ((d.swapLine c (1 - old)).showTable c).startCollection c old := by
  have hdecide : d.twinDecide c = d := by simp [twinDecide, htwin]
  simp (disch := apply of_lt hc; decide) only [twinSwap, hdecide, hstate, hdue, hline, Nat.mod_eq_of_lt hold, hresult, htwin, Nat.not_le.2 hc, get_set_ne, get_inc_ne,
    Nat.reduceEqDiff, ne_eq, not_true, not_false_eq_true, or_self, and_self, if_false, if_true]
  rfl

end Dev

/-- Settles O17: the registers of the swap stand apart from those of the collection that it starts. -/
theorem twinSwapChangesLine : Obligations.TwinSwapChangesLine := by
  unfold Obligations.TwinSwapChangesLine
  intro s c hc hserves hstate hdue hold hresult htwin
  generalize hline : s.dev.get (chLineReg c) = old at hold hresult ⊢
  obtain ⟨t, hexec, hdev, hstep⟩ := State.during_next hserves (·.twinSwap c)
  rw [Dev.twinSwap_due (d := s.met) hc hold hstate hdue hline hresult htwin] at hdev
  have hkeeps := ((Dev.keeps_showTable (s.met.swapLine c (1 - old)) c).mono (List.subset_append_right (Dev.collectionRegisters c old) _)).trans
    ((Dev.keeps_startCollection _ c old).mono (List.subset_append_left _ _))
  rw [← hdev] at hkeeps
  unfold Dev.swapLine at hkeeps
  refine ⟨t, hexec, ?_, ?_, ?_, ?_, ?_, ?_, hstep.onlyRegisters ?_⟩
  · rw [hkeeps _ (by apply of_lt₂ hc hold; decide)]
    simp (disch := apply of_lt hc; decide) only [Dev.get_set_ne, Dev.get_inc_ne]
    exact Dev.get_lt_of_set _ _ (by apply of_lt₂ hc hold; decide)
  · rw [Counts, hkeeps _ (by apply of_lt₂ hc hold; decide)]
    simp (disch := apply of_lt hc; decide) only [Dev.get_set_ne, Dev.get_inc, State.met_get]
  · rw [hkeeps _ (by apply of_lt₂ hc hold; decide)]
    simp (disch := apply of_lt hc; decide) only [Dev.get_set_ne, Dev.get_set_self, Nat.zero_mod]
  · rw [hdev, Dev.lineResult_startCollection hc hold]
  · rw [hkeeps _ (by apply of_lt₂ hc hold; decide)]
    simp (disch := apply of_lt hc; decide) only [Dev.get_set_ne, Dev.get_set_self]
    rfl
  · rw [PresentsNone, hdev, Dev.posted_startCollection]
    exact (Dev.of_rest (g := Dev.posted) (Dev.rest_showTable (s.met.swapLine c (1 - old)) c)).trans rfl
  · refine .trans (d := s.dev) ?_ (hkeeps.mono ?_)
    · exact (((((Dev.Keeps.refl _ s.met).set (by simp) _).inc (by simp)).set (by simp) _).set (by simp) _).set (by simp) _
    · intro e he
      simp only [Dev.collectionRegisters, List.mem_append, List.mem_cons, List.not_mem_nil, or_false] at he ⊢
      grind only

/-! ### Edges -/

namespace Dev

theorem edgesAt_cases (d : Dev) (c t : Nat) : d.edgesAt c t = Hid.prevEdges c ∨ d.edgesAt c t = Hid.frameEdges c := by
  unfold edgesAt
  split
  · exact .inl rfl
  · exact .inr rfl

/-- What an accepted edge of an open channel writes. -/
theorem keeps_acceptEdge_open {d : Dev} {c t centre : Nat} (hc : c < 16) (hopen : d.get (Dict.chWinMode c) = 0) :
    Keeps [Hid.winTaken c, Hid.missRun c, Hid.prescaleArmed c, Hid.prescaleCount c] d (d.acceptEdge c t centre) := by
  have hbase : Keeps [Hid.winTaken c, Hid.missRun c, Hid.prescaleArmed c, Hid.prescaleCount c] d
      ((d.set (Hid.winTaken c) (centre + 1)).set (Hid.missRun c) 0) := ((Keeps.refl _ d).set (by simp) _).set (by simp) _
  have hmode : ((d.set (Hid.winTaken c) (centre + 1)).set (Hid.missRun c) 0).get (Dict.chWinMode c) ≠ 2 := by
    simp (disch := apply of_lt hc; decide) only [get_set_ne, hopen]
    decide
  unfold acceptEdge
  simp only [hmode, and_false, if_false]
  exact .ite ((hbase.set (by simp) _).setB (by simp) _) hbase

theorem rest_acceptEdge (d : Dev) (c t centre : Nat) : (d.acceptEdge c t centre).rest = d.rest := by
  unfold acceptEdge
  extract_lets d₁ d₂ d₃
  have h₃ : d₃.rest = d₁.rest := by
    simp only [d₃, d₂, apply_ite rest, rest_set, rest_setB, ite_self]
  rw [apply_ite rest]
  simp only [rest_set, rest_setB, ite_self, h₃, d₁]

theorem keeps_captureStamp (c : Nat) (d : Dev) (t : Nat) :
    Keeps (Dict.chCaptureSeq c :: (List.range 64).map (Dict.chCaptureSlot c)) d (d.captureStamp c t) := by
  unfold captureStamp
  refine .ite (.set (.set (.refl _ d) (.tail _ (List.mem_map_of_mem (List.mem_range.2 ?_))) _) (by simp) _) (.refl _ d)
  exact Nat.mod_lt _ (by decide)

theorem rest_captureStamp (d : Dev) (c t : Nat) : (d.captureStamp c t).rest = d.rest :=
  (apply_ite rest _ _ _).trans (ite_self _)

/-- The device with one stamp more for S0. -/
def withStamp (d : Dev) (x : Stamp) : Dev := { d with stamps := d.stamps ++ [x] }

theorem stamps_withStamp (d : Dev) (x : Stamp) : (d.withStamp x).stamps = d.stamps ++ [x] := (rfl)

theorem posted_withStamp (d : Dev) (x : Stamp) : (d.withStamp x).posted = d.posted := (rfl)

theorem rest_withStamp (d : Dev) (x : Stamp) : (d.withStamp x).rest = d.rest.withStamp x := (rfl)

theorem keeps_withStamp (es : List Entry) (d : Dev) (x : Stamp) : Keeps es d (d.withStamp x) := .of_regs rfl

theorem get_withStamp (d : Dev) (x : Stamp) (e : Entry) : (d.withStamp x).get e = d.get e := (rfl)

/-- A stamp is recorded for its channel, counted and kept for S0. -/
theorem deliver_eq {c : Nat} (hc : c < 16) (d : Dev) (t : Nat) :
    d.deliver c t =
      ((((d.set (Dict.chLastStamp c) (toTime96 t)).inc (Dict.chStampCount c)).withStamp
        ⟨c, d.get (Dict.chAssigned c), t, d.is (Hid.movedMark c)⟩).setB (Hid.movedMark c) false).captureStamp c t := by
  unfold deliver
  extract_lets d₁ d₂ d₃
  have h₁ : d₁ = d.set (Dict.chLastStamp c) (toTime96 t) := by simp only [d₁, chReg, hc, if_true]
  have h₂ : d₂ = (d.set (Dict.chLastStamp c) (toTime96 t)).inc (Dict.chStampCount c) := by simp only [d₂, h₁, chReg, hc, if_true]
  have h₃ : d₃ = d₂.withStamp ⟨c, d₂.chSourceOf c, t, d₂.is (Hid.movedMark c)⟩ := rfl
  clear_value d₁ d₂ d₃
  subst h₃ h₂
  have hsource : ((d.set (Dict.chLastStamp c) (toTime96 t)).inc (Dict.chStampCount c)).chSourceOf c = d.get (Dict.chAssigned c) := by
    simp (disch := apply of_lt hc; decide) only [chSourceOf, hc, if_true, get_inc_ne, get_set_ne]
  have hmoved : ((d.set (Dict.chLastStamp c) (toTime96 t)).inc (Dict.chStampCount c)).is (Hid.movedMark c) = d.is (Hid.movedMark c) :=
    get_is_of_eq (by simp (disch := apply of_lt hc; decide) only [get_inc_ne, get_set_ne])
  rw [hsource, hmoved]

/-- The registers that a delivered stamp writes. -/
def deliveryRegisters (c : Nat) : List Entry :=
  [Dict.chLastStamp c, Dict.chStampCount c, Hid.movedMark c, Dict.chCaptureSeq c] ++ (List.range 64).map (Dict.chCaptureSlot c)

theorem keeps_deliver {c : Nat} (hc : c < 16) (d : Dev) (t : Nat) : Keeps (deliveryRegisters c) d (d.deliver c t) := by
  rw [deliver_eq hc]
  have hwritten : Keeps (deliveryRegisters c) d ((((d.set (Dict.chLastStamp c) (toTime96 t)).inc (Dict.chStampCount c)).withStamp
      ⟨c, d.get (Dict.chAssigned c), t, d.is (Hid.movedMark c)⟩).setB (Hid.movedMark c) false) := by
    unfold deliveryRegisters
    exact .setB (.trans (((Keeps.refl _ d).set (by simp) _).inc (by simp)) (keeps_withStamp _ _ _)) (by simp) _
  refine hwritten.trans ((keeps_captureStamp c _ t).mono ?_)
  unfold deliveryRegisters
  intro x hx
  simp only [List.mem_append, List.mem_cons] at hx ⊢
  grind only

theorem chStampCount_deliver {c : Nat} (hc : c < 16) (d : Dev) (t : Nat) :
    (d.deliver c t).get (Dict.chStampCount c) = min (d.get (Dict.chStampCount c) + 1) ((Dict.chStampCount c).modulus - 1) := by
  rw [deliver_eq hc, keeps_captureStamp c _ t _ (by apply of_lt hc; decide)]
  simp (disch := apply of_lt hc; decide) only [setB, get_set_ne, get_withStamp, get_inc]

theorem chLastStamp_deliver {c : Nat} (hc : c < 16) (d : Dev) (t : Nat) :
    (d.deliver c t).get (Dict.chLastStamp c) = toTime96 t % 2 ^ 96 := by
  rw [deliver_eq hc, keeps_captureStamp c _ t _ (by apply of_lt hc; decide)]
  simp (disch := apply of_lt hc; decide) only [setB, get_set_ne, get_withStamp, get_inc_ne, get_set_self]
  rfl

theorem rest_deliver {c : Nat} (hc : c < 16) (d : Dev) (t : Nat) :
    (d.deliver c t).rest = (d.withStamp ⟨c, d.get (Dict.chAssigned c), t, d.is (Hid.movedMark c)⟩).rest := by
  rw [deliver_eq hc, rest_captureStamp, rest_setB, rest_withStamp, rest_inc, rest_set, rest_withStamp]

/-! ### An edge of an open channel -/

/-- The counter in a cycle of a frame that does not slew. -/
theorem toNat_cycles (start units fraction cycle increment : Nat) :
    ((start : Int) * units + fraction + (cycle : Int) * increment + (0 : Nat)).toNat = start * units + fraction + cycle * increment := by
  have hcast : (start : Int) * units + fraction + (cycle : Int) * increment + (0 : Nat) =
      ((start * units + fraction + cycle * increment : Nat) : Int) := by
    simp only [Int.natCast_add, Int.natCast_mul, Int.natCast_zero, Int.add_zero]
  rw [hcast, Int.toNat_natCast]

/-- An edge that the line in service reads on an open channel becomes a stamp at the converted time. -/
theorem inputEdge_open {d : Dev} {c line cycle j f ts : Nat} (hc : c < 16) (hline : line < 2) (hj : j < 8) (hf : f ≤ 64)
    (hts : d.view.frameStart * subUnits + d.view.fraction = ts)
    (hstate : d.get (Dict.chState c) = 2 ∨ d.get (Dict.chState c) = 3) (hopen : d.get (Dict.chWinMode c) = 0)
    (hprescale : d.get (Dict.chPrescale c) ≤ 1) (hextra : d.get Hid.slewExtra = 0) (hback : d.is Hid.slewBack = false) {time : Nat}
    (htime : time = (d.convert c (c * 2 + line) (ts + cycle * d.get Dict.incrementActive) j f).toNat) (hreads : line = d.lineFor c time)
    (hroom : d.get (d.edgesAt c time) < 64) (hstop : d.get (Hid.lastStop (c * 2 + line)) + 8 * unitsPerNs ≤ time) :
    d.inputEdge c line cycle j f none =
      (((d.set (Hid.lastStop (c * 2 + line)) time).set (d.edgesAt c time) (d.get (d.edgesAt c time) + 1)).acceptEdge c time time).deliver c time := by
  have hcycles : ((d.view.frameStart : Int) * subUnits + d.view.fraction + (cycle : Int) * d.get Dict.incrementActive + (0 : Nat)).toNat =
      ts + cycle * d.get Dict.incrementActive := by
    rw [← hts]
    exact toNat_cycles _ _ _ _ _
  have hpass : d.prescale c = (d, true) := by simp only [prescale, hprescale, true_or, or_true, if_true]
  have hwindow : d.windowOf c time = some time := by simp only [windowOf, hc, hopen, if_true, true_or]
  have hguard : ¬(¬(d.get (chStateReg c) = 2 ∨ d.get (chStateReg c) = 3) ∨ 19 ≤ c ∨ 8 ≤ j ∨ 64 < f ∨ 2 ≤ line) := by
    rw [show chStateReg c = Dict.chState c from if_pos hc]
    omega
  have hlate : ¬(time < d.get (Hid.lastStop (c * 2 + line)) + 8 * unitsPerNs ∧ d.get (Hid.lastStop (c * 2 + line)) ≤ time) := by omega
  have hedges : (d.set (Hid.lastStop (c * 2 + line)) time).edgesAt c time = d.edgesAt c time := rfl
  have hcount : (d.set (Hid.lastStop (c * 2 + line)) time).get (d.edgesAt c time) = d.get (d.edgesAt c time) := by
    rcases d.edgesAt_cases c time with h | h <;> rw [h] <;>
      simp (disch := apply of_lt₂ hc hline; decide) only [get_set_ne]
  unfold inputEdge
  simp only [hguard, if_false, hextra, Nat.min_zero, hback, Bool.false_eq_true, hcycles, ← htime, hpass, ← hreads, ne_eq, not_true,
    Bool.not_true, hlate, hwindow, hc, if_true, hopen, false_and, Nat.not_le.2 hroom, hedges, hcount]

/-- The registers that an edge of an open channel writes before its stamp is delivered. -/
def edgeRegisters (d : Dev) (c line time : Nat) : List Entry :=
  [Hid.lastStop (c * 2 + line), d.edgesAt c time, Hid.winTaken c, Hid.missRun c, Hid.prescaleArmed c, Hid.prescaleCount c]

/-- An accepted edge of an open channel, before its stamp is delivered. -/
def takeEdge (d : Dev) (c line time : Nat) : Dev :=
  ((d.set (Hid.lastStop (c * 2 + line)) time).set (d.edgesAt c time) (d.get (d.edgesAt c time) + 1)).acceptEdge c time time

theorem keeps_takeEdge {d : Dev} {c line : Nat} (hc : c < 16) (hline : line < 2) (hopen : d.get (Dict.chWinMode c) = 0) (time : Nat) :
    Keeps (d.edgeRegisters c line time) d (d.takeEdge c line time) := by
  unfold takeEdge edgeRegisters
  refine .trans (((Keeps.refl _ d).set (by simp) _).set (by simp) _) ((keeps_acceptEdge_open hc ?_).mono (by simp))
  rcases d.edgesAt_cases c time with h | h <;> rw [h] <;>
    simp (disch := apply of_lt₂ hc hline; decide) only [get_set_ne, hopen]

theorem rest_takeEdge (d : Dev) (c line time : Nat) : (d.takeEdge c line time).rest = d.rest := by
  rw [takeEdge, rest_acceptEdge, rest_set, rest_set]

/-! ### Windows that close without an edge -/

/-- A fixed window that closes in the frame with no edge counts a miss. -/
theorem windowMiss_fixed {d : Dev} {c : Nat} (hc : c < 16) (hstate : d.get (Dict.chState c) = 2 ∨ d.get (Dict.chState c) = 3)
    (hmode : d.get (Dict.chWinMode c) = 1) (hcloses : d.nextWindow c + d.winHalf c < (d.view.frameStart / frameUnits + 1) * frameUnits) :
    d.windowMiss c =
      ((d.inc (Dict.chMissCount c)).set (Hid.missRun c) (d.get (Hid.missRun c) + 1)).set (Hid.winMissed c) (d.nextWindow c + 1) := by
  have hguard : ¬(16 ≤ c ∨ ¬(d.get (Dict.chState c) = 2 ∨ d.get (Dict.chState c) = 3) ∨ d.get (Dict.chWinMode c) = 0 ∨
      (d.get (Dict.chWinMode c) = 2 ∧ d.is (Dict.chWindowSearch c) = true)) := by
    rw [hmode]
    omega
  unfold windowMiss
  dsimp only
  rw [if_neg hguard, if_neg (Nat.not_le.2 hcloses), if_pos hmode, if_neg (by omega)]

/-- A tracking window that closes in the frame with no edge counts a miss, moves on, and in the end the channel searches. -/
theorem windowMiss_tracking {d : Dev} {c : Nat} (hc : c < 16) (hstate : d.get (Dict.chState c) = 2 ∨ d.get (Dict.chState c) = 3)
    (hmode : d.get (Dict.chWinMode c) = 2) (hsearch : d.is (Dict.chWindowSearch c) = false) (hrun : d.get (Hid.missRun c) + 1 < 2 ^ 16)
    (hcloses : d.nextWindow c + d.winHalf c < (d.view.frameStart / frameUnits + 1) * frameUnits) :
    d.windowMiss c =
      let d' := ((d.inc (Dict.chMissCount c)).set (Hid.missRun c) (d.get (Hid.missRun c) + 1)).set (Hid.winCentre c)
        (d.get (Hid.winCentre c) + d.get (Dict.chPeriod c))
      if d.get (Dict.chMissLimit c) ≤ d.get (Hid.missRun c) + 1 then d'.setB (Dict.chWindowSearch c) true else d' := by
  have hguard : ¬(16 ≤ c ∨ ¬(d.get (Dict.chState c) = 2 ∨ d.get (Dict.chState c) = 3) ∨ d.get (Dict.chWinMode c) = 0 ∨
      (d.get (Dict.chWinMode c) = 2 ∧ d.is (Dict.chWindowSearch c) = true)) := by
    simp only [hsearch, Bool.false_eq_true, and_false, or_false]
    omega
  have hmiss := get_lt_of_set (d.inc (Dict.chMissCount c)) (Hid.missRun c) (v := d.get (Hid.missRun c) + 1) hrun
  unfold windowMiss
  dsimp only
  have hfixed : d.get (Dict.chWinMode c) ≠ 1 := by omega
  rw [if_neg hguard, if_neg (Nat.not_le.2 hcloses), if_pos hmode, if_neg hfixed]
  simp (disch := apply of_lt hc; decide) only [get_set_ne, get_inc_ne, hmiss]

end Dev

/-- Settles O16: what an edge of an open channel and a missed window write. -/
theorem channelStampsAndMissesAreCounted : Obligations.ChannelStampsAndMissesAreCounted := by
  unfold Obligations.ChannelStampsAndMissesAreCounted
  refine ⟨?_, ?_, ?_⟩
  · intro s c line cycle j f hc hline hj hf hserves hstate hopen hprescale hextra hback time hreads hroom hstop
    obtain ⟨t, hexec, hdev, hstep⟩ := State.during_next hserves (·.inputEdge c line cycle j f none)
    have hts : s.met.view.frameStart * subUnits + s.met.view.fraction = s.clock.ts := Nat.div_add_mod' _ _
    rw [Dev.inputEdge_open (d := s.met) (time := time) hc hline hj hf hts hstate hopen hprescale hextra hback rfl hreads hroom hstop] at hdev
    change t.dev = (s.met.takeEdge c line time).deliver c time at hdev
    have hkeeps : Dev.Keeps _ s.dev _ := Dev.keeps_takeEdge (d := s.met) hc hline hopen time
    have happart : ∀ e ∈ [Dict.chStampCount c, Dict.chAssigned c, Hid.movedMark c], ∀ x ∈ s.met.edgeRegisters c line time, x.addr ≠ e.addr := by
      unfold Dev.edgeRegisters
      rcases s.met.edgesAt_cases c time with h | h <;> rw [h] <;> (apply of_lt₂ hc hline; decide)
    have hrest := Dev.rest_deliver hc (s.met.takeEdge c line time) time
    rw [← hdev] at hrest
    refine ⟨t, hexec, ?_, ?_, ?_, ?_, hstep.onlyRegisters ?_⟩
    · rw [Counts, hdev, Dev.chStampCount_deliver hc, hkeeps _ (happart _ (by simp))]
    · rw [hdev, Dev.chLastStamp_deliver hc]
    · rw [Dev.of_rest (g := Dev.stamps) hrest, Dev.stamps_withStamp, Dev.of_rest (g := Dev.stamps) (Dev.rest_takeEdge s.met c line time), Dev.is,
        hkeeps _ (happart (Dict.chAssigned c) (by simp)), hkeeps _ (happart (Hid.movedMark c) (by simp))]
      rfl
    · rw [PresentsNone, Dev.of_rest (g := Dev.posted) hrest, Dev.posted_withStamp,
        Dev.of_rest (g := Dev.posted) (Dev.rest_takeEdge s.met c line time)]
      rfl
    · rw [hdev]
      refine (hkeeps.mono fun x hx => ?_).trans ((Dev.keeps_deliver hc _ time).mono fun x hx => ?_)
      all_goals
        simp only [Dev.edgeRegisters, Dev.deliveryRegisters, List.mem_append, List.mem_cons, List.not_mem_nil, or_false] at hx ⊢
        grind only
  · intro s c hc hserves hstate hmode hcloses
    obtain ⟨t, hexec, hdev, hstep⟩ := State.during_next hserves (·.windowMiss c)
    rw [Dev.windowMiss_fixed (d := s.met) hc hstate hmode hcloses] at hdev
    refine ⟨t, hexec, ?_, ?_, by rw [PresentsNone, hdev]; rfl, hstep.onlyRegisters ?_⟩
    · simp (disch := apply of_lt hc; decide) only [Counts, hdev, Dev.get_set_ne, Dev.get_inc, State.met_get]
    · rw [hdev, Dev.get_set_self]
    · rw [hdev]
      exact (((Dev.Keeps.refl _ s.met).inc (by simp)).set (by simp) _).set (by simp) _
  · intro s c hc hserves hstate hmode hsearch hrun hcloses
    obtain ⟨t, hexec, hdev, hstep⟩ := State.during_next hserves (·.windowMiss c)
    rw [Dev.windowMiss_tracking (d := s.met) hc hstate hmode hsearch hrun hcloses] at hdev
    dsimp only at hdev
    have hmissed : ∀ d' : Dev, d' = ((s.met.inc (Dict.chMissCount c)).set (Hid.missRun c) (s.met.get (Hid.missRun c) + 1)).set (Hid.winCentre c)
        (s.met.get (Hid.winCentre c) + s.met.get (Dict.chPeriod c)) →
        d'.get (Dict.chMissCount c) = min (s.dev.get (Dict.chMissCount c) + 1) ((Dict.chMissCount c).modulus - 1) ∧
        d'.get (Hid.winCentre c) = (s.dev.get (Hid.winCentre c) + s.dev.get (Dict.chPeriod c)) % (Hid.winCentre c).modulus ∧
        Dev.Keeps [Dict.chMissCount c, Hid.missRun c, Hid.winCentre c, Dict.chWindowSearch c] s.met d' := by
      rintro _ rfl
      refine ⟨?_, Dev.get_set_self _ _ _, (((Dev.Keeps.refl _ s.met).inc (by simp)).set (by simp) _).set (by simp) _⟩
      simp (disch := apply of_lt hc; decide) only [Dev.get_set_ne, Dev.get_inc, State.met_get]
    generalize (((s.met.inc (Dict.chMissCount c)).set (Hid.missRun c) (s.met.get (Hid.missRun c) + 1)).set (Hid.winCentre c)
        (s.met.get (Hid.winCentre c) + s.met.get (Dict.chPeriod c))) = d' at hdev hmissed
    obtain ⟨hcount, hcentre, hkeeps⟩ := hmissed d' rfl
    have hsearches : Dev.Keeps [Dict.chWindowSearch c] d' t.dev := by
      rw [hdev]
      exact .ite (.setB (.refl _ d') (by simp) _) (.refl _ d')
    refine ⟨t, hexec, ?_, ?_, fun hlimit => ?_, hstep.onlyRegisters (hkeeps.trans (hsearches.mono (by simp)))⟩
    · rw [Counts, hsearches _ (by apply of_lt hc; decide), hcount]
    · rw [hsearches _ (by apply of_lt hc; decide), hcentre]
    · have hlimit' : s.met.get (Dict.chMissLimit c) ≤ s.met.get (Hid.missRun c) + 1 := hlimit
      rw [hdev, if_pos hlimit', Dev.get_setB_self]
      rfl

end Sys2Proof.Machine
end

section
/-!
PROOF. The hand-over window (O21), the stages of the servo (O23) and the steering port (O24).
-/
namespace Sys2Proof.Machine

namespace Dev

/-! ### Exact quantities -/

theorem q_setQ_self (d : Dev) (k : Nat) (v : Rat) : (d.setQ k v).q k = v := by
  unfold q setQ
  by_cases h : v = 0
  · simp [h, Sparse.find_drop_self]
  · simp [h, Sparse.find_put_self]

theorem q_set (d : Dev) (e : Entry) (v : Nat) (k : Nat) : (d.set e v).q k = d.q k := (rfl)

theorem q_setB (d : Dev) (e : Entry) (b : Bool) (k : Nat) : (d.setB e b).q k = d.q k := (rfl)

theorem q_setI (d : Dev) (e : Entry) (i : Int) (k : Nat) : (d.setI e i).q k = d.q k := (rfl)

/-! ### Presented pairs -/

theorem posted_set (d : Dev) (e : Entry) (v : Nat) : (d.set e v).posted = d.posted := (rfl)

theorem posted_setB (d : Dev) (e : Entry) (b : Bool) : (d.setB e b).posted = d.posted := (rfl)

theorem posted_setI (d : Dev) (e : Entry) (i : Int) : (d.setI e i).posted = d.posted := (rfl)

theorem posted_add (d : Dev) (e : Entry) (n : Nat) : (d.add e n).posted = d.posted := (rfl)

theorem posted_inc (d : Dev) (e : Entry) : (d.inc e).posted = d.posted := (rfl)

theorem posted_clear (d : Dev) (e : Entry) : (d.clear e).posted = d.posted := (rfl)

theorem posted_clearAll (d : Dev) (es : List Entry) : (d.clearAll es).posted = d.posted := of_rest (rest_clearAll d es)

theorem posted_setQ (d : Dev) (k : Nat) (v : Rat) : (d.setQ k v).posted = d.posted := (rfl)

theorem posted_out (d : Dev) (x : Emit) : (d.out x).posted = d.posted := (rfl)

/-! ### The end of a hand-over window -/

/-- The references that qualified within the window become eligible. -/
def unmarkWindow (d : Dev) : Dev := forUnits 18 (fun r d => d.setB (Hid.refInWindow r) false) d

/-- The device without the differences of a window. -/
def dropOffsets (d : Dev) : Dev := { d with handover := [] }

theorem endWindow_eq (d : Dev) : d.endWindow = ((d.set Dict.switchState 0).set Dict.switchTarget 0xFF).unmarkWindow.dropOffsets := by
  unfold endWindow unmarkWindow dropOffsets
  rfl

theorem keeps_dropOffsets (es : List Entry) (d : Dev) : Keeps es d d.dropOffsets := .of_regs rfl

theorem q_dropOffsets (d : Dev) (k : Nat) : d.dropOffsets.q k = d.q k := (rfl)

theorem posted_dropOffsets (d : Dev) : d.dropOffsets.posted = d.posted := (rfl)

theorem handover_dropOffsets (d : Dev) : d.dropOffsets.handover = [] := (rfl)

theorem keeps_unmarkWindow (d : Dev) : Keeps ((List.range 18).map Hid.refInWindow) d d.unmarkWindow :=
  .forUnits (.refl _ d) fun _ hr x => .setB (.refl _ x) (List.mem_map_of_mem (List.mem_range.2 hr)) _

theorem q_unmarkWindow (d : Dev) (k : Nat) : d.unmarkWindow.q k = d.q k := forUnits_view (q · k) fun _ _ _ => rfl

theorem posted_unmarkWindow (d : Dev) : d.unmarkWindow.posted = d.posted := forUnits_view posted fun _ _ _ => rfl

theorem keeps_endWindow (d : Dev) : Keeps ([Dict.switchState, Dict.switchTarget] ++ (List.range 18).map Hid.refInWindow) d d.endWindow := by
  rw [endWindow_eq]
  exact .trans (.trans (((Keeps.refl _ d).set (by simp) _).set (by simp) _) ((keeps_unmarkWindow _).mono (List.subset_append_right _ _)))
    (keeps_dropOffsets _ _)

theorem switchState_endWindow (d : Dev) : d.endWindow.get Dict.switchState = 0 := by
  rw [endWindow_eq, keeps_dropOffsets [] _ _ (by decide), keeps_unmarkWindow _ _ (by decide), get_set_ne _ _ _ _ (by decide), get_set_self]
  rfl

theorem switchTarget_endWindow (d : Dev) : d.endWindow.get Dict.switchTarget = 0xFF := by
  rw [endWindow_eq, keeps_dropOffsets [] _ _ (by decide), keeps_unmarkWindow _ _ (by decide), get_set_self]
  rfl

theorem q_endWindow (d : Dev) (k : Nat) : d.endWindow.q k = d.q k := by
  rw [endWindow_eq, q_dropOffsets, q_unmarkWindow, q_set, q_set]

theorem posted_endWindow (d : Dev) : d.endWindow.posted = d.posted := by
  rw [endWindow_eq, posted_dropOffsets, posted_unmarkWindow]
  rfl

theorem handover_endWindow (d : Dev) : d.endWindow.handover = [] := by rw [endWindow_eq, handover_dropOffsets]

/-- At the end of the sixteenth frame the build-out is the mean of the window's differences. -/
theorem closeWindow_full {d : Dev} (hopen : d.get Dict.switchState = 1) (hfull : d.handover.length = 16) :
    d.closeWindow =
      ((((d.setQ Q.buildOut (d.handover.sum / 16)).setI Dict.buildOutUncertainty (roundNear (deviation d.handover / 4 * 1000000 / 65536))).set
        Hid.windowClosedAt (d.view.frames + 1)).endWindow.setB Hid.windowClosed true).setB Hid.boundWindow true := by
  have hguard : ¬(!d.windowOpen ∨ d.handover.length < handoverFrames) := by
    rw [windowOpen, hopen, hfull]
    decide
  simp only [closeWindow, hguard, if_false]
  rfl

/-- In Locked, with APLL0 out of VCO hold, the rows of R221 that events decide change nothing. -/
theorem stateRowsNow_locked {d : Dev} (hstate : d.state = 3) (hhold : d.get Dict.apll0State ≠ 3) : d.stateRowsNow = d := by
  have hvco : d.vcoHold = false := beq_false_of_ne hhold
  simp only [stateRowsNow, hstate, hvco, Bool.false_eq_true, and_false, if_false, Nat.reduceEqDiff, false_and]

end Dev

/-- Settles O21: the close of the window writes the build-out, ends the window and leaves Locked. -/
theorem handOverWindowFixesBuildOut : Obligations.HandOverWindowFixesBuildOut := by
  unfold Obligations.HandOverWindowFixesBuildOut
  intro s hserves hopen hfull hstate hhold
  obtain ⟨t, hexec, hdev, hstep⟩ := State.during_next hserves (·.closeWindow.stateRowsNow)
  rw [Dev.closeWindow_full (d := s.met) hopen hfull] at hdev
  generalize roundNear (deviation s.met.handover / 4 * 1000000 / 65536) = spread at hdev
  have hpre : Dev.Keeps [Dict.buildOutUncertainty, Hid.windowClosedAt] s.dev
      (((s.met.setQ Q.buildOut (s.met.handover.sum / 16)).setI Dict.buildOutUncertainty spread).set Hid.windowClosedAt (s.met.view.frames + 1)) :=
    (((Dev.Keeps.refl _ s.met).setQ _ _).setI (by simp) _).set (by simp) _
  have hq : (((s.met.setQ Q.buildOut (s.met.handover.sum / 16)).setI Dict.buildOutUncertainty spread).set Hid.windowClosedAt
      (s.met.view.frames + 1)).q Q.buildOut = s.dev.handover.sum / 16 := by
    rw [Dev.q_set, Dev.q_setI, Dev.q_setQ_self]
    rfl
  have hposted : (((s.met.setQ Q.buildOut (s.met.handover.sum / 16)).setI Dict.buildOutUncertainty spread).set Hid.windowClosedAt
      (s.met.view.frames + 1)).posted = s.dev.posted := rfl
  generalize ((s.met.setQ Q.buildOut (s.met.handover.sum / 16)).setI Dict.buildOutUncertainty spread).set Hid.windowClosedAt
    (s.met.view.frames + 1) = d at hdev hpre hq hposted
  have hkeeps : Dev.Keeps _ d ((d.endWindow.setB Hid.windowClosed true).setB Hid.boundWindow true) :=
    (((d.keeps_endWindow).mono (List.subset_append_right [Hid.windowClosed, Hid.boundWindow] _)).setB (by simp) _).setB (by simp) _
  have hlocked : ((d.endWindow.setB Hid.windowClosed true).setB Hid.boundWindow true).state = 3 :=
    ((hkeeps _ (by decide)).trans (hpre _ (by decide))).trans hstate
  have hout : ((d.endWindow.setB Hid.windowClosed true).setB Hid.boundWindow true).get Dict.apll0State ≠ 3 := by
    rw [hkeeps _ (by decide), hpre _ (by decide)]
    exact hhold
  rw [Dev.stateRowsNow_locked hlocked hout] at hdev
  refine ⟨t, hexec, ?_, ?_, ?_, ?_, ?_, hdev ▸ hlocked, ?_, hstep.onlyRegisters ?_⟩
  · rw [hdev, Dev.q_setB, Dev.q_setB, Dev.q_endWindow, hq]
  · rw [hdev, Dev.get_setB_ne _ _ _ _ (by decide), Dev.get_setB_ne _ _ _ _ (by decide), Dev.switchState_endWindow]
  · rw [hdev, Dev.get_setB_ne _ _ _ _ (by decide), Dev.get_setB_ne _ _ _ _ (by decide), Dev.switchTarget_endWindow]
  · rw [hdev, Dev.get_setB_ne _ _ _ _ (by decide), Dev.get_setB_self]
    rfl
  · rw [hdev]
    exact (Dev.set_handover _ _ _).trans ((Dev.set_handover _ _ _).trans d.handover_endWindow)
  · rw [PresentsNone, hdev]
    simp only [Dev.posted_setB, Dev.posted_endWindow, hposted]
  · rw [hdev]
    exact (hpre.mono (by simp)).trans (hkeeps.mono (List.append_subset.2 ⟨by simp, List.append_subset.2 ⟨by simp, List.subset_append_right _ _⟩⟩))

/-! ### The stages of the servo -/

namespace Dev

/-- A served dwell in Locked advances the stage. -/
theorem dwellComplete_locked {d : Dev} (hstate : d.state = 3) (hserved : d.dwellServed = true) :
    d.dwellComplete = ((d.set Dict.servoStage d.nextStage).set Hid.unlockFrames 0).restartDwell := by
  simp only [dwellComplete, hserved, hstate, Bool.not_true, Bool.false_eq_true, if_false, Nat.reduceBEq, Bool.false_and]

/-- A change to a state that is not Holdover, from another state. -/
theorem enterState_running {d : Dev} {new : Nat} (hchange : new ≠ d.state) (hrunning : new ≠ 4) :
    d.enterState new =
      (((((((d.set Dict.deviceState new).set Dict.deviceStateSince (toTime96 d.view.frameStart)).set Hid.boundEntered
        (setBit (d.get Hid.boundEntered) new)).clearAll [Dict.holdoverCause, Dict.holdoverGrowth, Dict.holdoverRandom]).setQ Q.eHold 0).setQ
          Q.uHold 0).post 48 [(1, d.state), (1, new)]) := by
  have hentered : ((d.set Dict.deviceState new).set Dict.deviceStateSince (toTime96 d.view.frameStart)).get Hid.boundEntered =
      d.get Hid.boundEntered := by
    simp (disch := decide) only [get_set_ne]
  simp only [enterState, hchange, hrunning, if_false, hentered]

theorem keeps_enterState_running {d : Dev} {new : Nat} (hchange : new ≠ d.state) (hrunning : new ≠ 4) :
    Keeps stateRegisters d (d.enterState new) := by
  rw [enterState_running hchange hrunning]
  exact ((((((Keeps.refl _ d).set (by simp [stateRegisters]) _).set (by simp [stateRegisters]) _).set (by simp [stateRegisters]) _).clearAll
    (by simp [stateRegisters])).setQ _ _).setQ _ _ |>.post _ _

theorem state_enterState_running {d : Dev} {new : Nat} (hchange : new ≠ d.state) (hrunning : new ≠ 4) (hnew : new < 256) :
    (d.enterState new).state = new := by
  rw [enterState_running hchange hrunning, state, get_post, get_setQ, get_setQ, get_clearAll_ne _ _ _ (by decide), get_set_ne _ _ _ _ (by decide),
    get_set_ne _ _ _ _ (by decide)]
  exact get_lt_of_set _ _ hnew

theorem deviceStateSince_enterState_running {d : Dev} {new : Nat} (hchange : new ≠ d.state) (hrunning : new ≠ 4) :
    (d.enterState new).get Dict.deviceStateSince = toTime96 d.view.frameStart % 2 ^ 96 := by
  rw [enterState_running hchange hrunning, get_post, get_setQ, get_setQ, get_clearAll_ne _ _ _ (by decide), get_set_ne _ _ _ _ (by decide),
    get_set_self]
  rfl

theorem posted_enterState_running {d : Dev} {new : Nat} (hchange : new ≠ d.state) (hrunning : new ≠ 4) :
    (d.enterState new).posted = d.posted ++ [⟨48, packDetail [(1, d.state), (1, new)], false, false, true⟩] := by
  rw [enterState_running hchange hrunning, posted_post]
  simp only [posted_setQ, posted_clearAll, posted_set]

/-- A served dwell in Acquire that reaches ServoLockedStage locks. -/
theorem dwellComplete_locks {d : Dev} (hstate : d.state = 2) (hserved : d.dwellServed = true) (hreach : d.get Dict.servoLockedStage ≤ d.nextStage) :
    d.dwellComplete =
      (((((d.enterState 3).setB Hid.everLocked true).setB Hid.setApplied false).set Dict.servoStage d.nextStage).set Hid.unlockFrames 0).restartDwell := by
  simp only [dwellComplete, hserved, hstate, hreach, Bool.not_true, Bool.false_eq_true, if_false, BEq.rfl, decide_true, Bool.and_self, if_true]

/-- Frames above the unlock limit return Locked to Acquire at its first stage. -/
theorem servoUnlock_due {d : Dev} (hstate : d.state = 3) (hdue : 64 ≤ d.get Hid.unlockFrames) :
    d.servoUnlock =
      ((((((d.enterState 2).set Dict.servoStage 0).set Hid.gainStage 0).set Hid.unlockFrames 0).restartDwell.inc Dict.servoUnlockCount).post 54 []) := by
  simp only [servoUnlock, enterAcquire, hstate, Nat.not_lt.2 hdue, ne_eq, not_true, or_self, if_false, if_true]

theorem get_restartDwell_ne (d : Dev) (e : Entry) (h : Hid.dwellFrames.addr ≠ e.addr) : d.restartDwell.get e = d.get e := get_setI_ne _ _ _ _ h

theorem Keeps.restartDwell {es : List Entry} {d d' : Dev} (h : Keeps es d d') (he : Hid.dwellFrames ∈ es) : Keeps es d d'.restartDwell := h.setI he _

theorem posted_restartDwell (d : Dev) : d.restartDwell.posted = d.posted := (rfl)

end Dev

/-- Settles O23: the registers of a stage and of a change of state. -/
theorem servoStagesAdvanceAndUnlock : Obligations.ServoStagesAdvanceAndUnlock := by
  unfold Obligations.ServoStagesAdvanceAndUnlock
  refine ⟨?_, ?_, ?_⟩
  · intro s hserves hstate hserved hlt
    obtain ⟨t, hexec, hdev, hstep⟩ := State.during_next hserves (·.dwellComplete)
    rw [Dev.dwellComplete_locked (d := s.met) hstate hserved] at hdev
    refine ⟨t, hexec, ?_, ?_, by rw [PresentsNone, hdev]; exact Dev.posted_restartDwell _, hstep.onlyRegisters ?_⟩
    · rw [hdev, Dev.get_restartDwell_ne _ _ (by decide), Dev.get_set_ne _ _ _ _ (by decide)]
      exact Dev.get_lt_of_set _ _ hlt
    · rw [hdev, Dev.state, Dev.get_restartDwell_ne _ _ (by decide), Dev.get_set_ne _ _ _ _ (by decide), Dev.get_set_ne _ _ _ _ (by decide)]
      exact hstate
    · rw [hdev]
      exact (((Dev.Keeps.refl _ s.met).set (by simp) _).set (by simp) _).restartDwell (by simp)
  · intro s hserves hstate hserved hlt hreach
    obtain ⟨t, hexec, hdev, hstep⟩ := State.during_next hserves (·.dwellComplete)
    have hchange : 3 ≠ s.met.state := fun h => absurd (h.trans hstate) (by decide)
    have hrunning : 3 ≠ 4 := by decide
    rw [Dev.dwellComplete_locks (d := s.met) hstate hserved hreach] at hdev
    refine ⟨t, hexec, ?_, ?_, ?_, ?_, hstep.onlyRegisters ?_⟩
    · rw [hdev, Dev.get_restartDwell_ne _ _ (by decide), Dev.get_set_ne _ _ _ _ (by decide)]
      exact Dev.get_lt_of_set _ _ hlt
    · have hlocked := Dev.state_enterState_running hchange hrunning (by decide)
      simpa (disch := decide) only [hdev, Dev.state, Dev.get_restartDwell_ne, Dev.get_set_ne, Dev.get_setB_ne] using hlocked
    · have hsince : (s.met.enterState 3).get Dict.deviceStateSince = toTime96 s.start % 2 ^ 96 :=
        Dev.deviceStateSince_enterState_running hchange hrunning
      simpa (disch := decide) only [hdev, Dev.get_restartDwell_ne, Dev.get_set_ne, Dev.get_setB_ne] using hsince
    · have hposted := Dev.posted_enterState_running hchange hrunning
      rw [show s.met.state = 2 from hstate] at hposted
      simp only [Presents, hdev, Dev.posted_restartDwell, Dev.posted_set, Dev.posted_setB, hposted]
      rfl
    · rw [hdev]
      exact ((((((Dev.keeps_enterState_running hchange hrunning).mono (List.subset_append_left _ _)).setB (by simp) _).setB (by simp) _).set
        (by simp) _).set (by simp) _).restartDwell (by simp)
  · intro s hserves hstate hdue
    obtain ⟨t, hexec, hdev, hstep⟩ := State.during_next hserves (·.servoUnlock)
    have hchange : 2 ≠ s.met.state := fun h => absurd (h.trans hstate) (by decide)
    have hrunning : 2 ≠ 4 := by decide
    rw [Dev.servoUnlock_due (d := s.met) hstate hdue] at hdev
    have hentered := Dev.keeps_enterState_running hchange hrunning
    refine ⟨t, hexec, ?_, ?_, ?_, ?_, hstep.onlyRegisters ?_⟩
    · have hacquire := Dev.state_enterState_running hchange hrunning (by decide)
      simpa (disch := decide) only [hdev, Dev.state, Dev.get_post, Dev.get_inc_ne, Dev.get_restartDwell_ne, Dev.get_set_ne] using hacquire
    · simp (disch := decide) only [hdev, Dev.get_post, Dev.get_inc_ne, Dev.get_restartDwell_ne, Dev.get_set_ne, Dev.get_set_self, Nat.zero_mod]
    · simp (disch := decide) only [Counts, hdev, Dev.get_post, Dev.get_inc, Dev.get_restartDwell_ne, Dev.get_set_ne]
      rw [hentered _ (by decide), State.met_get]
    · have hposted := Dev.posted_enterState_running hchange hrunning
      rw [show s.met.state = 3 from hstate] at hposted
      simp only [hdev, Dev.posted_post, Dev.posted_inc, Dev.posted_restartDwell, Dev.posted_set, hposted]
      exact List.append_assoc _ _ _
    · rw [hdev]
      exact (((((((hentered.mono (List.subset_append_left _ _)).set (by simp) _).set (by simp) _).set (by simp) _).restartDwell (by simp)).inc
        (by simp)).post _ _)

end Sys2Proof.Machine
end

section
/-!
PROOF. The steering port (O24): its updates and their replies.
-/
namespace Sys2Proof.Machine

/-- An unsigned register takes an integer within its type as it stands. -/
theorem Dev.get_setI_of_unsigned (d : Dev) {e : Entry} {i : Int} (hunsigned : e.ty.signed = false) (hlow : 0 ≤ i) (hhigh : i < (e.modulus : Int)) :
    (d.setI e i).get e = i.toNat := by
  have hclamp : max 0 (min i ((e.modulus : Int) - 1)) = i := by omega
  have hcode : e.ofInt i = i.toNat := by rw [Entry.ofInt, hunsigned, if_neg Bool.false_ne_true, hclamp]
  refine (Dev.get_set_self d e _).trans ?_
  rw [hcode, Nat.mod_eq_of_lt (by omega)]

theorem clampInt_bounds {lo hi : Int} (h : lo ≤ hi) (x : Int) : lo ≤ clampInt lo hi x ∧ clampInt lo hi x ≤ hi := by
  unfold clampInt
  omega

namespace Dev

theorem emit_set (d : Dev) (e : Entry) (v : Nat) : (d.set e v).emit = d.emit := (rfl)

theorem emit_setB (d : Dev) (e : Entry) (b : Bool) : (d.setB e b).emit = d.emit := (rfl)

theorem emit_setI (d : Dev) (e : Entry) (i : Int) : (d.setI e i).emit = d.emit := (rfl)

theorem emit_setQ (d : Dev) (k : Nat) (v : Rat) : (d.setQ k v).emit = d.emit := (rfl)

theorem emit_inc (d : Dev) (e : Entry) : (d.inc e).emit = d.emit := (rfl)

theorem emit_post (d : Dev) (n : Nat) (l : List (Nat × Nat)) : (d.post n l).emit = d.emit := (rfl)

theorem emit_out (d : Dev) (x : Emit) : (d.out x).emit = d.emit ++ [x] := (rfl)

/-! ### Updates -/

/-- The code with its dither before the limits of the port. -/
def wantedCode (d : Dev) : Rat :=
  ((d.get Dict.steerCodeCentre : Nat) : Rat) + d.permittedCommand (d.q Q.rTot) / d.lsb + d.q Q.dither

/-- The code of an update. -/
def limitedCode (d : Dev) : Int := clampInt (d.get Dict.steerCodeMin) (d.get Dict.steerCodeMax) (roundNear d.wantedCode)

/-- In steer mode an update sends the code's word. -/
theorem sendCode_steer {d : Dev} (hmode : d.get Dict.servoMode = 1) (hrange : d.get Dict.steerCodeMin ≤ d.get Dict.steerCodeMax)
    (hmax : d.get Dict.steerCodeMax < 2 ^ 32) :
    ∃ (x y : Rat) (held : Int), d.sendCode =
      ((((d.setQ Q.dither x).setI Dict.steerCode d.limitedCode).setQ Q.realised y).setI Hid.uHeld held).out
        (.serial 0 (octetsOf 4 ((d.get Dict.steerSpiPrefix ||| (d.limitedCode.toNat * 2 ^ d.get Dict.steerSpiCodeShift)) %
          2 ^ d.get Dict.steerSpiWordBits)) (d.view.frameStart + 76 * 65536000)) := by
  have hbounds := clampInt_bounds (Int.ofNat_le.2 hrange) (roundNear d.wantedCode)
  have hcode (x : Rat) : ((d.setQ Q.dither x).setI Dict.steerCode d.limitedCode).get Dict.steerCode = d.limitedCode.toNat :=
    get_setI_of_unsigned _ rfl (Int.le_trans (Int.natCast_nonneg _) hbounds.1) (Int.lt_of_le_of_lt hbounds.2 (Int.ofNat_lt.2 hmax))
  let x : Rat := if d.is Dict.steerDither then d.wantedCode - (d.limitedCode : Rat) else 0
  let y : Rat := ((d.limitedCode : Rat) - ((((d.setQ Q.dither x).setI Dict.steerCode d.limitedCode).get Dict.steerCodeCentre : Nat) : Rat)) *
    ((d.setQ Q.dither x).setI Dict.steerCode d.limitedCode).lsb
  refine ⟨x, y, toFrac64 y, ?_⟩
  have hsteer : ((d.setQ Q.dither x).setI Dict.steerCode d.limitedCode).get Dict.servoMode = 1 := by
    rw [get_setI_ne _ _ _ _ (by decide), get_setQ, hmode]
  have hsent : ((d.setQ Q.dither x).setI Dict.steerCode d.limitedCode).sentCommand y =
      (((d.setQ Q.dither x).setI Dict.steerCode d.limitedCode).setQ Q.realised y).setI Hid.uHeld (toFrac64 y) := if_pos hsteer
  unfold sendCode
  change Dev.out (((d.setQ Q.dither x).setI Dict.steerCode d.limitedCode).sentCommand y) (.serial 0 (octetsOf 4
    ((((d.setQ Q.dither x).setI Dict.steerCode d.limitedCode).get Dict.steerSpiPrefix |||
      (((d.setQ Q.dither x).setI Dict.steerCode d.limitedCode).get Dict.steerCode *
        2 ^ ((d.setQ Q.dither x).setI Dict.steerCode d.limitedCode).get Dict.steerSpiCodeShift)) %
      2 ^ (((d.setQ Q.dither x).setI Dict.steerCode d.limitedCode).sentCommand y).get Dict.steerSpiWordBits))
    ((((d.setQ Q.dither x).setI Dict.steerCode d.limitedCode).sentCommand y).view.frameStart + 76 * 65536000)) = _
  rw [hsent, hcode]
  simp (disch := decide) only [get_setI_ne, get_setQ]
  rfl

/-- In steer mode an update sends the message rendered from the template. -/
theorem sendTemplate_steer {d : Dev} {octets : List Nat} (hmode : d.get Dict.servoMode = 1)
    (hrender : render (roundNear (d.permittedCommand (d.q Q.rTot) * ((10 ^ d.get Dict.steerTplScale : Nat) : Rat))) d.templateOctets [] = some octets) :
    ∃ y : Rat, d.sendTemplate =
      ((((d.set Dict.steerTplLength octets.length).setQ Q.realised y).setI Hid.uHeld (toFrac64 y)).setB Hid.steerReplyDue
        (d.get Dict.steerReplyPrefix != 0)).out (.serial 1 octets (d.view.frameStart + 76 * 65536000)) := by
  have hsteer : (d.set Dict.steerTplLength octets.length).get Dict.servoMode = 1 := by rw [get_set_ne _ _ _ _ (by decide), hmode]
  refine ⟨(roundNear (d.permittedCommand (d.q Q.rTot) * ((10 ^ d.get Dict.steerTplScale : Nat) : Rat)) : Rat) /
    ((10 ^ d.get Dict.steerTplScale : Nat) : Rat), ?_⟩
  unfold sendTemplate
  dsimp only
  rw [hrender]
  simp (disch := decide) only [sentCommand, hsteer, if_true, get_setI_ne, get_setQ, get_set_ne]
  rfl

/-- In its frame a permitted update in steer mode leaves by the port's mode. -/
theorem steerUpdate_due {d : Dev} (hframe : d.frame % max 1 (d.get Dict.steerUpdateFrames) = 0) (hpermitted : d.is Dict.steerPermitted = true)
    (hstate : d.get Dict.steerState ≠ 0) (hmode : d.get Dict.servoMode = 1) :
    d.steerUpdate = if d.get Dict.steerMode = 1 then d.sendCode else if d.get Dict.steerMode = 2 then d.sendTemplate else d := by
  simp only [steerUpdate, hframe, hpermitted, hstate, hmode, Bool.not_true, Bool.false_eq_true, ne_eq, not_true, or_self, false_and, if_false]

/-! ### Replies -/

/-- A reply that begins as it must ends the wait and the run of failures. -/
theorem steerReply_good {d : Dev} {octets : List Nat} (hdue : d.is Hid.steerReplyDue = true) (hstate : d.get Dict.steerState = 1)
    (hprefix : octets.take ((octetsOf 8 (d.get Dict.steerReplyPrefix)).takeWhile (· != 0)).length =
      (octetsOf 8 (d.get Dict.steerReplyPrefix)).takeWhile (· != 0)) :
    d.steerReply octets =
      ((d.set Dict.steerLastReply (ofOctets (octets.take 16 ++ List.replicate (16 - (octets.take 16).length) 0))).setB Hid.steerReplyDue false).set
        Hid.steerBad 0 := by
  have hrunning : (((d.set Dict.steerLastReply (ofOctets (octets.take 16 ++ List.replicate (16 - (octets.take 16).length) 0))).setB
      Hid.steerReplyDue false).set Hid.steerBad 0).get Dict.steerState ≠ 2 := by
    simp (disch := decide) only [get_set_ne, get_setB_ne, hstate]
    decide
  unfold steerReply
  simp only [hdue, Bool.not_true, Bool.false_eq_true, if_false, hprefix, if_true, hrunning]

/-- The failure that reaches SteerFailLimit sets Fault, with source 52. -/
theorem steerTimeout_fault {d : Dev} (hdue : d.is Hid.steerReplyDue = true) (hstate : d.get Dict.steerState = 1)
    (hlimit : d.get Dict.steerFailLimit ≤ d.get Hid.steerBad + 1) :
    d.steerTimeout =
      (((((d.inc Dict.steerFailCount).setB Hid.steerReplyDue false).set Hid.steerBad (d.get Hid.steerBad + 1)).set Hid.steerGood 0).set
        Dict.steerState 2).post 52 [] := by
  unfold steerTimeout steerFailure
  simp (disch := decide) only [hdue, if_true, get_set_ne, get_setB_ne, get_inc_ne, hstate, hlimit, and_self]

end Dev

/-- Settles O24: updates and replies write the registers of the steering port. -/
theorem steeringUpdatesAreSentAndJudged : Obligations.SteeringUpdatesAreSentAndJudged := by
  unfold Obligations.SteeringUpdatesAreSentAndJudged
  refine ⟨?_, ?_, ?_, ?_⟩
  · intro s hserves hframe hpermitted hstate hservo hmode hrange hmax wanted code word
    obtain ⟨t, hexec, hdev, hstep⟩ := State.during_next hserves (·.steerUpdate)
    have hmode' : s.met.get Dict.steerMode = 1 := hmode
    have hlow := clampInt_bounds (Int.ofNat_le.2 hrange) (roundNear wanted)
    have hcode : s.met.limitedCode = clampInt (s.dev.get Dict.steerCodeMin) (s.dev.get Dict.steerCodeMax) (roundNear wanted) := rfl
    rw [Dev.steerUpdate_due (d := s.met) hframe hpermitted hstate hservo, if_pos hmode'] at hdev
    obtain ⟨x, y, held, hsent⟩ := Dev.sendCode_steer (d := s.met) hservo hrange hmax
    rw [hsent, hcode] at hdev
    refine ⟨t, hexec, ?_, ?_, ?_, ?_, ?_, hstep.onlyRegisters ?_⟩
    · rw [hdev, Dev.get_out, Dev.get_setI_ne _ _ _ _ (by decide), Dev.get_setQ]
      exact Dev.get_setI_of_unsigned _ rfl (Int.le_trans (Int.natCast_nonneg _) hlow.1) (Int.lt_of_le_of_lt hlow.2 (Int.ofNat_lt.2 hmax))
    · exact (Int.le_toNat (Int.le_trans (Int.natCast_nonneg _) hlow.1)).2 hlow.1
    · exact Int.toNat_le.2 hlow.2
    · simp only [hdev, Dev.emit_out, Dev.emit_setI, Dev.emit_setQ]
      rfl
    · simp only [PresentsNone, hdev, Dev.posted_out, Dev.posted_setI, Dev.posted_setQ]
      rfl
    · rw [hdev]
      exact ((((Dev.Keeps.refl _ s.met).setQ _ _).setI (by simp) _).setQ _ _).setI (by simp) _ |>.out _
  · intro s octets hserves hframe hpermitted hstate hservo hmode hrender
    obtain ⟨t, hexec, hdev, hstep⟩ := State.during_next hserves (·.steerUpdate)
    have hmode' : s.met.get Dict.steerMode = 2 := hmode
    rw [Dev.steerUpdate_due (d := s.met) hframe hpermitted hstate hservo, hmode', if_neg (by decide), if_pos rfl] at hdev
    obtain ⟨y, hsent⟩ := Dev.sendTemplate_steer (d := s.met) hservo hrender
    rw [hsent] at hdev
    refine ⟨t, hexec, ?_, ?_, ?_, hstep.onlyRegisters ?_⟩
    · simp only [hdev, Dev.emit_out, Dev.emit_setI, Dev.emit_setB, Dev.emit_setQ, Dev.emit_set]
      rfl
    · rw [hdev, Dev.get_out, Dev.get_setB_self]
      by_cases hprefix : s.dev.get Dict.steerReplyPrefix = 0
      · simp [hprefix]
      · simp [hprefix]
        rfl
    · simp only [PresentsNone, hdev, Dev.posted_out, Dev.posted_setI, Dev.posted_setB, Dev.posted_setQ, Dev.posted_set]
      rfl
    · rw [hdev]
      exact ((((Dev.Keeps.refl _ s.met).set (by simp) _).setQ _ _).setI (by simp) _).setB (by simp) _ |>.out _
  · intro s octets hserves hdue hstate hprefix
    obtain ⟨t, hexec, hdev, hstep⟩ := State.during_next hserves (·.steerReply octets)
    rw [Dev.steerReply_good (d := s.met) hdue hstate hprefix] at hdev
    refine ⟨t, hexec, ?_, ?_, ?_, ?_, hstep.onlyRegisters ?_⟩
    · simp (disch := decide) only [hdev, Dev.get_set_ne, Dev.get_setB_self]
      rfl
    · rw [hdev, Dev.get_set_self, Nat.zero_mod]
    · simp (disch := decide) only [hdev, Dev.get_set_ne, Dev.get_setB_ne, Dev.get_set_self]
      rfl
    · simp only [PresentsNone, hdev, Dev.posted_setB, Dev.posted_set]
      rfl
    · rw [hdev]
      exact (((Dev.Keeps.refl _ s.met).set (by simp) _).setB (by simp) _).set (by simp) _
  · intro s hserves hdue hstate hlimit
    obtain ⟨t, hexec, hdev, hstep⟩ := State.during_next hserves (·.steerTimeout)
    rw [Dev.steerTimeout_fault (d := s.met) hdue hstate hlimit] at hdev
    refine ⟨t, hexec, ?_, ?_, ?_, hstep.onlyRegisters ?_⟩
    · rw [hdev, Dev.get_post]
      exact Dev.get_lt_of_set _ _ (show 2 < 256 by decide)
    · simp (disch := decide) only [Counts, hdev, Dev.get_post, Dev.get_set_ne, Dev.get_setB_ne, Dev.get_inc, State.met_get]
    · simp only [Presents, hdev, Dev.posted_post, Dev.posted_set, Dev.posted_setB, Dev.posted_inc]
      rfl
    · rw [hdev]
      exact (((((Dev.Keeps.refl _ s.met).inc (by simp)).setB (by simp) _).set (by simp) _).set (by simp) _).set (by simp) _ |>.post _ _

end Sys2Proof.Machine
end

section
/-!
PROOF. The states of the APLLs (O26).
-/
namespace Sys2Proof.Machine

namespace Dev

/-! ### Registers of several units -/

/-- A loop that gives the registers of the listed units one value. -/
theorem get_foldl_set_of_mem {f : Nat → Entry} {v n : Nat} {l : List Nat} (hne : ∀ m ∈ l, m ≠ n → (f m).addr ≠ (f n).addr) (hmem : n ∈ l)
    (d : Dev) : (l.foldl (fun d m => d.set (f m) v) d).get (f n) = v % (f n).modulus := by
  induction l generalizing d with
  | nil => cases hmem
  | cons m l ih =>
    by_cases hlater : n ∈ l
    · exact ih (fun k hk => hne k (.tail _ hk)) hlater _
    · obtain rfl : n = m := (List.mem_cons.1 hmem).resolve_right hlater
      refine (foldl_view (get · (f n)) fun x k hk => get_set_ne _ _ _ _ (hne k (.tail _ hk) ?_)).trans (get_set_self d _ _)
      rintro rfl
      exact hlater hk

/-! ### Output APLLs -/

theorem lt_of_mem_outputsOf {d : Dev} {a n : Nat} (hn : n ∈ d.outputsOf a) : n < 16 := List.mem_range.1 ((List.mem_filter.1 hn).1)

/-- The outputs of an APLL depend on their own registers alone. -/
theorem outputsOf_congr {es : List Entry} {d d' : Dev} (h : Keeps es d d')
    (happart : ∀ n < 16, ∀ x ∈ es, x.addr ≠ (Dict.outApll n).addr ∧ x.addr ≠ (Dict.outState n).addr ∧ x.addr ≠ (Dict.outEnable n).addr) (a : Nat) :
    d'.outputsOf a = d.outputsOf a := by
  unfold outputsOf
  refine List.filter_congr fun n hn => ?_
  have hn := happart n (List.mem_range.1 hn)
  rw [is, is, h _ fun x hx => (hn x hx).1, h _ fun x hx => (hn x hx).2.1, h _ fun x hx => (hn x hx).2.2]

/-- A register that lies apart from those of every output. -/
theorem outputs_apart {f : Nat → Entry} {e : Entry} (h : ∀ n < 16, (f n).addr ≠ e.addr) (d : Dev) (a : Nat) :
    ∀ x ∈ (d.outputsOf a).map f, x.addr ≠ e.addr := by
  intro x hx
  obtain ⟨n, hn, rfl⟩ := List.mem_map.1 hx
  exact h n (lt_of_mem_outputsOf hn)

/-- A loop that sets a register of each output of an APLL sets it for each. -/
theorem get_foldl_outputs {d d' : Dev} {a n : Nat} {f : Nat → Entry} {v : Nat} (hne : ∀ n < 16, ∀ m < 16, m ≠ n → (f m).addr ≠ (f n).addr)
    (hn : n ∈ d.outputsOf a) : ((d.outputsOf a).foldl (fun d n => d.set (f n) v) d').get (f n) = v % (f n).modulus :=
  get_foldl_set_of_mem (fun m hm => hne n (lt_of_mem_outputsOf hn) m (lt_of_mem_outputsOf hm)) hn d'

/-- A loop that sets a register of each output of an APLL. -/
theorem keeps_foldl_outputs {d d' : Dev} {a : Nat} {f : Nat → Entry} (v : Nat) :
    Keeps ((d.outputsOf a).map f) d' ((d.outputsOf a).foldl (fun d n => d.set (f n) v) d') :=
  .foldl (.refl _ d') fun x _ hn => .set (.refl _ x) (List.mem_map_of_mem hn) _

theorem rest_foldl_set (f : Nat → Entry) (v : Nat) (l : List Nat) (d : Dev) : (l.foldl (fun d n => d.set (f n) v) d).rest = d.rest :=
  foldl_view rest fun _ _ _ => rfl

/-- An APLL that locks realigns its outputs. -/
theorem apllLocks_locking {d : Dev} {a : Nat} (ha : a < 4) (hstate : d.get (Dict.apllState a) = 2) :
    d.apllLocks a = (d.outputsOf a).foldl (fun d n => d.set (Hid.outRealign n) 1)
      ((d.set (Dict.apllState a) 3).clearAll [Hid.apllFromCal a, Hid.apllFromHold a, Hid.apllHoldFrame a]) := by
  have hkeeps : Keeps [Dict.apllState a, Hid.apllFromCal a, Hid.apllFromHold a, Hid.apllHoldFrame a] d
      ((d.set (Dict.apllState a) 3).clearAll [Hid.apllFromCal a, Hid.apllFromHold a, Hid.apllHoldFrame a]) :=
    ((Keeps.refl _ d).set (by simp) _).clearAll (by simp)
  have hout := outputsOf_congr hkeeps (by apply of_lt ha; decide) a
  simp only [apllLocks, hstate, ne_eq, not_true, if_false]
  rw [hout]
  rfl

/-- A lock that is missed returns the APLL to Off, its outputs Waiting. -/
theorem apllTimeout_calibrating {d : Dev} {a : Nat} (ha : a < 4) (hstate : d.get (Dict.apllState a) = 1) :
    d.apllTimeout a = ((d.outputsOf a).foldl (fun d n => d.set (Dict.outState n) 1) (d.set (Dict.apllState a) 0)).post 63 [(1, a)] := by
  have hkeeps : Keeps [Dict.apllState a] d (d.set (Dict.apllState a) 0) := (Keeps.refl _ d).set (by simp) _
  have hout := outputsOf_congr hkeeps (by apply of_lt ha; decide) a
  simp only [apllTimeout, hstate, true_or, if_true, outputsTo, hout]

/-- What OutHoldAction writes. -/
theorem keeps_holdOutputs (d : Dev) (a : Nat) : Keeps ((d.outputsOf a).map Dict.outState) d (d.holdOutputs a) := by
  unfold holdOutputs
  exact .foldl (.refl _ d) fun x n hn => .ite (.set (.refl _ x) (List.mem_map_of_mem hn) _) (.refl _ x)

theorem rest_holdOutputs (d : Dev) (a : Nat) : (d.holdOutputs a).rest = d.rest :=
  foldl_view rest fun _ _ _ => (apply_ite rest _ _ _).trans (ite_self _)

/-- A lock that is lost returns the APLL to Locking. -/
theorem apllLockLoss_locked {d : Dev} {a : Nat} (hstate : d.get (Dict.apllState a) = 3) (hmosc : d.get Dict.moscState = 2) :
    d.apllLockLoss a = (((d.set (Dict.apllState a) 2).inc (Dict.apllLockLossCount a)).holdOutputs a).post 58 [(1, a)] := by
  simp only [apllLockLoss, hstate, hmosc, and_self, if_true]

/-! ### APLL0 -/

/-- APLL0 enters VCO hold. -/
theorem keeps_apll0Hold (d : Dev) (cause : Nat) :
    Keeps [Dict.apll0State, Dict.apll0HoldCount, Hid.apll0HoldFrame, Hid.apll0Returning, Hid.apll0Held] d (d.apll0Hold cause) := by
  unfold apll0Hold
  exact ((((((Keeps.refl _ d).set (by simp) _).inc (by simp)).set (by simp) _).setB (by simp) _).setB (by simp) _).post _ _

theorem apll0State_apll0Hold (d : Dev) (cause : Nat) : (d.apll0Hold cause).get Dict.apll0State = 3 := by
  simp (disch := decide) only [apll0Hold, get_post, get_setB_ne, get_set_ne, get_inc_ne]
  exact get_lt_of_set d _ (show 3 < 256 by decide)

theorem apll0HoldCount_apll0Hold (d : Dev) (cause : Nat) :
    (d.apll0Hold cause).get Dict.apll0HoldCount = min (d.get Dict.apll0HoldCount + 1) (Dict.apll0HoldCount.modulus - 1) := by
  simp (disch := decide) only [apll0Hold, get_post, get_setB_ne, get_set_ne, get_inc]

theorem posted_apll0Hold (d : Dev) (cause : Nat) :
    (d.apll0Hold cause).posted = d.posted ++ [⟨56, packDetail [(1, cause), (1, d.get Dict.apll0Source)], false, false, true⟩] := by
  simp (disch := decide) only [apll0Hold, posted_post, posted_setB, posted_set, posted_inc, get_setB_ne, get_set_ne, get_inc_ne]

/-! ### Changes of state that an event brings about -/

theorem keeps_enterState (d : Dev) (new : Nat) : Keeps stateRegisters d (d.enterState new) := by
  unfold enterState
  dsimp only
  have hentered : Keeps stateRegisters d (((d.set Dict.deviceState new).set Dict.deviceStateSince (toTime96 d.view.frameStart)).set Hid.boundEntered
      (setBit (((d.set Dict.deviceState new).set Dict.deviceStateSince (toTime96 d.view.frameStart)).get Hid.boundEntered) new)) :=
    (((Keeps.refl _ d).set (by simp [stateRegisters]) _).set (by simp [stateRegisters]) _).set (by simp [stateRegisters]) _
  exact .ite (.refl _ d) ((Keeps.ite hentered (((hentered.clearAll (by simp [stateRegisters])).setQ _ _).setQ _ _)).post _ _)

theorem posted_enterState (d : Dev) (new : Nat) : d.posted <+: (d.enterState new).posted := by
  unfold enterState
  dsimp only
  split
  · exact List.prefix_rfl
  · rw [posted_post, apply_ite posted]
    simp only [posted_setQ, posted_clearAll, posted_set, ite_self]
    exact List.prefix_append _ _

theorem keeps_recover (d : Dev) : Keeps [Hid.recovering, Dict.stepPendingSize, Dict.stepPendingAt] d d.recover := by
  unfold recover
  split
  · unfold schedule
    dsimp only
    refine .setB (.set (.setI (.clear (.of_regs rfl) ?_) ?_ _) ?_ _) ?_ _ <;> simp
  · exact .refl _ d

theorem posted_recover (d : Dev) : d.recover.posted = d.posted := by
  unfold recover
  split
  · rw [posted_setB, schedule, posted_set, posted_setI, posted_clear]
  · rfl

theorem keeps_enterAcquire (d : Dev) (stage : Nat) :
    Keeps (stateRegisters ++ [Dict.servoStage, Hid.gainStage, Hid.unlockFrames, Hid.dwellFrames]) d (d.enterAcquire stage) := by
  unfold enterAcquire
  dsimp only
  refine .restartDwell (.set (.set (.set (.trans (.ite (.refl _ d) ((Keeps.refl _ d).setQ _ _))
    ((keeps_enterState _ 2).mono (List.subset_append_left _ _))) ?_ _) ?_ _) ?_ _) ?_ <;> simp

theorem posted_enterAcquire (d : Dev) (stage : Nat) : d.posted <+: (d.enterAcquire stage).posted := by
  unfold enterAcquire
  dsimp only
  rw [posted_restartDwell, posted_set, posted_set, posted_set]
  have hsame : (if d.state = 3 then d else d.setQ Q.integrator (d.q Q.rTot)).posted = d.posted := by
    rw [apply_ite posted, posted_setQ, ite_self]
  exact hsame ▸ posted_enterState _ _

theorem keeps_holdoverRows (d : Dev) : Keeps holdoverRegisters d d.holdoverRows := by
  have hacquire (x : Dev) (stage : Nat) : Keeps holdoverRegisters x (x.enterAcquire stage) :=
    (keeps_enterAcquire x stage).mono (List.append_subset.2 ⟨List.subset_append_left _ _, by simp [holdoverRegisters]⟩)
  have hcause : Dict.holdoverCause ∈ holdoverRegisters := by simp [holdoverRegisters, stateRegisters]
  unfold holdoverRows
  refine .ite (.ite (.refl _ d) (.ite (hacquire d _) (.ite ((keeps_enterState d 1).mono (List.subset_append_left _ _)) ((Keeps.refl _ d).set hcause _))))
    (.ite (((keeps_recover d).mono ?_).trans (hacquire _ _)) (.refl _ d))
  simp [holdoverRegisters]

theorem posted_holdoverRows (d : Dev) : d.posted <+: d.holdoverRows.posted := by
  unfold holdoverRows
  split
  · split
    · exact List.prefix_rfl
    · split
      · exact posted_enterAcquire _ _
      · split
        · exact posted_enterState _ _
        · exact List.prefix_rfl
  · split
    · exact posted_recover d ▸ posted_enterAcquire d.recover _
    · exact List.prefix_rfl

theorem keeps_stateRowsNow {d : Dev} (hhold : d.vcoHold = false) : Keeps holdoverRegisters d d.stateRowsNow := by
  unfold stateRowsNow
  rw [if_neg (by simp [hhold])]
  refine .ite (keeps_holdoverRows d) (.ite (((keeps_recover d).mono ?_).trans ((keeps_enterAcquire _ _).mono ?_)) (.refl _ d))
  · simp [holdoverRegisters]
  · exact List.append_subset.2 ⟨List.subset_append_left _ _, by simp [holdoverRegisters]⟩

theorem posted_stateRowsNow {d : Dev} (hhold : d.vcoHold = false) : d.posted <+: d.stateRowsNow.posted := by
  unfold stateRowsNow
  rw [if_neg (by simp [hhold])]
  split
  · exact posted_holdoverRows d
  · split
    · exact posted_recover d ▸ posted_enterAcquire d.recover _
    · exact List.prefix_rfl

/-! ### Collections that restart -/

/-- The registers that a restart of every collection writes (R160, R162). -/
def restartRegisters : List Entry :=
  ((List.range 19).flatMap fun c => [chCalStatusReg c, Hid.twinCount c, Hid.twinSum c, Hid.twinMax c, Hid.twinState c]) ++
    ((List.range 38).flatMap fun n => [Hid.lineResult n, Hid.lineRestarted n, Hid.tempBase n, Hid.voltBase n, Hid.readBase n, Hid.lineStart n])

theorem mem_restartRegisters_of_channel {c : Nat} {e : Entry} (hc : c < 19)
    (he : e ∈ [chCalStatusReg c, Hid.twinCount c, Hid.twinSum c, Hid.twinMax c, Hid.twinState c]) : e ∈ restartRegisters :=
  List.mem_append_left _ (List.mem_flatMap.2 ⟨c, List.mem_range.2 hc, he⟩)

theorem mem_restartRegisters_of_line {n : Nat} {e : Entry} (hn : n < 38)
    (he : e ∈ [Hid.lineResult n, Hid.lineRestarted n, Hid.tempBase n, Hid.voltBase n, Hid.readBase n, Hid.lineStart n]) : e ∈ restartRegisters :=
  List.mem_append_right _ (List.mem_flatMap.2 ⟨n, List.mem_range.2 hn, he⟩)

theorem collectionRegisters_subset {c line : Nat} (hc : c < 19) (hline : line < 2) : collectionRegisters c line ⊆ restartRegisters := by
  have hn : c * 2 + line < 38 := by omega
  intro e he
  have hsplit : e ∈ [Hid.lineResult (c * 2 + line), Hid.lineRestarted (c * 2 + line), Hid.tempBase (c * 2 + line), Hid.voltBase (c * 2 + line),
      Hid.readBase (c * 2 + line), Hid.lineStart (c * 2 + line)] ∨
      e ∈ [chCalStatusReg c, Hid.twinCount c, Hid.twinSum c, Hid.twinMax c, Hid.twinState c] := by
    simp only [collectionRegisters, List.mem_cons, List.not_mem_nil, or_false] at he ⊢
    grind only
  exact hsplit.elim (mem_restartRegisters_of_line hn) (mem_restartRegisters_of_channel hc)

/-- A register that lies apart from those of every channel and line. -/
theorem restartRegisters_apart {e : Entry}
    (hchannel : ∀ c < 19, ∀ x ∈ [chCalStatusReg c, Hid.twinCount c, Hid.twinSum c, Hid.twinMax c, Hid.twinState c], x.addr ≠ e.addr)
    (hline : ∀ n < 38, ∀ x ∈ [Hid.lineResult n, Hid.lineRestarted n, Hid.tempBase n, Hid.voltBase n, Hid.readBase n, Hid.lineStart n],
      x.addr ≠ e.addr) : ∀ x ∈ restartRegisters, x.addr ≠ e.addr := by
  intro x hx
  rcases List.mem_append.1 hx with h | h
  · obtain ⟨c, hc, hmem⟩ := List.mem_flatMap.1 h
    exact hchannel c (List.mem_range.1 hc) x hmem
  · obtain ⟨n, hn, hmem⟩ := List.mem_flatMap.1 h
    exact hline n (List.mem_range.1 hn) x hmem

theorem keeps_restartCollections (d : Dev) : Keeps restartRegisters d d.restartCollections := by
  unfold restartCollections
  refine .forUnits (.refl _ d) fun c hc x => ?_
  dsimp only
  refine .ite (.refl _ x) (.foldl (.refl _ x) fun y line hline => ?_)
  have hlt : line < 2 := by
    split at hline
    · simp only [List.mem_cons, List.not_mem_nil, or_false] at hline
      omega
    · split at hline
      · simp only [List.mem_cons, List.not_mem_nil, or_false] at hline
        omega
      · cases hline
  refine .set (.setB ((keeps_startCollection y c line).mono (collectionRegisters_subset hc hlt)) ?_ _) ?_ _
  · exact mem_restartRegisters_of_line (n := c * 2 + line) (by omega) (by simp)
  · exact mem_restartRegisters_of_channel hc (by simp)

theorem posted_restartCollections (d : Dev) : d.restartCollections.posted = d.posted :=
  forUnits_view posted fun c _ x => by
    dsimp only
    split
    · rfl
    · exact foldl_view posted fun y line _ => by rw [posted_set, posted_setB, posted_startCollection]

end Dev

/-- Settles O26: the states, counts and captures of each APLL event. -/
theorem apllStatesAdvance : Obligations.ApllStatesAdvance := by
  unfold Obligations.ApllStatesAdvance
  refine ⟨?_, ?_, ?_, ?_⟩
  · intro s hserves hstate
    obtain ⟨t, hexec, hdev, hstep⟩ := State.during_next hserves (·.apll0Locks.stateRowsNow)
    have hlocks : s.met.apll0Locks = ((((s.met.set Dict.apll0State 2).inc Dict.apll0LockCount).restartCollections).post 57
        [(1, s.dev.get Dict.apll0Source)]) := by
      have hstate' : s.met.get Dict.apll0State = 1 := hstate
      simp only [Dev.apll0Locks, hstate', ne_eq, not_true, if_false]
      rfl
    have hbefore := Dev.keeps_restartCollections ((s.met.set Dict.apll0State 2).inc Dict.apll0LockCount)
    have hlocked : s.met.apll0Locks.get Dict.apll0State = 2 := by
      rw [hlocks, Dev.get_post, hbefore _ (Dev.restartRegisters_apart (by decide) (by decide)), Dev.get_inc_ne _ _ _ (by decide)]
      exact Dev.get_lt_of_set _ _ (show 2 < 256 by decide)
    have hhold : s.met.apll0Locks.vcoHold = false := by
      rw [Dev.vcoHold, hlocked]
      rfl
    have hrows := Dev.keeps_stateRowsNow hhold
    refine ⟨t, hexec, ?_, ?_, ?_, hstep.onlyRegisters ?_⟩
    · rw [hdev, hrows _ (by decide), hlocked]
    · rw [Counts, hdev, hrows _ (by decide), hlocks, Dev.get_post, hbefore _ (Dev.restartRegisters_apart (by decide) (by decide)), Dev.get_inc, Dev.get_set_ne _ _ _ _ (by decide), State.met_get]
    · rw [hdev]
      refine (Dev.posted_stateRowsNow hhold).subset ?_
      rw [hlocks, Dev.posted_post]
      exact List.mem_append_right _ (.head _)
    · rw [hdev]
      refine .trans ?_ (hrows.mono ?_)
      · rw [hlocks]
        refine (.post (.trans (((Dev.Keeps.refl _ s.met).set (by simp) _).inc (by simp)) (hbefore.mono ?_)) _ _)
        exact List.append_subset.2 ⟨fun x hx => List.mem_append_left _ (List.mem_append_right _ hx), List.subset_append_right _ _⟩
      · exact fun x hx => List.mem_append_left _ (List.mem_append_left _ (List.mem_append_left _ hx))
  · intro s hserves hstate hfrom
    obtain ⟨t, hexec, hdev, hstep⟩ := State.during_next hserves (·.apll0Timeout)
    have htimeout : s.met.apll0Timeout = (s.met.setB Hid.apll0Wait true).apll0Hold 4 := by
      have hstate' : s.met.get Dict.apll0State = 1 := hstate
      have hfrom' : s.met.is Hid.apll0FromHold = true := hfrom
      simp only [Dev.apll0Timeout, hstate', hfrom', ne_eq, not_true, if_false, if_true]
    rw [htimeout] at hdev
    have hkeeps := (s.met.setB Hid.apll0Wait true).keeps_apll0Hold 4
    refine ⟨t, hexec, ?_, ?_, ?_, ?_, hstep.onlyRegisters ?_⟩
    · rw [hdev, Dev.apll0State_apll0Hold]
    · rw [Counts, hdev, Dev.apll0HoldCount_apll0Hold, Dev.get_setB_ne _ _ _ _ (by decide), State.met_get]
    · rw [hdev, hkeeps _ (by decide), Dev.get_setB_self]
      rfl
    · rw [Presents, hdev, Dev.posted_apll0Hold, Dev.posted_setB, Dev.get_setB_ne _ _ _ _ (by decide)]
      rfl
    · rw [hdev]
      exact ((Dev.Keeps.refl _ s.met).setB (by simp) _).trans (hkeeps.mono (by simp))
  · intro s hserves hstate hsource hmosc
    obtain ⟨t, hexec, hdev, hstep⟩ := State.during_next hserves (·.apll0Return)
    have hreturn : s.met.apll0Return = (s.met.setB Hid.moscReturnWanted false).apll0Hold 3 := by
      have hstate' : s.met.get Dict.apll0State = 2 := hstate
      have hsource' : s.met.get Dict.apll0Source = 2 := hsource
      have hmosc' : s.met.get Dict.moscState = 2 := hmosc
      simp only [Dev.apll0Return, Dev.apll0Locked, hstate', hsource', hmosc', BEq.rfl, Bool.and_self, if_true]
    rw [hreturn] at hdev
    refine ⟨t, hexec, ?_, ?_, ?_, hstep.onlyRegisters ?_⟩
    · rw [hdev, Dev.apll0State_apll0Hold]
    · rw [Counts, hdev, Dev.apll0HoldCount_apll0Hold, Dev.get_setB_ne _ _ _ _ (by decide), State.met_get]
    · rw [Presents, hdev, Dev.posted_apll0Hold, Dev.posted_setB, Dev.get_setB_ne _ _ _ _ (by decide), State.met_get, hsource]
      rfl
    · rw [hdev]
      exact ((Dev.Keeps.refl _ s.met).setB (by simp) _).trans ((Dev.keeps_apll0Hold _ 3).mono (by simp))
  · intro s a hlow hhigh hserves
    have ha : a < 4 := Nat.lt_succ_of_le hhigh
    refine ⟨fun hstate => ?_, fun hstate => ?_, fun hstate => ?_, fun hstate hmosc => ?_⟩
    · obtain ⟨t, hexec, hdev, hstep⟩ := State.during_next hserves (·.apllBandFound a)
      rw [Dev.apllBandFound, if_pos (show s.met.get (Dict.apllState a) = 1 from hstate)] at hdev
      refine ⟨t, hexec, ?_, ?_, hstep.onlyRegisters ?_⟩
      · rw [hdev, Dev.get_setB_ne _ _ _ _ (by apply of_lt ha; decide)]
        exact Dev.get_lt_of_set _ _ (show 2 < 256 by decide)
      · rw [PresentsNone, hdev, Dev.posted_setB, Dev.posted_set]
        rfl
      · rw [hdev]
        exact ((Dev.Keeps.refl _ s.met).set (by simp) _).setB (by simp) _
    · obtain ⟨t, hexec, hdev, hstep⟩ := State.during_next hserves (·.apllLocks a)
      rw [Dev.apllLocks_locking (d := s.met) ha hstate] at hdev
      have hlist : s.met.outputsOf a = s.dev.outputsOf a := rfl
      have houts := Dev.keeps_foldl_outputs (d := s.met) (a := a) (f := Hid.outRealign) 1
        (d' := (s.met.set (Dict.apllState a) 3).clearAll [Hid.apllFromCal a, Hid.apllFromHold a, Hid.apllHoldFrame a])
      rw [← hdev] at houts
      refine ⟨t, hexec, ?_, fun n hn => ?_, ?_, hstep.onlyRegisters ?_⟩
      · rw [houts _ ?_, Dev.get_clearAll_ne _ _ _ (by apply of_lt ha; decide)]
        · exact Dev.get_lt_of_set _ _ (show 3 < 256 by decide)
        · exact Dev.outputs_apart (by apply of_lt ha; decide) _ _
      · rw [hdev]
        exact (Dev.get_foldl_outputs (by decide) hn).trans rfl
      · rw [PresentsNone, hdev, Dev.of_rest (g := Dev.posted) (Dev.rest_foldl_set _ _ _ _), Dev.posted_clearAll, Dev.posted_set]
        rfl
      · exact (((Dev.Keeps.refl _ s.met).set (by simp) _).clearAll (by simp)).trans (houts.mono (List.subset_append_right [_, _, _, _] _))
    · obtain ⟨t, hexec, hdev, hstep⟩ := State.during_next hserves (·.apllTimeout a)
      rw [Dev.apllTimeout_calibrating (d := s.met) ha hstate] at hdev
      have houts := Dev.keeps_foldl_outputs (d := s.met) (a := a) (f := Dict.outState) 1 (d' := s.met.set (Dict.apllState a) 0)
      refine ⟨t, hexec, ?_, fun n hn => ?_, ?_, hstep.onlyRegisters ?_⟩
      · rw [hdev, Dev.get_post, houts _ (Dev.outputs_apart (by apply of_lt ha; decide) _ _), Dev.get_set_self, Nat.zero_mod]
      · rw [hdev, Dev.get_post]
        exact (Dev.get_foldl_outputs (by decide) hn).trans rfl
      · rw [Presents, hdev, Dev.posted_post, Dev.of_rest (g := Dev.posted) (Dev.rest_foldl_set _ _ _ _), Dev.posted_set]
        rfl
      · rw [hdev]
        exact ((((Dev.Keeps.refl _ s.met).set (by simp) _).trans (houts.mono (List.subset_cons_self _ _))).post _ _)
    · obtain ⟨t, hexec, hdev, hstep⟩ := State.during_next hserves (·.apllLockLoss a)
      rw [Dev.apllLockLoss_locked (d := s.met) hstate hmosc] at hdev
      have hset : Dev.Keeps [Dict.apllState a, Dict.apllLockLossCount a] s.met ((s.met.set (Dict.apllState a) 2).inc (Dict.apllLockLossCount a)) :=
        ((Dev.Keeps.refl _ s.met).set (by simp) _).inc (by simp)
      have hlist : ((s.met.set (Dict.apllState a) 2).inc (Dict.apllLockLossCount a)).outputsOf a = s.met.outputsOf a :=
        Dev.outputsOf_congr hset (by apply of_lt ha; decide) a
      have houts := ((s.met.set (Dict.apllState a) 2).inc (Dict.apllLockLossCount a)).keeps_holdOutputs a
      rw [hlist] at houts
      refine ⟨t, hexec, ?_, ?_, ?_, hstep.onlyRegisters ?_⟩
      · rw [hdev, Dev.get_post, houts _ (Dev.outputs_apart (by apply of_lt ha; decide) _ _),
          Dev.get_inc_ne _ _ _ (by apply of_lt ha; decide)]
        exact Dev.get_lt_of_set _ _ (show 2 < 256 by decide)
      · rw [Counts, hdev, Dev.get_post, houts _ (Dev.outputs_apart (by apply of_lt ha; decide) _ _), Dev.get_inc,
          Dev.get_set_ne _ _ _ _ (by apply of_lt ha; decide), State.met_get]
      · rw [Presents, hdev, Dev.posted_post, Dev.of_rest (g := Dev.posted) (Dev.rest_holdOutputs _ _), Dev.posted_inc, Dev.posted_set]
        rfl
      · rw [hdev]
        exact .post ((hset.mono (by simp)).trans (houts.mono (List.subset_append_right _ _))) _ _

end Sys2Proof.Machine
end

section
/-!
PROOF. Ports: their calibration (O34), and how they come up and go down (O35).
-/
namespace Sys2Proof.Machine

/-- The code of an integer fits the entry's type. -/
theorem Entry.ofInt_lt (e : Entry) (i : Int) : e.ofInt i < e.modulus := by
  have hpos : 0 < e.modulus := Nat.pow_pos (by decide)
  unfold Entry.ofInt
  split
  · have hmod := Int.emod_lt_of_pos (max (-(e.modulus / 2 : Int)) (min i ((e.modulus / 2 : Int) - 1))) (Int.natCast_pos.2 hpos)
    have hnonneg := Int.emod_nonneg (max (-(e.modulus / 2 : Int)) (min i ((e.modulus / 2 : Int) - 1))) (Int.ne_of_gt (Int.natCast_pos.2 hpos))
    omega
  · omega

namespace Dev

theorem get_setI_self (d : Dev) (e : Entry) (i : Int) : (d.setI e i).get e = e.ofInt i :=
  (get_set_self d e _).trans (Nat.mod_eq_of_lt (e.ofInt_lt i))

theorem now_set (d : Dev) (e : Entry) (v : Nat) : (d.set e v).now = d.now := (rfl)

/-! ### Changes of state -/

/-- From any state but Up a port enters Training without an event. -/
theorem enterPort_training {d : Dev} {q : Nat} (hdown : d.get (Dict.portState q) ≠ 3) :
    d.enterPort q 2 = (d.set (Dict.portState q) 2).set (Hid.portLockAt q) (d.now + 1) := by
  simp only [enterPort, hdown, if_false, if_true]
  rfl

/-- A port that leaves Up for Training raises source 84. -/
theorem enterPort_leavesUp {d : Dev} {q : Nat} (hup : d.get (Dict.portState q) = 3) :
    d.enterPort q 2 = ((d.post 84 [(1, q)]).set (Dict.portState q) 2).set (Hid.portLockAt q) (d.now + 1) := by
  simp only [enterPort, hup, if_true]
  rfl

theorem portUp_held {d : Dev} {q : Nat} (hq : q < 6) (hstate : d.get (Dict.portState q) = 2) (hlocked : d.is (Hid.portLocked q) = true)
    (hheld : d.heldFor q (d.get (Dict.portUpHold q)) = true) :
    d.portUp q =
      let d' := ((d.set (Dict.portState q) 3).set (Dict.portUpSince q) (toTime96 d.now)).set (Dict.portCommitLead q) (commitLead (d.get (Dict.portMode q)))
      (if d.get (Hid.esmcAt q) = 0 then d'.set (Hid.esmcAt q) (d.now + 1) else d').post 85 [] := by
  simp (disch := apply of_lt hq; decide) only [portUp, hstate, hlocked, hheld, ne_eq, not_true, Bool.not_true, Bool.false_eq_true, or_self,
    if_false, get_set_ne, now_set]

/-- What needs a calibration depends on the port's own registers and its region's temperature. -/
theorem needsCal_congr {es : List Entry} {d d' : Dev} {q : Nat} (h : Keeps es d d')
    (happart : ∀ x ∈ es, x.addr ≠ (Dict.portCalStatus q).addr ∧ x.addr ≠ (Dict.regionTemp (portRegion q)).addr ∧ x.addr ≠ (Dict.portCalTemp q).addr) :
    d'.needsCal q = d.needsCal q := by
  rw [needsCal, needsCal, portDeparture, portDeparture, getI, getI, getI, getI, h _ fun x hx => (happart x hx).1,
    h _ fun x hx => (happart x hx).2.1, h _ fun x hx => (happart x hx).2.2]

theorem portDown_held {d : Dev} {q : Nat} (hq : q < 6) (hstate : d.get (Dict.portState q) = 3) (hlost : d.is (Hid.portLocked q) = false)
    (hheld : d.heldFor q (d.get (Dict.portDownHold q)) = true) (hcal : d.needsCal q = false) :
    d.portDown q = (((d.inc (Dict.linkDownCount q)).post 84 [(1, q)]).set (Dict.portState q) 2).set (Hid.portLockAt q) (d.now + 1) := by
  have hup : (d.inc (Dict.linkDownCount q)).get (Dict.portState q) = 3 := by
    rw [get_inc_ne _ _ _ (by apply of_lt hq; decide), hstate]
  have henter := enterPort_leavesUp hup
  have hkeeps : Keeps [Dict.linkDownCount q, Dict.portState q, Hid.portLockAt q] d ((d.inc (Dict.linkDownCount q)).enterPort q 2) := by
    rw [henter]
    exact ((((Keeps.refl _ d).inc (by simp)).post _ _).set (by simp) _).set (by simp) _
  have hcal' := needsCal_congr (q := q) hkeeps (by apply of_lt hq; decide)
  simp only [portDown, hstate, hlost, hheld, hcal', hcal, Bool.not_true, Bool.false_eq_true, ne_eq, not_true, or_self, if_false]
  exact henter

theorem pcsStatus_lost {d : Dev} {q : Nat} (hlocked : d.is (Hid.portLocked q) = true) :
    d.pcsStatus q ⟨false, false, false, 0, 0, 0⟩ =
      ((((d.setB (Hid.portHiBer q) false).add (Dict.fecCorrected q) 0).add (Dict.pcsBlockErrors q) 0).setB (Hid.portLocked q) false).set
        (Hid.portLockAt q) (d.now + 1) := by
  simp only [pcsStatus, hlocked, Bool.false_and, Bool.false_eq_true, if_false, if_true, Bool.false_beq, Bool.not_true]
  rfl

theorem mgtLink_changes {d : Dev} {up : Bool} (hold : d.is Dict.mgtLinkUp = !up) :
    d.mgtLink up 1000 = (d.setB Dict.mgtLinkUp up).post 98 [] := by
  simp only [mgtLink, hold, BEq.rfl, Bool.or_true, Bool.and_true, Bool.beq_not_self, Bool.false_eq_true, if_false]

end Dev

/-- Settles O35: what each change of a port and of the management link writes. -/
theorem portsComeUpAndGoDown : Obligations.PortsComeUpAndGoDown := by
  unfold Obligations.PortsComeUpAndGoDown
  refine ⟨?_, ?_, ?_, ?_⟩
  · intro s q hq hserves hstate hlocked hheld
    obtain ⟨t, hexec, hdev, hstep⟩ := State.during_next hserves (·.portUp q)
    rw [Dev.portUp_held (d := s.met) hq hstate hlocked hheld] at hdev
    have hesmc : Dev.Keeps [Hid.esmcAt q] (((s.met.set (Dict.portState q) 3).set (Dict.portUpSince q) (toTime96 s.met.now)).set (Dict.portCommitLead q)
        (commitLead (s.met.get (Dict.portMode q)))) t.dev := by
      rw [hdev]
      exact .post (.ite ((Dev.Keeps.refl _ _).set (by simp) _) (.refl _ _)) _ _
    refine ⟨t, hexec, ?_, ?_, ?_, hstep.onlyRegisters ?_⟩
    · rw [hesmc _ (by apply of_lt hq; decide)]
      simp (disch := apply of_lt hq; decide) only [Dev.get_set_ne]
      exact Dev.get_lt_of_set _ _ (show 3 < 256 by decide)
    · have hlt : commitLead (s.met.get (Dict.portMode q)) < 256 ^ 4 := by
        unfold commitLead
        split
        · decide
        · split <;> decide
      rw [hesmc _ (by apply of_lt hq; decide)]
      exact Dev.get_lt_of_set _ _ hlt
    · simp only [Presents, hdev, Dev.posted_post, apply_ite Dev.posted, Dev.posted_set, ite_self]
      rfl
    · exact ((((Dev.Keeps.refl _ s.met).set (by simp) _).set (by simp) _).set (by simp) _).trans (hesmc.mono (by simp))
  · intro s q hq hserves hstate hlost hheld hcal
    obtain ⟨t, hexec, hdev, hstep⟩ := State.during_next hserves (·.portDown q)
    rw [Dev.portDown_held (d := s.met) hq hstate hlost hheld hcal] at hdev
    refine ⟨t, hexec, ?_, ?_, ?_, hstep.onlyRegisters ?_⟩
    · rw [hdev, Dev.get_set_ne _ _ _ _ (by apply of_lt hq; decide)]
      exact Dev.get_lt_of_set _ _ (show 2 < 256 by decide)
    · simp (disch := apply of_lt hq; decide) only [Counts, hdev, Dev.get_set_ne, Dev.get_post, Dev.get_inc, State.met_get]
    · simp only [Presents, hdev, Dev.posted_set, Dev.posted_post, Dev.posted_inc]
      rfl
    · rw [hdev]
      exact ((((Dev.Keeps.refl _ s.met).inc (by simp)).post _ _).set (by simp) _).set (by simp) _
  · intro s q hq hserves _ hlocked _
    obtain ⟨t, hexec, hdev, hstep⟩ := State.during_next hserves (·.pcsStatus q ⟨false, false, false, 0, 0, 0⟩)
    rw [Dev.pcsStatus_lost (d := s.met) hlocked] at hdev
    refine ⟨t, hexec, ?_, ?_, hstep.onlyRegisters ?_⟩
    · rw [hdev, Dev.get_set_ne _ _ _ _ (by apply of_lt hq; decide), Dev.get_setB_self]
      rfl
    · simp only [PresentsNone, hdev, Dev.posted_set, Dev.posted_setB, Dev.posted_add]
      rfl
    · rw [hdev]
      exact (((((Dev.Keeps.refl _ s.met).setB (by simp) _).add (by simp) _).add (by simp) _).setB (by simp) _).set (by simp) _
  · intro s up hserves hold
    obtain ⟨t, hexec, hdev, hstep⟩ := State.during_next hserves (·.mgtLink up 1000)
    rw [Dev.mgtLink_changes (d := s.met) hold] at hdev
    refine ⟨t, hexec, ?_, ?_, hstep.onlyRegisters ?_⟩
    · rw [hdev, Dev.is, Dev.get_post, Dev.get_setB_self]
      cases up <;> rfl
    · rw [Presents, hdev, Dev.posted_post, Dev.posted_setB]
      rfl
    · rw [hdev]
      exact ((Dev.Keeps.refl _ s.met).setB (by simp) _).post _ _

/-! ### Pin calibration -/

namespace Dev

theorem keeps_firstLive (es : List Entry) (d : Dev) (unit quantity : Nat) (value : Int) : Keeps es d (d.firstLive unit quantity value) := by
  unfold firstLive
  dsimp only
  refine .ite (.refl _ d) ?_
  split
  · exact .of_regs rfl
  · exact .ite (.post (.of_regs rfl) _ _) (.of_regs rfl)

/-- The delays of a port's lanes. -/
def delayRegisters (q : Nat) : List Entry := (List.range (portLanes q)).flatMap fun l => [Dict.portTxDelay q l, Dict.portRxDelay q l]

theorem portTxDelay_mem {q l : Nat} (hl : l < portLanes q) : Dict.portTxDelay q l ∈ delayRegisters q :=
  List.mem_flatMap.2 ⟨l, List.mem_range.2 hl, by simp⟩

theorem portRxDelay_mem {q l : Nat} (hl : l < portLanes q) : Dict.portRxDelay q l ∈ delayRegisters q :=
  List.mem_flatMap.2 ⟨l, List.mem_range.2 hl, by simp⟩

/-- The lanes take their measured delays. -/
def measureLanes (d : Dev) (q : Nat) (lanes : List LaneDelays) : Dev :=
  forUnits (portLanes q) (fun l d =>
    let x := lanes.getD l ⟨0, 0, 0, 0⟩
    let d := (d.setI (Dict.portTxDelay q l) (fsToUnits x.tx)).setI (Dict.portRxDelay q l) (fsToUnits x.rx)
    (d.firstLive (0x50 + q) (0x10 + l) x.tx).firstLive (0x50 + q) (0x20 + l) x.rx) d

theorem keeps_measureLanes (d : Dev) (q : Nat) (lanes : List LaneDelays) : Keeps (delayRegisters q) d (d.measureLanes q lanes) :=
  .forUnits (.refl _ d) fun _ hl x =>
    ((((Keeps.refl _ x).setI (portTxDelay_mem hl) _).setI (portRxDelay_mem hl) _).trans (keeps_firstLive _ _ _ _ _)).trans (keeps_firstLive _ _ _ _ _)

/-- The lanes take their factory delays. -/
def factoryLanes (d : Dev) (q : Nat) : Dev :=
  forUnits (portLanes q) (fun l d =>
    (d.setI (Dict.portTxDelay q l) (factorySpan (0x5820 + q) (6 + l))).setI (Dict.portRxDelay q l) (factorySpan (0x5820 + q) (10 + l))) d

theorem keeps_factoryLanes (d : Dev) (q : Nat) : Keeps (delayRegisters q) d (d.factoryLanes q) :=
  .forUnits (.refl _ d) fun _ hl x => ((Keeps.refl _ x).setI (portTxDelay_mem hl) _).setI (portRxDelay_mem hl) _

theorem posted_factoryLanes (d : Dev) (q : Nat) : (d.factoryLanes q).posted = d.posted :=
  forUnits_view posted fun _ _ x => by rw [posted_setI, posted_setI]

/-- A register that lies apart from the delays of every port. -/
theorem delayRegisters_apart {q : Nat} {e : Entry}
    (h : ∀ l < 4, (Dict.portTxDelay q l).addr ≠ e.addr ∧ (Dict.portRxDelay q l).addr ≠ e.addr) : ∀ x ∈ delayRegisters q, x.addr ≠ e.addr := by
  intro x hx
  obtain ⟨l, hl, hmem⟩ := List.mem_flatMap.1 hx
  have hlt : l < 4 := Nat.lt_of_lt_of_le (List.mem_range.1 hl) (by unfold portLanes; split <;> decide)
  simp only [List.mem_cons, List.not_mem_nil, or_false] at hmem
  rcases hmem with rfl | rfl
  · exact (h l hlt).1
  · exact (h l hlt).2

/-- The registers that the state of a calibration shows. -/
theorem portCalDone_passes {d : Dev} {q : Nat} {lanes : List LaneDelays} (hstate : d.get (Dict.portState q) = 1)
    (hpass : d.portCalCheck q lanes = 0) :
    d.portCalDone q lanes =
      ((((((d.measureLanes q lanes).set (Dict.portCalSpread q) (lanes.foldl (fun a l => max a (max l.txSpread l.rxSpread)) 0)).setI (Dict.portCalTemp q)
        (d.getI (Dict.regionTemp (portRegion q)))).set (Dict.portCalTime q) (toTime96 (d.measureLanes q lanes).now)).set (Dict.portCalStatus q) 1).setB
        (Hid.portAged q) false).enterPort q 2 := by
  simp only [portCalDone, hstate, hpass, ne_eq, not_true, if_false]
  rfl

/-- A calibration whose region's PCT does not measure leaves the port on its factory delays. -/
theorem portCalIncomplete_late {d : Dev} {q : Nat} (hstate : d.get (Dict.portState q) = 1) (hpct : d.get (pctState (portRegion q)) ≠ 1)
    (hlate : d.portCalLate q = true) :
    d.portCalIncomplete q =
      ((((((d.set (Dict.portCalLastFail q) 1).set (Dict.portCalTime q) (toTime96 d.now)).factoryLanes q).set (Dict.portCalStatus q) 2).setI
        (Dict.portCalTemp q) 25000).enterPort q 2).setB (Dict.portCalPending q) true := by
  simp only [portCalIncomplete, hstate, hpct, hlate, ne_eq, not_true, not_false_eq_true, Bool.not_true, Bool.false_eq_true, or_self, if_false, if_true,
    failPortCal, useFactory, now_set]
  rfl

end Dev

/-- Settles O34: both ends of a calibration enter Training from Calibrating. -/
theorem portCalibrationEndsInTraining : Obligations.PortCalibrationEndsInTraining := by
  unfold Obligations.PortCalibrationEndsInTraining
  refine ⟨?_, ?_⟩
  · intro s q lanes hq hserves hstate hpass
    obtain ⟨t, hexec, hdev, hstep⟩ := State.during_next hserves (·.portCalDone q lanes)
    rw [Dev.portCalDone_passes (d := s.met) hstate hpass] at hdev
    have hlanes := s.met.keeps_measureLanes q lanes
    generalize s.met.measureLanes q lanes = d at hdev hlanes
    generalize lanes.foldl (fun a l => max a (max l.txSpread l.rxSpread)) 0 = spread at hdev
    have hkept : d.get (Dict.portState q) = 1 :=
      (hlanes _ (Dev.delayRegisters_apart (by apply of_lt hq; decide))).trans hstate
    rw [Dev.enterPort_training (by
      simp (disch := apply of_lt hq; decide) only [Dev.get_setB_ne, Dev.get_set_ne, Dev.get_setI_ne, hkept]
      decide)] at hdev
    refine ⟨t, hexec, ?_, ?_, ?_, hstep.onlyRegisters ?_⟩
    · rw [hdev, Dev.get_set_ne _ _ _ _ (by apply of_lt hq; decide)]
      exact Dev.get_lt_of_set _ _ (show 2 < 256 by decide)
    · simp (disch := apply of_lt hq; decide) only [hdev, Dev.get_setB_ne, Dev.get_set_ne]
      exact Dev.get_lt_of_set _ _ (show 1 < 256 by decide)
    · simp (disch := apply of_lt hq; decide) only [hdev, Dev.getI, Dev.get_setB_ne, Dev.get_set_ne, Dev.get_setI_self]
      rfl
    · rw [hdev]
      refine .set (.set (.setB (.set (.set (.setI (.set (hlanes.mono (List.subset_append_right _ _)) ?_ _) ?_ _) ?_ _) ?_ _) ?_ _) ?_ _) ?_ _ <;> simp
  · intro s q hq hserves hstate hpct hlate
    obtain ⟨t, hexec, hdev, hstep⟩ := State.during_next hserves (·.portCalIncomplete q)
    rw [Dev.portCalIncomplete_late (d := s.met) hstate hpct hlate] at hdev
    have hlanes := ((s.met.set (Dict.portCalLastFail q) 1).set (Dict.portCalTime q) (toTime96 s.met.now)).keeps_factoryLanes q
    have hposted := ((s.met.set (Dict.portCalLastFail q) 1).set (Dict.portCalTime q) (toTime96 s.met.now)).posted_factoryLanes q
    generalize ((s.met.set (Dict.portCalLastFail q) 1).set (Dict.portCalTime q) (toTime96 s.met.now)).factoryLanes q = d at hdev hlanes hposted
    have hkept : d.get (Dict.portState q) = 1 := by
      rw [hlanes _ (Dev.delayRegisters_apart (by apply of_lt hq; decide))]
      simp (disch := apply of_lt hq; decide) only [Dev.get_set_ne, State.met_get, hstate]
    rw [Dev.enterPort_training (by
      simp (disch := apply of_lt hq; decide) only [Dev.get_set_ne, Dev.get_setI_ne, hkept]
      decide)] at hdev
    refine ⟨t, hexec, ?_, ?_, ?_, ?_, ?_, hstep.onlyRegisters ?_⟩
    · simp (disch := apply of_lt hq; decide) only [hdev, Dev.get_setB_ne, Dev.get_set_ne]
      exact Dev.get_lt_of_set _ _ (show 2 < 256 by decide)
    · simp (disch := apply of_lt hq; decide) only [hdev, Dev.get_setB_ne, Dev.get_set_ne, Dev.get_setI_ne]
      exact Dev.get_lt_of_set _ _ (show 2 < 256 by decide)
    · simp (disch := apply of_lt hq; decide) only [hdev, Dev.get_setB_ne, Dev.get_set_ne, Dev.get_setI_ne]
      rw [hlanes _ (Dev.delayRegisters_apart (by apply of_lt hq; decide)), Dev.get_set_ne _ _ _ _ (by apply of_lt hq; decide)]
      exact Dev.get_lt_of_set _ _ (show 1 < 256 by decide)
    · rw [hdev, Dev.get_setB_self]
      rfl
    · simp only [PresentsNone, hdev, Dev.posted_setB, Dev.posted_set, Dev.posted_setI, hposted]
      rfl
    · rw [hdev]
      refine .setB (.set (.set (.setI (.set (.trans (.set (.set (.refl _ s.met) ?_ _) ?_ _) (hlanes.mono (List.subset_append_right _ _))) ?_ _) ?_ _) ?_ _)
        ?_ _) ?_ _ <;> simp

end Sys2Proof.Machine
end

section
/-!
PROOF. Sessions of QOP: what opening, showing, answering and ending one writes (R68 to R76), and O42.

`Dev.besides` is the device without its registers and its sessions: all but what a message leaves keeps it.
-/
namespace Sys2Proof.Machine

/-- A command without a condition acts on the device as it finds it, and on nothing else. -/
theorem State.onDev_next (s : State) (f : Dev → Dev) :
    ∃ t, (.next (s.onDev f) : Host.Outcome State Fault Refusal) = .next t ∧ t.dev = f s.met ∧ DeviceStep s t :=
  ⟨_, rfl, rfl, s.deviceStep_onDev f⟩

namespace Dev

/-! ### What shows a session -/

/-- The device without its registers and its sessions. -/
def besides (d : Dev) : Dev := { d with regs := [], rats := [], sessions := [] }

theorem besides_of_rest {d d' : Dev} (h : d'.rest = d.rest) : d'.besides = d.besides := of_rest h

/-- Whatever is read off the device without its registers and sessions reads the same on both. -/
theorem of_besides {γ : Type} {g : Dev → γ} {d d' : Dev} (h : d'.besides = d.besides)
    (hg : ∀ x : Dev, g x.besides = g x := by exact fun _ => rfl) : g d' = g d :=
  (hg d').symm.trans ((congrArg g h).trans (hg d))

/-- The sessions of the device become a list. -/
def withSessions (d : Dev) (l : List Session) : Dev := { d with sessions := l }

@[simp] theorem get_withSessions (d : Dev) (l : List Session) (e : Entry) : (d.withSessions l).get e = d.get e := (rfl)
@[simp] theorem sessions_withSessions (d : Dev) (l : List Session) : (d.withSessions l).sessions = l := (rfl)
@[simp] theorem besides_withSessions (d : Dev) (l : List Session) : (d.withSessions l).besides = d.besides := (rfl)

@[simp] theorem sessions_set (d : Dev) (e : Entry) (v : Nat) : (d.set e v).sessions = d.sessions := (rfl)
@[simp] theorem sessions_inc (d : Dev) (e : Entry) : (d.inc e).sessions = d.sessions := (rfl)
@[simp] theorem besides_set (d : Dev) (e : Entry) (v : Nat) : (d.set e v).besides = d.besides := (rfl)
@[simp] theorem besides_inc (d : Dev) (e : Entry) : (d.inc e).besides = d.besides := (rfl)

theorem sessions_of_rest {d d' : Dev} (h : d'.rest = d.rest) : d'.sessions = d.sessions := of_rest (g := Dev.sessions) h

/-- Showing a session writes its slot's entry and nothing else. -/
theorem showSession_eq_set (d : Dev) (slot : Nat) : ∃ v, d.showSession slot = d.set (Dict.sessionState slot) v := by
  unfold showSession
  split <;> exact ⟨_, rfl⟩

@[simp] theorem rest_showSession (d : Dev) (slot : Nat) : (d.showSession slot).rest = d.rest := by
  obtain ⟨v, hv⟩ := d.showSession_eq_set slot
  rw [hv, rest_set]

theorem Keeps.showSession {es : List Entry} {d d' : Dev} (h : Keeps es d d') {slot : Nat} (hmem : Dict.sessionState slot ∈ es) :
    Keeps es d (d'.showSession slot) := by
  obtain ⟨v, hv⟩ := d'.showSession_eq_set slot
  exact hv ▸ h.set hmem v

theorem putSession_eq (d : Dev) (x : Session) :
    d.putSession x = (d.withSessions (x :: d.sessions.filter fun y => y.slot != x.slot)).showSession x.slot := (rfl)

theorem Keeps.putSession {es : List Entry} {d d' : Dev} (h : Keeps es d d') {x : Session} (hmem : Dict.sessionState x.slot ∈ es) :
    Keeps es d (d'.putSession x) := by
  rw [putSession_eq]
  exact Keeps.showSession (d' := d'.withSessions (x :: d'.sessions.filter fun y => y.slot != x.slot))
    (fun e he => h e he) hmem

@[simp] theorem sessions_putSession (d : Dev) (x : Session) :
    (d.putSession x).sessions = x :: d.sessions.filter fun y => y.slot != x.slot := by
  rw [putSession_eq, sessions_of_rest (rest_showSession _ _), sessions_withSessions]

@[simp] theorem besides_putSession (d : Dev) (x : Session) : (d.putSession x).besides = d.besides := by
  rw [putSession_eq, besides_of_rest (rest_showSession _ _), besides_withSessions]

theorem find_putSession (d : Dev) {x : Session} {slot : Nat} (hslot : x.slot = slot) :
    ((d.putSession x).sessions.find? fun y => y.slot == slot) = some x := by
  rw [sessions_putSession, List.find?_cons_of_pos (by simp [hslot])]

/-! ### The end of a session -/

theorem endSession_of_find {d : Dev} {slot : Nat} {x : Session} (hfind : (d.sessions.find? fun y => y.slot == slot) = some x) :
    d.endSession slot =
      (let d' := d.withSessions (d.sessions.filter fun y => y.slot != slot)
       if d'.get Hid.excSession = x.id then d'.unbindException else d').showSession slot := by
  unfold endSession
  rw [hfind]
  rfl

/-- A session that ends is gone; it leaves its entry and the binding of the exception path cleared. -/
theorem endSession_spec {d : Dev} {slot : Nat} {x : Session} (hfind : (d.sessions.find? fun y => y.slot == slot) = some x) :
    (d.endSession slot).sessions = (d.sessions.filter fun y => y.slot != slot) ∧ (d.endSession slot).besides = d.besides ∧
      Keeps (endRegisters slot) d (d.endSession slot) := by
  rw [endSession_of_find hfind]
  dsimp only
  have hrest : (if (d.withSessions (d.sessions.filter fun y => y.slot != slot)).get Hid.excSession = x.id then
      (d.withSessions (d.sessions.filter fun y => y.slot != slot)).unbindException
      else d.withSessions (d.sessions.filter fun y => y.slot != slot)).rest = (d.withSessions (d.sessions.filter fun y => y.slot != slot)).rest := by
    split
    · exact rest_clearAll _ _
    · rfl
  have hshown := (rest_showSession _ slot).trans hrest
  refine ⟨(sessions_of_rest hshown).trans (sessions_withSessions _ _), (besides_of_rest hshown).trans (besides_withSessions _ _),
    Keeps.showSession ?_ (by simp [endRegisters])⟩
  have hkeeps : Keeps (endRegisters slot) d (d.withSessions (d.sessions.filter fun y => y.slot != slot)) := fun _ _ => rfl
  exact .ite (hkeeps.clearAll (by simp [endRegisters])) hkeeps

/-! ### What a message takes of the lanes -/

theorem rest_budgetFrame (d : Dev) : d.budgetFrame.rest = d.rest := by
  unfold budgetFrame
  split
  · rfl
  · rw [rest_set, rest_clearAll]

@[simp] theorem rest_tagWork (d : Dev) (x : Session) (n : Nat) : (d.tagWork x n).rest = d.rest := by
  unfold tagWork classOne
  split
  · rfl
  · rw [rest_inc, rest_add, rest_budgetFrame]

theorem Keeps.tagWork {es : List Entry} {d d' : Dev} (h : Keeps es d d') (x : Session) (n : Nat) (hsub : workRegisters ⊆ es) :
    Keeps es d (d'.tagWork x n) := by
  have hmem : ∀ {e}, e ∈ workRegisters → e ∈ es := fun he => hsub he
  have hclear : [Hid.protoMsgs, Hid.protoHmac, Hid.protoAes, Hid.clientChanges] ⊆ workRegisters := by simp [workRegisters]
  unfold Dev.tagWork classOne budgetFrame
  refine .ite h (((Keeps.ite h ((h.clearAll fun _ he => hsub (hclear he)).set (hmem (by simp [workRegisters])) _)).add
    (hmem (by simp [workRegisters])) _).inc (hmem ?_))
  exact List.mem_append_right _ (List.mem_map_of_mem (by decide))

@[simp] theorem sessions_tagWork (d : Dev) (x : Session) (n : Nat) : (d.tagWork x n).sessions = d.sessions :=
  sessions_of_rest (rest_tagWork d x n)

@[simp] theorem besides_tagWork (d : Dev) (x : Session) (n : Nat) : (d.tagWork x n).besides = d.besides :=
  besides_of_rest (rest_tagWork d x n)

/-! ### Messages that leave -/

/-- No register of the conversation lies below SessionState. -/
theorem le_addr_of_shownBy {x : Session} {e : Entry} (he : e ∈ shownBy x) : (Dict.sessionState 0).addr ≤ e.addr := by
  rcases List.mem_append.1 he with he | he
  · rcases List.mem_cons.1 he with rfl | he
    · exact Nat.add_le_add_left (Nat.add_le_add_left (Nat.zero_le _) 1) _
    · apply of_mem he
      decide
  · apply of_mem he
    decide

/-- Who can be reached depends only on entries of MGT that no message writes. -/
theorem routable_of_keeps {x : Session} {d d' : Dev} (h : Keeps (shownBy x) d d') (p : Peer) : d'.routable p = d.routable p := by
  have hget : ∀ e : Entry, e.addr < (Dict.sessionState 0).addr → d'.get e = d.get e := fun e he =>
    h e fun y hy => Nat.ne_of_gt (Nat.lt_of_lt_of_le he (le_addr_of_shownBy hy))
  simp only [routable, hget Dict.mgtIpv4Gateway (by decide), hget Dict.mgtIpv4PrefixLength (by decide),
    hget Dict.mgtIpv4Address (by decide), hget Dict.mgtIpv6Gateway (by decide), hget Dict.mgtIpv6PrefixLength (by decide),
    hget Dict.mgtIpv6Address (by decide)]

/-- A message leaves on its link. -/
def SentOn (d d' : Dev) (onSpi : Bool) (p : Peer) (m : QopMessage) : Prop :=
  if onSpi then d'.spiQueue = d.spiQueue ++ [m] else Emit.qop p m ∈ d'.emit

/-- A message to a peer that can be reached leaves; nothing is presented or staged, and only its count is written. -/
theorem sendMessage_spec {d : Dev} {onSpi : Bool} {p : Peer} (m : QopMessage) (hroute : (onSpi || d.routable p) = true) :
    SentOn d (d.sendMessage onSpi p m) onSpi p m ∧ (d.sendMessage onSpi p m).sessions = d.sessions ∧
      (d.sendMessage onSpi p m).posted = d.posted ∧ (d.sendMessage onSpi p m).staged = d.staged ∧
      Keeps [Dict.mgtTxFrames] d (d.sendMessage onSpi p m) := by
  unfold sendMessage SentOn
  cases onSpi with
  | true => exact ⟨rfl, rfl, rfl, rfl, fun _ _ => rfl⟩
  | false =>
    rw [Bool.false_or] at hroute
    simp only [hroute, if_true, Bool.false_eq_true, if_false]
    exact ⟨List.mem_append_right _ (List.mem_singleton_self _), rfl, rfl, rfl, ((Keeps.refl _ d).inc (by simp)).out _⟩

/-! ### Arrival -/

theorem arrive_of_length {d : Dev} {h : Head} (hlength : lengthOk h.length = true) :
    d.arrive h = if h.onSpi then d else d.inc Dict.mgtRxFrames := by
  unfold arrive
  rw [if_pos hlength]

theorem rest_arrive (d : Dev) {h : Head} (hlength : lengthOk h.length = true) : (d.arrive h).rest = d.rest := by
  rw [arrive_of_length hlength]
  split <;> rfl

theorem keeps_arrive (d : Dev) {h : Head} (hlength : lengthOk h.length = true) : Keeps [Dict.mgtRxFrames] d (d.arrive h) := by
  rw [arrive_of_length hlength]
  exact .ite (.refl _ d) ((Keeps.refl _ d).inc (by simp))

theorem listens_of_reaches {d : Dev} {h : Head} (hreaches : d.reaches h = true) : d.listens h = true := by
  rw [reaches, Bool.and_eq_true] at hreaches
  exact hreaches.1

/-- The peer of a message that reaches the device can be reached. -/
theorem routable_of_reaches {d : Dev} {h : Head} (hreaches : d.reaches h = true) : (h.onSpi || d.routable h.peer) = true := by
  have hlistens := listens_of_reaches hreaches
  rw [listens] at hlistens
  cases hspi : h.onSpi with
  | true => rfl
  | false => simp_all

/-! ### Messages of a session -/

/-- A message of an open session is numbered after the last and leaves; only what shows the conversation is written (R75). -/
theorem sendIn_spec {d : Dev} {x : Session} (type requestTag status : Nat) (items : List ReplyItem) (extra : List Nat)
    (hfind : (d.sessions.find? fun y => y.slot == x.slot) = some x) (hsent : x.sent < 0xFFFFFFFF)
    (hroute : (x.onSpi || d.routable x.peer) = true) :
    ∃ m d', d.sendIn x.slot type requestTag status items extra = d' ∧
      (m.type = type ∧ m.session = x.id ∧ m.sequence = x.sent + 1 ∧ m.requestTag = requestTag ∧ m.status = status ∧ m.items = items ∧
        m.extra = extra) ∧
      SentOn d d' x.onSpi x.peer m ∧ d'.sessions = { x with sent := x.sent + 1 } :: d.sessions.filter (fun y => y.slot != x.slot) ∧
      d'.posted = d.posted ∧ d'.staged = d.staged ∧ Keeps (shownBy x) d d' := by
  unfold sendIn
  rw [hfind]
  simp only [Nat.not_le.2 hsent, if_false]
  generalize hm : ({ (⟨type, x.id, x.sent + 1, requestTag, status, items, extra, 0⟩ : QopMessage) with tag := _ } : QopMessage) = m
  generalize 32 + m.body.length = octets
  generalize hd : (d.putSession { x with sent := x.sent + 1 }).tagWork x octets = d₁
  have hkeeps : Keeps (shownBy x) d d₁ := by
    rw [← hd]
    exact ((Keeps.refl _ d).putSession (x := { x with sent := x.sent + 1 }) (by simp [shownBy])).tagWork x _
      (List.subset_append_right _ _)
  have hbesides : d₁.besides = d.besides := by rw [← hd, besides_tagWork, besides_putSession]
  obtain ⟨hleaves, hsessions, hposted, hstaged, hlink⟩ := sendMessage_spec (d := d₁) (onSpi := x.onSpi) (p := x.peer) m
    (by rwa [routable_of_keeps hkeeps])
  refine ⟨m, _, rfl, by rw [← hm]; exact ⟨rfl, rfl, rfl, rfl, rfl, rfl, rfl⟩, ?_, ?_, hposted.trans (of_besides (g := Dev.posted) hbesides),
    hstaged.trans (of_besides (g := Dev.staged) hbesides), hkeeps.trans (hlink.mono (by simp [shownBy]))⟩
  · rwa [SentOn, of_besides (g := Dev.spiQueue) hbesides] at hleaves
  · rw [hsessions, ← hd, sessions_tagWork, sessions_putSession]

end Dev

end Sys2Proof.Machine
end

section
/-!
PROOF. Opening, proving and ending sessions (O42).
-/
namespace Sys2Proof.Machine
namespace Dev

/-! ### Identifiers -/

/-- The identifiers that an Open tries in order (R69). -/
def candidates (start : Nat) : List Nat := (List.range 9).map fun i => (start + i) % 65535 + 1

/-- Distinct identifiers that all occur in a list are no more than its places. -/
theorem length_le_of_nodup_of_subset {l m : List Nat} (hdistinct : l.Nodup) (hsub : l ⊆ m) : l.length ≤ m.length := by
  induction l generalizing m with
  | nil => exact Nat.zero_le _
  | cons a l ih =>
    obtain ⟨ha, hdistinct⟩ := List.nodup_cons.1 hdistinct
    obtain ⟨ham, hsub⟩ := List.cons_subset.1 hsub
    have herase : l ⊆ m.erase a := fun i hi => (List.mem_erase_of_ne (by rintro rfl; exact ha hi)).2 (hsub hi)
    have hle := ih hdistinct herase
    rw [List.length_erase_of_mem ham] at hle
    have hpos := List.length_pos_of_mem ham
    rw [List.length_cons]
    omega

theorem candidates_nodup (start : Nat) : (candidates start).Nodup := by
  refine List.pairwise_map.2 (List.pairwise_lt_range.imp_of_mem fun {i j} hi hj hij => ?_)
  rw [List.mem_range] at hi hj
  omega

/-- Of the nine candidates one is in use nowhere while fewer than nine sessions are open. -/
theorem exists_free_candidate {l : List Session} (hcount : l.length < 8) (start : Nat) :
    ∃ i, ((candidates start).find? fun i => !l.any fun s => s.id == i) = some i ∧ ∀ y ∈ l, y.id ≠ i := by
  cases hfind : (candidates start).find? fun i => !l.any fun s => s.id == i with
  | some i =>
    have hunused : ∀ y ∈ l, ¬y.id = i := by simpa using List.find?_some hfind
    exact ⟨i, rfl, hunused⟩
  | none =>
    have hused : candidates start ⊆ l.map (·.id) := fun i hi => by
      simpa [List.mem_map] using List.find?_eq_none.1 hfind i hi
    have hlength := length_le_of_nodup_of_subset (candidates_nodup start) hused
    simp only [candidates, List.length_map, List.length_range] at hlength
    omega

theorem filter_slot_of_free {l : List Session} {slot : Nat} (hfree : (!l.any fun y => y.slot == slot) = true) :
    (l.filter fun y => y.slot != slot) = l := by
  refine List.filter_eq_self.2 fun y hy => ?_
  have hne : ∀ y ∈ l, ¬y.slot = slot := by simpa using hfree
  simpa using hne y hy

/-! ### Challenge -/

/-- The session that a challenge sets up: what the host and its key give it (R69 to R71). -/
structure Challenged (d : Dev) (h : Head) (level : Nat) (unkeyed : Bool) (nonce material free : Nat) (x : Session) : Prop where
  slot : x.slot = free
  onSpi : x.onSpi = h.onSpi
  atLevel : x.level = level
  unauthenticated : x.unauthenticated = unkeyed
  closed : x.isOpen = false
  hostNonce : x.hostNonce = nonce
  id : ∀ y ∈ d.sessions, y.id ≠ x.id
  keys : unkeyed = false →
    let keys := kdf material [0x51, 0x4F, 0x50, 0x2D, 0x53, 0x45, 0x53, 0x53, 0x49, 0x4F, 0x4E]
      (octetsOf 16 nonce ++ octetsOf 16 x.deviceNonce ++ octetsOf 2 x.id ++ [level]) 512
    x.hostKey = keys / 2 ^ 256 % 2 ^ 256 ∧ x.deviceKey = keys % 2 ^ 256

/-- With a slot and an identifier free, a session is set up and challenged. -/
theorem challenge_eq {d : Dev} {h : Head} {slot : Nat} (level : Nat) (unauthenticated : Bool) (hostNonce material : Nat)
    (hcount : d.sessions.length < 8)
    (hslot : ((if h.onSpi then [4, 5, 6, 7] else [0, 1, 2, 3]).find? fun k => !d.sessions.any fun y => y.slot == k) = some slot) :
    ∃ x, Challenged d h level unauthenticated hostNonce material slot x ∧
      d.challenge h level unauthenticated hostNonce material =
        (d.putSession x).sendMessage h.onSpi h.peer ⟨0x02, x.id, 0, h.requestTag, 0, [], [x.deviceNonce], 0⟩ := by
  obtain ⟨id, hid, hunused⟩ := exists_free_candidate hcount (Config.random 16 d.free)
  unfold challenge
  simp only [hslot]
  unfold candidates at hid
  simp only [hid, Option.getD_some]
  exact ⟨_, ⟨rfl, rfl, rfl, rfl, rfl, rfl, hunused, fun hkeyed => by simp only [hkeyed, Bool.false_eq_true, if_false, and_self]⟩, rfl⟩

/-- What a challenge leaves. -/
theorem challenge_spec {d : Dev} {h : Head} {slot : Nat} (level : Nat) (unauthenticated : Bool) (hostNonce material : Nat)
    (hcount : d.sessions.length < 8)
    (hslot : ((if h.onSpi then [4, 5, 6, 7] else [0, 1, 2, 3]).find? fun k => !d.sessions.any fun y => y.slot == k) = some slot) :
    ∃ x, Challenged d h level unauthenticated hostNonce material slot x ∧
      (d.challenge h level unauthenticated hostNonce material).sessions = x :: d.sessions ∧
      ((h.onSpi || d.routable h.peer) = true → SentOn d (d.challenge h level unauthenticated hostNonce material) h.onSpi h.peer
        ⟨0x02, x.id, 0, h.requestTag, 0, [], [x.deviceNonce], 0⟩) ∧
      Keeps [Dict.sessionState slot, Dict.mgtTxFrames] d (d.challenge h level unauthenticated hostNonce material) := by
  obtain ⟨x, hx, heq⟩ := challenge_eq level unauthenticated hostNonce material hcount hslot
  have hshown : Keeps [Dict.sessionState slot] d (d.putSession x) := (Keeps.refl _ d).putSession (by simp [hx.slot])
  have hkeeps : Keeps [Dict.sessionState slot, Dict.mgtTxFrames] d (d.putSession x) := hshown.mono (by simp)
  have hsessions : (d.putSession x).sessions = x :: d.sessions := by
    rw [sessions_putSession, hx.slot, filter_slot_of_free (List.find?_some (p := fun k => !d.sessions.any fun y => y.slot == k) hslot)]
  have hbesides := besides_putSession d x
  rw [heq]
  refine ⟨x, hx, ?_, fun hroute => ?_, ?_⟩
  · rw [← hsessions]
    unfold sendMessage
    split
    · rfl
    · split <;> rfl
  · have hleaves := (sendMessage_spec (d := d.putSession x) (onSpi := h.onSpi) (p := h.peer)
      ⟨0x02, x.id, 0, h.requestTag, 0, [], [x.deviceNonce], 0⟩
      (by rwa [routable_of_keeps (x := x) ((Keeps.refl _ d).putSession (by simp [shownBy]))])).1
    rwa [SentOn, of_besides (g := Dev.spiQueue) hbesides] at hleaves
  · unfold sendMessage
    refine .ite (fun e he => hkeeps e he) (.ite ((hkeeps.inc (by simp)).out _) hkeeps)

/-! ### Opening -/

/-- An Open of the right form reaches the limits and the keys of its link. -/
theorem qopOpen_of_reaches {d : Dev} {h : Head} {level keyRef hostNonce : Nat} (hreaches : d.reaches h = true)
    (hnoise : isNoise h 1 (openBody level keyRef hostNonce) = false) (hphase : d.get Hid.bootPhase = 5) (hlength : h.length = 52)
    (hsession : h.session = 0) (hlevel : level < 3) (hmine : (d.sessions.filter fun y => y.onSpi == h.onSpi).length < 4)
    (hclosed : ((d.sessions.filter fun y => y.onSpi == h.onSpi).filter fun y => !y.isOpen).length < 2) :
    d.qopOpen h level keyRef hostNonce =
      if keyRef = 0xFF then
        if (d.arrive h).openUnkeyed h.onSpi level then (d.arrive h).challenge h level true hostNonce 0 else (d.arrive h).rejectOpen h 0x0D
      else if keyRef ≠ 0 then (d.arrive h).rejectOpen h 0x0D
      else (d.arrive h).openKeyed h level hostNonce := by
  have hok : lengthOk h.length = true := by rw [hlength]; decide
  have hsessions : (d.arrive h).sessions = d.sessions := sessions_of_rest (rest_arrive d hok)
  have hofCode : (Level.ofCode level).isNone = false := by apply of_lt hlevel; decide
  unfold qopOpen
  have hok' : lengthOk 52 = true := by decide
  simp only [listens_of_reaches hreaches, hnoise, hreaches, hphase, hok', hlength, hsession, hofCode, hsessions, Nat.not_le.2 hmine,
    Nat.not_le.2 hclosed, Bool.not_true, Bool.false_eq_true, if_false, bne_self_eq_false, Bool.or_false, or_self, ne_eq, not_true]

theorem openUnkeyed_arrive {d : Dev} {h : Head} (hlength : lengthOk h.length = true) (onSpi : Bool) (level : Nat) :
    (d.arrive h).openUnkeyed onSpi level = d.openUnkeyed onSpi level := by
  have hcycle : (d.arrive h).lifeCycle = d.lifeCycle := keeps_arrive d hlength _ (by decide)
  unfold openUnkeyed
  rw [hcycle]

/-- An Open under a key that may be used is challenged. -/
theorem openKeyed_of_dispatch {d d' : Dev} {h : Head} {level material : Nat} (hostNonce : Nat)
    (hmine : (d.sessions.filter fun y => y.onSpi == h.onSpi).length < 4)
    (hclosed : ((d.sessions.filter fun y => y.onSpi == h.onSpi).filter fun y => !y.isOpen).length < 2) (hcycle : d.lifeCycle ≠ 4)
    (hkey : (d.key (level + (if h.onSpi then 3 else 0))).isSome = true)
    (hdispatch : d.dispatch (level + (if h.onSpi then 3 else 0)) 1 = (d', .key material)) :
    d.openKeyed h level hostNonce = d'.challenge h level false hostNonce material := by
  have hnone : (d.key (level + (if h.onSpi then 3 else 0))).isNone = false := by simpa using hkey
  unfold openKeyed
  simp only [Nat.not_le.2 hmine, Nat.not_le.2 hclosed, or_self, if_false, hcycle, hnone, Bool.false_eq_true, hdispatch]

/-! ### Proving -/

/-- A valid Prove opens the session and is accepted. -/
theorem qopProve_of_right {d : Dev} {h : Head} {x : Session} (hreaches : d.reaches h = true) (hnoise : isNoise h 3 [] = false)
    (hlength : h.length = 32) (hsequence : h.sequence = 1)
    (hfind : (d.sessions.find? fun y => y.id == h.session && y.onSpi == h.onSpi) = some x) (hclosed : x.isOpen = false)
    (hright : tagRight x h 0x03 [] = true) :
    ∃ y : Session, (y.slot = x.slot ∧ y.id = x.id ∧ y.onSpi = x.onSpi ∧ y.peer = x.peer ∧ y.sent = x.sent ∧ y.isOpen = true) ∧
      d.qopProve h = (((d.arrive h).tagWork x 32).putSession y).sendIn x.slot 0x04 h.requestTag 0 []
        [x.level, min (((d.arrive h).tagWork x 32).get Dict.qopIdleTimeout) 0xFFFF] := by
  have hok : lengthOk h.length = true := by rw [hlength]; decide
  have hsessions : (d.arrive h).sessions = d.sessions := sessions_of_rest (rest_arrive d hok)
  unfold qopProve
  simp only [listens_of_reaches hreaches, hnoise, hreaches, hok, hsessions, hfind, hright, hclosed, hsequence, Bool.not_true,
    Bool.false_eq_true, if_false, or_self, ne_eq, not_true]
  simp only [hlength, not_true, if_false]
  exact ⟨{ ((d.arrive h).tagWork x 32).accepted x 1 with isOpen := true }, ⟨rfl, rfl, rfl, rfl, rfl, rfl⟩, rfl⟩

end Dev

/-- Settles O42: the slot and the identifier that are free, the key's use, the answer of a Prove, and what the end of a session clears. -/
theorem sessionsAreOpenedAndEnded : Obligations.SessionsAreOpenedAndEnded := by
  unfold Obligations.SessionsAreOpenedAndEnded
  refine ⟨?_, ?_, ?_, ?_, ?_⟩
  · intro s h level nonce slot hreaches hnoise hphase hlength hsession hlevel hmine hclosed hcount hslot hunkeyed
    obtain ⟨t, hexec, hdev, hstep⟩ := s.onDev_next (·.qopOpen h level 0xFF nonce)
    have hok : lengthOk h.length = true := by rw [hlength]; decide
    have hrest := Dev.rest_arrive s.met hok
    have harrive := Dev.keeps_arrive s.met hok
    have hsessions : (s.met.arrive h).sessions = s.dev.sessions := Dev.sessions_of_rest (d := s.met) hrest
    rw [Dev.qopOpen_of_reaches (d := s.met) hreaches hnoise hphase hlength hsession hlevel hmine hclosed, if_pos rfl,
      Dev.openUnkeyed_arrive hok, if_pos hunkeyed] at hdev
    obtain ⟨x, hx, hopened, hleaves, hkeeps⟩ := Dev.challenge_spec (d := s.met.arrive h) level true nonce 0 (by rwa [hsessions])
      (by rwa [hsessions])
    have hrouted := hleaves (by
      rw [Dev.routable_of_keeps (x := x) (harrive.mono (by simp [shownBy]))]
      exact Dev.routable_of_reaches hreaches)
    rw [Dev.SentOn, Dev.of_rest (g := Dev.spiQueue) hrest] at hrouted
    rw [← hdev] at hopened hrouted hkeeps
    refine ⟨t, x, hexec, hopened.trans (by rw [hsessions]), hx.slot, hx.onSpi, hx.atLevel, hx.unauthenticated, hx.closed, hx.hostNonce,
      fun y hy => hx.id y (hsessions ▸ hy), hrouted, hstep.onlyRegisters ?_⟩
    exact (harrive.mono (by simp)).trans (hkeeps.mono (by simp))
  · intro s h level nonce slot material d hreaches hnoise hphase hlength hsession hlevel hmine hclosed hcount hslot hcycle hkey hdispatch
    obtain ⟨t, hexec, hdev, hstep⟩ := s.onDev_next (·.qopOpen h level 0 nonce)
    have hok : lengthOk h.length = true := by rw [hlength]; decide
    have hrest := Dev.rest_arrive s.met hok
    have hsessions : (s.met.arrive h).sessions = s.dev.sessions := Dev.sessions_of_rest (d := s.met) hrest
    have hcycle' : (s.met.arrive h).lifeCycle ≠ 4 := by
      rw [Dev.lifeCycle, Dev.keeps_arrive s.met hok _ (by decide)]
      exact hcycle
    have hkey' : ((s.met.arrive h).key (level + (if h.onSpi then 3 else 0))).isSome = true := by
      rw [Dev.of_rest (g := fun x => x.key (level + (if h.onSpi then 3 else 0))) hrest]
      exact hkey
    rw [Dev.qopOpen_of_reaches (d := s.met) hreaches hnoise hphase hlength hsession hlevel hmine hclosed, if_neg (by decide),
      if_neg (by decide), Dev.openKeyed_of_dispatch nonce (by rwa [hsessions]) (by rwa [hsessions]) hcycle' hkey' hdispatch] at hdev
    obtain ⟨x, hx, hopened, -, hkeeps⟩ := Dev.challenge_spec level false nonce material hcount hslot
    rw [← hdev] at hopened hkeeps
    exact ⟨t, x, hexec, hopened, hx.slot, hx.atLevel, hx.unauthenticated, hx.closed, hx.id, hx.keys rfl, hstep.deviceOnly,
      hkeeps.mono (by simp)⟩
  · intro s h x hreaches hnoise hlength hsequence hfind hclosed hright hsent hroute
    obtain ⟨t, hexec, hdev, hstep⟩ := s.onDev_next (·.qopProve h)
    have hok : lengthOk h.length = true := by rw [hlength]; decide
    obtain ⟨y, ⟨hslot, hid', hspi, hpeer, hsent', hopen⟩, hproved⟩ :=
      Dev.qopProve_of_right (d := s.met) hreaches hnoise hlength hsequence hfind hclosed hright
    rw [hproved] at hdev
    have hworked : Dev.Keeps (shownBy x) s.met ((s.met.arrive h).tagWork x 32) :=
      ((Dev.keeps_arrive s.met hok).mono (by simp [shownBy])).tagWork x 32 (List.subset_append_right _ _)
    have hbesides : ((s.met.arrive h).tagWork x 32).besides = s.met.besides := by
      rw [Dev.besides_tagWork, Dev.besides_of_rest (Dev.rest_arrive s.met hok)]
    generalize hd : (s.met.arrive h).tagWork x 32 = d at hdev hworked hbesides
    have hopened : Dev.Keeps (shownBy x) s.met (d.putSession y) := hworked.putSession (by simp [shownBy, hslot])
    obtain ⟨m, d', heq, ⟨htype, hid, hnumber, htag, hstatus, hitems, hextra⟩, hleaves, hsessions, hposted, -, hkeeps⟩ :=
      Dev.sendIn_spec (d := d.putSession y) 0x04 h.requestTag 0 [] [x.level, min (d.get Dict.qopIdleTimeout) 0xFFFF]
        (Dev.find_putSession d rfl) (by rwa [hsent'])
        (by rw [hspi, hpeer, Dev.routable_of_keeps hopened]; exact hroute)
    rw [← hslot, heq] at hdev
    have hbesides' := (Dev.besides_putSession d y).trans hbesides
    have hidle : d.get Dict.qopIdleTimeout = s.dev.get Dict.qopIdleTimeout :=
      hworked _ fun e he => Nat.ne_of_gt (Nat.lt_of_lt_of_le (by decide) (Dev.le_addr_of_shownBy he))
    refine ⟨t, hexec, ⟨{ y with sent := y.sent + 1 }, by rw [hdev, hsessions]; exact List.mem_cons_self, hslot, hid', hopen⟩,
      ⟨m, htype, hid.trans hid', by rw [hnumber, hsent'], htag, hstatus, hitems, by rw [hextra, hidle], ?_⟩, ?_, hstep.onlyRegisters ?_⟩
    · rw [Dev.SentOn, Dev.of_besides (g := Dev.spiQueue) hbesides', hspi, hpeer] at hleaves
      rw [hdev]
      exact hleaves
    · rw [PresentsNone, hdev, hposted]
      exact Dev.of_besides (g := Dev.posted) (d := s.met) hbesides'
    · rw [hdev]
      refine hopened.trans (hkeeps.mono ?_)
      simp [shownBy, hslot]
  · intro s slot x hfind hclosed hdue
    obtain ⟨t, hexec, hdev, hstep⟩ := s.onDev_next (·.challengeTimeout slot)
    have hends : s.met.challengeTimeout slot = s.met.endSession slot := by
      have hfind' : (s.met.sessions.find? fun y => y.slot == slot) = some x := hfind
      simp only [Dev.challengeTimeout, hfind', hclosed, Nat.not_lt.2 hdue, decide_false, Bool.or_self, Bool.false_eq_true, if_false]
    obtain ⟨hsessions, hbesides, hkeeps⟩ := Dev.endSession_spec (d := s.met) hfind
    rw [hends] at hdev
    rw [← hdev] at hsessions hbesides hkeeps
    exact ⟨t, hexec, hsessions, Dev.of_besides (g := Dev.posted) (d := s.met) hbesides, hstep.onlyRegisters hkeeps⟩
  · intro s slot x hfind hopen hdue
    obtain ⟨t, hexec, hdev, hstep⟩ := s.onDev_next (·.idleTimeout slot)
    have hends : s.met.idleTimeout slot = s.met.endSession slot := by
      have hfind' : (s.met.sessions.find? fun y => y.slot == slot) = some x := hfind
      have hdue' : s.met.get Dict.qopIdleTimeout * framesPerSecond ≤ s.met.framesSince x.lastFrame := hdue
      simp only [Dev.idleTimeout, hfind', hopen, Nat.not_lt.2 hdue', decide_false, Bool.not_true, Bool.or_self, Bool.false_eq_true,
        if_false]
    obtain ⟨hsessions, hbesides, hkeeps⟩ := Dev.endSession_spec (d := s.met) hfind
    rw [hends] at hdev
    rw [← hdev] at hsessions hbesides hkeeps
    exact ⟨t, hexec, hsessions, Dev.of_besides (g := Dev.posted) (d := s.met) hbesides, hstep.onlyRegisters hkeeps⟩

end Sys2Proof.Machine
end

section
/-!
PROOF. The judgement of a host's command does not depend on the work of the lanes (R79, R460, R723).

`State.admits` judges a Write on the device as the message finds it; the device judges it after the lanes have served its tag. The two
devices agree on all but the work registers (`Dev.Agrees`), and the entries whose judgement follows raw indices (`judgedFurther`) apart,
every rule of R723 reads the same on both.
-/
namespace Sys2Proof.Machine

theorem unitOf_lt {f : Nat → Entry} {count n : Nat} {e : Entry} (h : unitOf f count e = some n) : n < count := by
  unfold unitOf at h
  split at h
  · next hin =>
    obtain rfl := Option.some.inj h
    omega
  · cases h

namespace Dev

/-- Two devices that differ in the work of the lanes only. -/
structure Agrees (d d' : Dev) : Prop where
  keeps : Keeps workRegisters d d'
  rest : d'.rest = d.rest

namespace Agrees

variable {d d' : Dev}

theorem get (h : Agrees d d') {e : Entry} (he : ∀ y ∈ workRegisters, y.addr ≠ e.addr) : d'.get e = d.get e := h.keeps e he

theorem staged (h : Agrees d d') : d'.staged = d.staged := of_rest (g := Dev.staged) h.rest

theorem now (h : Agrees d d') : d'.now = d.now := of_rest (g := Dev.now) h.rest

theorem view (h : Agrees d d') : d'.view = d.view := of_rest (g := Dev.view) h.rest

theorem corr (h : Agrees d d') : d'.corr = d.corr := of_rest (g := Dev.corr) h.rest

theorem set (h : Agrees d d') (e : Entry) (v : Nat) : Agrees (d.set e v) (d'.set e v) := by
  refine ⟨fun f hf => ?_, by rw [rest_set, rest_set, h.rest]⟩
  by_cases hef : e.addr = f.addr
  · unfold Dev.get Dev.set
    by_cases hreset : v % e.modulus = e.reset
    · simp only [hreset, if_true, ← hef, Sparse.find_drop_self]
    · simp only [hreset, if_false, ← hef, Sparse.find_put_self]
  · rw [get_set_ne _ _ _ _ hef, get_set_ne _ _ _ _ hef, h.get hf]

theorem foldl_set {items : List Item} {f : Item → Option (Entry × Nat)} (h : Agrees d d') :
    Agrees (items.foldl (fun d it => match f it with | some (e, v) => d.set e v | none => d) d)
      (items.foldl (fun d it => match f it with | some (e, v) => d.set e v | none => d) d') := by
  induction items generalizing d d' with
  | nil => exact h
  | cons it items ih =>
    refine ih ?_
    dsimp only
    split
    · exact h.set _ _
    · exact h

end Agrees

/-- What an item gives an entry among the values in force (R62). -/
def forced (it : Item) : Option (Entry × Nat) :=
  match Dict.find it.index it.sub with
  | some e => if e.ty.isCmd || e.wr.isNone || it.octets != e.ty.size || !e.wellTyped it.value then none else some (e, it.value)
  | none => none

theorem inForce_eq (d : Dev) (items : List Item) :
    d.inForce items = ((d.staged.map (·.items)).flatten ++ items).foldl
      (fun d it => match forced it with | some (e, v) => d.set e v | none => d) d := by
  unfold inForce
  congr 1
  funext d it
  unfold forced
  cases Dict.find it.index it.sub with
  | none => rfl
  | some e =>
    dsimp only
    split <;> rfl

theorem Agrees.inForce {d d' : Dev} (h : Agrees d d') (items : List Item) : Agrees (d.inForce items) (d'.inForce items) := by
  rw [inForce_eq, inForce_eq, h.staged]
  exact h.foldl_set

/-! ### Entries whose judgement goes further -/

/-- The value rules that this file does not compare: those of synthesisers, outputs, ports, instances, windows and references. -/
def valueJudgedFurther (e : Entry) : Bool :=
  (unitAmong [Dict.chWinMode, Dict.chPeriod, Dict.chWinOffset, Dict.chWinHalf] 16 e).isSome ||
  (unitOf Dict.refPulseRate 8 e).isSome || (unitOf Dict.refMode 8 e).isSome ||
  isOne e ([Dict.servoLockPhase, Dict.servoUnlockPhase, Dict.servoLockedStage, Dict.servoFinalStage,
    Dict.servoReacquireStage] ++ (List.range 7).map Dict.servoStageBandwidth) ||
  isOne e [Dict.steerCodeMin, Dict.steerCodeMax, Dict.steerSpiWordBits, Dict.steerSpiCodeShift, Dict.steerSpiCodeBits] ||
  isOne e [Dict.steerTemplate, Dict.steerBaud, Dict.steerTplScale, Dict.steerCommandLimit, Dict.steerReplyTimeout,
    Dict.steerUpdateFrames] ||
  isOne e [Dict.oscLearnTime, Dict.oscLearnWindow] ||
  (unitAmong [Dict.apllEnable, Dict.apllRefScale, Dict.apllRefDivider, Dict.apllFeedback, Dict.apllBandwidth] 4 e).isSome ||
  (unitAmong [Dict.outFormat, Dict.outSwing, Dict.outDivider, Dict.outApll, Dict.outEnable] 16 e).isSome ||
  (unitAmong [Dict.todLead, Dict.todBaud] 2 e).isSome || (unitOf Dict.outPhaseOffset 16 e).isSome || (unitOf Dict.plsWidth 4 e).isSome ||
  isOne e [Dict.gnssSystemEnable, Dict.gnssTimeSystem] || isOne e [Dict.gnssJamWarn, Dict.gnssJamLimit] ||
  (unitAmong [Dict.gsSampleRate, Dict.gsIfFrequency] 2 e).isSome || (unitAmong [Dict.portMode, Dict.portFec] 6 e).isSome ||
  (unitAmong [Dict.instProfile, Dict.instDomain, Dict.instTransport, Dict.instMode, Dict.instLogSync,
    Dict.instLogDelayResp, Dict.instLogAnnounce] 8 e).isSome ||
  (unitAmong [Dict.nrefProfile, Dict.nrefTransport, Dict.nrefDomain] 2 e).isSome ||
  (unitAmong [Dict.instGrantMin, Dict.instGrantMax] 8 e).isSome || (unitAmong [Dict.saEnable, Dict.saSpp] 32 e).isSome ||
  (unitOf Dict.portSyncELane 6 e).isSome || isOne e [Dict.ntpMinPoll, Dict.ntpMaxPoll] ||
  isOne e [Dict.ntsEnable, Dict.ntsSlotCurrent] || isOne e [Dict.excUdpPort, Dict.qopUdpPort] || isOne e [Dict.keyLoad] ||
  isOne e [Dict.keyDelete] || isOne e [Dict.keeperMode] || isOne e [Dict.powerBudget, Dict.passBasePower, Dict.passCost 0] ||
  (unitAmong [Dict.pcEvent, Dict.pcMode, Dict.pcUnit] 64 e).isSome || decide (0x6900 ≤ e.index ∧ e.index ≤ 0x6907)

/-- The conflicts that this file does not compare. -/
def conflictJudgedFurther (e : Entry) : Bool :=
  (unitAmong [Dict.tmrMode, Dict.tmrDestination] 32 e).isSome || (unitOf Dict.chSource 16 e).isSome ||
  (unitAmong [Dict.chPrescale, Dict.chWinMode, Dict.chEdge] 16 e).isSome || (unitOf Dict.refTodInput 18 e).isSome ||
  (unitAmong [Dict.plsMode, Dict.plsFollowRef] 4 e).isSome || (unitAmong [Dict.gsSampleRate, Dict.gsIfFrequency] 2 e).isSome ||
  isOne e [Dict.gnssAuthPolicy, Dict.gnssTimeSystem] || isOne e [Dict.lifeCycleRequest] || isOne e [Dict.powerStateRequest] ||
  (unitOf Dict.chRelease 16 e).isSome || (unitOf Dict.linkChRelease 3 e).isSome || (unitOf Dict.apllRelease 4 e).isSome ||
  (unitOf Dict.outRelease 16 e).isSome || (unitOf Dict.plsRelease 4 e).isSome || (unitOf Dict.portRelease 6 e).isSome ||
  (unitAmong [Dict.instAuthMode, Dict.instSa] 8 e).isSome ||
  (unitAmong [Dict.instEnable, Dict.instPortMask, Dict.instDomain, Dict.instTransport] 8 e).isSome ||
  (unitOf Dict.portRecalibrate 6 e).isSome || decide (0x6900 ≤ e.index ∧ e.index ≤ 0x6907)

/-! ### The rules that read the same -/

section
variable {d d' v v' : Dev} {e : Entry} {x : Nat}

theorem Agrees.stateRefuses (hd : Agrees d d') (hv : Agrees v v') (onSpi : Bool) (level : Nat) (e : Entry) :
    d'.stateRefuses v' onSpi level e = d.stateRefuses v onSpi level e := by
  simp only [Dev.stateRefuses, shuttingDown, is, state, setPermitted, lifeCycle, keyStateOk, memTestState,
    hd.get (e := Hid.shutdownPin) (by decide), hd.get (e := Dict.deviceState) (by decide), hd.get (e := Dict.lifeCycleState) (by decide),
    hd.get (e := Dict.clientServiceStarted) (by decide), hd.get (e := Dict.startServiceHoldActive) (by decide),
    hv.get (e := Dict.utcSource) (by decide)]

theorem Agrees.busyWith (hd : Agrees d d') (e : Entry) : d'.busyWith e = d.busyWith e := by
  simp only [Dev.busyWith, keyBusy, lifeCycle, hd.corr, hd.get (e := Dict.storeStatus) (by decide),
    hd.get (e := Dict.lifeCycleState) (by decide), hd.get (e := Dict.keyStoreStatus) (by decide)]

theorem Agrees.getI (h : Agrees d d') {e : Entry} (he : ∀ y ∈ workRegisters, y.addr ≠ e.addr) : d'.getI e = d.getI e := by
  unfold Dev.getI
  rw [h.get he]

theorem Agrees.pulseWidthOk (h : Agrees v v') {n : Nat} (hn : n < 32) : v'.pulseWidthOk n = v.pulseWidthOk n := by
  have hdest := h.get (e := Dict.tmrDestination n) (by apply of_lt hn; decide)
  have hperiod := h.get (e := Dict.tmrPeriod n) (by apply of_lt hn; decide)
  simp only [Dev.pulseWidthOk, hdest, hperiod]
  cases hpls : isPls (v.get (Dict.tmrDestination n)) with
  | false => simp only [Bool.not_false, Bool.true_or]
  | true =>
    have hp : v.get (Dict.tmrDestination n) - 0x20 < 4 := by
      have := of_decide_eq_true hpls
      omega
    rw [h.get (e := Dict.plsWidth _) (by generalize v.get (Dict.tmrDestination n) - 0x20 = p at hp; apply of_lt hp; decide)]

theorem Agrees.armValuesOk (h : Agrees v v') {n : Nat} (hn : n < 32) : v'.armValuesOk n = v.armValuesOk n := by
  simp only [Dev.armValuesOk, h.pulseWidthOk hn, h.get (e := Dict.tmrMode n) (by apply of_lt hn; decide),
    h.get (e := Dict.tmrDestination n) (by apply of_lt hn; decide), h.get (e := Dict.tmrPeriod n) (by apply of_lt hn; decide),
    h.get (e := Dict.tmrWidth n) (by apply of_lt hn; decide), h.getI (e := Dict.tmrOffset n) (by apply of_lt hn; decide)]

theorem Agrees.armTargetOk (h : Agrees v v') {n : Nat} (hn : n < 32) : v'.armTargetOk n = v.armTargetOk n := by
  simp only [Dev.armTargetOk, h.now, h.get (e := Dict.tmrMode n) (by apply of_lt hn; decide),
    h.get (e := Dict.tmrTarget n) (by apply of_lt hn; decide)]

theorem Agrees.destHeld (h : Agrees v v') (n dest : Nat) : v'.destHeld n dest = v.destHeld n dest := by
  unfold Dev.destHeld
  rw [Bool.eq_iff_iff, List.any_eq_true, List.any_eq_true]
  refine exists_congr fun m => and_congr_right fun hm => ?_
  have hm := List.mem_range.1 hm
  rw [h.get (e := Dict.tmrState m) (by apply of_lt hm; decide), h.get (e := Dict.tmrDestination m) (by apply of_lt hm; decide)]

theorem Agrees.armedSooner (hd : Agrees d d') (hv : Agrees v v') (earlier : List Item) (n dest : Nat) :
    d'.armedSooner v' earlier n dest = d.armedSooner v earlier n dest := by
  unfold Dev.armedSooner
  rw [hd.staged]
  congr 1
  funext it
  cases hunit : (Dict.find it.index it.sub).bind (unitOf Dict.tmrArm 32) with
  | none => rfl
  | some m =>
    obtain ⟨y, -, hy⟩ := Option.bind_eq_some_iff.1 hunit
    have hm : m < 32 := unitOf_lt hy
    dsimp only
    rw [hv.get (e := Dict.tmrDestination m) (by apply of_lt hm; decide)]

theorem Agrees.armConflict (hd : Agrees d d') (hv : Agrees v v') (earlier : List Item) {n : Nat} (hn : n < 32) (x : Nat) :
    d'.armConflict v' earlier n x = d.armConflict v earlier n x := by
  simp only [Dev.armConflict, hv.destHeld, hd.armedSooner hv, hd.get (e := Dict.tmrState n) (by apply of_lt hn; decide),
    hv.get (e := Dict.tmrDestination n) (by apply of_lt hn; decide), hv.get (e := Dict.tmrMode n) (by apply of_lt hn; decide)]

theorem Agrees.leapAnnounceOk (h : Agrees d d') (x : Nat) : d'.leapAnnounceOk x = d.leapAnnounceOk x := by
  simp only [Dev.leapAnnounceOk, offsetAfter, h.now, h.view, h.getI (e := Dict.utcOffset) (by decide)]

theorem Agrees.memTestRange (h : Agrees v v') (writing : Bool) : v'.memTestRange writing = v.memTestRange writing := by
  have hsize : ∀ target, v'.targetSize target = v.targetSize target := fun target => by
    simp only [targetSize, h.get (e := Dict.dramUsable) (by decide)]
  simp only [Dev.memTestRange, hsize, h.get (e := Dict.memTestTarget) (by decide), h.get (e := Dict.memTestLine) (by decide),
    h.get (e := Dict.auditArchiveDays) (by decide), h.get (e := Dict.memTestMode) (by decide)]

theorem Agrees.coreValueOk (hd : Agrees d d') (hv : Agrees v v') (hfurther : valueJudgedFurther e = false) (x : Nat) :
    d'.coreValueOk v' e x = d.coreValueOk v e x := by
  simp only [valueJudgedFurther, Bool.or_eq_false_iff, Option.isSome_eq_false_iff, Option.isNone_iff_eq_none] at hfurther
  simp only [Dev.coreValueOk, hfurther, hd.now, hd.leapAnnounceOk]
  cases unitOf Dict.tmrTarget 32 e with
  | some _ => rfl
  | none =>
    cases hn : unitOf Dict.tmrArm 32 e with
    | none => rfl
    | some n => simp only [hv.armValuesOk (unitOf_lt hn), hv.armTargetOk (unitOf_lt hn)]

theorem servoValueOk_of_not_further (hfurther : valueJudgedFurther e = false) : v.servoValueOk e = true := by
  simp only [valueJudgedFurther, Bool.or_eq_false_iff] at hfurther
  simp only [servoValueOk, hfurther, Bool.false_eq_true, if_false]

theorem outputValueOk_of_not_further (hfurther : valueJudgedFurther e = false) : v.outputValueOk e = true := by
  simp only [valueJudgedFurther, Bool.or_eq_false_iff, Option.isSome_eq_false_iff, Option.isNone_iff_eq_none] at hfurther
  simp only [outputValueOk, hfurther]

theorem portValueOk_of_not_further (hfurther : valueJudgedFurther e = false) : v.portValueOk e = true := by
  simp only [valueJudgedFurther, Bool.or_eq_false_iff, Option.isSome_eq_false_iff, Option.isNone_iff_eq_none] at hfurther
  simp only [portValueOk, hfurther, Bool.false_eq_true, if_false]

theorem Agrees.gnssValueOk (hd : Agrees d d') (hfurther : valueJudgedFurther e = false) (x : Nat) :
    d'.gnssValueOk v' e x = d.gnssValueOk v e x := by
  simp only [valueJudgedFurther, Bool.or_eq_false_iff, Option.isSome_eq_false_iff, Option.isNone_iff_eq_none] at hfurther
  simp only [Dev.gnssValueOk, hfurther, Bool.false_eq_true, if_false, trustedTimeOk, hd.now]

theorem Agrees.systemValueOk (hv : Agrees v v') (hfurther : valueJudgedFurther e = false) (x : Nat) :
    d'.systemValueOk v' e x = d.systemValueOk v e x := by
  simp only [valueJudgedFurther, Bool.or_eq_false_iff, Option.isSome_eq_false_iff, Option.isNone_iff_eq_none,
    decide_eq_false_iff_not] at hfurther
  simp only [Dev.systemValueOk, hfurther, Bool.false_eq_true, if_false, hv.memTestRange]
  cases unitOf Dict.evtSeverity 128 e <;> rfl

/-- A value is right on both devices or on neither. -/
theorem Agrees.valueOk (hd : Agrees d d') (hv : Agrees v v') (hfurther : valueJudgedFurther e = false) (x : Nat) :
    d'.valueOk v' e x = d.valueOk v e x := by
  simp only [Dev.valueOk, hd.coreValueOk hv hfurther, servoValueOk_of_not_further hfurther, outputValueOk_of_not_further hfurther,
    portValueOk_of_not_further hfurther, hd.gnssValueOk (v := v) (v' := v') hfurther, hv.systemValueOk (d := d) (d' := d') hfurther]

theorem Agrees.coreConflict (hd : Agrees d d') (hv : Agrees v v') (earlier : List Item) (hfurther : conflictJudgedFurther e = false)
    (x : Nat) : d'.coreConflict v' earlier e x = d.coreConflict v earlier e x := by
  simp only [conflictJudgedFurther, Bool.or_eq_false_iff, Option.isSome_eq_false_iff, Option.isNone_iff_eq_none] at hfurther
  simp only [Dev.coreConflict, hfurther]
  cases hn : unitOf Dict.tmrArm 32 e with
  | none => rfl
  | some n => exact hd.armConflict hv earlier (unitOf_lt hn) x

/-- A bank is removed on both devices or on neither; so is a lane, and a Skovwin port. -/
theorem Agrees.removed_bank (h : Agrees d d') {b : Nat} (hb : b ≤ 12) : d'.removed (.bank b) = d.removed (.bank b) := by
  simp only [removed, Removable.mark, h.get (e := Dict.gnssBankState (b - 1)) (by apply of_lt (Nat.lt_succ_of_le hb); decide)]

theorem Agrees.removed_hmac (h : Agrees d d') (l : Nat) : d'.removed (.hmac l) = d.removed (.hmac l) := by
  simp only [removed, h.get (e := Dict.hmacLaneMask) (by decide)]

theorem Agrees.removed_aes (h : Agrees d d') (l : Nat) : d'.removed (.aes l) = d.removed (.aes l) := by
  simp only [removed, h.get (e := Dict.aesLaneMask) (by decide)]

theorem Agrees.removed_skovwin (h : Agrees d d') {m : Nat} (hm : m < 3) : d'.removed (.skovwin m) = d.removed (.skovwin m) := by
  simp only [removed, Removable.mark, h.get (e := Dict.skState m) (by apply of_lt hm; decide)]

/-- The unit of a release reads removed on both devices or on neither. -/
theorem Agrees.removed_releaseUnit (h : Agrees d d') (hfurther : conflictJudgedFurther e = false)
    (hbank : isOne e [Dict.gnssBankRelease] = true → x ≤ 12) {u : Removable} (hu : releaseUnit e x = some u) :
    d'.removed u = d.removed u := by
  simp only [conflictJudgedFurther, Bool.or_eq_false_iff, Option.isSome_eq_false_iff, Option.isNone_iff_eq_none] at hfurther
  simp only [releaseUnit, hfurther] at hu
  cases hm : unitOf Dict.skRelease 3 e with
  | some m =>
    simp only [hm] at hu
    obtain rfl := Option.some.inj hu
    exact h.removed_skovwin (unitOf_lt hm)
  | none =>
    simp only [hm] at hu
    split at hu
    · obtain rfl := Option.some.inj hu
      split
      · exact h.removed_hmac _
      · exact h.removed_aes _
    · split at hu
      · next hone =>
        obtain rfl := Option.some.inj hu
        exact h.removed_bank (hbank hone)
      · cases hu

theorem Agrees.systemConflict (hd : Agrees d d') (onSpi : Bool) (hfurther : conflictJudgedFurther e = false)
    (hbank : isOne e [Dict.gnssBankRelease] = true → x ≤ 12) : d'.systemConflict v' onSpi e x = d.systemConflict v onSpi e x := by
  have hremoved := fun u hu => hd.removed_releaseUnit hfurther hbank (u := u) hu
  simp only [conflictJudgedFurther, Bool.or_eq_false_iff, Option.isSome_eq_false_iff, Option.isNone_iff_eq_none,
    decide_eq_false_iff_not] at hfurther
  simp only [Dev.systemConflict, hfurther, Bool.false_eq_true, if_false, apll0Locked, switchoverOk, rejoinOk, is,
    hd.get (e := Dict.gnssState) (by decide), hd.get (e := Dict.apll0State) (by decide), hd.get (e := Dict.apll0Source) (by decide),
    hd.get (e := Dict.moscState) (by decide), hd.get (e := Dict.keeperStandbyReady) (by decide), hd.get (e := Dict.keeperRole) (by decide),
    hd.get (e := Dict.latchedDomains) (by decide)]
  cases hu : releaseUnit e x with
  | some u => simp only [hremoved u hu]
  | none =>
    cases hm : unitOf Dict.skFaultClear 3 e with
    | none => rfl
    | some m =>
      have hm : m < 3 := unitOf_lt hm
      simp only [hd.get (e := Dict.skState m) (by apply of_lt hm; decide)]

/-- The item of a command that is judged no further receives one status on both devices. -/
theorem Agrees.itemStatus (hd : Agrees d d') (hv : Agrees v v') (onSpi : Bool) (level : Nat) (earlier : List Item) {it : Item}
    (hfind : Dict.find it.index it.sub = some e) (hvalue : valueJudgedFurther e = false) (hconflict : conflictJudgedFurther e = false)
    (hbank : e.inRange it.value = true → isOne e [Dict.gnssBankRelease] = true → it.value ≤ 12) :
    d'.itemStatus v' onSpi level earlier it = d.itemStatus v onSpi level earlier it := by
  simp only [Dev.itemStatus, hfind, hd.stateRefuses hv, hd.valueOk hv hvalue, hd.coreConflict hv earlier hconflict, hd.busyWith]
  cases hok : d.valueOk v e it.value with
  | false => simp only [Bool.not_false, if_true]
  | true =>
    have hrange : e.inRange it.value = true := by
      simp only [Dev.valueOk, Bool.and_eq_true] at hok
      exact hok.1.1.1.1.1.1.2
    rw [hd.systemConflict (v := v) (v' := v') onSpi hconflict (hbank hrange)]

/-- One item that is judged no further is accepted on both devices or on neither. -/
theorem Agrees.itemStatuses (h : Agrees d d') (onSpi : Bool) (level : Nat) {it : Item} (hfind : Dict.find it.index it.sub = some e)
    (hvalue : valueJudgedFurther e = false) (hconflict : conflictJudgedFurther e = false)
    (hbank : e.inRange it.value = true → isOne e [Dict.gnssBankRelease] = true → it.value ≤ 12) :
    d'.itemStatuses onSpi level [it] = d.itemStatuses onSpi level [it] :=
  congrArg (· :: []) (h.itemStatus (h.inForce [it]) onSpi level [] hfind hvalue hconflict hbank)

end

/-! ### The device that judges -/

/-- What SessionState shows of a session. -/
def sessionValue (x : Session) : Nat :=
  x.id * 2 ^ 16 + (if x.onSpi then 2 ^ 14 else 0) + x.level * 2 ^ 12 + (if x.unauthenticated then 2 ^ 11 else 0) +
    (if x.isOpen then 2 ^ 10 else 2 ^ 9) + min x.subs.length 15 * 2 ^ 5

theorem putSession_eq_set (d : Dev) (x : Session) :
    d.putSession x = (d.withSessions (x :: d.sessions.filter fun y => y.slot != x.slot)).set (Dict.sessionState x.slot) (sessionValue x) := by
  rw [putSession_eq]
  unfold showSession
  rw [sessions_withSessions, List.find?_cons_of_pos (by simp)]
  rfl

theorem Agrees.withSessions {d d' : Dev} (h : Agrees d d') (l : List Session) : Agrees (d.withSessions l) (d'.withSessions l) :=
  ⟨fun e he => h.keeps e he, congrArg (fun y : Dev => y.withSessions l) h.rest⟩

theorem Agrees.putSession {d d' : Dev} (h : Agrees d d') (x : Session) : Agrees (d.putSession x) (d'.putSession x) := by
  rw [putSession_eq_set, putSession_eq_set, of_rest (g := Dev.sessions) h.rest]
  exact (h.withSessions _).set _ _

theorem agrees_tagWork (d : Dev) (x : Session) (n : Nat) : Agrees d (d.tagWork x n) :=
  ⟨(Keeps.refl _ d).tagWork x n fun _ he => he, rest_tagWork d x n⟩

end Dev
end Sys2Proof.Machine
end

section
/-!
PROOF. The path of a Write that the device takes at once (R38, R64, R65): `State.accepted_of_admits` for a command whose item is judged
no further (`Dev.valueJudgedFurther`, `Dev.conflictJudgedFurther`) and has no effect before S0.
-/
namespace Sys2Proof.Machine

/-- The device that judges the request of a session: its tag is served, and its Sequence is accepted (R74, R75, R79). -/
def State.judging (s : State) (h : Head) (x : Session) : Dev :=
  ((s.met.arrive h).tagWork x h.length).putSession (s.met.accepted x h.sequence)

namespace Dev

/-- The staged Writes become a list. -/
def withStaged (d : Dev) (l : List Staged) : Dev := { d with staged := l }

@[simp] theorem get_withStaged (d : Dev) (l : List Staged) (e : Entry) : (d.withStaged l).get e = d.get e := (rfl)
@[simp] theorem staged_withStaged (d : Dev) (l : List Staged) : (d.withStaged l).staged = l := (rfl)
@[simp] theorem posted_withStaged (d : Dev) (l : List Staged) : (d.withStaged l).posted = d.posted := (rfl)
@[simp] theorem emit_withStaged (d : Dev) (l : List Staged) : (d.withStaged l).emit = d.emit := (rfl)
@[simp] theorem spiQueue_withStaged (d : Dev) (l : List Staged) : (d.withStaged l).spiQueue = d.spiQueue := (rfl)

/-! ### Responses -/

/-- A Response with status OK leaves on the session's link and is kept with its request (R64, R65). -/
theorem respondTo_spec {d : Dev} {x : Session} (requestTag : Nat) (body : Body) (items : List ReplyItem) (extra : List Nat)
    (hfind : (d.sessions.find? fun y => y.slot == x.slot) = some x) (hsent : x.sent < 0xFFFFFFFF)
    (hroute : (x.onSpi || d.routable x.peer) = true) :
    ∃ m d', d.respondTo x.slot requestTag body 0 items extra = d' ∧
      (m.type = 0x12 ∧ m.session = x.id ∧ m.sequence = x.sent + 1 ∧ m.requestTag = requestTag ∧ m.status = 0) ∧
      SentOn d d' x.onSpi x.peer m ∧ d'.posted = d.posted ∧ d'.staged = d.staged ∧ Keeps (shownBy x) d d' := by
  obtain ⟨m, d₁, heq, ⟨htype, hid, hnumber, htag, hstatus, -, -⟩, hleaves, hsessions, hposted, hstaged, hkeeps⟩ :=
    sendIn_spec 0x12 requestTag 0 items extra hfind hsent hroute
  refine ⟨m, _, rfl, ⟨htype, hid, hnumber, htag, hstatus⟩, ?_⟩
  have hfound : (d₁.sessions.find? fun y => y.slot == x.slot) = some { x with sent := x.sent + 1 } := by
    rw [hsessions, List.find?_cons_of_pos (by simp)]
  unfold respondTo
  simp only [Nat.reduceEqDiff, if_false, heq, hfound]
  generalize hy : ({ x with sent := x.sent + 1, kept := _ } : Session) = y
  have hslot : y.slot = x.slot := by rw [← hy]
  have hbesides := besides_putSession d₁ y
  refine ⟨?_, (of_besides (g := Dev.posted) hbesides).trans hposted, (of_besides (g := Dev.staged) hbesides).trans hstaged,
    hkeeps.putSession (by simp [shownBy, hslot])⟩
  rwa [SentOn, of_besides (g := Dev.spiQueue) hbesides, of_besides (g := Dev.emit) hbesides]

/-! ### A Write that acts at once -/

theorem hostWrite_of_ok {d : Dev} {y : Session} {requestTag : Nat} {items : List Item}
    (hok : allOk (d.itemStatuses y.onSpi y.level items) = true) (hcontend : mayContend items = false) :
    ∃ reply, d.hostWrite y requestTag items = items.foldl (fun d it => d.acceptItem y.slot it)
      ((d.respondTo y.slot requestTag (.write items) 0 reply []).withStaged
        ((d.respondTo y.slot requestTag (.write items) 0 reply []).staged ++ [⟨items, none, y.slot⟩])) := by
  refine ⟨writeReply items (d.itemStatuses y.onSpi y.level items), ?_⟩
  simp only [hostWrite, hok, hcontend, Bool.not_true, Bool.false_eq_true, if_false]
  rfl

theorem tagWork_length (d : Dev) (x : Session) (n : Nat) : (d.tagWork x n).accepted x = d.accepted x :=
  of_rest (g := fun y => y.accepted x) (rest_tagWork d x n)

end Dev

/-! ### A request that is served now -/

/-- What a served request has shown of itself (`State.hears`). -/
structure State.Hears (s : State) (h : Head) (b : Body) (x : Session) : Prop where
  reaches : s.met.reaches h = true
  length : lengthOk h.length = true
  noise : isNoise h (Body.code b) (Body.octets b) = false
  body : Dev.bodyOk h b = true
  queue : (s.met.arrive h).mustQueue h = false
  session : (s.dev.sessions.find? fun y => y.id == h.session && y.onSpi == h.onSpi && y.isOpen) = some x
  tag : Dev.tagRight x h (Body.code b) (Body.octets b) = true
  fresh : Dev.fresh x h.sequence = true
  sent : x.sent < 0xFFFFFFFF
  sequence : h.sequence < 0xFFFFFFFF
  route : (x.onSpi || s.met.routable x.peer) = true
  kept : (x.kept.any fun k => k.requestTag == h.requestTag) = false
  owed : (s.dev.staged.any fun g => match g.answer with
    | some (id, tag, _) => id == x.id && tag == h.requestTag
    | none => false) = false

theorem State.hears_iff {s : State} {h : Head} {b : Body} {x : Session} (hhears : s.hears h b x = true) : s.Hears h b x := by
  simp only [State.hears, Bool.and_eq_true, Bool.not_eq_true', decide_eq_true_eq] at hhears
  obtain ⟨⟨⟨⟨⟨⟨⟨⟨⟨⟨⟨⟨reaches, length⟩, noise⟩, body⟩, queue⟩, session⟩, tag⟩, fresh⟩, sent⟩, sequence⟩, route⟩, kept⟩, owed⟩ := hhears
  exact ⟨reaches, length, noise, body, queue, session, tag, fresh, sent, sequence, route, kept, owed⟩

/-- A request that is neither kept nor owed a Response is executed (R77). -/
theorem Dev.serveOnce_of_new {d : Dev} {x y : Session} {h : Head} {b : Body} (haccepted : d.accepted x h.sequence = y)
    (hkept : (y.kept.any fun k => k.requestTag == h.requestTag) = false)
    (howed : ∀ g ∈ d.staged, ∀ body, g.answer ≠ some (y.id, h.requestTag, body)) : d.serveOnce x h b = (d.putSession y).execute y h b := by
  simp only [Dev.serveOnce, haccepted]
  split
  · next k hk => exact absurd (List.find?_some hk) (List.any_eq_false.1 hkept k (List.mem_of_find?_eq_some hk))
  · next body _ hbody =>
    obtain ⟨g, hg, hanswer⟩ := List.exists_of_findSome?_eq_some hbody
    split at hanswer
    · next id tag body' heq =>
      split at hanswer
      · next hboth =>
        rw [Dev.of_besides (g := Dev.staged) (Dev.besides_putSession d y)] at hg
        exact absurd (hboth.1 ▸ hboth.2 ▸ heq) (howed g hg body')
      · cases hanswer
    · cases hanswer
  · rfl

/-- A request that every check admits is executed by the session that accepted it. -/
theorem State.request_of_hears {s : State} {h : Head} {b : Body} {x : Session} (hears : s.Hears h b x) :
    s.met.request h b = (s.judging h x).execute (s.met.accepted x h.sequence) h b := by
  have hrest := Dev.rest_arrive s.met hears.length
  have hsessions : (s.met.arrive h).sessions = s.dev.sessions := Dev.sessions_of_rest (d := s.met) hrest
  have haccepted : ((s.met.arrive h).tagWork x h.length).accepted x h.sequence = s.met.accepted x h.sequence :=
    Dev.of_rest (g := fun y => y.accepted x h.sequence) ((Dev.rest_tagWork _ x _).trans hrest)
  have howed : ∀ g ∈ ((s.met.arrive h).tagWork x h.length).staged, ∀ body, g.answer ≠ some (x.id, h.requestTag, body) := by
    intro g hg body hanswer
    rw [Dev.of_rest (g := Dev.staged) ((Dev.rest_tagWork _ x _).trans hrest)] at hg
    have hthis := List.any_eq_false.1 hears.owed g hg
    rw [hanswer] at hthis
    simp at hthis
  have hrequest : s.met.request h b = ((s.met.arrive h).tagWork x h.length).serve x h b := by
    simp only [Dev.request, Dev.listens_of_reaches hears.reaches, hears.noise, hears.reaches, hears.length, hears.queue, Bool.not_true,
      Bool.false_eq_true, or_self, if_false, Dev.checkRequest, hsessions, hears.session, hears.tag, hears.fresh]
  rw [hrequest, Dev.serve, if_neg (Nat.ne_of_lt hears.sequence)]
  exact Dev.serveOnce_of_new haccepted hears.kept howed

/-! ### Writes that are accepted -/

theorem State.keeps_judging {s : State} {h : Head} {x : Session} (hlength : lengthOk h.length = true) :
    Dev.Keeps (shownBy x) s.met (s.judging h x) :=
  (((Dev.keeps_arrive s.met hlength).mono (by simp)).tagWork x _ (List.subset_append_right _ _)).putSession
    (x := s.met.accepted x h.sequence) (List.mem_cons_self)

theorem State.besides_judging {s : State} {h : Head} {x : Session} (hlength : lengthOk h.length = true) :
    (s.judging h x).besides = s.met.besides := by
  rw [State.judging, Dev.besides_putSession, Dev.besides_tagWork, Dev.besides_of_rest (Dev.rest_arrive s.met hlength)]

/-- A Write that the judging device admits is answered and staged, before its items act (R38, R64, R65). -/
theorem State.write_of_judged {s : State} {h : Head} {items : List Item} {x : Session} (hears : s.Hears h (.write items) x)
    (hok : Dev.allOk ((s.judging h x).itemStatuses x.onSpi x.level items) = true) (hcontend : Dev.mayContend items = false) :
    ∃ m d, s.met.request h (.write items) = items.foldl (fun d it => d.acceptItem x.slot it) d ∧
      d.staged = s.dev.staged ++ [⟨items, none, x.slot⟩] ∧
      (m.type = 0x12 ∧ m.session = x.id ∧ m.sequence = x.sent + 1 ∧ m.requestTag = h.requestTag ∧ m.status = 0) ∧
      Dev.SentOn s.met d x.onSpi x.peer m ∧ d.posted = s.dev.posted ∧ Dev.Keeps (shownBy x) s.met d := by
  have hkeeps := State.keeps_judging (s := s) (x := x) hears.length
  have hbesides := State.besides_judging (s := s) (x := x) hears.length
  obtain ⟨reply, hwrite⟩ := Dev.hostWrite_of_ok (y := s.met.accepted x h.sequence) (requestTag := h.requestTag) hok hcontend
  obtain ⟨m, d, heq, hmessage, hleaves, hposted, hstaged, hshown⟩ := Dev.respondTo_spec (d := s.judging h x)
    (x := s.met.accepted x h.sequence) h.requestTag (.write items) reply [] (Dev.find_putSession _ rfl) hears.sent
    (by rw [Dev.routable_of_keeps hkeeps]; exact hears.route)
  have hrequest : s.met.request h (.write items) =
      items.foldl (fun d it => d.acceptItem x.slot it) (d.withStaged (d.staged ++ [⟨items, none, x.slot⟩])) := by
    rw [State.request_of_hears hears, ← heq, Dev.execute, hears.body]
    exact hwrite
  refine ⟨m, _, hrequest, ?_, hmessage, ?_, ?_, fun e he => ?_⟩
  · rw [Dev.staged_withStaged, hstaged, Dev.of_besides (g := Dev.staged) hbesides]
    rfl
  · rw [Dev.SentOn, Dev.of_besides (g := Dev.spiQueue) hbesides] at hleaves
    exact hleaves
  · rw [Dev.posted_withStaged, hposted, Dev.of_besides (g := Dev.posted) hbesides]
    rfl
  · rw [Dev.get_withStaged]
    exact (hkeeps.trans hshown) e he

/-- Entries whose Write acts, or begins to act, at its acceptance. -/
def actsAtOnce : List Entry :=
  [Dict.auditCursor, Dict.clientCursor, Dict.excBind, Dict.timeSet, Dict.timeAdjust, Dict.gnssTrustedTimeSet, Dict.keyLoad, Dict.keyDelete,
    Dict.lifeCycleRequest, Dict.deviceReset, Dict.startServiceRelease, Dict.powerStateRequest]

/-- The item of every other entry changes nothing before S0. -/
theorem Dev.acceptItem_of_waits {it : Item} {e : Entry} (hfind : Dict.find it.index it.sub = some e) (hwaits : isOne e actsAtOnce = false)
    (d : Dev) (slot : Nat) : d.acceptItem slot it = d := by
  simp only [isOne, actsAtOnce, List.any_cons, List.any_nil, Bool.or_false, Bool.or_eq_false_iff] at hwaits
  simp only [Dev.acceptItem, hfind, isOne, List.any_cons, List.any_nil, Bool.or_false, hwaits, Bool.false_eq_true, if_false]

/-- A command's item is judged by this file's rules, waits for S0, and names its entry. -/
structure Commands (it : Item) (e : Entry) : Prop where
  find : Dict.find it.index it.sub = some e
  value : Dev.valueJudgedFurther e = false
  conflict : Dev.conflictJudgedFurther e = false
  bank : e.inRange it.value = true → isOne e [Dict.gnssBankRelease] = true → it.value ≤ 12

/-- What `State.admits` judged, the device judges alike. -/
theorem State.write_of_admits {s : State} {h : Head} {it : Item} {e : Entry} {x : Session} (hadmits : s.admits h [it] x = true)
    (hcommands : Commands it e) :
    ∃ m d, s.met.request h (.write [it]) = d.acceptItem x.slot it ∧
      d.staged = s.dev.staged ++ [⟨[it], none, x.slot⟩] ∧
      (m.type = 0x12 ∧ m.session = x.id ∧ m.sequence = x.sent + 1 ∧ m.requestTag = h.requestTag ∧ m.status = 0) ∧
      Dev.SentOn s.met d x.onSpi x.peer m ∧ d.posted = s.dev.posted ∧ Dev.Keeps (shownBy x) s.met d := by
  simp only [State.admits, Bool.and_eq_true, Bool.not_eq_true'] at hadmits
  obtain ⟨⟨hhears, hok⟩, hcontend⟩ := hadmits
  refine State.write_of_judged (items := [it]) (State.hears_iff hhears) ?_ hcontend
  have hagrees : Dev.Agrees (s.heard h x) (s.judging h x) := (Dev.agrees_tagWork _ x _).putSession _
  rwa [hagrees.itemStatuses x.onSpi x.level hcommands.find hcommands.value hcommands.conflict hcommands.bank]

theorem itemWaits_of_address {it : Item} {e : Entry} (haddr : e.addr = it.index * 256 + it.sub) (hwaits : isOne e actsAtOnce = false) :
    itemWaits it = true := by
  simp only [itemWaits, ← haddr]
  simpa [isOne, actsAtOnce] using hwaits

/-- A command that the judgement admits and that waits for S0 is accepted, and shows the conversation only. -/
theorem State.accepted_of_admits {s : State} {h : Head} {e : Entry} {v : Value} {x : Session} (hadmits : s.admits h [e.item v] x = true)
    (hcommands : Commands (e.item v) e) (hwaits : isOne e actsAtOnce = false) :
    ∃ t, (.next (s.onDev fun d => d.command h e v) : Host.Outcome State Fault Refusal) = .next t ∧ Accepted s t h [e.item v] x := by
  obtain ⟨t, hexec, hdev, hstep⟩ := s.onDev_next (·.command h e v)
  obtain ⟨m, d, hrequest, hstaged, ⟨htype, hid, hnumber, htag, hstatus⟩, hleaves, hposted, hkeeps⟩ := State.write_of_admits hadmits hcommands
  have heffect : t.dev = d := by
    rw [hdev, ← Dev.acceptItem_of_waits hcommands.find hwaits d x.slot]
    exact hrequest
  exact ⟨t, hexec, by rw [heffect, hstaged], ⟨m, htype, hid, hnumber, htag, hstatus, by rw [heffect]; exact hleaves⟩, hstep.deviceOnly,
    fun _ => ⟨by rw [PresentsNone, heffect, hposted], hstep.onlyRegisters (by rw [heffect]; exact hkeeps)⟩⟩

end Sys2Proof.Machine
end

section
/-!
PROOF. What one item does at S0 (R60, R62), and the commands of the leap announcement, the oscillator model and Watershed (O14, O25, O22).
-/
namespace Sys2Proof.Machine

/-! ### The item of a command -/

/-- What is decided of an entry whose item waits for S0. -/
def isCommanded (e : Entry) : Bool :=
  decide (Dict.find e.index e.sub = some e) && !Dev.valueJudgedFurther e && !Dev.conflictJudgedFurther e && !isOne e actsAtOnce

theorem Commands.of_isCommanded {e : Entry} {v : Value} (h : isCommanded e = true)
    (hbank : e.inRange v.value = true → isOne e [Dict.gnssBankRelease] = true → v.value ≤ 12) : Commands (e.item v) e := by
  simp only [isCommanded, Bool.and_eq_true, Bool.not_eq_true', decide_eq_true_eq] at h
  obtain ⟨⟨⟨hfind, hvalue⟩, hconflict⟩, -⟩ := h
  exact ⟨hfind, hvalue, hconflict, hbank⟩

theorem find_of_isCommanded {e : Entry} (h : isCommanded e = true) : Dict.find e.index e.sub = some e := by
  simp only [isCommanded, Bool.and_eq_true, decide_eq_true_eq] at h
  exact h.1.1.1

/-- An admitted item of such an entry is accepted. -/
theorem State.accepted_of_isCommanded {s : State} {h : Head} {e : Entry} {v : Value} {x : Session}
    (hadmits : s.admits h [e.item v] x = true) (he : isCommanded e = true) (hbank : isOne e [Dict.gnssBankRelease] = false) :
    ∃ t, (.next (s.onDev fun d => d.command h e v) : Host.Outcome State Fault Refusal) = .next t ∧ Accepted s t h [e.item v] x := by
  refine State.accepted_of_admits hadmits (.of_isCommanded he fun _ hone => ?_) ?_
  · rw [hbank] at hone
    cases hone
  · simp only [isCommanded, Bool.and_eq_true, Bool.not_eq_true'] at he
    exact he.2

namespace Dev

/-! ### One item at S0 -/

/-- With no kind of reference changed, no default of a filter follows (R216). -/
theorem tauFollows_of_eq {d before : Dev} (h : ∀ r < 8, d.get (Dict.refMode r) = before.get (Dict.refMode r)) (values : List Item) :
    d.tauFollows before values = d := by
  refine forUnits_keeps (p := fun x => x = d) rfl fun r hr x hx => ?_
  dsimp only
  rw [hx, h r hr]
  exact if_neg fun hne => hne.1 rfl

/-- A command's item does what the command does (R60). -/
theorem applyGroup_command {d : Dev} {e : Entry} {v : Value} (he : isCommanded e = true) (hcmd : e.ty.isCmd = true) :
    d.applyGroup [e.item v] [] = d.applyCommand e v.value := by
  have hfind : Dict.find (e.item v).index (e.item v).sub = some e := find_of_isCommanded he
  simp only [applyGroup, List.filter_cons, List.filter_nil, hfind, hcmd, Bool.not_true, Bool.false_and, Bool.false_eq_true, if_false,
    List.foldl_nil, tauFollows_of_eq fun _ _ => rfl, List.foldl_cons, if_true]
  rfl

/-- The item of another entry sets it, and what follows a write of it follows (R38, R62). -/
theorem applyGroup_value {d : Dev} {e : Entry} {v : Value} (he : isCommanded e = true) (hcmd : e.ty.isCmd = false)
    (hmode : ∀ r < 8, e.addr ≠ (Dict.refMode r).addr) : 
    d.applyGroup [e.item v] [] = (d.set e (e.held v.value)).afterWrite e (d.get e) := by
  have hfind : Dict.find (e.item v).index (e.item v).sub = some e := find_of_isCommanded he
  have hcursor : isOne e [Dict.auditCursor, Dict.clientCursor] = false := by
    simp only [isCommanded, Bool.and_eq_true, Bool.not_eq_true'] at he
    have hnot := he.2
    simp only [isOne, actsAtOnce, List.any_cons, List.any_nil, Bool.or_false, Bool.or_eq_false_iff] at hnot ⊢
    exact ⟨hnot.1, hnot.2.1⟩
  have hkeeps : ∀ r < 8, (d.set e (e.held (e.item v).value)).get (Dict.refMode r) = d.get (Dict.refMode r) := fun r hr =>
    get_set_ne _ _ _ _ (hmode r hr)
  simp only [applyGroup, List.filter_cons, List.filter_nil, hfind, hcmd, hcursor, Bool.not_false, Bool.true_and, List.any_nil, if_true,
    List.foldl_cons, List.foldl_nil, tauFollows_of_eq hkeeps, Bool.false_eq_true, if_false]
  rfl

/-- The command has no unit. -/
def namesNoUnit (e : Entry) : Bool :=
  (unitOf Dict.tmrArm 32 e).isNone && (unitOf Dict.outRealign 16 e).isNone && (unitOf Dict.portRecalibrate 6 e).isNone &&
    (unitOf Dict.skFaultClear 3 e).isNone && (unitOf Dict.evtClear 128 e).isNone && (unitOf Dict.pcClear 64 e).isNone &&
    (unitOf Dict.chRelease 16 e).isNone && (unitOf Dict.linkChRelease 3 e).isNone && (unitOf Dict.apllRelease 4 e).isNone &&
    (unitOf Dict.outRelease 16 e).isNone && (unitOf Dict.plsRelease 4 e).isNone && (unitOf Dict.portRelease 6 e).isNone &&
    (unitOf Dict.skRelease 3 e).isNone && !isOne e [Dict.cryptoLaneRelease] && !isOne e [Dict.gnssBankRelease]

theorem applyCommand_of_namesNoUnit {e : Entry} (he : namesNoUnit e = true) (d : Dev) (x : Nat) :
    d.applyCommand e x = d.plainCommand e x := by
  simp only [namesNoUnit, Bool.and_eq_true, Option.isNone_iff_eq_none, Bool.not_eq_true'] at he
  simp only [applyCommand, releaseUnit, he, Bool.false_eq_true, if_false]

/-- The item of a command without a unit does what `plainCommand` says. -/
theorem applyGroup_plain {d : Dev} {e : Entry} {v : Value} (he : isCommanded e = true ∧ e.ty.isCmd = true ∧ namesNoUnit e = true) :
    d.applyGroup [e.item v] [] = d.plainCommand e v.value :=
  (applyGroup_command he.1 he.2.1).trans (applyCommand_of_namesNoUnit he.2.2 d _)

/-! ### The leap announcement -/

theorem applyGroup_hostLeapAnnounce (d : Dev) (v : Value) :
    d.applyGroup [Dict.hostLeapAnnounce.item v] [] = d.announceLeap (v.value / 256 ^ 15) (v.value % 256 ^ 12) := by
  rw [applyGroup_plain (by decide)]
  simp (disch := decide) only [plainCommand, if_pos, if_neg]

/-- An announcement of a leap stands with its kind and time; one of kind 0 ends it (R117, R119). -/
theorem announceLeap_spec (d : Dev) {kind time : Nat} (hkind : kind < 256) (htime : time < 2 ^ 96) :
    (d.announceLeap kind time).get Dict.leapPending = kind ∧
      (d.announceLeap kind time).get Dict.leapTime = if kind = 0 then 0 else time := by
  unfold announceLeap
  split
  · next hzero =>
    refine ⟨?_, get_clear_self _ _⟩
    rw [get_clear_ne _ _ _ (by decide), get_clear_self, hzero]
    rfl
  · refine ⟨?_, get_lt_of_set _ _ htime⟩
    rw [get_set_ne _ _ _ _ (by decide), get_lt_of_set _ _ hkind]

end Dev

/-- Settles O14: the three commands write one entry; its kind and its time stand in its value. -/
theorem hostLeapsAnnounceAtS0 : Obligations.HostLeapsAnnounceAtS0 := by
  unfold Obligations.HostLeapsAnnounceAtS0
  intro s h time x htime
  have hvalue : ∀ kind < 3, (kind * 2 ^ 120 + time) / 256 ^ 15 = kind ∧ (kind * 2 ^ 120 + time) % 256 ^ 12 = time := fun kind _ => by
    omega
  refine ⟨?_, ?_, ?_⟩
  · intro items hadmits
    obtain ⟨t, hexec, haccepted⟩ := State.accepted_of_isCommanded hadmits (by decide) (by decide)
    refine ⟨t, hexec, haccepted, fun d => ?_⟩
    rw [Dev.applyGroup_hostLeapAnnounce, (hvalue 1 (by decide)).1, (hvalue 1 (by decide)).2]
    exact d.announceLeap_spec (by decide) htime
  · intro items hadmits
    obtain ⟨t, hexec, haccepted⟩ := State.accepted_of_isCommanded hadmits (by decide) (by decide)
    refine ⟨t, hexec, haccepted, fun d => ?_⟩
    rw [Dev.applyGroup_hostLeapAnnounce, (hvalue 2 (by decide)).1, (hvalue 2 (by decide)).2]
    exact d.announceLeap_spec (by decide) htime
  · intro items hadmits
    obtain ⟨t, hexec, haccepted⟩ := State.accepted_of_isCommanded hadmits (by decide) (by decide)
    refine ⟨t, hexec, haccepted, fun d => ?_⟩
    have hzero := hvalue 0 (by decide)
    rw [Nat.zero_mul, Nat.zero_add] at hzero
    rw [Dev.applyGroup_hostLeapAnnounce, hzero.1, hzero.2]
    exact d.announceLeap_spec (by decide) htime

namespace Dev

/-- Of several cleared registers each reads its reset value. -/
theorem get_clearAll_of_mem (d : Dev) {l : List Entry} {e : Entry} (he : e ∈ l) (hsame : ∀ f ∈ l, f.addr = e.addr → f = e) :
    (d.clearAll l).get e = e.reset := by
  induction l generalizing d with
  | nil => cases he
  | cons f l ih =>
    by_cases hmem : e ∈ l
    · exact ih (d.clear f) hmem fun g hg => hsame g (List.mem_cons_of_mem f hg)
    · obtain rfl : e = f := (List.mem_cons.1 he).resolve_right hmem
      have hother : ∀ g ∈ l, g.addr ≠ e.addr := fun g hg heq => hmem (hsame g (List.mem_cons_of_mem e hg) heq ▸ hg)
      exact (get_clearAll_ne _ l e hother).trans (get_clear_self d e)

/-! ### The oscillator model -/

theorem applyGroup_oscModelReset (d : Dev) (v : Value) : d.applyGroup [Dict.oscModelReset.item v] [] = d.resetModel := by
  rw [applyGroup_plain (by decide)]
  simp (disch := decide) only [plainCommand, if_pos, if_neg]

theorem q_setQ_ne (d : Dev) {k j : Nat} (v : Rat) (h : k ≠ j) : (d.setQ k v).q j = d.q j := by
  unfold q setQ
  dsimp only
  split
  · rw [Sparse.find_drop_ne _ _ _ h]
  · rw [Sparse.find_put_ne _ _ _ _ h]

theorem openBlock_spec (d : Dev) : d.openBlock.q Q.blockCount = 0 ∧ d.openBlock.q Q.blockSum = 0 := by
  unfold openBlock
  rw [q_setQ_ne _ _ (by decide), q_setQ_ne _ _ (by decide), q_setQ_self, q_setQ_ne _ _ (by decide), q_setQ_ne _ _ (by decide),
    q_setQ_ne _ _ (by decide), q_setQ_self]
  exact ⟨rfl, rfl⟩

/-- What a fit of the model writes (R240, R241). -/
def modelRegisters : List Entry :=
  [Dict.oscLearnedTime, Dict.oscModelState, Dict.oscModelEpoch, Dict.oscModelRefTemp, Dict.oscModelOffset, Dict.oscSigmaOffset,
    Dict.oscModelDrift, Dict.oscSigmaDrift, Dict.oscModelTempCoeff, Dict.oscSigmaTempCoeff, Hid.permanentC, Hid.blockSigma]

theorem keeps_fitModel (d : Dev) : Keeps modelRegisters d d.fitModel := by
  have hlearned : Keeps modelRegisters d (d.set Dict.oscLearnedTime (64 * d.blocks.length)) := (Keeps.refl _ d).set (by decide) _
  unfold fitModel
  extract_lets learned d₁ full heat t0 day rows n fit sigma d₂ d₃ d₄ d₅ d₆
  refine .ite (hlearned.set (by decide) _) (.setI (.setB (.setI (.setI (.setI (.setI (.setI (.setI (.setI (.set (.set hlearned ?_ _) ?_ _)
    ?_ _) ?_ _) ?_ _) ?_ _) ?_ _) ?_ _) ?_ _) ?_ _) ?_ _) <;> decide

/-- The device without its registers. -/
def unregistered (d : Dev) : Dev := { d with regs := [] }

theorem unregistered_set (d : Dev) (e : Entry) (v : Nat) : (d.set e v).unregistered = d.unregistered := (rfl)
theorem unregistered_setI (d : Dev) (e : Entry) (i : Int) : (d.setI e i).unregistered = d.unregistered := (rfl)
theorem unregistered_setB (d : Dev) (e : Entry) (b : Bool) : (d.setB e b).unregistered = d.unregistered := (rfl)

/-- Whatever is read off the device without its registers reads the same on both. -/
theorem of_unregistered {γ : Type} {g : Dev → γ} {d d' : Dev} (h : d'.unregistered = d.unregistered)
    (hg : ∀ x : Dev, g x.unregistered = g x := by exact fun _ => rfl) : g d' = g d :=
  (hg d').symm.trans ((congrArg g h).trans (hg d))

theorem unregistered_fitModel (d : Dev) : d.fitModel.unregistered = d.unregistered := by
  unfold fitModel
  dsimp only
  split
  · simp only [unregistered_set]
  · simp only [unregistered_set, unregistered_setI, unregistered_setB]

/-- The blocks of the model become a list. -/
def withBlocks (d : Dev) (l : List OscBlock) : Dev := { d with blocks := l }

theorem get_withBlocks (d : Dev) (l : List OscBlock) (e : Entry) : (d.withBlocks l).get e = d.get e := (rfl)
theorem blocks_withBlocks (d : Dev) (l : List OscBlock) : (d.withBlocks l).blocks = l := (rfl)

theorem q_withBlocks (d : Dev) (l : List OscBlock) (k : Nat) : (d.withBlocks l).q k = d.q k := (rfl)
theorem posted_withBlocks (d : Dev) (l : List OscBlock) : (d.withBlocks l).posted = d.posted := (rfl)

/-- A reset leaves no model (R242). -/
theorem get_oscModelState_resetModel (d : Dev) : d.resetModel.get Dict.oscModelState = 0 := by
  have hopen : ∀ (x : Dev) (l : List OscBlock), (x.openBlock.withBlocks l).get Dict.oscModelState = x.get Dict.oscModelState :=
    fun x l => by rw [get_withBlocks, openBlock, get_setQ, get_setQ, get_setQ, get_setQ]
  exact (hopen _ []).trans (get_clearAll_of_mem d (by decide) (by decide))

/-- With no model to judge it a block joins the blocks of the window (R240, R242). -/
theorem takeBlock_of_none {d : Dev} (b : OscBlock) (hnone : d.get Dict.oscModelState = 0) :
    d.takeBlock b = ((d.set Hid.oscBadBlocks 0).withBlocks
      ((d.blocks ++ [b]).filter fun x => decide (b.second + 64 - d.get Dict.oscLearnWindow ≤ x.second))).fitModel := by
  simp only [takeBlock, hnone, bne_self_eq_false, Bool.false_and, Bool.false_eq_true, if_false, Nat.reduceLeDiff]
  rfl

/-- The block of the second that ends lies within any window of 64 s. -/
theorem oldest_le {n window : Nat} (hmultiple : n % 64 = 0) (hwindow : 64 ≤ window) : n - 64 + 64 - window ≤ n - 64 := by
  omega

/-- The block that a fit closes (R240). -/
def closedBlock (d : Dev) : OscBlock := ⟨d.second - 64, d.q Q.blockSum / d.q Q.blockCount, d.blockHeat⟩

/-- In frame 0 of a 64th second a whole block is closed (R240). -/
theorem oscFit_of_whole {d : Dev} (hframe : d.frame = 0) (hsecond : d.second % 64 = 0) (honce : d.get Hid.fitAt ≠ d.view.frames + 1)
    (hwhole : d.q Q.blockCount = 262144) (hstate : d.get Dict.deviceState ≠ 4) :
    d.oscFit = (d.openBlock.set Hid.fitAt (d.view.frames + 1)).takeBlock d.closedBlock := by
  have hcount : decide (d.q Q.blockCount = ((blockFrames : Nat) : Rat)) = true := by
    rw [hwhole]
    decide
  have hrunning : (d.get Dict.deviceState != 4) = true := by simpa using hstate
  simp only [oscFit, hframe, hsecond, honce, hcount, hrunning, ne_eq, not_true, or_self, if_false, Bool.and_self, if_true]
  rfl

end Dev

/-- Settles O25: what a fit writes, and that a block of this second lies within any window of 64 s. -/
theorem oscillatorBlocksCloseAndReset : Obligations.OscillatorBlocksCloseAndReset := by
  unfold Obligations.OscillatorBlocksCloseAndReset
  refine ⟨?_, ?_⟩
  · intro s hserves hframe hsecond hwhole honce hstate hnone hwindow
    obtain ⟨t, hexec, hdev, hstep⟩ := State.during_next hserves (·.oscFit)
    rw [Dev.oscFit_of_whole (d := s.met) hframe hsecond honce hwhole hstate, Dev.takeBlock_of_none _ (by
      rw [Dev.get_set_ne _ _ _ _ (by decide)]
      exact hnone)] at hdev
    generalize hd : (((s.met.openBlock.set Hid.fitAt (s.met.view.frames + 1)).set Hid.oscBadBlocks 0).withBlocks _) = d at hdev
    have haside := hdev ▸ Dev.unregistered_fitModel d
    have hkeeps : Dev.Keeps [Hid.fitAt, Hid.oscBadBlocks] s.met d := by
      rw [← hd]
      have hopen : Dev.Keeps [Hid.fitAt, Hid.oscBadBlocks] s.met s.met.openBlock := fun _ _ => rfl
      intro e he
      rw [Dev.get_withBlocks]
      exact ((hopen.set (e := Hid.fitAt) (by decide) _).set (e := Hid.oscBadBlocks) (by decide) _) e he
    refine ⟨t, hexec, ?_, ?_, ?_, ?_, hstep.onlyRegisters ?_⟩
    · rw [Dev.of_unregistered (g := fun y => y.q Q.blockCount) haside, ← hd]
      exact s.met.openBlock_spec.1
    · rw [Dev.of_unregistered (g := fun y => y.q Q.blockSum) haside, ← hd]
      exact s.met.openBlock_spec.2
    · rw [Dev.of_unregistered (g := Dev.blocks) haside, ← hd, Dev.blocks_withBlocks]
      have hwindow' : 64 ≤ (s.met.openBlock.set Hid.fitAt (s.met.view.frames + 1)).get Dict.oscLearnWindow := by
        rw [Dev.get_set_ne _ _ _ _ (by decide)]
        exact hwindow
      have hmultiple : s.met.second % 64 = 0 := hsecond
      refine List.mem_filter.2 ⟨List.mem_append_right _ (List.mem_singleton.2 ?_), decide_eq_true (Dev.oldest_le hmultiple hwindow')⟩
      rw [Dev.closedBlock, show s.met.q Q.blockCount = 262144 from hwhole]
      rfl
    · rw [PresentsNone, Dev.of_unregistered (g := Dev.posted) haside, ← hd]
      rfl
    · rw [hdev]
      exact (hkeeps.mono (by decide)).trans ((Dev.keeps_fitModel d).mono (by decide))
  · intro s h v x hadmits
    obtain ⟨t, hexec, haccepted⟩ := State.accepted_of_isCommanded hadmits (by decide) (by decide)
    refine ⟨t, hexec, haccepted, fun d => ?_⟩
    rw [Dev.applyGroup_oscModelReset]
    exact ⟨d.get_oscModelState_resetModel, rfl⟩

namespace Dev

/-! ### What follows a value (R202, R215) -/

/-- The entry is none of a unit whose write has an effect of its own. -/
def followsNoUnit (e : Entry) : Bool :=
  (unitAmong [Dict.apllEnable, Dict.apllRefScale, Dict.apllRefDivider, Dict.apllFeedback, Dict.apllBandwidth] 4 e).isNone &&
    (unitAmong [Dict.portEnable, Dict.portMode, Dict.portFec] 6 e).isNone &&
    (unitAmong [Dict.pcEvent, Dict.pcMode, Dict.pcUnit, Dict.pcWindow] 64 e).isNone && (unitOf Dict.tmrTarget 32 e).isNone &&
    (unitOf Dict.chSource 16 e).isNone && (unitOf Dict.chPrescale 16 e).isNone && (unitOf Dict.chWinMode 16 e).isNone &&
    (unitOf Dict.skEnable 3 e).isNone

theorem afterWrite_of_followsNoUnit {e : Entry} (he : followsNoUnit e = true) (d : Dev) (old : Nat) :
    d.afterWrite e old =
      if isOne e [Dict.hostUtcOffset, Dict.utcSource] then d.setB Hid.hostUtcFresh true
      else if isOne e [Dict.oscHostTemp] then d.set Hid.hostTempFrame (d.view.frames + 1)
      else if isOne e [Dict.watershedForcedRef] then d.forceReference
      else if isOne e ([Dict.powerBudget, Dict.passBasePower] ++ (List.range 5).map Dict.passCost) then d.fitBudget
      else if isOne e [Dict.mgtIpv4Address, Dict.mgtIpv6Address] then d.endUnaddressed
      else if 0x4100 ≤ e.index ∧ e.index < 0x4110 ∧ (e.sub = 2 ∨ e.sub = 3) ∧ d.get e ≠ old then d.requestRealign (e.index - 0x4100)
      else if 0x6900 ≤ e.index ∧ e.index ≤ 0x6907 then d.applySlotSpec ((e.index - 0x6900) * 128 + (e.sub - 1))
      else d := by
  simp only [followsNoUnit, Bool.and_eq_true, Option.isNone_iff_eq_none] at he
  simp only [afterWrite, he]

theorem keeps_commandStatus (d : Dev) : Keeps [Dict.watershedCmdStatus] d d.commandStatus :=
  .ite (.set (.refl _ d) (by decide) _) (.ite (.set (.refl _ d) (by decide) _) (.refl _ d))

theorem keeps_forceReference (d : Dev) : Keeps [Dict.watershedCmdStatus] d d.forceReference :=
  .ite (.set (.refl _ d) (by decide) _) (keeps_commandStatus d)

theorem get_watershedForcedRef_applyGroup (d : Dev) (v : Value) :
    (d.applyGroup [Dict.watershedForcedRef.item v] []).get Dict.watershedForcedRef = v.value % 256 := by
  rw [applyGroup_value (by decide) (by decide) (by decide), afterWrite_of_followsNoUnit (by decide), if_neg (by decide), if_neg (by decide),
    if_pos (by decide), keeps_forceReference _ _ (by decide), get_set_self]
  rfl

theorem applyGroup_watershedStatsClear (d : Dev) (v : Value) :
    d.applyGroup [Dict.watershedStatsClear.item v] [] = d.clearSwitchStats := by
  rw [applyGroup_plain (by decide)]
  simp (disch := decide) only [plainCommand, if_pos, if_neg]

/-- A loop that clears a register of each unit. -/
theorem get_forUnits_clear {f : Nat → Entry} {n r : Nat} (d : Dev) (hr : r < n) (hne : ∀ m < n, m ≠ r → (f m).addr ≠ (f r).addr) :
    (forUnits n (fun m d => d.clear (f m)) d).get (f r) = (f r).reset := by
  have hmem : f r ∈ (List.range n).map f := List.mem_map_of_mem (List.mem_range.2 hr)
  have heq : forUnits n (fun m d => d.clear (f m)) d = d.clearAll ((List.range n).map f) := by
    unfold forUnits clearAll
    rw [List.foldl_map]
  rw [heq]
  refine get_clearAll_of_mem d hmem fun g hg haddr => ?_
  obtain ⟨m, hm, rfl⟩ := List.mem_map.1 hg
  by_cases hmr : m = r
  · rw [hmr]
  · exact absurd haddr (hne m (List.mem_range.1 hm) hmr)

/-- The counts of switches and of the references' failures are zero (R215). -/
theorem clearSwitchStats_spec (d : Dev) : d.clearSwitchStats.get Dict.switchCount = 0 ∧ d.clearSwitchStats.get Dict.switchAbandonCount = 0 ∧
    ∀ r < 18, d.clearSwitchStats.get (Dict.refFailCount r) = 0 := by
  have hkeeps : Keeps ((List.range 18).map Dict.refFailCount) (d.clearAll [Dict.switchCount, Dict.switchAbandonCount]) d.clearSwitchStats :=
    .forUnits (.refl _ _) fun r hr x => .clear (.refl _ x) (List.mem_map_of_mem (List.mem_range.2 hr))
  refine ⟨?_, ?_, fun r hr => ?_⟩
  · rw [hkeeps _ (by decide), get_clearAll_of_mem _ (by decide) (by decide)]
    rfl
  · rw [hkeeps _ (by decide), get_clearAll_of_mem _ (by decide) (by decide)]
    rfl
  · exact get_forUnits_clear _ hr (by apply of_lt hr; decide)

end Dev

/-- Settles O22: a write of the forced reference publishes its status beside it, and the clear goes through the 18 references. -/
theorem watershedWritesTakeEffectAtS0 : Obligations.WatershedWritesTakeEffectAtS0 := by
  unfold Obligations.WatershedWritesTakeEffectAtS0
  refine ⟨?_, ?_⟩
  · intro s h v x hadmits
    obtain ⟨t, hexec, haccepted⟩ := State.accepted_of_isCommanded hadmits (by decide) (by decide)
    exact ⟨t, hexec, haccepted, fun d => d.get_watershedForcedRef_applyGroup v⟩
  · intro s h v x hadmits
    obtain ⟨t, hexec, haccepted⟩ := State.accepted_of_isCommanded hadmits (by decide) (by decide)
    refine ⟨t, hexec, haccepted, fun d => ?_⟩
    rw [Dev.applyGroup_watershedStatsClear]
    exact d.clearSwitchStats_spec

end Sys2Proof.Machine
end

section
/-!
PROOF. Timers (O15): a fire records its target, drives its destination (`Dev.fireDest`, `Dev.pulse`), and then the timer ends or goes on
(`Dev.afterFire`).
-/
namespace Sys2Proof.Machine

/-- The instant that a CT64 value names nearest to an instant is the one nearest to any later instant up to it (R19). -/
theorem ofCt64_max (near ct : Nat) : ofCt64 (max near (ofCt64 near ct)) ct = ofCt64 near ct := by
  rcases Nat.le_total (ofCt64 near ct) near with hle | hle
  · rw [Nat.max_eq_left hle]
  · rw [Nat.max_eq_right hle]
    unfold ofCt64 ctDiff toCt64 at hle ⊢
    dsimp only at hle ⊢
    split at hle <;> split <;> omega

namespace Dev

/-! ### After the target -/

/-- After a target the timer ends at its limit, or goes on with the next target (R121). -/
def afterFire (d : Dev) (n target : Nat) : Dev :=
  let d := d.set (Hid.tmrTargets n) (d.get (Hid.tmrTargets n) + 1)
  if d.limitReached n then d.endTimer n 2 else d.setNext n (d.nextTarget n target (target + 1))

/-- The registers that the owner of a destination stands in (R137). -/
def ownerRegisters (dest : Nat) : List Entry :=
  (if isTrg dest then [Dict.trgOwner dest] else []) ++ if isPls dest then [Dict.plsOwner (dest - 0x20)] else []

theorem Keeps.ownDest {es : List Entry} {d d' : Dev} (h : Keeps es d d') {n : Nat}
    (howner : ownerRegisters (d'.get (Dict.tmrDestination n)) ⊆ es) (own : Bool) : Keeps es d (d'.ownDest n own) := by
  unfold ownerRegisters at howner
  unfold Dev.ownDest
  dsimp only
  have hfirst : Keeps es d (if isTrg (d'.get (Dict.tmrDestination n)) then
      d'.set (Dict.trgOwner (d'.get (Dict.tmrDestination n))) (if own then n else 0xFF) else d') := by
    split
    · next htrg => exact h.set (howner (List.mem_append_left _ (by simp [htrg]))) _
    · exact h
  split
  · next hpls => exact hfirst.set (howner (List.mem_append_right _ (by simp [hpls]))) _
  · exact hfirst

/-- What the end of a fire writes. -/
def afterFireRegisters (n dest : Nat) : List Entry := [Hid.tmrTargets n, Dict.tmrState n, Dict.tmrNextFire n] ++ ownerRegisters dest

theorem keeps_endTimer {d : Dev} {n : Nat} (hn : n < 32) (state : Nat) :
    Keeps (afterFireRegisters n (d.get (Dict.tmrDestination n))) d (d.endTimer n state) := by
  have hdest : ((d.set (Dict.tmrState n) state).clear (Dict.tmrNextFire n)).get (Dict.tmrDestination n) = d.get (Dict.tmrDestination n) := by
    rw [get_clear_ne _ _ _ (by apply of_lt hn; decide), get_set_ne _ _ _ _ (by apply of_lt hn; decide)]
  unfold endTimer
  refine Keeps.ownDest ((((Keeps.refl _ d).set (by simp [afterFireRegisters]) _).clear (by simp [afterFireRegisters]))) ?_ false
  rw [hdest]
  exact List.subset_append_right _ _

theorem keeps_afterFire {d : Dev} {n : Nat} (hn : n < 32) (target : Nat) :
    Keeps (afterFireRegisters n (d.get (Dict.tmrDestination n))) d (d.afterFire n target) := by
  have hset : Keeps (afterFireRegisters n (d.get (Dict.tmrDestination n))) d
      (d.set (Hid.tmrTargets n) (d.get (Hid.tmrTargets n) + 1)) := (Keeps.refl _ d).set (by simp [afterFireRegisters]) _
  have hdest : (d.set (Hid.tmrTargets n) (d.get (Hid.tmrTargets n) + 1)).get (Dict.tmrDestination n) = d.get (Dict.tmrDestination n) :=
    get_set_ne _ _ _ _ (by apply of_lt hn; decide)
  have hends := keeps_endTimer (d := d.set (Hid.tmrTargets n) (d.get (Hid.tmrTargets n) + 1)) hn 2
  rw [hdest] at hends
  unfold afterFire setNext
  exact .ite (hset.trans hends) (hset.set (by simp [afterFireRegisters]) _)

theorem rest_afterFire (d : Dev) (n target : Nat) : (d.afterFire n target).rest = d.rest := by
  unfold afterFire setNext
  dsimp only
  split
  · rw [rest_endTimer, rest_set]
  · rw [rest_set, rest_set]

/-- The owner registers of a destination are no timer's. -/
theorem ownerRegisters_apart {dest : Nat} {e : Entry} (htrg : ∀ m < 8, (Dict.trgOwner m).addr ≠ e.addr)
    (hpls : ∀ p < 4, (Dict.plsOwner p).addr ≠ e.addr) : ∀ y ∈ ownerRegisters dest, y.addr ≠ e.addr := by
  intro y hy
  unfold ownerRegisters at hy
  rcases List.mem_append.1 hy with hy | hy
  · split at hy
    · next h =>
      obtain rfl := List.mem_singleton.1 hy
      exact htrg dest (of_decide_eq_true h)
    · cases hy
  · split at hy
    · next h =>
      obtain rfl := List.mem_singleton.1 hy
      have := of_decide_eq_true h
      exact hpls _ (by omega)
    · cases hy

/-- A one-shot timer is Done, with no target pending (R121). -/
theorem afterFire_oneShot {d : Dev} {n : Nat} (hn : n < 32) (target : Nat) (hmode : d.get (Dict.tmrMode n) = 1) :
    (d.afterFire n target).get (Dict.tmrState n) = 2 ∧ (d.afterFire n target).get (Dict.tmrNextFire n) = 0 := by
  have hlimit : (d.set (Hid.tmrTargets n) (d.get (Hid.tmrTargets n) + 1)).limitReached n = true := by
    rw [limitReached, get_set_ne _ _ _ _ (by apply of_lt hn; decide), hmode]
    rfl
  unfold afterFire endTimer
  simp only [hlimit, if_true]
  have howner := fun (y : Dev) (e : Entry) htrg hpls =>
    ((Keeps.refl (ownerRegisters (y.get (Dict.tmrDestination n))) y).ownDest (List.Subset.refl _) false) e
      (ownerRegisters_apart htrg hpls)
  constructor
  · rw [howner _ _ (by apply of_lt hn; decide) (by apply of_lt hn; decide),
      get_clear_ne _ _ _ (by apply of_lt hn; decide)]
    exact get_lt_of_set _ _ (show 2 < 256 by decide)
  · rw [howner _ _ (by apply of_lt hn; decide) (by apply of_lt hn; decide), get_clear_self]
    rfl

/-! ### A fire -/

/-- An armed timer whose target the frame reaches fires (R121, R131). -/
theorem fireTimer_of_armed {d : Dev} {n : Nat} (harmed : d.get (Dict.tmrState n) = 1)
    (hnear : d.pendingTarget n < d.view.frameStart + 2 * frameUnits) :
    d.fireTimer n =
      (if isPls (d.get (Dict.tmrDestination n)) then pulse n (d.pendingTarget n) ((d.recordFire n (d.pendingTarget n)).fireDest n (d.pendingTarget n))
        else (d.recordFire n (d.pendingTarget n)).fireDest n (d.pendingTarget n)).afterFire n (d.pendingTarget n) := by
  simp only [fireTimer, timerFire, harmed, Nat.not_le.2 hnear, ne_eq, not_true, or_self, if_false]
  rfl

theorem keeps_recordFire (d : Dev) (n target : Nat) : Keeps [Dict.tmrLastFire n, Dict.tmrFireCount n] d (d.recordFire n target) :=
  ((Keeps.refl _ d).set (by simp) _).inc (by simp)

theorem emit_recordFire (d : Dev) (n target : Nat) : (d.recordFire n target).emit = d.emit := by
  rw [recordFire, emit_inc, emit_set]

theorem recordFire_spec (d : Dev) {n : Nat} (hn : n < 32) (target : Nat) :
    (d.recordFire n target).get (Dict.tmrLastFire n) = toCt64 target ∧
      (d.recordFire n target).get (Dict.tmrFireCount n) = min (d.get (Dict.tmrFireCount n) + 1) ((Dict.tmrFireCount n).modulus - 1) := by
  unfold recordFire
  constructor
  · rw [get_inc_ne _ _ _ (by apply of_lt hn; decide)]
    exact get_lt_of_set _ _ (Nat.mod_lt _ (by decide))
  · rw [get_inc, get_set_ne _ _ _ _ (by apply of_lt hn; decide)]

end Dev

/-! ### Destinations -/

/-- What a TRG output's edge writes. -/
def trgRegisters (n m : Nat) : List Entry := [Dict.tmrLastResidual n, Hid.trgHigh m, Hid.trgEnd m, Hid.pinLevel (0x44 + m)]

namespace Dev

theorem afterFireRegisters_trg {n m : Nat} (hm : m < 8) :
    afterFireRegisters n m = [Hid.tmrTargets n, Dict.tmrState n, Dict.tmrNextFire n, Dict.trgOwner m] := by
  have htrg : isTrg m = true := decide_eq_true hm
  have hpls : isPls m = false := decide_eq_false (by omega)
  simp only [afterFireRegisters, ownerRegisters, htrg, hpls, if_true, Bool.false_eq_true, if_false, List.append_nil, List.cons_append,
    List.nil_append]

theorem afterFireRegisters_pls {n p : Nat} (hp : p < 4) :
    afterFireRegisters n (0x20 + p) = [Hid.tmrTargets n, Dict.tmrState n, Dict.tmrNextFire n, Dict.plsOwner p] := by
  have htrg : isTrg (0x20 + p) = false := decide_eq_false (by omega)
  have hpls : isPls (0x20 + p) = true := decide_eq_true (by omega)
  simp only [afterFireRegisters, ownerRegisters, htrg, hpls, if_true, Bool.false_eq_true, if_false, List.cons_append, List.nil_append,
    Nat.add_sub_cancel_left]

/-- A TRG output takes an edge with its residual, and the end of its width (R131, R132). -/
def trgDriven (d : Dev) (n m ending edge : Nat) (residual : Int) (level : PinLevel) : Dev :=
  (((d.setI (Dict.tmrLastResidual n) residual).setB (Hid.trgHigh m) true).set (Hid.trgEnd m) (ending + 1)).drive (0x44 + m) level edge

theorem keeps_trgDriven (d : Dev) (n m ending edge : Nat) (residual : Int) (level : PinLevel) :
    Keeps (trgRegisters n m) d (d.trgDriven n m ending edge residual level) :=
  (((((Keeps.refl _ d).setI (by simp [trgRegisters]) _).setB (by simp [trgRegisters]) _).set (by simp [trgRegisters]) _).set
    (by simp [trgRegisters]) _).out _

theorem trgDriven_spec (d : Dev) {n m : Nat} (hn : n < 32) (hm : m < 8) (ending edge : Nat) (residual : Int) (level : PinLevel) :
    (d.trgDriven n m ending edge residual level).get (Dict.tmrLastResidual n) =
        (Dict.tmrLastResidual n).ofInt residual % (Dict.tmrLastResidual n).modulus ∧
      (d.trgDriven n m ending edge residual level).get (Hid.trgHigh m) = 1 ∧
      (d.trgDriven n m ending edge residual level).get (Hid.trgEnd m) = (ending + 1) % (Hid.trgEnd m).modulus := by
  unfold trgDriven drive
  refine ⟨?_, ?_, ?_⟩
  · simp (disch := apply of_lt₂ hn hm; decide) only [get_out, get_set_ne, get_setB_ne, get_setI_self]
    exact (Nat.mod_eq_of_lt (Entry.ofInt_lt _ _)).symm
  · simp (disch := apply of_lt hm; decide) only [get_out, get_set_ne, get_setB_self, if_true]
    rfl
  · simp (disch := apply of_lt hm; decide) only [get_out, get_set_ne, get_set_self]

theorem emit_trgDriven (d : Dev) (n m ending edge : Nat) (residual : Int) (level : PinLevel) :
    (d.trgDriven n m ending edge residual level).emit = d.emit ++ [.edge (0x44 + m) level edge] := by
  rw [trgDriven, drive, emit_out, emit_set, emit_set, emit_setB, emit_setI]

end Dev

/-- A command at an instant of its own whose condition holds acts on the device there, and on nothing else. -/
theorem State.duringAt_next {s : State} {c : Bool} (h : c = true) (now : Nat) (f : Dev → Dev) :
    ∃ t, (.next (s.duringAt c now f) : Host.Outcome State Fault Refusal) = .next t ∧ t.dev = f (s.begin now) ∧ DeviceStep s t :=
  ⟨_, congrArg _ (State.duringAt_of h now f), rfl, s.deviceStep_onDevAt now f⟩

/-- The device as an armed timer's target finds it. -/
structure State.FiresOn (s : State) (n target : Nat) (d : Dev) : Prop where
  begin : d = s.begin (max s.start target)
  get : ∀ e, d.get e = s.dev.get e
  emit : d.emit = []
  posted : d.posted = s.dev.posted

/-- A timer whose target lies in the frame that runs fires: it is recorded, its destination driven, and the timer goes on or ends. -/
theorem State.timerFire_next {s : State} {n target dest : Nat} (htarget : (s.begin s.start).pendingTarget n = target)
    (hdest : s.dev.get (Dict.tmrDestination n) = dest) (hserves : s.serves .time = true) (harmed : s.dev.get (Dict.tmrState n) = 1)
    (hreached : target < s.clock.boundary) (hnear : s.clock.boundary ≤ s.start + 2 * frameUnits) :
    ∃ t d, exec (.timerFire n) s = .next t ∧ DeviceStep s t ∧ s.FiresOn n target d ∧
      t.dev = (if Dev.isPls dest then Dev.pulse n target ((d.recordFire n target).fireDest n target)
        else (d.recordFire n target).fireDest n target).afterFire n target := by
  have hcond : (s.serves .time && decide (target < s.clock.boundary)) = true := by
    rw [hserves, Bool.true_and, decide_eq_true hreached]
  obtain ⟨t, hexec, hdev, hstep⟩ := State.duringAt_next hcond (max s.start target) (·.fireTimer n)
  have hsame : (s.begin (max s.start target)).pendingTarget n = target := by
    rw [← htarget]
    exact ofCt64_max s.start (s.dev.get (Dict.tmrNextFire n))
  rw [Dev.fireTimer_of_armed (d := s.begin (max s.start target)) harmed (by rw [hsame]; exact Nat.lt_of_lt_of_le hreached hnear), hsame,
    show (s.begin (max s.start target)).get (Dict.tmrDestination n) = dest from hdest] at hdev
  exact ⟨t, s.begin (max s.start target), by rw [← hexec, ← htarget]; rfl, hstep, ⟨rfl, fun _ => rfl, rfl, rfl⟩, hdev⟩

/-- What every fire leaves of the timer: its count, its target, and the end of a one-shot timer. -/
theorem State.fire_spec {s t : State} {n target dest : Nat} {es : List Entry} {d₀ d : Dev} (hn : n < 32) (hfires : s.FiresOn n target d₀)
    (hstep : DeviceStep s t) (hdev : t.dev = d.afterFire n target) (hkeeps : Dev.Keeps es (d₀.recordFire n target) d)
    (hdest : s.dev.get (Dict.tmrDestination n) = dest)
    (hapart : ∀ e ∈ [Dict.tmrFireCount n, Dict.tmrLastFire n, Dict.tmrMode n, Dict.tmrDestination n], ∀ y ∈ es, y.addr ≠ e.addr) :
    Counts s t (Dict.tmrFireCount n) ∧ t.dev.get (Dict.tmrLastFire n) = toCt64 target ∧
      (s.dev.get (Dict.tmrMode n) = 1 → t.dev.get (Dict.tmrState n) = 2 ∧ t.dev.get (Dict.tmrNextFire n) = 0) ∧
      OnlyRegisters s t ([Dict.tmrFireCount n, Dict.tmrLastFire n] ++ es ++ Dev.afterFireRegisters n dest) := by
  obtain ⟨hlast, hcount⟩ := d₀.recordFire_spec hn target
  have hrecord := d₀.keeps_recordFire n target
  have hdest' : d.get (Dict.tmrDestination n) = dest := by
    rw [hkeeps _ (hapart _ (by simp)), hrecord _ (by apply of_lt hn; decide), hfires.get, hdest]
  have hend := hdest' ▸ Dev.keeps_afterFire (d := d) hn target
  have hafter : ∀ e ∈ [Dict.tmrFireCount n, Dict.tmrLastFire n], ∀ y ∈ Dev.afterFireRegisters n dest, y.addr ≠ e.addr := by
    intro e he y hy
    rcases List.mem_append.1 hy with hy | hy
    · have apart : ∀ n < 32, ∀ e ∈ [Dict.tmrFireCount n, Dict.tmrLastFire n],
          ∀ y ∈ [Hid.tmrTargets n, Dict.tmrState n, Dict.tmrNextFire n], y.addr ≠ e.addr := by decide
      exact apart n hn e he y hy
    · have apart : ∀ n < 32, ∀ e ∈ [Dict.tmrFireCount n, Dict.tmrLastFire n],
          (∀ m < 8, (Dict.trgOwner m).addr ≠ e.addr) ∧ ∀ p < 4, (Dict.plsOwner p).addr ≠ e.addr := by decide
      obtain ⟨htrg, hpls⟩ := apart n hn e he
      exact Dev.ownerRegisters_apart htrg hpls y hy
  refine ⟨?_, ?_, fun hmode => ?_, hstep.onlyRegisters ?_⟩
  · rw [Counts, hdev, hend _ (hafter _ (by simp)), hkeeps _ (hapart _ (by simp)), hcount, hfires.get]
  · rw [hdev, hend _ (hafter _ (by simp)), hkeeps _ (hapart _ (by simp)), hlast]
  · rw [hdev]
    refine Dev.afterFire_oneShot hn target ?_
    rw [hkeeps _ (hapart _ (by simp)), hrecord _ (by apply of_lt hn; decide), hfires.get, hmode]
  · rw [hdev]
    have hfirst : Dev.Keeps [Dict.tmrLastFire n, Dict.tmrFireCount n] s.dev (d₀.recordFire n target) := fun e he =>
      (hrecord e he).trans (hfires.get e)
    exact ((hfirst.mono (by simp)).trans (hkeeps.mono fun _ he => List.mem_append_left _ (List.mem_append_right _ he))).trans
      (hend.mono (List.subset_append_right _ _))

namespace Dev

theorem get_destination_recordFire (d : Dev) {n : Nat} (hn : n < 32) (target : Nat) :
    (d.recordFire n target).get (Dict.tmrDestination n) = d.get (Dict.tmrDestination n) :=
  keeps_recordFire d n target _ (by apply of_lt hn; decide)

/-- An internal line pulses at the target (R131). -/
theorem fireDest_it {d : Dev} {n instant : Nat} (hlow : 0x10 ≤ d.get (Dict.tmrDestination n)) (hhigh : d.get (Dict.tmrDestination n) ≤ 0x1F) :
    d.fireDest n instant = d.out (.line (d.get (Dict.tmrDestination n) - 0x10) instant) := by
  have htrg : isTrg (d.get (Dict.tmrDestination n)) = false := decide_eq_false (by omega)
  have hit : isIt (d.get (Dict.tmrDestination n)) = true := decide_eq_true ⟨hlow, hhigh⟩
  simp only [fireDest, htrg, hit, Bool.false_eq_true, if_false, if_true]

/-- A pulse output places its own pulses (R276). -/
theorem fireDest_pls {d : Dev} {n instant : Nat} (hlow : 0x20 ≤ d.get (Dict.tmrDestination n)) : d.fireDest n instant = d := by
  have htrg : isTrg (d.get (Dict.tmrDestination n)) = false := decide_eq_false (by omega)
  have hit : isIt (d.get (Dict.tmrDestination n)) = false := decide_eq_false (by omega)
  simp only [fireDest, htrg, hit, Bool.false_eq_true, if_false]

/-- The edge of a TRG output ahead of an instant by its compensations (R131, R133). -/
def trgEdge (d : Dev) (m instant : Nat) : Rat × Int :=
  placeEdge ((instant : Rat) - ((pathDelay m : Nat) : Rat) - (d.getI (Dict.trgBoardDelay m) : Rat))

/-- An instant after an edge by a width in nanoseconds. -/
def widthEnd (edge : Rat) (ns : Nat) : Nat := (edge + ((ns * unitsPerNs : Nat) : Rat)).floor.toNat

/-- An enabled TRG output is driven active at its edge, with the residual and the end of its width (R131, R132). -/
theorem fireDest_trg {d : Dev} {n m instant : Nat} {placed : Rat} {residual : Int} (hn : n < 32) (hm : m < 8)
    (hdest : d.get (Dict.tmrDestination n) = m) (hon : d.is (Dict.trgEnable m) = true) (hin : d.is (Hid.trgRemoved m) = false)
    (hedge : d.trgEdge m instant = (placed, residual)) :
    d.fireDest n instant = d.trgDriven n m (widthEnd placed (d.get (Dict.tmrWidth n))) placed.floor.toNat residual
      (pulseLevel (d.get (Dict.trgPolarity m)) true) := by
  have htrg : isTrg m = true := decide_eq_true hm
  have hon' : (d.setI (Dict.tmrLastResidual n) residual).is (Dict.trgEnable m) = true :=
    (get_is_of_eq (get_setI_ne _ _ _ _ (by apply of_lt₂ hn hm; decide))).trans hon
  have hin' : (d.setI (Dict.tmrLastResidual n) residual).is (Hid.trgRemoved m) = false :=
    (get_is_of_eq (get_setI_ne _ _ _ _ (by apply of_lt₂ hn hm; decide))).trans hin
  have hwidth : (d.setI (Dict.tmrLastResidual n) residual).get (Dict.tmrWidth n) = d.get (Dict.tmrWidth n) :=
    get_setI_ne _ _ _ _ (by apply of_lt hn; decide)
  have hpolarity : ∀ v, (((d.setI (Dict.tmrLastResidual n) residual).setB (Hid.trgHigh m) true).set (Hid.trgEnd m) v).get
      (Dict.trgPolarity m) = d.get (Dict.trgPolarity m) := fun v => by
    rw [get_set_ne _ _ _ _ (by apply of_lt hm; decide), get_setB_ne _ _ _ _ (by apply of_lt hm; decide),
      get_setI_ne _ _ _ _ (by apply of_lt₂ hn hm; decide)]
  unfold trgEdge at hedge
  simp only [fireDest, hdest, htrg, if_true, hedge, hon', hin', hwidth, hpolarity, Bool.not_false, Bool.and_self, widthEnd, trgDriven]

end Dev

/-- A fire of an internal line. -/
theorem State.timerFire_it {s : State} {n target dest : Nat} (hn : n < 32) (htarget : (s.begin s.start).pendingTarget n = target)
    (hdest : s.dev.get (Dict.tmrDestination n) = dest) (hserves : s.serves .time = true) (harmed : s.dev.get (Dict.tmrState n) = 1)
    (hreached : target < s.clock.boundary) (hnear : s.clock.boundary ≤ s.start + 2 * frameUnits) (hlow : 0x10 ≤ dest) (hhigh : dest ≤ 0x1F) :
    ∃ t, exec (.timerFire n) s = .next t ∧ Counts s t (Dict.tmrFireCount n) ∧ t.dev.get (Dict.tmrLastFire n) = toCt64 target ∧
      t.dev.emit = [.line (dest - 0x10) target] ∧
      (s.dev.get (Dict.tmrMode n) = 1 → t.dev.get (Dict.tmrState n) = 2 ∧ t.dev.get (Dict.tmrNextFire n) = 0) ∧
      OnlyRegisters s t [Dict.tmrFireCount n, Dict.tmrLastFire n, Hid.tmrTargets n, Dict.tmrState n, Dict.tmrNextFire n] := by
  obtain ⟨t, d, hexec, hstep, hfires, hdev⟩ := State.timerFire_next htarget hdest hserves harmed hreached hnear
  have hdest' : (d.recordFire n target).get (Dict.tmrDestination n) = dest := by
    rw [Dev.get_destination_recordFire _ hn target, hfires.get, hdest]
  have hpls : Dev.isPls dest = false := decide_eq_false (by omega)
  have htrg : Dev.isTrg dest = false := decide_eq_false (by omega)
  rw [if_neg (by rw [hpls]; exact Bool.false_ne_true), Dev.fireDest_it (by rw [hdest']; exact hlow) (by rw [hdest']; exact hhigh), hdest'] at hdev
  obtain ⟨hcount, hlast, hdone, honly⟩ := State.fire_spec (es := []) (dest := dest) hn hfires hstep hdev (fun _ _ => rfl) hdest (by simp)
  refine ⟨t, hexec, hcount, hlast, ?_, hdone, ?_⟩
  · rw [hdev, Dev.of_rest (g := Dev.emit) (Dev.rest_afterFire _ n target), Dev.emit_out, Dev.emit_recordFire, hfires.emit]
    rfl
  · simpa [Dev.afterFireRegisters, Dev.ownerRegisters, htrg, hpls] using honly

theorem trgRegisters_apart {n m : Nat} (hn : n < 32) (hm : m < 8) :
    (∀ e ∈ [Dict.tmrFireCount n, Dict.tmrLastFire n, Dict.tmrMode n, Dict.tmrDestination n], ∀ y ∈ trgRegisters n m, y.addr ≠ e.addr) ∧
      ∀ e ∈ trgRegisters n m, ∀ y ∈ [Hid.tmrTargets n, Dict.tmrState n, Dict.tmrNextFire n, Dict.trgOwner m], y.addr ≠ e.addr := by
  revert m
  revert n
  decide

theorem fireRegisters_trg_subset (n m : Nat) :
    [Dict.tmrFireCount n, Dict.tmrLastFire n] ++ trgRegisters n m ++ [Hid.tmrTargets n, Dict.tmrState n, Dict.tmrNextFire n, Dict.trgOwner m] ⊆
      [Dict.tmrFireCount n, Dict.tmrLastFire n, Hid.tmrTargets n, Dict.tmrState n, Dict.tmrNextFire n,
        Dict.tmrLastResidual n, Hid.trgHigh m, Hid.trgEnd m, Hid.pinLevel (0x44 + m), Dict.trgOwner m] := by
  simp only [trgRegisters, List.cons_append, List.nil_append, List.cons_subset, List.mem_cons, true_or, or_true, and_self, List.nil_subset]

/-- A fire of a TRG output that is enabled. -/
theorem State.timerFire_trg {s : State} {n target m : Nat} {placed : Rat} {residual : Int} (hn : n < 32)
    (htarget : (s.begin s.start).pendingTarget n = target) (hdest : s.dev.get (Dict.tmrDestination n) = m) (hserves : s.serves .time = true)
    (harmed : s.dev.get (Dict.tmrState n) = 1) (hreached : target < s.clock.boundary) (hnear : s.clock.boundary ≤ s.start + 2 * frameUnits)
    (hm : m < 8) (hon : s.dev.is (Dict.trgEnable m) = true) (hin : s.dev.is (Hid.trgRemoved m) = false)
    (hedge : s.dev.trgEdge m target = (placed, residual)) :
    let ending := Dev.widthEnd placed (s.dev.get (Dict.tmrWidth n))
    ∃ t, exec (.timerFire n) s = .next t ∧ Counts s t (Dict.tmrFireCount n) ∧ t.dev.get (Dict.tmrLastFire n) = toCt64 target ∧
      t.dev.get (Dict.tmrLastResidual n) = (Dict.tmrLastResidual n).ofInt residual % (Dict.tmrLastResidual n).modulus ∧
      t.dev.get (Hid.trgHigh m) = 1 ∧ t.dev.get (Hid.trgEnd m) = (ending + 1) % (Hid.trgEnd m).modulus ∧
      t.dev.emit = [.edge (0x44 + m) (Dev.pulseLevel (s.dev.get (Dict.trgPolarity m)) true) placed.floor.toNat] ∧
      OnlyRegisters s t [Dict.tmrFireCount n, Dict.tmrLastFire n, Hid.tmrTargets n, Dict.tmrState n, Dict.tmrNextFire n,
        Dict.tmrLastResidual n, Hid.trgHigh m, Hid.trgEnd m, Hid.pinLevel (0x44 + m), Dict.trgOwner m] := by
  intro ending
  obtain ⟨t, d, hexec, hstep, hfires, hdev⟩ := State.timerFire_next htarget hdest hserves harmed hreached hnear
  have hrecord : ∀ {e : Entry}, (Dict.tmrLastFire n).addr ≠ e.addr → (Dict.tmrFireCount n).addr ≠ e.addr →
      (d.recordFire n target).get e = s.dev.get e := fun hlast hcount =>
    ((d.keeps_recordFire n target) _ (by simp [hlast, hcount])).trans (hfires.get _)
  have htrg : Dev.isTrg m = true := decide_eq_true hm
  have hpls : Dev.isPls m = false := decide_eq_false (by omega)
  have hedge' : (d.recordFire n target).trgEdge m target = (placed, residual) := by
    rw [← hedge, Dev.trgEdge, Dev.trgEdge, Dev.getI, Dev.getI,
      hrecord (by apply of_lt₂ hn hm; decide) (by apply of_lt₂ hn hm; decide)]
  rw [if_neg (by rw [hpls]; exact Bool.false_ne_true), Dev.fireDest_trg hn hm
    ((hrecord (by apply of_lt hn; decide) (by apply of_lt hn; decide)).trans hdest)
    ((Dev.get_is_of_eq (hrecord (by apply of_lt₂ hn hm; decide) (by apply of_lt₂ hn hm; decide))).trans hon)
    ((Dev.get_is_of_eq (hrecord (by apply of_lt₂ hn hm; decide) (by apply of_lt₂ hn hm; decide))).trans hin)
    hedge', hrecord (e := Dict.tmrWidth n) (by apply of_lt hn; decide) (by apply of_lt hn; decide),
    hrecord (e := Dict.trgPolarity m) (by apply of_lt₂ hn hm; decide) (by apply of_lt₂ hn hm; decide)] at hdev
  obtain ⟨hapart, hlater⟩ := trgRegisters_apart hn hm
  obtain ⟨hcount, hlast, -, honly⟩ := State.fire_spec (dest := m) hn hfires hstep hdev (Dev.keeps_trgDriven _ _ _ _ _ _ _) hdest hapart
  have hread : ∀ e ∈ trgRegisters n m, t.dev.get e = ((d.recordFire n target).trgDriven n m ending placed.floor.toNat residual
      (Dev.pulseLevel (s.dev.get (Dict.trgPolarity m)) true)).get e := fun e he => by
    rw [hdev]
    refine Dev.keeps_afterFire hn target e ?_
    rw [Dev.keeps_trgDriven _ _ _ _ _ _ _ _ (hapart _ (by simp)),
      hrecord (by apply of_lt hn; decide) (by apply of_lt hn; decide), hdest]
    rw [Dev.afterFireRegisters_trg hm]
    exact hlater e he
  obtain ⟨hresidual, hhigh, hend⟩ := Dev.trgDriven_spec (d.recordFire n target) hn hm ending placed.floor.toNat residual
    (Dev.pulseLevel (s.dev.get (Dict.trgPolarity m)) true)
  refine ⟨t, hexec, hcount, hlast, (hread _ (by simp [trgRegisters])).trans hresidual, (hread _ (by simp [trgRegisters])).trans hhigh,
    (hread _ (by simp [trgRegisters])).trans hend, ?_, honly.1, honly.2.1, honly.2.2.1, honly.2.2.2.1, fun e he =>
    honly.2.2.2.2 e fun y hy => he y ?_⟩
  · rw [hdev, Dev.of_rest (g := Dev.emit) (Dev.rest_afterFire _ n target), Dev.emit_trgDriven, Dev.emit_recordFire, hfires.emit]
    rfl
  · rw [Dev.afterFireRegisters_trg hm] at hy
    exact fireRegisters_trg_subset n m hy

/-! ### Pulse outputs -/

/-- What a pulse of a pulse output writes. -/
def plsRegisters (n p : Nat) : List Entry :=
  [Dict.tmrLastResidual n, Dict.plsFollowApplied p, Dict.plsCount p, Hid.plsHigh p, Hid.plsEnd p, Hid.pinLevel (0x40 + p)]

namespace Dev

/-- A pulse output takes a pulse with its residual, its F in follow mode, and the end of its width (R131, R276). -/
def plsDriven (d : Dev) (n p ending edge : Nat) (residual : Int) (follow : Option Int) (level : PinLevel) : Dev :=
  let d := d.setI (Dict.tmrLastResidual n) residual
  let d := match follow with
    | some f => d.setI (Dict.plsFollowApplied p) f
    | none => d
  (((d.inc (Dict.plsCount p)).setB (Hid.plsHigh p) true).set (Hid.plsEnd p) (ending + 1)).drive (0x40 + p) level edge

theorem keeps_plsDriven (d : Dev) (n p ending edge : Nat) (residual : Int) (follow : Option Int) (level : PinLevel) :
    Keeps (plsRegisters n p) d (d.plsDriven n p ending edge residual follow level) := by
  have hfirst : Keeps (plsRegisters n p) d (d.setI (Dict.tmrLastResidual n) residual) := (Keeps.refl _ d).setI (by simp [plsRegisters]) _
  have hrest : ∀ {y : Dev}, Keeps (plsRegisters n p) d y → Keeps (plsRegisters n p) d
      ((((y.inc (Dict.plsCount p)).setB (Hid.plsHigh p) true).set (Hid.plsEnd p) (ending + 1)).drive (0x40 + p) level edge) := fun h =>
    ((((h.inc (by simp [plsRegisters])).setB (by simp [plsRegisters]) _).set (by simp [plsRegisters]) _).set (by simp [plsRegisters]) _).out _
  cases follow with
  | none => exact hrest hfirst
  | some f => exact hrest (hfirst.setI (by simp [plsRegisters]) f)

theorem plsDriven_spec (d : Dev) {n p : Nat} (hn : n < 32) (hp : p < 4) (ending edge : Nat) (residual : Int) (follow : Option Int)
    (level : PinLevel) :
    (d.plsDriven n p ending edge residual follow level).get (Dict.tmrLastResidual n) =
        (Dict.tmrLastResidual n).ofInt residual % (Dict.tmrLastResidual n).modulus ∧
      (d.plsDriven n p ending edge residual follow level).get (Dict.plsCount p) =
        min (d.get (Dict.plsCount p) + 1) ((Dict.plsCount p).modulus - 1) ∧
      (d.plsDriven n p ending edge residual follow level).get (Hid.plsHigh p) = 1 ∧
      (d.plsDriven n p ending edge residual follow level).get (Hid.plsEnd p) = (ending + 1) % (Hid.plsEnd p).modulus := by
  unfold plsDriven drive
  refine ⟨?_, ?_, ?_, ?_⟩
  · cases follow <;>
      simp (disch := apply of_lt₂ hn hp; decide) only [get_out, get_set_ne, get_setB_ne, get_inc_ne, get_setI_ne, get_setI_self,
        Nat.mod_eq_of_lt (Entry.ofInt_lt _ _)]
  · cases follow <;>
      simp (disch := apply of_lt₂ hn hp; decide) only [get_out, get_set_ne, get_setB_ne, get_inc, get_setI_ne]
  · simp (disch := apply of_lt hp; decide) only [get_out, get_set_ne, get_setB_self, if_true]
    rfl
  · simp (disch := apply of_lt hp; decide) only [get_out, get_set_ne, get_set_self]

theorem emit_plsDriven (d : Dev) (n p ending edge : Nat) (residual : Int) (follow : Option Int) (level : PinLevel) :
    (d.plsDriven n p ending edge residual follow level).emit = d.emit ++ [.edge (0x40 + p) level edge] := by
  cases follow <;> simp only [plsDriven, drive, emit_out, emit_set, emit_setB, emit_inc, emit_setI]

theorem intendedEdge_congr {d d' : Dev} {p : Nat} (target : Nat) (hfrozen : d'.frozen = d.frozen)
    (hget : ∀ e ∈ [Dict.regionTemp 3, Dict.plsBoardDelay p, Dict.plsMode p, Hid.plsF p], d'.get e = d.get e) :
    d'.intendedEdge p target = d.intendedEdge p target := by
  simp only [intendedEdge, followOf, frozenOf, edgeWith, outPathPs, getI, hfrozen, hget (Dict.regionTemp 3) (by simp),
    hget (Dict.plsBoardDelay p) (by simp), hget (Dict.plsMode p) (by simp), hget (Hid.plsF p) (by simp)]

/-- A pulse that starts (R270, R276, R279). -/
theorem pulse_starts {d : Dev} {n p target : Nat} {placed : Rat} {residual : Int} (hn : n < 32) (hp : p < 4)
    (hdest : d.get (Dict.tmrDestination n) = 0x20 + p) (hbar : d.barOf p target = 0) (hstarts : d.pulsesStart p = true)
    (hedge : placeEdge (d.intendedEdge p target) = (placed, residual)) :
    ∃ follow, pulse n target d = d.plsDriven n p (widthEnd placed (d.get (Dict.plsWidth p))) placed.floor.toNat residual follow
      (pulseLevel (d.get (Dict.plsPolarity p)) true) := by
  have hunit : 0x20 + p - 0x20 = p := by omega
  have hset : ∀ {e : Entry}, (Dict.tmrLastResidual n).addr ≠ e.addr → (d.setI (Dict.tmrLastResidual n) residual).get e = d.get e :=
    fun h => get_setI_ne _ _ _ _ h
  have hstarts' : (d.setI (Dict.tmrLastResidual n) residual).pulsesStart p = true := by
    rw [← hstarts]
    simp (disch := apply of_lt₂ hn hp; decide) only [pulsesStart, is, hset]
  refine ⟨if d.get (Dict.plsMode p) = 1 then some ((d.setI (Dict.tmrLastResidual n) residual).followOf p target) else none, ?_⟩
  unfold pulse
  simp only [hdest, hunit, hbar, hedge, hstarts', Bool.not_true, Bool.false_eq_true, if_false, ne_eq, not_true,
    hset (e := Dict.plsMode p) (by apply of_lt₂ hn hp; decide)]
  split
  · simp (disch := apply of_lt₂ hn hp; decide) only [plsDriven, widthEnd, get_set_ne, get_setB_ne, get_inc_ne, get_setI_ne]
  · simp (disch := apply of_lt₂ hn hp; decide) only [plsDriven, widthEnd, get_set_ne, get_setB_ne, get_inc_ne, get_setI_ne]

end Dev

theorem plsRegisters_apart {n p : Nat} (hn : n < 32) (hp : p < 4) :
    (∀ e ∈ [Dict.tmrFireCount n, Dict.tmrLastFire n, Dict.tmrMode n, Dict.tmrDestination n], ∀ y ∈ plsRegisters n p, y.addr ≠ e.addr) ∧
      ∀ e ∈ plsRegisters n p, ∀ y ∈ [Hid.tmrTargets n, Dict.tmrState n, Dict.tmrNextFire n, Dict.plsOwner p], y.addr ≠ e.addr := by
  revert p
  revert n
  decide

theorem fireRegisters_pls_subset (n p : Nat) :
    [Dict.tmrFireCount n, Dict.tmrLastFire n] ++ plsRegisters n p ++ [Hid.tmrTargets n, Dict.tmrState n, Dict.tmrNextFire n, Dict.plsOwner p] ⊆
      [Dict.tmrFireCount n, Dict.tmrLastFire n, Hid.tmrTargets n, Dict.tmrState n, Dict.tmrNextFire n,
        Dict.tmrLastResidual n, Hid.plsHigh p, Hid.plsEnd p, Hid.pinLevel (0x40 + p), Dict.plsOwner p, Dict.plsCount p,
        Dict.plsFollowApplied p] := by
  simp only [plsRegisters, List.cons_append, List.nil_append, List.cons_subset, List.mem_cons, true_or, or_true, and_self, List.nil_subset]

/-- A fire of a pulse output whose pulse starts. -/
theorem State.timerFire_pls {s : State} {n p target : Nat} {placed : Rat} {residual : Int} (hn : n < 32) (hp : p < 4)
    (htarget : (s.begin s.start).pendingTarget n = target) (hdest : s.dev.get (Dict.tmrDestination n) = 0x20 + p)
    (hserves : s.serves .time = true) (harmed : s.dev.get (Dict.tmrState n) = 1) (hreached : target < s.clock.boundary)
    (hnear : s.clock.boundary ≤ s.start + 2 * frameUnits) (hbar : s.dev.barOf p target = 0) (hstarts : s.dev.pulsesStart p = true)
    (hedge : Dev.placeEdge (s.dev.intendedEdge p target) = (placed, residual)) :
    let ending := Dev.widthEnd placed (s.dev.get (Dict.plsWidth p))
    ∃ t, exec (.timerFire n) s = .next t ∧ Counts s t (Dict.tmrFireCount n) ∧ t.dev.get (Dict.tmrLastFire n) = toCt64 target ∧
      t.dev.get (Dict.tmrLastResidual n) = (Dict.tmrLastResidual n).ofInt residual % (Dict.tmrLastResidual n).modulus ∧
      Counts s t (Dict.plsCount p) ∧ t.dev.get (Hid.plsHigh p) = 1 ∧ t.dev.get (Hid.plsEnd p) = (ending + 1) % (Hid.plsEnd p).modulus ∧
      t.dev.emit = [.edge (0x40 + p) (Dev.pulseLevel (s.dev.get (Dict.plsPolarity p)) true) placed.floor.toNat] ∧
      OnlyRegisters s t [Dict.tmrFireCount n, Dict.tmrLastFire n, Hid.tmrTargets n, Dict.tmrState n, Dict.tmrNextFire n,
        Dict.tmrLastResidual n, Hid.plsHigh p, Hid.plsEnd p, Hid.pinLevel (0x40 + p), Dict.plsOwner p, Dict.plsCount p, Dict.plsFollowApplied p] := by
  intro ending
  obtain ⟨t, d, hexec, hstep, hfires, hdev⟩ := State.timerFire_next htarget hdest hserves harmed hreached hnear
  have hrecord : ∀ {e : Entry}, (Dict.tmrLastFire n).addr ≠ e.addr → (Dict.tmrFireCount n).addr ≠ e.addr →
      (d.recordFire n target).get e = s.dev.get e := fun hlast hcount =>
    ((d.keeps_recordFire n target) _ (by simp [hlast, hcount])).trans (hfires.get _)
  have hrest : (d.recordFire n target).rest = d.rest := by rw [Dev.recordFire, Dev.rest_inc, Dev.rest_set]
  have hdest' : (d.recordFire n target).get (Dict.tmrDestination n) = 0x20 + p :=
    (hrecord (by apply of_lt hn; decide) (by apply of_lt hn; decide)).trans hdest
  have hpls : Dev.isPls (0x20 + p) = true := decide_eq_true (by omega)
  have htrg : Dev.isTrg (0x20 + p) = false := decide_eq_false (by omega)
  have hstarts' : (d.recordFire n target).pulsesStart p = true := by
    rw [← hstarts]
    simp (disch := apply of_lt₂ hn hp; decide) only [Dev.pulsesStart, Dev.is, hrecord]
  have hbar' : (d.recordFire n target).barOf p target = 0 := by
    rw [Dev.of_rest (g := fun y => y.barOf p target) hrest, hfires.begin]
    exact hbar
  have hedge' : Dev.placeEdge ((d.recordFire n target).intendedEdge p target) = (placed, residual) := by
    rw [← hedge, Dev.intendedEdge_congr (d := s.dev) target]
    · rw [Dev.of_rest (g := Dev.frozen) hrest, hfires.begin]
      rfl
    · intro e he
      have apart : ∀ n < 32, ∀ p < 4, ∀ e ∈ [Dict.regionTemp 3, Dict.plsBoardDelay p, Dict.plsMode p, Hid.plsF p],
          (Dict.tmrLastFire n).addr ≠ e.addr ∧ (Dict.tmrFireCount n).addr ≠ e.addr := by decide
      obtain ⟨hlast, hcount⟩ := apart n hn p hp e he
      exact hrecord hlast hcount
  rw [if_pos hpls, Dev.fireDest_pls (by rw [hdest']; exact Nat.le_add_right _ _)] at hdev
  obtain ⟨follow, hpulse⟩ := Dev.pulse_starts hn hp hdest' hbar' hstarts' hedge'
  rw [hpulse, hrecord (e := Dict.plsWidth p) (by apply of_lt₂ hn hp; decide) (by apply of_lt₂ hn hp; decide),
    hrecord (e := Dict.plsPolarity p) (by apply of_lt₂ hn hp; decide) (by apply of_lt₂ hn hp; decide)] at hdev
  obtain ⟨hapart, hlater⟩ := plsRegisters_apart hn hp
  obtain ⟨hcount, hlast, -, honly⟩ :=
    State.fire_spec (dest := 0x20 + p) hn hfires hstep hdev (Dev.keeps_plsDriven _ _ _ _ _ _ _ _) hdest hapart
  have hread : ∀ e ∈ plsRegisters n p, t.dev.get e = ((d.recordFire n target).plsDriven n p ending placed.floor.toNat residual follow
      (Dev.pulseLevel (s.dev.get (Dict.plsPolarity p)) true)).get e := fun e he => by
    rw [hdev]
    refine Dev.keeps_afterFire hn target e fun y hy => hlater e he y ?_
    rw [Dev.keeps_plsDriven _ _ _ _ _ _ _ _ _ (hapart _ (by simp)), hdest', Dev.afterFireRegisters_pls hp] at hy
    exact hy
  obtain ⟨hresidual, hpulses, hhigh, hend⟩ := Dev.plsDriven_spec (d.recordFire n target) hn hp ending placed.floor.toNat residual follow
    (Dev.pulseLevel (s.dev.get (Dict.plsPolarity p)) true)
  refine ⟨t, hexec, hcount, hlast, (hread _ (by simp [plsRegisters])).trans hresidual, ?_, (hread _ (by simp [plsRegisters])).trans hhigh,
    (hread _ (by simp [plsRegisters])).trans hend, ?_, honly.1, honly.2.1, honly.2.2.1, honly.2.2.2.1, fun e he =>
    honly.2.2.2.2 e fun y hy => he y ?_⟩
  · rw [Counts, hread _ (by simp [plsRegisters]), hpulses,
      hrecord (by apply of_lt₂ hn hp; decide) (by apply of_lt₂ hn hp; decide)]
  · rw [hdev, Dev.of_rest (g := Dev.emit) (Dev.rest_afterFire _ n target), Dev.emit_plsDriven, Dev.emit_recordFire, hfires.emit]
    rfl
  · rw [Dev.afterFireRegisters_pls hp] at hy
    exact fireRegisters_pls_subset n p hy

/-! ### Arming and disarming at S0 -/

namespace Dev

theorem applyGroup_tmrArm (d : Dev) {n : Nat} (hn : n < 32) (v : Value) :
    d.applyGroup [(Dict.tmrArm n).item v] [] = if v.value = 1 then d.armTimer n else d.disarmTimer n := by
  have hunit : unitOf Dict.tmrArm 32 (Dict.tmrArm n) = some n := by apply of_lt hn; decide
  rw [applyGroup_command (by apply of_lt hn; decide) rfl, applyCommand]
  simp only [hunit]

theorem get_ownDest (d : Dev) (n : Nat) (own : Bool) {e : Entry} (htrg : ∀ m < 8, (Dict.trgOwner m).addr ≠ e.addr)
    (hpls : ∀ p < 4, (Dict.plsOwner p).addr ≠ e.addr) : (d.ownDest n own).get e = d.get e :=
  ((Keeps.refl (ownerRegisters (d.get (Dict.tmrDestination n))) d).ownDest (List.Subset.refl _) own) e (ownerRegisters_apart htrg hpls)

/-- An armed timer of mode 0x03 has its first aligned target, and no fire counted (R123). -/
theorem armTimer_aligned {d : Dev} {n : Nat} (hn : n < 32) (hmode : d.get (Dict.tmrMode n) = 3) :
    (d.armTimer n).get (Dict.tmrState n) = 1 ∧ (d.armTimer n).get (Dict.tmrFireCount n) = 0 ∧
      (d.armTimer n).get (Dict.tmrNextFire n) = toCt64 (d.nextAligned n (d.view.frameStart + microsecond) true) := by
  have hcleared : Keeps [Dict.tmrFireCount n, Dict.tmrMissCount n, Hid.tmrTargets n] d
      (d.clearAll [Dict.tmrFireCount n, Dict.tmrMissCount n, Hid.tmrTargets n]) := (Keeps.refl _ d).clearAll (List.Subset.refl _)
  have hcount : (d.clearAll [Dict.tmrFireCount n, Dict.tmrMissCount n, Hid.tmrTargets n]).get (Dict.tmrFireCount n) = 0 :=
    get_clearAll_of_mem d (by simp) (by apply of_lt hn; decide)
  generalize hx : d.clearAll [Dict.tmrFireCount n, Dict.tmrMissCount n, Hid.tmrTargets n] = x at hcleared hcount
  have hread : ∀ e ∈ [Dict.tmrMode n, Dict.tmrPeriod n, Dict.tmrOffset n],
      ((x.set (Dict.tmrState n) 1).ownDest n true).get e = d.get e := by
    intro e he
    have apart : ∀ n < 32, ∀ e ∈ [Dict.tmrMode n, Dict.tmrPeriod n, Dict.tmrOffset n],
        (∀ m < 8, (Dict.trgOwner m).addr ≠ e.addr) ∧ (∀ p < 4, (Dict.plsOwner p).addr ≠ e.addr) ∧ (Dict.tmrState n).addr ≠ e.addr ∧
          ∀ x ∈ [Dict.tmrFireCount n, Dict.tmrMissCount n, Hid.tmrTargets n], x.addr ≠ e.addr := by decide
    obtain ⟨htrg, hpls, hstate, hcounts⟩ := apart n hn e he
    rw [get_ownDest _ _ _ htrg hpls, get_set_ne _ _ _ _ hstate, hcleared _ hcounts]
  have hnext : ((x.set (Dict.tmrState n) 1).ownDest n true).nextAligned n (d.view.frameStart + microsecond) true =
      d.nextAligned n (d.view.frameStart + microsecond) true := by
    simp only [nextAligned, hread (Dict.tmrPeriod n) (by simp), hread (Dict.tmrOffset n) (by simp)]
  have harm : d.armTimer n = ((x.set (Dict.tmrState n) 1).ownDest n true).setNext n (d.nextAligned n (d.view.frameStart + microsecond) true) := by
    simp only [armTimer, hx, hread (Dict.tmrMode n) (by simp), hmode, if_true, hnext]
  rw [harm, setNext]
  refine ⟨?_, ?_, get_lt_of_set _ _ (Nat.mod_lt _ (by decide))⟩
  · rw [get_set_ne _ _ _ _ (by apply of_lt hn; decide),
      get_ownDest _ _ _ (by apply of_lt hn; decide) (by apply of_lt hn; decide)]
    exact get_lt_of_set _ _ (show 1 < 256 by decide)
  · rw [get_set_ne _ _ _ _ (by apply of_lt hn; decide),
      get_ownDest _ _ _ (by apply of_lt hn; decide) (by apply of_lt hn; decide),
      get_set_ne _ _ _ _ (by apply of_lt hn; decide), hcount]

/-- A disarmed timer is Idle, and no TRG pulse ends with it (R127). -/
theorem disarmTimer_spec (d : Dev) {n : Nat} (hn : n < 32) :
    (d.disarmTimer n).get (Dict.tmrState n) = 0 ∧ ∀ m, (d.disarmTimer n).get (Hid.trgHigh m) = d.get (Hid.trgHigh m) := by
  unfold disarmTimer
  split
  · next hidle => exact ⟨hidle, fun _ => rfl⟩
  · unfold endTimer
    refine ⟨?_, fun m => ?_⟩
    · rw [get_ownDest _ _ _ (by apply of_lt hn; decide) (by apply of_lt hn; decide),
        get_clear_ne _ _ _ (by apply of_lt hn; decide), get_set_self]
      rfl
    · have hsub : ∀ {e : Entry}, e.sub ≠ 17 → e.sub < 256 → e.addr ≠ (Hid.trgHigh m).addr := fun hne hlt =>
        Entry.addr_ne_of_sub hne hlt (show 17 < 256 by decide)
      rw [get_ownDest _ _ _ (fun _ _ => hsub (show 5 ≠ 17 by decide) (show 5 < 256 by decide))
          (fun _ _ => hsub (show 12 ≠ 17 by decide) (show 12 < 256 by decide)),
        get_clear_ne _ _ _ (hsub (show 16 ≠ 17 by decide) (show 16 < 256 by decide)),
        get_set_ne _ _ _ _ (hsub (show 10 ≠ 17 by decide) (show 10 < 256 by decide))]

/-! ### The end of a TRG pulse -/

theorem code_lt (level : PinLevel) : level.code < 256 := by
  cases level <;> decide

theorem trgLevel_congr {d d' : Dev} {m : Nat} (h : ∀ e ∈ [Dict.trgPolarity m, Dict.trgEnable m, Hid.trgRemoved m, Dict.trgIdle m, Hid.trgHigh m,
    Dict.trgOwner m], d'.get e = d.get e) : d'.trgLevel m = d.trgLevel m := by
  simp only [trgLevel, h (Dict.trgPolarity m) (by simp), get_is_of_eq (h (Dict.trgEnable m) (by simp)),
    get_is_of_eq (h (Hid.trgRemoved m) (by simp)), h (Dict.trgIdle m) (by simp), get_is_of_eq (h (Hid.trgHigh m) (by simp)),
    h (Dict.trgOwner m) (by simp)]

/-- A pin that is driven to a level reads it; the edge leaves where it did not read it before. -/
theorem driveNew_spec (d : Dev) (pin at_ : Nat) (level : PinLevel) :
    (d.driveNew pin level at_).get (Hid.pinLevel pin) = level.code ∧
      (d.driveNew pin level at_).emit = d.emit ++ (if d.get (Hid.pinLevel pin) = level.code then [] else [.edge pin level at_]) ∧
      (d.driveNew pin level at_).posted = d.posted ∧ Keeps [Hid.pinLevel pin] d (d.driveNew pin level at_) := by
  unfold driveNew drive
  split
  · next hsame => exact ⟨hsame, by rw [List.append_nil], rfl, .refl _ d⟩
  · refine ⟨?_, by rw [emit_out, emit_set], by rw [posted_out, posted_set], ((Keeps.refl _ d).set (by simp) _).out _⟩
    rw [get_out]
    exact get_lt_of_set _ _ (code_lt level)

end Dev

/-- The end of a TRG pulse (R127, R132). -/
theorem State.trgPulseEnd_next {s : State} {m : Nat} (hm : m < 8) (hserves : s.serves .synth = true) (hhigh : s.dev.is (Hid.trgHigh m) = true)
    (hend : s.dev.get (Hid.trgEnd m) ≤ s.clock.boundary) :
    ∃ t, exec (.trgPulseEnd m) s = .next t ∧ t.dev.get (Hid.trgHigh m) = 0 ∧ t.dev.get (Hid.trgEnd m) = 0 ∧
      t.dev.get (Hid.pinLevel (0x44 + m)) = (t.dev.trgLevel m).code ∧
      t.dev.emit = (if s.dev.get (Hid.pinLevel (0x44 + m)) = (t.dev.trgLevel m).code then []
        else [.edge (0x44 + m) (t.dev.trgLevel m) (s.dev.get (Hid.trgEnd m) - 1)]) ∧
      PresentsNone s t ∧ OnlyRegisters s t [Hid.trgHigh m, Hid.trgEnd m, Hid.pinLevel (0x44 + m)] := by
  have hcond : (s.serves .synth && s.dev.is (Hid.trgHigh m) && decide (s.dev.get (Hid.trgEnd m) ≤ s.clock.boundary)) = true := by
    rw [hserves, hhigh, decide_eq_true hend]
    rfl
  obtain ⟨t, hexec, hdev, hstep⟩ := State.duringAt_next hcond (max s.start (s.dev.get (Hid.trgEnd m) - 1)) (·.trgPulseEnd m)
  have hget : ∀ e, (s.begin (max s.start (s.dev.get (Hid.trgEnd m) - 1))).get e = s.dev.get e := fun _ => rfl
  have hemit : (s.begin (max s.start (s.dev.get (Hid.trgEnd m) - 1))).emit = [] := rfl
  have hposted : (s.begin (max s.start (s.dev.get (Hid.trgEnd m) - 1))).posted = s.dev.posted := rfl
  generalize s.begin (max s.start (s.dev.get (Hid.trgEnd m) - 1)) = d at hdev hget hemit hposted
  have hlow : Dev.Keeps [Hid.trgHigh m, Hid.trgEnd m] d ((d.setB (Hid.trgHigh m) false).clear (Hid.trgEnd m)) :=
    ((Dev.Keeps.refl _ d).setB (by simp) _).clear (by simp)
  have hquiet : ((d.setB (Hid.trgHigh m) false).clear (Hid.trgEnd m)).emit = [] ∧
      ((d.setB (Hid.trgHigh m) false).clear (Hid.trgEnd m)).posted = s.dev.posted :=
    ⟨(Dev.of_rest (g := Dev.emit) (by rw [Dev.rest_clear, Dev.rest_setB])).trans hemit,
      (Dev.of_rest (g := Dev.posted) (by rw [Dev.rest_clear, Dev.rest_setB])).trans hposted⟩
  have hhigh0 : ((d.setB (Hid.trgHigh m) false).clear (Hid.trgEnd m)).get (Hid.trgHigh m) = 0 := by
    rw [Dev.get_clear_ne _ _ _ (by apply of_lt hm; decide), Dev.get_setB_self]
    rfl
  have hend0 : ((d.setB (Hid.trgHigh m) false).clear (Hid.trgEnd m)).get (Hid.trgEnd m) = 0 := Dev.get_clear_self _ _
  rw [Dev.trgPulseEnd, hget] at hdev
  generalize (d.setB (Hid.trgHigh m) false).clear (Hid.trgEnd m) = x at hdev hlow hquiet hhigh0 hend0
  obtain ⟨hpin, hedge, hnone, hkeeps⟩ := x.driveNew_spec (0x44 + m) (s.dev.get (Hid.trgEnd m) - 1) (x.trgLevel m)
  rw [← hdev] at hpin hedge hnone hkeeps
  have apart : ∀ m < 8, ∀ e ∈ [Dict.trgPolarity m, Dict.trgEnable m, Hid.trgRemoved m, Dict.trgIdle m, Hid.trgHigh m, Dict.trgOwner m],
      ∀ x ∈ [Hid.pinLevel (0x44 + m)], x.addr ≠ e.addr := by decide
  have hlevel : t.dev.trgLevel m = x.trgLevel m := Dev.trgLevel_congr fun e he => hkeeps e (apart m hm e he)
  refine ⟨t, hexec, ?_, ?_, hpin.trans (by rw [hlevel]), ?_, hnone.trans hquiet.2, hstep.onlyRegisters ?_⟩
  · rw [hkeeps _ (by apply of_lt hm; decide), hhigh0]
  · rw [hkeeps _ (by apply of_lt hm; decide), hend0]
  · rw [hedge, hquiet.1, hlevel, hlow _ (by apply of_lt hm; decide), hget]
    rfl
  · have hfirst : Dev.Keeps [Hid.trgHigh m, Hid.trgEnd m] s.dev x := fun e he => (hlow e he).trans (hget e)
    exact (hfirst.mono (by simp)).trans (hkeeps.mono (by simp))

/-- Settles O15: the commands of a timer at S0, a fire at each kind of destination, and the end of a TRG pulse. -/
theorem timersArmFireAndDisarm : Obligations.TimersArmFireAndDisarm := by
  unfold Obligations.TimersArmFireAndDisarm
  refine ⟨?_, ?_, ?_, ?_, ?_⟩
  · intro s h n x hn
    refine ⟨?_, ?_⟩
    · intro items hadmits
      obtain ⟨t, hexec, haccepted⟩ := State.accepted_of_isCommanded hadmits (by apply of_lt hn; decide) (by apply of_lt hn; decide)
      refine ⟨t, hexec, haccepted, fun d hmode => ?_⟩
      rw [Dev.applyGroup_tmrArm d hn, if_pos rfl]
      exact Dev.armTimer_aligned hn hmode
    · intro items hadmits
      obtain ⟨t, hexec, haccepted⟩ := State.accepted_of_isCommanded hadmits (by apply of_lt hn; decide) (by apply of_lt hn; decide)
      refine ⟨t, hexec, haccepted, fun d => ?_⟩
      rw [Dev.applyGroup_tmrArm d hn, if_neg (by decide)]
      exact d.disarmTimer_spec hn
  · intro s n hn hserves harmed target dest hreached hnear hlow hhigh
    exact State.timerFire_it hn rfl rfl hserves harmed hreached hnear hlow hhigh
  · intro s n hn hserves harmed target dest hreached hnear hdest hon hin placed ending
    exact State.timerFire_trg hn rfl rfl hserves harmed hreached hnear hdest hon hin (placed := placed.1) (residual := placed.2) rfl
  · intro s n p hn hp hserves harmed target d hreached hnear hdest hbar hon hin hpermitted hhold placed ending
    have hstarts : s.dev.pulsesStart p = true := by
      rw [Dev.pulsesStart, hon, hin, hpermitted, hhold]
      rfl
    have hedge : d.intendedEdge p target = s.dev.intendedEdge p target := Dev.intendedEdge_congr target rfl fun _ _ => rfl
    exact State.timerFire_pls hn hp rfl hdest hserves harmed hreached hnear hbar hstarts (placed := placed.1) (residual := placed.2)
      (by rw [← hedge])
  · intro s m hm hserves hhigh hend
    exact State.trgPulseEnd_next hm hserves hhigh hend

end Sys2Proof.Machine
end

section
/-!
PROOF. Masters of the memory bus: how their ports drain, and the host's memory commands at S0 (O41).
-/
namespace Sys2Proof.Machine

theorem bit_setBit (v i : Nat) : bit (setBit v i) i = true := by
  unfold setBit
  split
  · next h => exact h
  · next h =>
    have hpow : 0 < 2 ^ i := Nat.two_pow_pos i
    unfold bit at h ⊢
    rw [Nat.add_div_right v hpow]
    simp only [beq_iff_eq] at h ⊢
    omega

/-- A bit below the width is kept by the truncation to it. -/
theorem bit_mod_of_lt {v i n : Nat} (h : i < n) : bit (v % 2 ^ n) i = bit v i := by
  unfold bit
  obtain ⟨k, rfl⟩ := Nat.exists_eq_add_of_lt h
  rw [show i + k + 1 = i + (k + 1) by omega, Nat.pow_add, Nat.mod_mul_right_div_self, Nat.mod_mod_of_dvd _ ⟨2 ^ k, by rw [Nat.pow_succ, Nat.mul_comm]⟩]

namespace Dev

theorem masterReset_drained {d : Dev} {m outstanding time : Nat} (hm : m < 6) (hstate : d.get (Dict.busPortState m) ≠ 1) (htime : time ≤ 2000)
    (hpos : 0 < outstanding) : d.masterReset m outstanding time = d.portDrained m time := by
  simp only [masterReset, Nat.not_le.2 hm, hstate, or_self, if_false, htime, true_or, if_true, Nat.ne_of_gt hpos]

theorem masterReset_waits {d : Dev} {m outstanding time : Nat} (hm : m < 6) (hstate : d.get (Dict.busPortState m) ≠ 1) (htime : 2000 < time)
    (hpos : 0 < outstanding) :
    d.masterReset m outstanding time = (d.set (Dict.busPortState m) 1).set (Dict.busOutstanding m) outstanding := by
  simp only [masterReset, Nat.not_le.2 hm, hstate, or_self, if_false, Nat.not_le.2 htime, Nat.ne_of_gt hpos]

theorem drainTimeout_of_draining {d : Dev} {m : Nat} (hm : m < 6) (hstate : d.get (Dict.busPortState m) = 1) :
    d.drainTimeout m = ((d.add Dict.busOrphanCount (d.get (Dict.busOutstanding m))).post 122 [(1, m), (2, d.get (Dict.busOutstanding m))]).portDrained
      m 2000 := by
  simp only [drainTimeout, Nat.not_le.2 hm, hstate, ne_eq, not_true, or_self, if_false]

/-- What a port that leaves Draining writes (R623). -/
def drainRegisters (m : Nat) : List Entry := [Dict.busOutstanding m, Dict.busLastDrainTime m, Dict.busPortState m]

theorem keeps_portDrained (d : Dev) (m time : Nat) : Keeps (drainRegisters m) d (d.portDrained m time) :=
  ((((Keeps.refl _ d).set (by simp [drainRegisters]) _).set (by simp [drainRegisters]) _)).set (by simp [drainRegisters]) _

theorem posted_portDrained (d : Dev) (m time : Nat) : (d.portDrained m time).posted = d.posted := (rfl)

theorem portDrained_spec (d : Dev) {m time : Nat} (hm : m < 6) (htime : time ≤ 2000) :
    (d.portDrained m time).get (Dict.busOutstanding m) = 0 ∧ (d.portDrained m time).get (Dict.busLastDrainTime m) = time ∧
      (d.portDrained m time).get (Dict.busPortState m) = if d.powered (masterDomain m) then 0 else 2 := by
  unfold portDrained
  refine ⟨?_, ?_, ?_⟩
  · simp (disch := apply of_lt hm; decide) only [get_set_ne, get_set_self, Nat.zero_mod]
  · rw [get_set_ne _ _ _ _ (by apply of_lt hm; decide)]
    exact get_lt_of_set _ _ (Nat.lt_of_le_of_lt htime (show 2000 < 256 ^ 4 by decide))
  · simp (disch := apply of_lt hm; decide) only [powered, get_set_ne]
    exact get_lt_of_set _ _ (Nat.lt_of_le_of_lt (show _ ≤ 2 by split <;> omega) (show 2 < 256 by decide))

/-! ### The host's memory commands -/

theorem applyGroup_memCountersClear (d : Dev) (v : Value) : d.applyGroup [Dict.memCountersClear.item v] [] = d.clearMemCounters := by
  rw [applyGroup_plain (by decide)]
  simp (disch := decide) only [plainCommand, if_pos, if_neg]

theorem applyGroup_memTestWrite (d : Dev) (v : Value) :
    d.applyGroup [Dict.memTestWrite.item v] [] = d.set Hid.memTest (setBit (d.get Hid.memTest) 0) := by
  rw [applyGroup_plain (by decide)]
  simp (disch := decide) only [plainCommand, if_pos, if_neg]

theorem applyGroup_memTestRead (d : Dev) (v : Value) :
    d.applyGroup [Dict.memTestRead.item v] [] = d.set Hid.memTest (setBit (d.get Hid.memTest) 1) := by
  rw [applyGroup_plain (by decide)]
  simp (disch := decide) only [plainCommand, if_pos, if_neg]

/-- The counters of a target (R625). -/
def targetCounters (t : Nat) : List Entry :=
  [Dict.memInnerCorrected t, Dict.memOuterCorrected t, Dict.memUncorrectable t, Dict.scrubLapCount t, Dict.scrubUncorrected t]

/-- The counters of a master (R625). -/
def masterCounters (m : Nat) : List Entry := [Dict.busDataErrors m, Dict.busOutstandingPeak m]

/-- The counters of the targets are cleared. -/
def clearTargets (d : Dev) : Dev := Sys2Proof.Machine.forUnits 4 (fun t d => d.clearAll (targetCounters t)) d

/-- The counters of a master are cleared; its peak starts at what is outstanding. -/
def clearMaster (m : Nat) (d : Dev) : Dev := (d.clear (Dict.busDataErrors m)).set (Dict.busOutstandingPeak m) (d.get (Dict.busOutstanding m))

/-- In a pass over the units, what the unit `r` sets and the other units leave stands at the end. -/
theorem get_forUnits {f : Nat → Dev → Dev} {e : Entry} {n r v : Nat} (d : Dev) (hr : r < n) (hat : ∀ x, (f r x).get e = v)
    (hother : ∀ m < n, m ≠ r → ∀ x, (f m x).get e = x.get e) : (Sys2Proof.Machine.forUnits n f d).get e = v := by
  induction n with
  | zero => cases hr
  | succ n ih =>
    unfold Sys2Proof.Machine.forUnits at ih ⊢
    rw [List.range_succ, List.foldl_append, List.foldl_cons, List.foldl_nil]
    by_cases hlast : n = r
    · rw [hlast]
      exact hat _
    · rw [hother n (Nat.lt_succ_self n) hlast]
      exact ih (by omega) fun m hm => hother m (by omega)

theorem get_clearTargets (d : Dev) {k : Nat} (hk : k < 4) : d.clearTargets.get (Dict.memUncorrectable k) = 0 := by
  refine get_forUnits d hk (fun x => ?_) fun m hm hmk x => ?_
  · exact get_clearAll_of_mem x (by simp [targetCounters]) (by apply of_lt hk; decide)
  · exact get_clearAll_ne _ _ _ (by apply of_ne hm hk hmk; decide)

theorem get_clearMasters (d : Dev) {m : Nat} (hm : m < 6) : (Sys2Proof.Machine.forUnits 6 clearMaster d).get (Dict.busDataErrors m) = 0 := by
  refine get_forUnits d hm (fun x => ?_) fun r hr hrm x => ?_
  · rw [clearMaster, get_set_ne _ _ _ _ (by apply of_lt hm; decide), get_clear_self]
    rfl
  · rw [clearMaster, get_set_ne _ _ _ _ (by apply of_lt₂ hm hr; decide),
      get_clear_ne _ _ _ (by apply of_ne hr hm hrm; decide)]

theorem keeps_clearMasters (d : Dev) : Keeps ((List.range 6).flatMap masterCounters) d (Sys2Proof.Machine.forUnits 6 clearMaster d) :=
  .forUnits (.refl _ d) fun m hm x =>
    ((Keeps.refl _ x).clear (List.mem_flatMap.2 ⟨m, List.mem_range.2 hm, by simp [masterCounters]⟩)).set
      (List.mem_flatMap.2 ⟨m, List.mem_range.2 hm, by simp [masterCounters]⟩) _

theorem clearMemCounters_eq (d : Dev) :
    d.clearMemCounters = (Sys2Proof.Machine.forUnits 6 clearMaster d.clearTargets).clear Dict.busViolationCount := (rfl)

theorem clearMemCounters_spec (d : Dev) : d.clearMemCounters.get Dict.busViolationCount = 0 ∧
    (∀ k < 4, d.clearMemCounters.get (Dict.memUncorrectable k) = 0) ∧ ∀ m < 6, d.clearMemCounters.get (Dict.busDataErrors m) = 0 := by
  rw [clearMemCounters_eq]
  refine ⟨get_clear_self _ _, fun k hk => ?_, fun m hm => ?_⟩
  · rw [get_clear_ne _ _ _ (by apply of_lt hk; decide), keeps_clearMasters _ _ (by apply of_lt hk; decide)]
    exact d.get_clearTargets hk
  · rw [get_clear_ne _ _ _ (by apply of_lt hm; decide)]
    exact get_clearMasters _ hm

end Dev

/-- Settles O41: the ends of a drain share `Dev.portDrained`. -/
theorem mastersDrainAndTestsWaitForS0 : Obligations.MastersDrainAndTestsWaitForS0 := by
  unfold Obligations.MastersDrainAndTestsWaitForS0
  refine ⟨?_, ?_, ?_, ?_, ?_, ?_⟩
  · intro s m outstanding time hm hstate htime hpos
    obtain ⟨t, hexec, hdev, hstep⟩ := State.onDev_next s (·.masterReset m outstanding time)
    rw [Dev.masterReset_drained (d := s.met) hm hstate htime hpos] at hdev
    obtain ⟨hout, hlast, hport⟩ := s.met.portDrained_spec hm htime
    refine ⟨t, hexec, hdev ▸ hout, hdev ▸ hlast, hdev ▸ hport, ?_, hstep.onlyRegisters (hdev ▸ s.met.keeps_portDrained m time)⟩
    rw [PresentsNone, hdev, Dev.posted_portDrained]
    rfl
  · intro s m outstanding time hm hstate htime hpos hlt
    obtain ⟨t, hexec, hdev, hstep⟩ := State.onDev_next s (·.masterReset m outstanding time)
    rw [Dev.masterReset_waits (d := s.met) hm hstate htime hpos] at hdev
    refine ⟨t, hexec, ?_, ?_, ?_, hstep.onlyRegisters ?_⟩
    · rw [hdev]
      exact Dev.get_lt_of_set _ _ hlt
    · rw [hdev, Dev.get_set_ne _ _ _ _ (by apply of_lt hm; decide)]
      exact Dev.get_lt_of_set _ _ (show 1 < 256 by decide)
    · rw [PresentsNone, hdev, Dev.posted_set, Dev.posted_set]
      rfl
    · rw [hdev]
      exact ((Dev.Keeps.refl _ s.met).set (by simp) _).set (by simp) _
  · intro s m hm hstate
    obtain ⟨t, hexec, hdev, hstep⟩ := State.onDev_next s (·.drainTimeout m)
    rw [Dev.drainTimeout_of_draining (d := s.met) hm hstate] at hdev
    have hkeeps := Dev.keeps_portDrained ((s.met.add Dict.busOrphanCount (s.met.get (Dict.busOutstanding m))).post 122
      [(1, m), (2, s.met.get (Dict.busOutstanding m))]) m 2000
    have hspec := Dev.portDrained_spec ((s.met.add Dict.busOrphanCount (s.met.get (Dict.busOutstanding m))).post 122
      [(1, m), (2, s.met.get (Dict.busOutstanding m))]) hm (Nat.le_refl 2000)
    rw [← hdev] at hkeeps hspec
    refine ⟨t, hexec, ?_, ?_, ?_, hstep.onlyRegisters ?_⟩
    · rw [hkeeps _ (by apply of_lt hm; decide), Dev.get_post, Dev.add]
      exact Dev.get_lt_of_set _ _ (Nat.lt_of_le_of_lt (Nat.min_le_right _ _) (by decide))
    · rw [hspec.2.2, Dev.powered, Dev.get_post, Dev.get_add_ne _ _ _ _ (by decide)]
      rfl
    · rw [Presents, hdev, Dev.posted_portDrained, Dev.posted_post, Dev.posted_add]
      rfl
    · exact (((Dev.Keeps.refl _ s.met).add (by simp) _).post _ _).trans (hkeeps.mono (by simp [Dev.drainRegisters]))
  · intro s h v x hadmits
    obtain ⟨t, hexec, haccepted⟩ := State.accepted_of_isCommanded hadmits (by decide) (by decide)
    refine ⟨t, hexec, haccepted, fun d => ?_⟩
    rw [Dev.applyGroup_memCountersClear]
    exact d.clearMemCounters_spec
  · intro s h v x hadmits
    obtain ⟨t, hexec, haccepted⟩ := State.accepted_of_isCommanded hadmits (by decide) (by decide)
    refine ⟨t, hexec, haccepted, fun d => ?_⟩
    rw [Dev.applyGroup_memTestWrite, Dev.get_set_self]
    exact (bit_mod_of_lt (n := 8) (by decide)).trans (bit_setBit _ _)
  · intro s h v x hadmits
    obtain ⟨t, hexec, haccepted⟩ := State.accepted_of_isCommanded hadmits (by decide) (by decide)
    refine ⟨t, hexec, haccepted, fun d => ?_⟩
    rw [Dev.applyGroup_memTestRead, Dev.get_set_self]
    exact (bit_mod_of_lt (n := 8) (by decide)).trans (bit_setBit _ _)

end Sys2Proof.Machine
end

section
/-!
PROOF. The host's commands to Referee at S0 (O59).
-/
namespace Sys2Proof.Machine

theorem bit_eq_testBit (v i : Nat) : bit v i = v.testBit i := by
  rw [Nat.testBit_eq_decide_div_mod_eq]
  rfl

/-- A cleared bit is clear, and every other stands. -/
theorem bit_clearBit (v i j : Nat) : bit (clearBit v i) j = (bit v j && decide (j ≠ i)) := by
  unfold clearBit
  split
  · next hset =>
    have hodd : v / 2 ^ i % 2 = 1 := by simpa [bit] using hset
    obtain ⟨p, hp⟩ : ∃ p, v / 2 ^ i = 2 * p + 1 := ⟨v / 2 ^ i / 2, by omega⟩
    have hlow : v % 2 ^ i < 2 ^ i := Nat.mod_lt _ (Nat.two_pow_pos i)
    have hv : v = 2 ^ i * (2 * p + 1) + v % 2 ^ i := by rw [← hp, Nat.div_add_mod]
    have hcleared : v - 2 ^ i = 2 ^ i * (2 * p) + v % 2 ^ i := by
      rw [Nat.mul_add, Nat.mul_one] at hv
      omega
    rw [bit_eq_testBit, bit_eq_testBit, hcleared, Nat.testBit_two_pow_mul_add _ hlow, show v.testBit j = _ from congrArg (Nat.testBit · j) hv,
      Nat.testBit_two_pow_mul_add _ hlow]
    rcases Nat.lt_trichotomy j i with hlt | heq | hgt
    · simp [hlt, Nat.ne_of_lt hlt]
    · simp [heq]
    · obtain ⟨k, rfl⟩ := Nat.exists_eq_add_of_lt hgt
      have hk : i + k + 1 - i = k + 1 := by omega
      have hdiv : (2 * p + 1) / 2 = 2 * p / 2 := by omega
      simp only [Nat.not_lt.2 (Nat.le_of_lt hgt), if_false, hk, Nat.testBit_succ, hdiv, Nat.ne_of_gt hgt, ne_eq, not_false_eq_true, decide_true, Bool.and_true]
  · next hclear =>
    by_cases hji : j = i
    · simpa [hji] using hclear
    · simp [hji]

theorem bit_setBit_of_set {v j : Nat} (h : bit v j = true) (i : Nat) : bit (setBit v i) j = true := by
  unfold setBit
  split
  · exact h
  · next hclear =>
    have hji : j ≠ i := fun heq => hclear (heq ▸ h)
    have hback : v = clearBit (v + 2 ^ i) i := by
      have hset : bit (v + 2 ^ i) i = true := by
        have := bit_setBit v i
        rwa [setBit, if_neg hclear] at this
      rw [clearBit, if_pos hset, Nat.add_sub_cancel]
    rw [hback, bit_clearBit] at h
    exact (Bool.and_eq_true _ _ ▸ h).1

namespace Dev

/-! ### A domain is powered again -/

theorem isolated_set_isolatedDomains (d : Dev) (x : Domain) :
    (d.set Dict.isolatedDomains (clearBit (d.get Dict.isolatedDomains) x.bit)).isolated x = false := by
  rw [isolated, get_set_self]
  refine (bit_mod_of_lt (n := 16) (by cases x <;> decide)).trans ?_
  rw [bit_clearBit]
  simp

theorem powered_set_poweredDomains (d : Dev) (x : Domain) :
    (d.set Hid.poweredDomains (setBit (d.get Hid.poweredDomains) x.bit)).powered x = true := by
  rw [powered, get_set_self]
  exact (bit_mod_of_lt (n := 16) (by cases x <;> decide)).trans (bit_setBit _ _)

/-! ### Masks of the event pins -/

/-- A mask loses the bits of another (R649). -/
def strike (mask : Nat) (e : Entry) (d : Dev) : Dev :=
  Sys2Proof.Machine.forUnits 128 (fun n d => if bit mask n then d.set e (clearBit (d.get e) n) else d) d

theorem keeps_strike (mask : Nat) (e : Entry) (d : Dev) : Keeps [e] d (d.strike mask e) :=
  .forUnits (.refl _ d) fun _ _ x => .ite (.set (.refl _ x) (by simp) _) (.refl _ x)

/-- A bit that is named is clear afterwards. -/
theorem bit_strike {mask n : Nat} (d : Dev) (hn : n < 128) (hbit : bit mask n = true) :
    bit ((d.strike mask Dict.evtPending0).get Dict.evtPending0) n = false := by
  have hclears : ∀ (x : Dev) (m : Nat), (m = n ∨ bit (x.get Dict.evtPending0) n = false) →
      bit ((x.set Dict.evtPending0 (clearBit (x.get Dict.evtPending0) m)).get Dict.evtPending0) n = false := by
    intro x m hm
    rw [get_set_self]
    refine (bit_mod_of_lt (n := 128) hn).trans ?_
    rw [bit_clearBit]
    rcases hm with rfl | hclear
    · simp
    · rw [hclear, Bool.false_and]
  obtain ⟨before, after, hrange⟩ := List.append_of_mem (List.mem_range.2 hn)
  unfold strike Sys2Proof.Machine.forUnits
  rw [hrange, List.foldl_append, List.foldl_cons]
  refine foldl_keeps (p := fun x : Dev => bit (x.get Dict.evtPending0) n = false) ?_ fun x m _ hx => ?_
  · simp only [hbit, if_true]
    exact hclears _ n (.inl rfl)
  · dsimp only
    split
    · exact hclears x m (.inr hx)
    · exact hx

theorem keeps_followEvt (d before : Dev) : Keeps [Hid.evtLowAt 0, Hid.evtLowAt 1] d (d.followEvt before) := by
  unfold followEvt
  refine .foldl (.refl _ d) fun x b hb => ?_
  have hmem : Hid.evtLowAt b.1 ∈ [Hid.evtLowAt 0, Hid.evtLowAt 1] := by
    apply of_mem hb; decide
  dsimp only
  exact .ite (.out (.set (.refl _ x) hmem _) _) (.ite (.out (.refl _ x) _) (.refl _ x))

theorem applyGroup_evtAcknowledge (d : Dev) (v : Value) : d.applyGroup [Dict.evtAcknowledge.item v] [] = d.evtAcknowledge v.value := by
  rw [applyGroup_plain (by decide)]
  simp (disch := decide) only [plainCommand, if_pos, if_neg]

/-- Only the mask of EVT_N0 is struck where the pin is 0. -/
theorem evtAcknowledge_pin0 {d : Dev} {v : Nat} (hpin : v / 256 ^ 16 = 0) :
    d.evtAcknowledge v = (d.strike (v % 256 ^ 16) Dict.evtPending0).followEvt d := by
  simp only [evtAcknowledge, hpin, true_or, if_true, Nat.zero_ne_one, Nat.reduceEqDiff, or_self, if_false]
  rfl

/-! ### Counts and history of a source -/

/-- The entries of a source that EvtClear clears beside its history (R653). -/
def sourceCounts (n : Nat) : List Entry :=
  [Dict.evtCount n, Dict.evtConsequentCount n, Dict.evtFirstTime n, Dict.evtFirstSequence n, Dict.evtFirstDetail n, Dict.evtLastTime n,
    Dict.evtHistoryLost n]

theorem evtClear_eq (d : Dev) (n : Nat) :
    d.evtClear n = Sys2Proof.Machine.forUnits 32 (fun k d => d.clear (Dict.evtHistory n k)) (d.clearAll (sourceCounts n)) := (rfl)

theorem keeps_evtClear (d : Dev) (n : Nat) :
    Keeps (sourceCounts n ++ (List.range 32).map (Dict.evtHistory n)) d (d.evtClear n) := by
  rw [evtClear_eq]
  exact .forUnits (.clearAll (.refl _ d) (List.subset_append_left _ _)) fun k hk x =>
    .clear (.refl _ x) (List.mem_append_right _ (List.mem_map_of_mem (List.mem_range.2 hk)))

/-- The histories of two sources, and the places of one, are apart from the entries of every source. -/
theorem evtHistory_addr (n k : Nat) : (Dict.evtHistory n k).addr = (0x8200 + n) * 256 + (1 + k) := rfl

theorem evtCount_addr (n : Nat) : (Dict.evtCount n).addr = (0x8100 + n) * 256 + 3 := rfl

/-- Among the counts of a source EvtCount is the one at subindex 3. -/
theorem sourceCounts_addr {n : Nat} {e : Entry} (he : e ∈ sourceCounts n) :
    e = Dict.evtCount n ∨ ∃ sub, 3 < sub ∧ sub < 11 ∧ e.addr = (0x8100 + n) * 256 + sub := by
  simp only [sourceCounts, List.mem_cons, List.not_mem_nil, or_false] at he
  rcases he with rfl | rfl | rfl | rfl | rfl | rfl | rfl
  · exact .inl rfl
  · exact .inr ⟨4, by decide, by decide, rfl⟩
  · exact .inr ⟨5, by decide, by decide, rfl⟩
  · exact .inr ⟨6, by decide, by decide, rfl⟩
  · exact .inr ⟨7, by decide, by decide, rfl⟩
  · exact .inr ⟨8, by decide, by decide, rfl⟩
  · exact .inr ⟨9, by decide, by decide, rfl⟩

/-- What the clearing of a source writes lies apart from the count of another. -/
theorem evtClear_apart {n m : Nat} (hn : n < 128) (hmn : m ≠ n) :
    ∀ x ∈ sourceCounts m ++ (List.range 32).map (Dict.evtHistory m), x.addr ≠ (Dict.evtCount n).addr := by
  intro x hx
  rw [evtCount_addr]
  rcases List.mem_append.1 hx with hx | hx
  · rcases sourceCounts_addr hx with rfl | ⟨sub, _, hsub, haddr⟩
    · rw [evtCount_addr]
      omega
    · omega
  · obtain ⟨k, hk, rfl⟩ := List.mem_map.1 hx
    have hk' := List.mem_range.1 hk
    rw [evtHistory_addr]
    omega

theorem evtClear_spec (d : Dev) (n : Nat) : (d.evtClear n).get (Dict.evtCount n) = 0 ∧
    ∀ k < 32, (d.evtClear n).get (Dict.evtHistory n k) = 0 := by
  rw [evtClear_eq]
  refine ⟨?_, fun k hk => ?_⟩
  · have hkeeps : Keeps ((List.range 32).map (Dict.evtHistory n)) (d.clearAll (sourceCounts n))
        (Sys2Proof.Machine.forUnits 32 (fun k d => d.clear (Dict.evtHistory n k)) (d.clearAll (sourceCounts n))) :=
      .forUnits (.refl _ _) fun k hk x => .clear (.refl _ x) (List.mem_map_of_mem (List.mem_range.2 hk))
    have hzero : (d.clearAll (sourceCounts n)).get (Dict.evtCount n) = 0 := by
      refine get_clearAll_of_mem d (by simp [sourceCounts]) fun f hf haddr => ?_
      rw [evtCount_addr] at haddr
      exact (sourceCounts_addr hf).resolve_right fun ⟨sub, _, _, h⟩ => by omega
    rw [hkeeps, hzero]
    intro x hx
    obtain ⟨k, hk, rfl⟩ := List.mem_map.1 hx
    have hk' := List.mem_range.1 hk
    rw [evtHistory_addr, evtCount_addr]
    omega
  · refine get_forUnits_clear _ hk fun m hm hmk => ?_
    rw [evtHistory_addr, evtHistory_addr]
    omega

/-- EvtClear of a source is a command of its unit and of no other family. -/
def clearsSource (n : Nat) : Bool :=
  isCommanded (Dict.evtClear n) && !isOne (Dict.evtClear n) [Dict.gnssBankRelease] && unitOf Dict.evtClear 128 (Dict.evtClear n) == some n &&
    (unitOf Dict.tmrArm 32 (Dict.evtClear n)).isNone && (unitOf Dict.outRealign 16 (Dict.evtClear n)).isNone &&
    (unitOf Dict.portRecalibrate 6 (Dict.evtClear n)).isNone && (unitOf Dict.skFaultClear 3 (Dict.evtClear n)).isNone

theorem clearsSource_of_lt {n : Nat} (hn : n < 128) : clearsSource n = true := by
  have hall : ∀ a < 8, ∀ b < 16, clearsSource (16 * a + b) = true := by decide
  have hn' := hall (n / 16) (by omega) (n % 16) (by omega)
  rwa [Nat.div_add_mod] at hn'

theorem applyGroup_evtClear (d : Dev) {n : Nat} (v : Value) (hn : n < 128) : d.applyGroup [(Dict.evtClear n).item v] [] = d.evtClear n := by
  have hclears := clearsSource_of_lt hn
  simp only [clearsSource, Bool.and_eq_true, Option.isNone_iff_eq_none, beq_iff_eq] at hclears
  obtain ⟨⟨⟨⟨⟨⟨hcommanded, -⟩, hunit⟩, htimer⟩, hout⟩, hport⟩, hsk⟩ := hclears
  rw [applyGroup_command hcommanded rfl, applyCommand]
  simp only [hunit, htimer, hout, hport, hsk]

theorem applyGroup_refereeClearAll (d : Dev) (v : Value) :
    d.applyGroup [Dict.refereeClearAll.item v] [] = Sys2Proof.Machine.forUnits 128 (fun n d => d.evtClear n) d := by
  rw [applyGroup_plain (by decide)]
  simp (disch := decide) only [plainCommand, if_pos, if_neg]

theorem applyGroup_faultInject (d : Dev) (v : Value) : d.applyGroup [Dict.faultInject.item v] [] = d.faultInject v.value := by
  rw [applyGroup_plain (by decide)]
  simp (disch := decide) only [plainCommand, if_pos, if_neg]

theorem applyGroup_domainRelease (d : Dev) {v : Value} (hlatched : bit (d.get Dict.latchedDomains) v.value = true) :
    d.applyGroup [Dict.domainRelease.item v] [] = d.restartDomain (Domain.ofBit v.value) := by
  rw [applyGroup_plain (by decide)]
  simp (disch := decide) only [plainCommand, if_pos, if_neg, hlatched]

theorem get_evtCount_clearAllSources (d : Dev) {n : Nat} (hn : n < 128) :
    (Sys2Proof.Machine.forUnits 128 (fun n d => d.evtClear n) d).get (Dict.evtCount n) = 0 :=
  get_forUnits d hn (fun x => (x.evtClear_spec n).1) fun m _ hmn x => keeps_evtClear x m _ (evtClear_apart hn hmn)

/-- The injections that follow on a source (R650). -/
theorem faultInject_spec (d : Dev) {source mode count unit options : Nat} (hsource : source < 128) (hmode : mode < 256) (hcount : count < 256)
    (hunit : unit < 256) (hoptions : options < 256) :
    let d' := d.faultInject (source * 2 ^ 32 + mode * 2 ^ 24 + count * 2 ^ 16 + unit * 2 ^ 8 + options)
    d'.get (Hid.injectMode source) = mode ∧ d'.get (Hid.injectLeft source) = count ∧ d'.get (Hid.injectUnit source) = unit := by
  dsimp only [faultInject]
  rw [show (source * 2 ^ 32 + mode * 2 ^ 24 + count * 2 ^ 16 + unit * 2 ^ 8 + options) / 256 ^ 4 % 128 = source by omega,
    show (source * 2 ^ 32 + mode * 2 ^ 24 + count * 2 ^ 16 + unit * 2 ^ 8 + options) / 256 ^ 3 % 256 = mode by omega,
    show (source * 2 ^ 32 + mode * 2 ^ 24 + count * 2 ^ 16 + unit * 2 ^ 8 + options) / 256 ^ 2 % 256 = count by omega,
    show (source * 2 ^ 32 + mode * 2 ^ 24 + count * 2 ^ 16 + unit * 2 ^ 8 + options) / 256 % 256 = unit by omega]
  refine ⟨?_, ?_, ?_⟩
  · rw [get_setB_ne _ _ _ _ (Entry.addr_ne_of_sub (show 4 ≠ 1 by decide) (show 4 < 256 by decide) (show 1 < 256 by decide)),
      get_set_ne _ _ _ _ (Entry.addr_ne_of_sub (show 3 ≠ 1 by decide) (show 3 < 256 by decide) (show 1 < 256 by decide)),
      get_set_ne _ _ _ _ (Entry.addr_ne_of_sub (show 2 ≠ 1 by decide) (show 2 < 256 by decide) (show 1 < 256 by decide))]
    exact get_lt_of_set _ _ hmode
  · rw [get_setB_ne _ _ _ _ (Entry.addr_ne_of_sub (show 4 ≠ 2 by decide) (show 4 < 256 by decide) (show 2 < 256 by decide)),
      get_set_ne _ _ _ _ (Entry.addr_ne_of_sub (show 3 ≠ 2 by decide) (show 3 < 256 by decide) (show 2 < 256 by decide))]
    exact get_lt_of_set _ _ hcount
  · rw [get_setB_ne _ _ _ _ (Entry.addr_ne_of_sub (show 4 ≠ 3 by decide) (show 4 < 256 by decide) (show 3 < 256 by decide))]
    exact get_lt_of_set _ _ hunit

end Dev

/-! ### Units leave service -/

/-- The number of a unit is one of its kind. -/
def Removable.numbered : Removable → Bool
  | .channel n => decide (n < 16)
  | .link m => decide (m < 3)
  | .apll a => decide (a < 4)
  | .cko n => decide (n < 16)
  | .pls p => decide (p < 4)
  | .trg m => decide (m < 8)
  | .tod m => decide (m < 2)
  | .port q => decide (q < 6)
  | .skovwin m => decide (m < 3)
  | .hmac l => decide (l < 32)
  | .aes l => decide (l < 16)
  | .bank b => decide (b - 1 < 12)

theorem Removable.numbered_of_mem {u : Removable} (hu : u ∈ Removable.all) : u.numbered = true := by
  simp only [Removable.all, List.mem_append, List.mem_map, List.mem_range, List.mem_cons, List.not_mem_nil, or_false, or_assoc] at hu
  rcases hu with ⟨n, hn, rfl⟩ | ⟨n, hn, rfl⟩ | rfl | rfl | rfl | ⟨n, hn, rfl⟩ | ⟨n, hn, rfl⟩ | ⟨n, hn, rfl⟩ | ⟨n, hn, rfl⟩ | ⟨n, hn, rfl⟩ |
    ⟨n, hn, rfl⟩ | ⟨n, hn, rfl⟩ | ⟨n, hn, rfl⟩ | ⟨n, hn, rfl⟩ <;> simp_all [Removable.numbered]

/-- The register lies outside Referee's entries and the registers of the device as a whole. -/
def Entry.ofUnit (e : Entry) : Bool := decide (e.addr < 0x800000 ∨ 0x1100000 ≤ e.addr)

namespace Dev

/-- What Referee holds of the domains: those isolated, those powered, and the reaction windows. -/
def central (d : Dev) : Nat × Nat × List Window := (d.get Dict.isolatedDomains, d.get Hid.poweredDomains, d.windows)

theorem central_set (d : Dev) {e : Entry} (v : Nat) (he : e.ofUnit = true) : (d.set e v).central = d.central := by
  have hisolated : e.addr ≠ Dict.isolatedDomains.addr := by
    rw [show Dict.isolatedDomains.addr = 0x800007 from rfl]
    have := of_decide_eq_true he
    omega
  have hpowered : e.addr ≠ Hid.poweredDomains.addr := by
    rw [show Hid.poweredDomains.addr = 0x1000001 from rfl]
    have := of_decide_eq_true he
    omega
  rw [central, get_set_ne _ _ _ _ hisolated, get_set_ne _ _ _ _ hpowered]
  rfl

theorem central_setB (d : Dev) {e : Entry} (b : Bool) (he : e.ofUnit = true) : (d.setB e b).central = d.central := central_set d _ he
theorem central_clear (d : Dev) {e : Entry} (he : e.ofUnit = true) : (d.clear e).central = d.central := central_set d _ he
theorem central_post (d : Dev) (n : Nat) (l : List (Nat × Nat)) : (d.post n l).central = d.central := (rfl)

theorem central_clearAll (d : Dev) {l : List Entry} (hl : ∀ e ∈ l, e.ofUnit = true) : (d.clearAll l).central = d.central :=
  foldl_view central fun x e he => central_clear x (hl e he)

theorem ofUnit_mark {u : Removable} {e : Entry} {v : Nat} (hu : u.numbered = true) (hmark : u.mark = some (e, v)) : e.ofUnit = true := by
  cases u with
  | hmac l => cases hmark
  | aes l => cases hmark
  | channel n | link n | apll n | cko n | pls n | trg n | tod n | port n | skovwin n =>
    cases hmark
    have hn := of_decide_eq_true hu
    apply of_lt hn
    decide
  | bank b =>
    cases hmark
    have hn := of_decide_eq_true hu
    generalize b - 1 = k at hn ⊢
    apply of_lt hn
    decide

theorem central_dropTimersOf (d : Dev) (dest : Nat) : (d.dropTimersOf dest).central = d.central := by
  refine forUnits_view central fun n hn x => ?_
  have hstate : (Dict.tmrState n).ofUnit = true := by apply of_lt hn; decide
  have hnext : (Dict.tmrNextFire n).ofUnit = true := by apply of_lt hn; decide
  have htrg : ∀ y : Dev, (if dest < 8 then y.clear (Dict.trgOwner dest) else y).central = y.central := fun y => by
    split
    · next h => exact central_clear y (by apply of_lt h; decide)
    · rfl
  have hpls : ∀ y : Dev, (if 0x20 ≤ dest ∧ dest < 0x24 then y.clear (Dict.plsOwner (dest - 0x20)) else y).central = y.central := fun y => by
    split
    · next h =>
      have hp : dest - 0x20 < 4 := by omega
      generalize dest - 0x20 = p at hp ⊢
      exact central_clear y (by apply of_lt hp; decide)
    · rfl
  dsimp only
  split
  · rw [central_post, hpls, htrg, central_clear _ hnext, central_set _ _ hstate]
  · rfl

theorem central_leaveService (d : Dev) {u : Removable} (hu : u.numbered = true) : (d.leaveService u).central = d.central := by
  cases u with
  | apll a =>
    have ha : a < 4 := of_decide_eq_true hu
    refine (forUnits_view central fun n hn x => ?_).trans ((central_clear _ (by apply of_lt ha; decide)).trans
      (central_clear d (by apply of_lt ha; decide)))
    split
    · exact central_set x _ (by apply of_lt hn; decide)
    · rfl
  | channel c =>
    have hc : c < 16 := of_decide_eq_true hu
    exact (central_post _ _ _).trans (central_setB d _ (by apply of_lt hc; decide))
  | link m => exact central_post _ _ _
  | pls p =>
    have hp : p < 4 := of_decide_eq_true hu
    exact (central_clearAll _ (by apply of_lt hp; decide)).trans (central_dropTimersOf d _)
  | trg m =>
    have hm : m < 8 := of_decide_eq_true hu
    exact (central_clearAll _ (by apply of_lt hm; decide)).trans (central_dropTimersOf d _)
  | tod m =>
    have hm : m < 2 := of_decide_eq_true hu
    exact (central_clearAll _ (by apply of_lt hm; decide)).trans (central_set d _ (by apply of_lt hm; decide))
  | cko n | port n | skovwin n | hmac n | aes n | bank n => rfl

theorem central_countUnits (d : Dev) : d.countUnits.central = d.central := by
  unfold countUnits
  rw [central_set _ _ (by decide), central_set _ _ (by decide), central_set _ _ (by decide), central_set _ _ (by decide),
    central_set _ _ (by decide)]

/-- A unit that leaves service changes nothing of what Referee holds of the domains. -/
theorem central_remove (d : Dev) {u : Removable} (hu : u.numbered = true) : (d.remove u).central = d.central := by
  unfold remove
  split
  · rfl
  · dsimp only
    rw [central_countUnits, central_leaveService _ hu]
    cases u with
    | hmac l => exact central_set d _ (by decide)
    | aes l => exact central_set d _ (by decide)
    | port q =>
      refine (central_set _ _ (ofUnit_mark hu rfl)).trans ?_
      dsimp only
      split
      · exact central_post _ _ _
      · rfl
    | channel n | link n | apll n | cko n | pls n | trg n | tod n | skovwin n | bank n => exact central_set d _ (ofUnit_mark hu rfl)

theorem central_startUpChecks (d : Dev) (x : Domain) : (d.startUpChecks x).central = d.central := by
  refine foldl_view central fun y u hu => ?_
  rw [startUpFails, central_post, central_remove y (Removable.numbered_of_mem (List.mem_filter.1 hu).1)]

/-- The registers of Referee and of power that a domain powered again writes (R638). -/
def repowerRegisters (x : Domain) : List Entry :=
  pairRegisters ++ [Dict.isolatedDomains, Dict.latchedDomains, Hid.poweredDomains, Hid.unmaskAt x.bit] ++
    (if x = .net then (List.range 4).flatMap fun k => [Hid.pctResult k, Hid.pctStart k] else []) ++
    (if x = .mem then [Dict.fillState, Dict.dramState] else [])

/-- The isolation of a domain ends: it is powered, and its pairs read again after 1 µs (R631, R638). -/
def repower (d : Dev) (x : Domain) : Dev :=
  let d := d.set Dict.isolatedDomains (clearBit (d.get Dict.isolatedDomains) x.bit)
  let d := d.set Dict.latchedDomains (clearBit (d.get Dict.latchedDomains) x.bit)
  let d := d.set Hid.poweredDomains (setBit (d.get Hid.poweredDomains) x.bit)
  (d.maskPairs x false).set (Hid.unmaskAt x.bit) (d.age + 1000 * unitsPerNs)

/-- What restarts with the power of a domain (R162, R608). -/
def restartUnits (d : Dev) (x : Domain) : Dev := if x = .net then d.startPcts else if x = .mem then d.memPowered else d

theorem restartDomain_of_isolated {d : Dev} {x : Domain} (h : d.isolated x = true) :
    d.restartDomain x =
      (((d.repower x).restartUnits x).openWindow 0xFF (((d.repower x).restartUnits x).get Dict.refereeSequence) (domainSet x)).startUpChecks x := by
  simp only [restartDomain, h, Bool.not_true, Bool.false_eq_true, if_false]
  rfl

theorem pairRegisters_addr {x : Entry} (hx : x ∈ pairRegisters) :
    ∃ n < 128, x.addr = (0x8100 + n) * 256 + 10 ∨ x.addr = (0x12000 + n) * 256 := by
  obtain ⟨n, hn, hmem⟩ := List.mem_flatMap.1 hx
  refine ⟨n, List.mem_range.1 hn, ?_⟩
  simp only [List.mem_cons, List.not_mem_nil, or_false] at hmem
  rcases hmem with rfl | rfl
  · exact .inl rfl
  · exact .inr (by simp only [Entry.addr, Hid.evtArmed, Hid.reg, Nat.add_zero, Nat.reduceMul, Nat.reduceAdd])

/-- The register lies apart from those of the pairs. -/
def offPairs (e : Entry) : Bool :=
  decide ((e.addr < 0x810000 ∨ 0x818000 ≤ e.addr ∨ e.addr % 256 ≠ 10) ∧ (e.addr < 0x1200000 ∨ 0x1208000 ≤ e.addr ∨ e.addr % 256 ≠ 0))

theorem pairRegisters_apart {e : Entry} (h : offPairs e = true) : ∀ x ∈ pairRegisters, x.addr ≠ e.addr := by
  intro x hx
  have hoff := of_decide_eq_true h
  obtain ⟨n, hn, hrail | harmed⟩ := pairRegisters_addr hx <;> omega

theorem mem_pairRegisters {n : Nat} (hn : n < 128) : Dict.evtRailState n ∈ pairRegisters ∧ Hid.evtArmed n ∈ pairRegisters :=
  ⟨List.mem_flatMap.2 ⟨n, List.mem_range.2 hn, List.mem_cons_self⟩,
    List.mem_flatMap.2 ⟨n, List.mem_range.2 hn, List.mem_cons_of_mem _ List.mem_cons_self⟩⟩

theorem keeps_maskPairs (d : Dev) (x : Domain) (masked : Bool) : Keeps pairRegisters d (d.maskPairs x masked) := by
  unfold maskPairs
  refine Keeps.forUnits (.refl _ d) fun n hn y => ?_
  obtain ⟨hrail, harmed⟩ := mem_pairRegisters hn
  exact .ite (.ite (.set (.refl _ y) hrail _) (.setB (.clear (.refl _ y) hrail) harmed _)) (.refl _ y)

theorem rest_maskPairs (d : Dev) (x : Domain) (masked : Bool) : (d.maskPairs x masked).rest = d.rest := by
  unfold maskPairs
  refine forUnits_view rest fun n _ y => ?_
  split
  · split
    · exact rest_set y _ _
    · exact (rest_setB _ _ _).trans (rest_clear y _)
  · rfl

theorem rest_repower (d : Dev) (x : Domain) : (d.repower x).rest = d.rest := by
  unfold repower
  rw [rest_set, rest_maskPairs, rest_set, rest_set, rest_set]

theorem rest_restartUnits (d : Dev) (x : Domain) : (d.restartUnits x).rest = d.rest := by
  unfold restartUnits
  split
  · exact forUnits_view rest fun n _ y => (rest_set _ _ _).trans (rest_clear y _)
  · split
    · unfold memPowered
      dsimp only
      rw [rest_set]
      split
      · exact rest_set d _ _
      · rfl
    · rfl

theorem keeps_restartUnits (d : Dev) (x : Domain) : Keeps (repowerRegisters x) d (d.restartUnits x) := by
  unfold restartUnits
  split
  · next hnet =>
    refine .forUnits (.refl _ d) fun k hk y => ?_
    have hmem : ∀ e ∈ [Hid.pctResult k, Hid.pctStart k], e ∈ repowerRegisters x := fun e he =>
      List.mem_append_left _ (List.mem_append_right _ (by rw [if_pos hnet]; exact List.mem_flatMap.2 ⟨k, List.mem_range.2 hk, he⟩))
    exact .set (.clear (.refl _ y) (hmem _ (by simp))) (hmem _ (by simp)) _
  · split
    · next hmem =>
      have hfill : Dict.fillState ∈ repowerRegisters x := List.mem_append_right _ (by simp [hmem])
      have hdram : Dict.dramState ∈ repowerRegisters x := List.mem_append_right _ (by simp [hmem])
      exact .set (.ite (.set (.refl _ d) hdram _) (.refl _ d)) hfill _
    · exact .refl _ d

theorem keeps_repower (d : Dev) (x : Domain) : Keeps (repowerRegisters x) d (d.repower x) := by
  have hmem : ∀ e ∈ [Dict.isolatedDomains, Dict.latchedDomains, Hid.poweredDomains, Hid.unmaskAt x.bit], e ∈ repowerRegisters x := fun e he =>
    List.mem_append_left _ (List.mem_append_left _ (List.mem_append_right _ he))
  exact .set ((Keeps.set (.set (.set (.refl _ d) (hmem _ (by simp)) _) (hmem _ (by simp)) _) (hmem _ (by simp)) _).trans
    ((keeps_maskPairs _ x false).mono fun e he => List.mem_append_left _ (List.mem_append_left _ (List.mem_append_left _ he)))) (hmem _ (by simp)) _

theorem repowerRegisters_apart {x : Domain} {e : Entry} (hpairs : offPairs e = true)
    (hothers : ∀ y ∈ [Dict.isolatedDomains, Dict.latchedDomains, Hid.poweredDomains, Hid.unmaskAt x.bit] ++
      (if x = .net then (List.range 4).flatMap fun k => [Hid.pctResult k, Hid.pctStart k] else []) ++
      (if x = .mem then [Dict.fillState, Dict.dramState] else []), y.addr ≠ e.addr) : ∀ y ∈ repowerRegisters x, y.addr ≠ e.addr := by
  intro y hy
  simp only [repowerRegisters, List.append_assoc] at hy
  rcases List.mem_append.1 hy with hpair | hother
  · exact pairRegisters_apart hpairs y hpair
  · exact hothers y (by simpa only [List.append_assoc] using hother)

theorem unmaskAt_addr (x : Domain) : (Hid.unmaskAt x.bit).addr ≠ Dict.isolatedDomains.addr ∧ (Hid.unmaskAt x.bit).addr ≠ Hid.poweredDomains.addr := by
  cases x <;> decide

/-- The domain is isolated no more, and powered. -/
theorem repower_spec (d : Dev) (x : Domain) : (d.repower x).isolated x = false ∧ (d.repower x).powered x = true := by
  unfold repower
  dsimp only
  constructor
  · rw [isolated, get_set_ne _ _ _ _ (unmaskAt_addr x).1, keeps_maskPairs _ x false _ (pairRegisters_apart (by decide)),
      get_set_ne _ _ _ _ (by decide), get_set_ne _ _ _ _ (by decide)]
    exact isolated_set_isolatedDomains d x
  · rw [powered, get_set_ne _ _ _ _ (unmaskAt_addr x).2, keeps_maskPairs _ x false _ (pairRegisters_apart (by decide))]
    exact powered_set_poweredDomains _ x

theorem central_restartUnits (d : Dev) (x : Domain) : (d.restartUnits x).central = d.central := by
  unfold restartUnits
  split
  · refine forUnits_view central fun n hn y => ?_
    rw [central_set _ _ (by apply of_lt hn; decide), central_clear _ (by apply of_lt hn; decide)]
  · split
    · unfold memPowered
      dsimp only
      rw [central_set _ _ (by decide)]
      split
      · exact central_set d _ (by decide)
      · rfl
    · rfl

/-- What the restart of an isolated domain leaves of Referee's view of the domains (R638, R642). -/
theorem restartDomain_spec {d : Dev} {x : Domain} (h : d.isolated x = true) :
    (d.restartDomain x).isolated x = false ∧ (d.restartDomain x).powered x = true ∧
      (d.restartDomain x).windows = d.windows ++ [⟨0xFF, d.get Dict.refereeSequence, domainSet x, d.view.frames + 1⟩] := by
  obtain ⟨hisolated, hpowered⟩ := d.repower_spec x
  have hsequence : ((d.repower x).restartUnits x).get Dict.refereeSequence = d.get Dict.refereeSequence := by
    have hoff := repowerRegisters_apart (x := x) (e := Dict.refereeSequence) (by decide) (by cases x <;> decide)
    rw [keeps_restartUnits _ x _ hoff, keeps_repower d x _ hoff]
  have hview : ((d.repower x).restartUnits x).view = d.view := of_rest (g := Dev.view) ((rest_restartUnits _ x).trans (d.rest_repower x))
  have hwindows : ((d.repower x).restartUnits x).windows = d.windows :=
    of_rest (g := Dev.windows) ((rest_restartUnits _ x).trans (d.rest_repower x))
  have hcentral := central_startUpChecks (((d.repower x).restartUnits x).openWindow 0xFF
    (((d.repower x).restartUnits x).get Dict.refereeSequence) (domainSet x)) x
  rw [← restartDomain_of_isolated h] at hcentral
  have hunits := central_restartUnits (d.repower x) x
  simp only [central, Prod.mk.injEq] at hcentral hunits
  obtain ⟨hisolated', hpowered', hwindows'⟩ := hcentral
  refine ⟨?_, ?_, ?_⟩
  · rw [isolated, hisolated']
    exact (congrArg (bit · x.bit) hunits.1).trans hisolated
  · rw [powered, hpowered']
    exact (congrArg (bit · x.bit) hunits.2.1).trans hpowered
  · rw [hwindows', openWindow, hwindows, hsequence, hview]

end Dev

/-- Settles O59: each command with its effect at S0. -/
theorem refereeCommandsActAtS0 : Obligations.RefereeCommandsActAtS0 := by
  unfold Obligations.RefereeCommandsActAtS0
  refine ⟨?_, ?_, ?_, ?_, ?_⟩
  · intro s h v x hadmits
    obtain ⟨t, hexec, haccepted⟩ := State.accepted_of_isCommanded hadmits (by decide) (by decide)
    refine ⟨t, hexec, haccepted, fun d hlatched hisolated => ?_⟩
    rw [Dev.applyGroup_domainRelease d hlatched]
    exact ⟨(Dev.restartDomain_spec hisolated).1, (Dev.restartDomain_spec hisolated).2.1⟩
  · intro s h v x hadmits
    obtain ⟨t, hexec, haccepted⟩ := State.accepted_of_isCommanded hadmits (by decide) (by decide)
    refine ⟨t, hexec, haccepted, fun d n hn hpin hbit => ?_⟩
    rw [Dev.applyGroup_evtAcknowledge, Dev.evtAcknowledge_pin0 hpin]
    constructor
    · rw [Dev.keeps_followEvt _ _ _ (by decide)]
      exact d.bit_strike hn hbit
    · rw [Dev.keeps_followEvt _ _ _ (by decide), Dev.keeps_strike _ _ _ _ (by decide)]
  · intro s h n v x hn hadmits
    have hclears := Dev.clearsSource_of_lt hn
    simp only [Dev.clearsSource, Bool.and_eq_true, Bool.not_eq_true'] at hclears
    obtain ⟨t, hexec, haccepted⟩ := State.accepted_of_isCommanded hadmits hclears.1.1.1.1.1.1 hclears.1.1.1.1.1.2
    refine ⟨t, hexec, haccepted, fun d => ?_⟩
    rw [Dev.applyGroup_evtClear d v hn]
    exact d.evtClear_spec n
  · intro s h v x hadmits
    obtain ⟨t, hexec, haccepted⟩ := State.accepted_of_isCommanded hadmits (by decide) (by decide)
    refine ⟨t, hexec, haccepted, fun d n hn => ?_⟩
    rw [Dev.applyGroup_refereeClearAll]
    exact d.get_evtCount_clearAllSources hn
  · intro s h source count unit options mode c x hsource hcount hunit hoptions hmode items hadmits
    obtain ⟨t, hexec, haccepted⟩ := State.accepted_of_isCommanded hadmits (by decide) (by decide)
    have hmode' : mode < 256 := by omega
    refine ⟨t, ?_, haccepted, fun d => ?_⟩
    · rcases hmode with ⟨rfl, rfl⟩ | ⟨rfl, rfl⟩ | ⟨rfl, rfl⟩ <;> exact hexec
    · rw [show items = [Dict.faultInject.item _] from rfl, Dev.applyGroup_faultInject]
      exact d.faultInject_spec hsource hmode' hcount hunit hoptions

end Sys2Proof.Machine
end

section
/-!
PROOF. How Referee confirms a raising (O58): it is numbered and counted, its first capture is kept, its pins are marked, and it enters the
history of its source.
-/
namespace Sys2Proof.Machine

/-- What the entry of a raising among its source's entries writes (R643, R651). -/
def raisedRegisters (n : Nat) : List Entry :=
  [Dict.refereeSequence, Dict.refereeEventCount, Dict.evtCount n, Dict.evtLastTime n, Dict.evtFirstTime n, Dict.evtFirstSequence n,
    Dict.evtFirstDetail n]

/-- What counts a raising beside its source, and marks its pins (R642, R648, R671). -/
def markRegisters (n : Nat) : List Entry :=
  [Dict.refereeConsequentCount, Dict.evtConsequentCount n, Dict.evtPending0, Dict.evtPending1, Hid.evtLowAt 0, Hid.evtLowAt 1] ++
    (List.range 5).map Dict.lifeFaultCount

/-- What the history of a source writes (R646). -/
def historyRegisters (n : Nat) : List Entry := Dict.evtHistoryLost n :: (List.range 32).map (Dict.evtHistory n)

/-- What follows the entry of a raising among its source's entries. -/
def laterRegisters (n : Nat) : List Entry := markRegisters n ++ historyRegisters n

/-- What a raising of a source writes. -/
def confirmRegisters (n : Nat) : List Entry := raisedRegisters n ++ laterRegisters n

theorem confirmRegisters_subset (n : Nat) : confirmRegisters n ⊆ recordRegisters n := by
  intro e he
  simp only [confirmRegisters, raisedRegisters, laterRegisters, markRegisters, historyRegisters, recordRegisters, List.mem_append, List.mem_cons,
    List.not_mem_nil, or_false] at he ⊢
  rcases he with h | (h | hlife) | rfl | hhistory
  · left; left
    rcases h with rfl | rfl | rfl | rfl | rfl | rfl | rfl <;> simp only [true_or, or_true]
  · left; left
    rcases h with rfl | rfl | rfl | rfl | rfl | rfl <;> simp only [true_or, or_true]
  · exact .inl (.inr hlife)
  · left; left
    simp only [true_or, or_true]
  · exact .inr hhistory

/-- A register that lies apart from all that a raising of the source writes. -/
def offConfirm (n : Nat) (e : Entry) : Bool :=
  decide ((e.addr < 0x800000 ∨ 0x800006 ≤ e.addr) ∧ (e.addr < (0x8100 + n) * 256 + 3 ∨ (0x8100 + n) * 256 + 10 ≤ e.addr) ∧
    (e.addr < 0x884200 ∨ 0x884206 ≤ e.addr) ∧ (e.addr < (0x8200 + n) * 256 ∨ (0x8200 + n) * 256 + 33 ≤ e.addr) ∧
    e.addr ≠ 0x120000F ∧ e.addr ≠ 0x120010F)

theorem confirmRegisters_apart {n : Nat} {e : Entry} (h : offConfirm n e = true) : ∀ x ∈ confirmRegisters n, x.addr ≠ e.addr := by
  intro x hx
  have hoff := of_decide_eq_true h
  obtain ⟨hreferee, hsource, hlife, hhistory, hlow0, hlow1⟩ := hoff
  clear h
  generalize e.addr = place at hreferee hsource hlife hhistory hlow0 hlow1 ⊢
  simp only [confirmRegisters, raisedRegisters, laterRegisters, markRegisters, historyRegisters, List.mem_append, List.mem_cons, List.not_mem_nil,
    or_false, List.mem_map, List.mem_range] at hx
  rcases hx with hx | (hx | ⟨k, hk, rfl⟩) | rfl | ⟨k, hk, rfl⟩
  · rcases hx with rfl | rfl | rfl | rfl | rfl | rfl | rfl <;>
      simp only [Entry.addr, Dict.refereeSequence, Dict.refereeEventCount, Dict.evtCount, Dict.evtLastTime, Dict.evtFirstTime, Dict.evtFirstSequence,
        Dict.evtFirstDetail] <;> omega
  · rcases hx with rfl | rfl | rfl | rfl | rfl | rfl <;>
      simp only [Entry.addr, Dict.refereeConsequentCount, Dict.evtConsequentCount, Dict.evtPending0, Dict.evtPending1, Hid.evtLowAt, Hid.reg] <;>
      omega
  · simp only [Entry.addr, Dict.lifeFaultCount]
    omega
  · simp only [Entry.addr, Dict.evtHistoryLost]
    omega
  · simp only [Entry.addr, Dict.evtHistory]
    omega

namespace Dev

/-! ### The history of a source -/

/-- A record enters the event log while MEM is powered (R605). -/
def logRecord (d : Dev) (rec : Nat) : Dev := if d.powered .mem then { d with eventLog := (rec :: d.eventLog).take 2097152 } else d

/-- The entries of a history move one place on. -/
def shiftHistory (d : Dev) (n : Nat) : Dev :=
  (List.range 31).foldl (fun x i => x.set (Dict.evtHistory n (31 - i)) (x.get (Dict.evtHistory n (30 - i)))) d

theorem pushHistory_eq (d : Dev) (n rec : Nat) :
    d.pushHistory n rec =
      ((if (d.logRecord rec).get (Dict.evtHistory n 31) != 0 then (d.logRecord rec).inc (Dict.evtHistoryLost n) else d.logRecord rec).shiftHistory n).set
        (Dict.evtHistory n 0) rec := (rfl)

theorem get_logRecord (d : Dev) (rec : Nat) (e : Entry) : (d.logRecord rec).get e = d.get e := by
  unfold logRecord
  split <;> rfl

theorem eventLog_logRecord (d : Dev) (rec : Nat) :
    (d.logRecord rec).eventLog = if d.powered .mem then (rec :: d.eventLog).take 2097152 else d.eventLog := by
  unfold logRecord
  split <;> rfl

theorem evtHistory_mem {n k : Nat} (hk : k < 32) : Dict.evtHistory n k ∈ historyRegisters n :=
  List.mem_cons_of_mem _ (List.mem_map_of_mem (List.mem_range.2 hk))

theorem historyRegisters_apart {n : Nat} (hn : n < 128) {e : Entry} (h : e.addr < 0x810000 ∨ 0x828000 ≤ e.addr) :
    ∀ x ∈ historyRegisters n, x.addr ≠ e.addr := by
  intro x hx
  generalize e.addr = place at h ⊢
  simp only [historyRegisters, List.mem_cons, List.mem_map, List.mem_range] at hx
  rcases hx with rfl | ⟨k, hk, rfl⟩
  · simp only [Entry.addr, Dict.evtHistoryLost]
    omega
  · simp only [Entry.addr, Dict.evtHistory]
    omega

theorem keeps_shiftHistory (d : Dev) (n : Nat) : Keeps (historyRegisters n) d (d.shiftHistory n) :=
  .foldl (.refl _ d) fun x i hi => .set (.refl _ x) (evtHistory_mem (by have := List.mem_range.1 hi; omega)) _

theorem rest_shiftHistory (d : Dev) (n : Nat) : (d.shiftHistory n).rest = d.rest := foldl_view rest fun x _ _ => rest_set x _ _

theorem keeps_pushHistory (d : Dev) (n rec : Nat) : Keeps (historyRegisters n) d (d.pushHistory n rec) := by
  have hlog : Keeps (historyRegisters n) d (d.logRecord rec) := fun e _ => get_logRecord d rec e
  rw [pushHistory_eq]
  exact (Keeps.trans (.ite (hlog.inc List.mem_cons_self) hlog) (keeps_shiftHistory _ n)).set (evtHistory_mem (by decide)) _

theorem evtHistory_ne {n k j : Nat} (h : k ≠ j) : (Dict.evtHistory n k).addr ≠ (Dict.evtHistory n j).addr := by
  rw [evtHistory_addr, evtHistory_addr]
  omega

/-- The newest entry moves to the second place. -/
theorem get_shiftHistory (d : Dev) (n : Nat) : (d.shiftHistory n).get (Dict.evtHistory n 1) = d.get (Dict.evtHistory n 0) % 256 ^ 32 := by
  have hrange : List.range 31 = List.range 30 ++ [30] := List.range_succ
  have hkeeps : ((List.range 30).foldl (fun x i => x.set (Dict.evtHistory n (31 - i)) (x.get (Dict.evtHistory n (30 - i)))) d).get
      (Dict.evtHistory n 0) = d.get (Dict.evtHistory n 0) :=
    foldl_view (fun x : Dev => x.get (Dict.evtHistory n 0)) fun x i hi =>
      get_set_ne _ _ _ _ (evtHistory_ne (by have := List.mem_range.1 hi; omega))
  rw [shiftHistory, hrange, List.foldl_append, List.foldl_cons, List.foldl_nil, get_set_self, Nat.sub_self, hkeeps]
  rfl

/-- The new record is the newest, and the newest so far follows it (R646). -/
theorem pushHistory_spec (d : Dev) (n rec : Nat) :
    (d.pushHistory n rec).get (Dict.evtHistory n 0) = rec % 256 ^ 32 ∧
      (d.pushHistory n rec).get (Dict.evtHistory n 1) = d.get (Dict.evtHistory n 0) % 256 ^ 32 := by
  rw [pushHistory_eq]
  refine ⟨get_set_self _ _ _, ?_⟩
  rw [get_set_ne _ _ _ _ (evtHistory_ne (by decide)), get_shiftHistory]
  split
  · rw [get_inc_ne _ _ _ (Entry.addr_ne_of_sub (show 9 ≠ 1 by decide) (show 9 < 256 by decide) (show 1 < 256 by decide)), get_logRecord]
  · rw [get_logRecord]

/-- Beside the registers the history changes the event log alone. -/
theorem rest_pushHistory (d : Dev) (n rec : Nat) : (d.pushHistory n rec).rest = (d.logRecord rec).rest := by
  rw [pushHistory_eq, rest_set, rest_shiftHistory]
  split
  · exact rest_inc _ _
  · rfl

/-! ### The stages of a raising -/

/-- The raising takes its number, is counted, and its time is kept (R643, R651). -/
def numberRaising (d : Dev) (n seq time : Nat) : Dev :=
  (((d.set Dict.refereeSequence seq).inc Dict.refereeEventCount).inc (Dict.evtCount n)).set (Dict.evtLastTime n) time

/-- The first capture since the clear stays (R651). -/
def keepFirst (d : Dev) (n seq time detail : Nat) : Dev :=
  if d.get (Dict.evtFirstSequence n) = 0 then
    ((d.set (Dict.evtFirstTime n) time).set (Dict.evtFirstSequence n) seq).set (Dict.evtFirstDetail n) detail
  else d

/-- The number that the next raising takes (R643). -/
def nextNumber (d : Dev) : Nat := if d.get Dict.refereeSequence = 0xFFFFFFFF then 1 else d.get Dict.refereeSequence + 1

/-- The capture that a raising shows (R632). -/
def shownDetail (p : Post) : Nat := if p.railFault then 0 else p.detail

/-- The raising stands in the source's entries. -/
def raised (d : Dev) (p : Post) : Dev :=
  (d.numberRaising p.source d.nextNumber (toTime96 (d.toCycle d.now))).keepFirst p.source d.nextNumber (toTime96 (d.toCycle d.now)) (shownDetail p)

/-- The record of a raising (R646). -/
def historyRecord (n severity flags causeSource causeSeq seq time detail : Nat) : Nat :=
  ofOctets ([n, severity, flags, causeSource] ++ octetsOf 4 seq ++ octetsOf 12 time ++ octetsOf 8 detail ++ octetsOf 4 causeSeq)

/-- An alert that no window explains is counted and marked, and nothing more (R636, R646, R648). -/
theorem confirm_alert {d : Dev} {p : Post} (hinjected : p.injected = false) (hact : p.act = true)
    (hseverity : d.get (Dict.evtSeverity p.source) ≤ 1) (hwindow : d.windowFor p.source = none) :
    d.confirm p =
      ((((d.raised p).inc (Dict.lifeFaultCount (d.get (Dict.evtSeverity p.source)))).markEvt p.source (d.get (Dict.evtSeverity p.source))).pushHistory
        p.source (historyRecord p.source (d.get (Dict.evtSeverity p.source)) (if p.railFault then 0x40 else 0) 0xFF 0 d.nextNumber
          (toTime96 (d.toCycle d.now)) (shownDetail p))).offerEvent p.source (d.get (Dict.evtSeverity p.source)) (toTime96 (d.toCycle d.now))
            (shownDetail p) := by
  have hbelow : d.get (Dict.evtSeverity p.source) < 3 := by omega
  have h2 : d.get (Dict.evtSeverity p.source) ≠ 2 := by omega
  have h3 : d.get (Dict.evtSeverity p.source) ≠ 3 := by omega
  have h4 : d.get (Dict.evtSeverity p.source) ≠ 4 := by omega
  simp only [confirm, act, hinjected, hact, hwindow, hbelow, h2, h3, h4, decide_true, Bool.and_self, if_true, if_false, Bool.false_eq_true,
    Option.isSome_none, Bool.or_self, Bool.not_true, Nat.add_zero]
  rfl

/-- An alert in the window of another raising is counted as its consequence (R642, R645). -/
theorem confirm_consequent {d : Dev} {p : Post} {w : Window} (hinjected : p.injected = false) (hact : p.act = true)
    (hseverity : d.get (Dict.evtSeverity p.source) ≤ 1) (hwindow : d.windowFor p.source = some w) :
    d.confirm p =
      ((((d.raised p).inc (Dict.evtConsequentCount p.source)).inc Dict.refereeConsequentCount).pushHistory
        p.source (historyRecord p.source (d.get (Dict.evtSeverity p.source)) (0x80 + if p.railFault then 0x40 else 0) w.source w.sequence d.nextNumber
          (toTime96 (d.toCycle d.now)) (shownDetail p))).offerEvent p.source (d.get (Dict.evtSeverity p.source)) (toTime96 (d.toCycle d.now))
            (shownDetail p) := by
  have hbelow : d.get (Dict.evtSeverity p.source) < 3 := by omega
  simp only [confirm, hinjected, hact, hwindow, hbelow, decide_true, Bool.and_self, if_true, if_false, Bool.false_eq_true,
    Option.isSome_some, Bool.or_true, Nat.add_zero]
  rfl

/-- A raising of the highest severity opens the window of the safe stop (R640, R642). -/
theorem confirm_safeStop {d : Dev} {p : Post} (hinjected : p.injected = false) (hact : p.act = true)
    (hseverity : d.get (Dict.evtSeverity p.source) = 4) :
    d.confirm p =
      ((((((d.raised p).inc (Dict.lifeFaultCount 4)).markEvt p.source 4).setB Hid.safeStop true).openWindow p.source d.nextNumber safeStopSet).pushHistory
        p.source (historyRecord p.source 4 ((if p.railFault then 0x40 else 0) + 0x10) 0xFF 0 d.nextNumber
          (toTime96 (d.toCycle d.now)) (shownDetail p))).offerEvent p.source 4 (toTime96 (d.toCycle d.now)) (shownDetail p) := by
  simp only [confirm, act, hinjected, hact, hseverity, if_true, if_false, Bool.false_eq_true, Nat.reduceLT, decide_false, Bool.and_false,
    Option.isSome_none, Bool.or_self, Bool.not_true, Nat.add_zero, Nat.reduceEqDiff]
  rfl

/-! ### What each stage writes -/

theorem keeps_raised (d : Dev) (p : Post) : Keeps (raisedRegisters p.source) d (d.raised p) := by
  have hnumber : Keeps (raisedRegisters p.source) d (d.numberRaising p.source d.nextNumber (toTime96 (d.toCycle d.now))) :=
    ((((Keeps.refl _ d).set (by simp [raisedRegisters]) _).inc (by simp [raisedRegisters])).inc (by simp [raisedRegisters])).set
      (by simp [raisedRegisters]) _
  exact .ite (((hnumber.set (by simp [raisedRegisters]) _).set (by simp [raisedRegisters]) _).set (by simp [raisedRegisters]) _) hnumber

theorem rest_raised (d : Dev) (p : Post) : (d.raised p).rest = d.rest := by
  unfold raised keepFirst numberRaising
  split
  · simp only [rest_set, rest_inc]
  · simp only [rest_set, rest_inc]

theorem get_offerEvent (d : Dev) (n severity time detail : Nat) (e : Entry) : (d.offerEvent n severity time detail).get e = d.get e := (rfl)

/-- The numbers of a raising stand from its entry on. -/
theorem laterRegisters_apart {n : Nat} (hn : n < 128) {e : Entry}
    (he : e.addr = 0x800001 ∨ e.addr = 0x800002 ∨ e.addr = (0x8100 + n) * 256 + 3) : ∀ x ∈ laterRegisters n, x.addr ≠ e.addr := by
  intro x hx
  generalize e.addr = place at he ⊢
  simp only [laterRegisters, markRegisters, historyRegisters, List.mem_append, List.mem_cons, List.not_mem_nil, or_false, List.mem_map, List.mem_range] at hx
  rcases hx with (hx | ⟨k, hk, rfl⟩) | rfl | ⟨k, hk, rfl⟩
  · rcases hx with rfl | rfl | rfl | rfl | rfl | rfl <;>
      simp only [Entry.addr, Dict.refereeConsequentCount, Dict.evtConsequentCount, Dict.evtPending0, Dict.evtPending1, Hid.evtLowAt, Hid.reg] <;>
      omega
  · simp only [Entry.addr, Dict.lifeFaultCount]
    omega
  · simp only [Entry.addr, Dict.evtHistoryLost]
    omega
  · simp only [Entry.addr, Dict.evtHistory]
    omega

theorem keeps_markEvt (d : Dev) (n severity : Nat) : Keeps (markRegisters n) d (d.markEvt n severity) := by
  have hmark : ∀ (x : Dev) (e : Entry) (b : Bool), e ∈ markRegisters n →
      Keeps (markRegisters n) x (if b then x.set e (setBit (x.get e) n) else x) := fun x e _ he => .ite (.set (.refl _ x) he _) (.refl _ x)
  have h0 := hmark d Dict.evtPending0 (bit (if severity = 0 then 0 else d.get (Dict.evtRoute n)) 0) (by simp [markRegisters])
  have h1 := fun x => hmark x Dict.evtPending1 (bit (if severity = 0 then 0 else d.get (Dict.evtRoute n)) 1) (by simp [markRegisters])
  exact (h0.trans (h1 _)).trans ((keeps_followEvt _ d).mono (by simp [markRegisters]))

theorem Keeps.lifeFault {n severity : Nat} {d d' : Dev} (h : Keeps (markRegisters n) d d') (hseverity : severity < 5) :
    Keeps (markRegisters n) d (d'.inc (Dict.lifeFaultCount severity)) :=
  h.inc (List.mem_append_right _ (List.mem_map_of_mem (List.mem_range.2 hseverity)))

theorem Keeps.pushHistory {n rec : Nat} {d d' : Dev} (h : Keeps (markRegisters n) d d') : Keeps (laterRegisters n) d (d'.pushHistory n rec) :=
  (h.mono (List.subset_append_left _ _)).trans ((keeps_pushHistory d' n rec).mono (List.subset_append_right _ _))

/-! ### Beside the registers -/

/-- What a raising may change beside registers: what waits, the windows and the event log. -/
def ledger (d : Dev) : List Post × List Window × List Nat := (d.posted, d.windows, d.eventLog)

theorem ledger_of_rest {d d' : Dev} (h : d'.rest = d.rest) : d'.ledger = d.ledger := of_rest (g := Dev.ledger) h
theorem windows_of_ledger {d d' : Dev} (h : d'.ledger = d.ledger) : d'.windows = d.windows := congrArg (·.2.1) h
theorem ledger_out (d : Dev) (x : Emit) : (d.out x).ledger = d.ledger := (rfl)
theorem ledger_offerEvent (d : Dev) (n severity time detail : Nat) : (d.offerEvent n severity time detail).ledger = d.ledger := (rfl)

theorem ledger_followEvt (d before : Dev) : (d.followEvt before).ledger = d.ledger := by
  refine foldl_view ledger fun x b _ => ?_
  dsimp only
  split
  · exact (ledger_out _ _).trans (ledger_of_rest (rest_set x _ _))
  · split
    · exact ledger_out _ _
    · rfl

theorem ledger_markEvt (d : Dev) (n severity : Nat) : (d.markEvt n severity).ledger = d.ledger := by
  have hmark : ∀ (x : Dev) (e : Entry) (b : Bool), (if b then x.set e (setBit (x.get e) n) else x).ledger = x.ledger := fun x e b => by
    split
    · exact ledger_of_rest (rest_set x _ _)
    · rfl
  exact (ledger_followEvt _ d).trans ((hmark _ _ _).trans (hmark d _ _))

theorem ledger_pushHistory (d : Dev) (n rec : Nat) :
    (d.pushHistory n rec).ledger = (d.posted, d.windows, if d.powered .mem then (rec :: d.eventLog).take 2097152 else d.eventLog) := by
  rw [ledger_of_rest (rest_pushHistory d n rec), ledger, eventLog_logRecord, logRecord]
  split <;> rfl

theorem view_out (d : Dev) (x : Emit) : (d.out x).view = d.view := (rfl)
theorem view_set (d : Dev) (e : Entry) (v : Nat) : (d.set e v).view = d.view := (rfl)

theorem view_followEvt (d before : Dev) : (d.followEvt before).view = d.view := by
  refine foldl_view view fun x b _ => ?_
  dsimp only
  split
  · rw [view_out, view_set]
  · split
    · rw [view_out]
    · rfl

theorem view_markEvt (d : Dev) (n severity : Nat) : (d.markEvt n severity).view = d.view := by
  have hmark : ∀ (x : Dev) (e : Entry) (b : Bool), (if b then x.set e (setBit (x.get e) n) else x).view = x.view := fun x e b => by
    split
    · exact view_set x _ _
    · rfl
  exact (view_followEvt _ d).trans ((hmark _ _ _).trans (hmark d _ _))

/-! ### What a raising leaves -/

/-- The entry of a raising counts it under its number (R643, R651). -/
theorem raised_spec (d : Dev) {p : Post} (hn : p.source < 128) :
    (d.raised p).get Dict.refereeSequence = d.nextNumber % 256 ^ 4 ∧
      (d.raised p).get Dict.refereeEventCount = min (d.get Dict.refereeEventCount + 1) (Dict.refereeEventCount.modulus - 1) ∧
      (d.raised p).get (Dict.evtCount p.source) = min (d.get (Dict.evtCount p.source) + 1) ((Dict.evtCount p.source).modulus - 1) := by
  have hfirst : ∀ e : Entry, (e.addr = 0x800001 ∨ e.addr = 0x800002 ∨ e.addr = (0x8100 + p.source) * 256 + 3) →
      (d.raised p).get e = (((d.set Dict.refereeSequence d.nextNumber).inc Dict.refereeEventCount).inc (Dict.evtCount p.source)).get e := by
    intro e he
    have hkeeps : Keeps [Dict.evtFirstTime p.source, Dict.evtFirstSequence p.source, Dict.evtFirstDetail p.source, Dict.evtLastTime p.source]
        (((d.set Dict.refereeSequence d.nextNumber).inc Dict.refereeEventCount).inc (Dict.evtCount p.source)) (d.raised p) :=
      .ite (.set (.set (.set (.set (.refl _ _) (by simp) _) (by simp) _) (by simp) _) (by simp) _) (.set (.refl _ _) (by simp) _)
    refine hkeeps e fun x hx => ?_
    generalize e.addr = place at he ⊢
    simp only [List.mem_cons, List.not_mem_nil, or_false] at hx
    rcases hx with rfl | rfl | rfl | rfl <;>
      simp only [Entry.addr, Dict.evtFirstTime, Dict.evtFirstSequence, Dict.evtFirstDetail, Dict.evtLastTime] <;> omega
  have hsequence : (Dict.evtCount p.source).addr ≠ Dict.refereeSequence.addr := by
    rw [evtCount_addr, show Dict.refereeSequence.addr = 0x800001 from rfl]
    omega
  have hevents : (Dict.evtCount p.source).addr ≠ Dict.refereeEventCount.addr := by
    rw [evtCount_addr, show Dict.refereeEventCount.addr = 0x800002 from rfl]
    omega
  refine ⟨?_, ?_, ?_⟩
  · rw [hfirst _ (.inl rfl), get_inc_ne _ _ _ hsequence, get_inc_ne _ _ _ (by decide), get_set_self]
    rfl
  · rw [hfirst _ (.inr (.inl rfl)), get_inc_ne _ _ _ hevents, get_inc, get_set_ne _ _ _ _ (by decide)]
  · rw [hfirst _ (.inr (.inr (evtCount_addr _))), get_inc, get_inc_ne _ _ _ hevents.symm, get_set_ne _ _ _ _ hsequence.symm]

/-- An alert leaves what waits, the windows, and every register but its record. -/
theorem confirm_spec {d : Dev} {p : Post} (hinjected : p.injected = false) (hact : p.act = true)
    (hseverity : d.get (Dict.evtSeverity p.source) ≤ 1) :
    Keeps (laterRegisters p.source) (d.raised p) (d.confirm p) ∧ (d.confirm p).posted = d.posted ∧ (d.confirm p).windows = d.windows := by
  have hledger := ledger_of_rest (rest_raised d p)
  have hpushed : ∀ (x : Dev) (rec severity time detail : Nat), Keeps (markRegisters p.source) (d.raised p) x → x.ledger = d.ledger →
      Keeps (laterRegisters p.source) (d.raised p) ((x.pushHistory p.source rec).offerEvent p.source severity time detail) ∧
        ((x.pushHistory p.source rec).offerEvent p.source severity time detail).posted = d.posted ∧
        ((x.pushHistory p.source rec).offerEvent p.source severity time detail).windows = d.windows := by
    intro x rec severity time detail hkeeps hx
    have hpush := (ledger_offerEvent _ p.source severity time detail).trans (ledger_pushHistory x p.source rec)
    simp only [ledger, Prod.mk.injEq] at hpush hx
    exact ⟨fun e he => (get_offerEvent _ _ _ _ _ e).trans (hkeeps.pushHistory e he), hpush.1.trans hx.1, hpush.2.1.trans hx.2.1⟩
  cases hwindow : d.windowFor p.source with
  | none =>
    rw [confirm_alert hinjected hact hseverity hwindow]
    have hlife := (Keeps.refl (markRegisters p.source) (d.raised p)).lifeFault (Nat.lt_of_le_of_lt hseverity (by decide))
    have hcounted := (ledger_of_rest (rest_inc (d.raised p) (Dict.lifeFaultCount (d.get (Dict.evtSeverity p.source))))).trans hledger
    generalize (d.raised p).inc (Dict.lifeFaultCount (d.get (Dict.evtSeverity p.source))) = x at hlife hcounted
    exact hpushed _ _ _ _ _ (hlife.trans (keeps_markEvt _ _ _)) ((ledger_markEvt _ _ _).trans hcounted)
  | some w =>
    rw [confirm_consequent hinjected hact hseverity hwindow]
    have hkeeps := ((Keeps.refl (markRegisters p.source) (d.raised p)).inc (e := Dict.evtConsequentCount p.source)
      (by simp [markRegisters])).inc (e := Dict.refereeConsequentCount) (by simp [markRegisters])
    have hcounted : (((d.raised p).inc (Dict.evtConsequentCount p.source)).inc Dict.refereeConsequentCount).ledger = d.ledger :=
      (ledger_of_rest ((rest_inc _ _).trans (rest_inc _ _))).trans hledger
    generalize ((d.raised p).inc (Dict.evtConsequentCount p.source)).inc Dict.refereeConsequentCount = x at hkeeps hcounted
    exact hpushed _ _ _ _ _ hkeeps hcounted

/-- Every register that a raising writes is one of its record. -/
theorem keeps_confirm {d : Dev} {p : Post} (hinjected : p.injected = false) (hact : p.act = true)
    (hseverity : d.get (Dict.evtSeverity p.source) ≤ 1) : Keeps (confirmRegisters p.source) d (d.confirm p) :=
  ((keeps_raised d p).mono (List.subset_append_left _ _)).trans ((confirm_spec hinjected hact hseverity).1.mono (List.subset_append_right _ _))

/-! ### The pairs -/

theorem pairFaults_single (d : Dev) (n hardware : Nat) :
    d.pairFaults [(n, hardware)] = ((d.clear Hid.sampleHandOver).pairFault n hardware).clear Hid.sampleHandOver := (rfl)

/-- The raising that waits, or one with the capture that the hardware shows (R630). -/
def presented (d : Dev) (n hardware : Nat) : Post := (d.posted.find? fun p => p.source == n).getD ⟨n, hardware, false, false, true⟩

theorem source_presented (d : Dev) (n hardware : Nat) : (d.presented n hardware).source = n := by
  unfold presented
  cases hfind : d.posted.find? fun p => p.source == n with
  | none => rfl
  | some p =>
    have hsource := List.find?_some hfind
    exact beq_iff_eq.1 hsource

/-- A raising waits no more. -/
def withoutPost (d : Dev) (p : Post) : Dev := { d with posted := d.posted.erase p }

theorem get_withoutPost (d : Dev) (p : Post) (e : Entry) : (d.withoutPost p).get e = d.get e := (rfl)

/-- The pair reads Fault, and its raising is taken. -/
def faulted (d : Dev) (n : Nat) (p : Post) : Dev := ((d.withoutPost p).setB (Hid.evtArmed n) false).set (Dict.evtRailState n) 1

theorem pairFault_of_armed {d : Dev} {n : Nat} (hdefined : n < 36 ∨ 47 < n) (hn : n ≤ 127) (hmasked : d.masked n = false)
    (harmed : d.is (Hid.evtArmed n) = true) (hardware : Nat) :
    d.pairFault n hardware = (d.faulted n (d.presented n hardware)).confirm (d.presented n hardware) := by
  have hlow : decide (127 < n) = false := decide_eq_false (by omega)
  have hgap : (decide (36 ≤ n) && decide (n ≤ 47)) = false := by
    rcases hdefined with h | h
    · rw [decide_eq_false (by omega), Bool.false_and]
    · rw [decide_eq_false (show ¬n ≤ 47 by omega), Bool.and_false]
  simp only [pairFault, hlow, hgap, hmasked, harmed, Bool.not_true, Bool.or_self, Bool.false_eq_true, if_false]
  rfl

theorem keeps_faulted (d : Dev) (n : Nat) (p : Post) : Keeps [Hid.evtArmed n, Dict.evtRailState n] d (d.faulted n p) :=
  .set (.setB (fun e _ => get_withoutPost d p e) (by simp) _) (by simp) _

/-- Apart from registers and what waits, the device when a pair reads Fault is the device before. -/
theorem rest_faulted (d : Dev) (n : Nat) (p : Post) : (d.faulted n p).rest = d.rest.withoutPost p := by
  unfold faulted
  rw [rest_set, rest_setB]
  rfl

theorem evtRailState_addr (n : Nat) : (Dict.evtRailState n).addr = (0x8100 + n) * 256 + 10 := rfl

theorem evtArmed_addr (n : Nat) : (Hid.evtArmed n).addr = (0x12000 + n) * 256 := by
  simp only [Entry.addr, Hid.evtArmed, Hid.reg, Nat.add_zero, Nat.reduceMul, Nat.reduceAdd]

theorem offConfirm_evtRailState {n m : Nat} (hn : n < 128) (hm : m < 128) : offConfirm n (Dict.evtRailState m) = true := by
  rw [offConfirm, evtRailState_addr]
  exact decide_eq_true (by omega)

theorem offConfirm_evtArmed {n m : Nat} (hn : n < 128) (hm : m < 128) : offConfirm n (Hid.evtArmed m) = true := by
  rw [offConfirm, evtArmed_addr]
  exact decide_eq_true (by omega)

/-- The start of a sample of the pairs (R641). -/
theorem masked_clear_sampleHandOver (d : Dev) (n : Nat) : (d.clear Hid.sampleHandOver).masked n = d.masked n := by
  have hunmask : (d.clear Hid.sampleHandOver).get (Hid.unmaskAt (sourceDomain n).bit) = d.get (Hid.unmaskAt (sourceDomain n).bit) :=
    get_clear_ne _ _ _ (Entry.addr_ne_of_sub (show 16 ≠ 17 by decide) (show 16 < 256 by decide) (show 17 < 256 by decide))
  have hrail : (d.clear Hid.sampleHandOver).get (Dict.evtRailState n) = d.get (Dict.evtRailState n) :=
    get_clear_ne _ _ _ (Entry.addr_ne_of_sub (show 16 ≠ 10 by decide) (show 16 < 256 by decide) (show 10 < 256 by decide))
  have hpowered : (d.clear Hid.sampleHandOver).get Hid.poweredDomains = d.get Hid.poweredDomains := get_clear_ne _ _ _ (by decide)
  unfold masked powered
  rw [hunmask, hrail, hpowered]
  rfl

/-- Time to the nearest TCLK cycle depends on the frame and its increment alone. -/
theorem toCycle_congr {d d' : Dev} (hview : d'.view = d.view) (hincrement : d'.get Dict.incrementActive = d.get Dict.incrementActive) (u : Nat) :
    d'.toCycle u = d.toCycle u := by
  unfold toCycle
  rw [hview, hincrement]

/-- The device at the sample, with the pair at Fault and its raising taken. -/
def sampled (d : Dev) (n hardware : Nat) : Dev :=
  (d.clear Hid.sampleHandOver).faulted n ((d.clear Hid.sampleHandOver).presented n hardware)

/-- What the sample itself writes. -/
def sampleRegisters (n : Nat) : List Entry := [Hid.sampleHandOver, Hid.evtArmed n, Dict.evtRailState n]

theorem keeps_sampled (d : Dev) (n hardware : Nat) : Keeps (sampleRegisters n) d (d.sampled n hardware) :=
  (Keeps.clear (.refl _ d) (by simp [sampleRegisters])).trans ((keeps_faulted _ n _).mono (by simp [sampleRegisters]))

theorem rest_sampled (d : Dev) (n hardware : Nat) : (d.sampled n hardware).rest = d.rest.withoutPost (d.presented n hardware) := by
  unfold sampled
  rw [rest_faulted, rest_clear]
  rfl

/-- A register that the sample of a pair leaves. -/
theorem sampleRegisters_apart {n : Nat} {e : Entry} (h : e.addr ≠ 0x1200010 ∧ e.addr ≠ (0x12000 + n) * 256 ∧ e.addr ≠ (0x8100 + n) * 256 + 10) :
    ∀ x ∈ sampleRegisters n, x.addr ≠ e.addr := by
  obtain ⟨hsample, harmed, hrail⟩ := h
  intro x hx
  simp only [sampleRegisters, List.mem_cons, List.not_mem_nil, or_false] at hx
  rcases hx with rfl | rfl | rfl
  · exact hsample.symm
  · rw [evtArmed_addr]
    exact harmed.symm
  · rw [evtRailState_addr]
    exact hrail.symm

theorem sampled_spec (d : Dev) (n hardware : Nat) :
    (d.sampled n hardware).get (Dict.evtRailState n) = 1 ∧ (d.sampled n hardware).get (Hid.evtArmed n) = 0 := by
  unfold sampled faulted
  refine ⟨get_lt_of_set _ _ (show 1 < 256 by decide), ?_⟩
  rw [get_set_ne _ _ _ _ (by rw [evtRailState_addr, evtArmed_addr]; omega), get_setB_self]
  rfl

end Dev

/-- A pair that reads Fault is taken and confirmed (R630). -/
theorem State.pairFault_next {s : State} {n : Nat} (hdefined : n < 36 ∨ 47 < n) (hn : n ≤ 127) (hmasked : s.met.masked n = false)
    (harmed : s.dev.is (Hid.evtArmed n) = true) (hardware : Nat) :
    ∃ t, exec (.pairFault [(n, hardware)]) s = .next t ∧
      t.dev = ((s.met.sampled n hardware).confirm (s.met.presented n hardware)).clear Hid.sampleHandOver ∧ DeviceStep s t := by
  obtain ⟨t, hexec, hdev, hstep⟩ := State.onDev_next s (·.pairFaults [(n, hardware)])
  refine ⟨t, hexec, ?_, hstep⟩
  have harmed' : (s.met.clear Hid.sampleHandOver).is (Hid.evtArmed n) = true := by
    rw [Dev.is, Dev.get_clear_ne _ _ _ (by rw [Dev.evtArmed_addr, show Hid.sampleHandOver.addr = 0x1200010 from rfl]; omega)]
    exact harmed
  rw [hdev, Dev.pairFaults_single, Dev.pairFault_of_armed hdefined hn ((Dev.masked_clear_sampleHandOver _ n).trans hmasked) harmed']
  rfl

namespace Dev

theorem windowFor_of_none {d : Dev} (hwindows : d.windows = []) (n : Nat) : d.windowFor n = none := by
  rw [windowFor, hwindows]
  rfl

/-- The power of the domains and the histories lie apart from what a raising writes before its history. -/
theorem beforeHistory_apart {n : Nat} (hn : n < 128) {e : Entry} (he : e.addr = 0x1000001 ∨ (0x820000 < e.addr ∧ e.addr < 0x828000)) :
    ∀ x ∈ raisedRegisters n ++ markRegisters n, x.addr ≠ e.addr := by
  intro x hx
  generalize e.addr = place at he ⊢
  simp only [raisedRegisters, markRegisters, List.mem_append, List.mem_cons, List.not_mem_nil, or_false, List.mem_map, List.mem_range] at hx
  rcases hx with hx | hx | ⟨k, hk, rfl⟩
  · rcases hx with rfl | rfl | rfl | rfl | rfl | rfl | rfl <;>
      simp only [Entry.addr, Dict.refereeSequence, Dict.refereeEventCount, Dict.evtCount, Dict.evtLastTime, Dict.evtFirstTime, Dict.evtFirstSequence,
        Dict.evtFirstDetail] <;> omega
  · rcases hx with rfl | rfl | rfl | rfl | rfl | rfl <;>
      simp only [Entry.addr, Dict.refereeConsequentCount, Dict.evtConsequentCount, Dict.evtPending0, Dict.evtPending1, Hid.evtLowAt, Hid.reg] <;>
      omega
  · simp only [Entry.addr, Dict.lifeFaultCount]
    omega

/-- The history and the log of an alert that no window explains (R605, R646). -/
theorem confirm_alert_history {d : Dev} {p : Post} {n : Nat} (hsource : p.source = n) (hn : n < 128) (hrail : p.railFault = false)
    (hinjected : p.injected = false) (hact : p.act = true) (hseverity : d.get (Dict.evtSeverity n) = 1) (hwindows : d.windows = []) :
    let record := historyRecord n 1 0 0xFF 0 d.nextNumber (toTime96 (d.toCycle d.now)) p.detail
    (d.confirm p).get (Dict.evtHistory n 0) = record % 256 ^ 32 ∧
      (d.confirm p).get (Dict.evtHistory n 1) = d.get (Dict.evtHistory n 0) % 256 ^ 32 ∧
      (d.confirm p).eventLog = if d.powered .mem then (record :: d.eventLog).take 2097152 else d.eventLog := by
  subst hsource
  intro record
  rw [confirm_alert hinjected hact (Nat.le_of_eq hseverity) (windowFor_of_none hwindows _), hseverity, hrail, shownDetail, hrail]
  have hmarked : Keeps (raisedRegisters p.source ++ markRegisters p.source) d (((d.raised p).inc (Dict.lifeFaultCount 1)).markEvt p.source 1) :=
    ((keeps_raised d p).mono (List.subset_append_left _ _)).trans
      ((((Keeps.refl _ _).lifeFault (by decide)).trans (keeps_markEvt _ _ _)).mono (List.subset_append_right _ _))
  have hledger : (((d.raised p).inc (Dict.lifeFaultCount 1)).markEvt p.source 1).ledger = d.ledger :=
    (ledger_markEvt _ _ _).trans ((ledger_of_rest (rest_inc _ _)).trans (ledger_of_rest (rest_raised d p)))
  generalize ((d.raised p).inc (Dict.lifeFaultCount 1)).markEvt p.source 1 = x at hmarked hledger
  have hpower : x.powered .mem = d.powered .mem := congrArg (bit · _) (hmarked _ (beforeHistory_apart hn (.inl rfl)))
  have hpush := (ledger_offerEvent _ p.source 1 (toTime96 (d.toCycle d.now)) p.detail).trans (ledger_pushHistory x p.source record)
  simp only [ledger, Prod.mk.injEq] at hpush hledger
  have hspec := pushHistory_spec x p.source record
  refine ⟨(get_offerEvent _ _ _ _ _ _).trans hspec.1, ?_, ?_⟩
  · rw [get_offerEvent]
    refine hspec.2.trans (congrArg (· % 256 ^ 32) (hmarked _ (beforeHistory_apart hn (.inr ?_))))
    rw [evtHistory_addr]
    omega
  · rw [← hpower, ← hledger.2.2]
    exact hpush.2.2

theorem get_openWindow (d : Dev) (source sequence : Nat) (l : List Nat) (e : Entry) : (d.openWindow source sequence l).get e = d.get e := (rfl)

theorem windows_openWindow (d : Dev) (source sequence : Nat) (l : List Nat) :
    (d.openWindow source sequence l).windows = d.windows ++ [⟨source, sequence, l, d.view.frames + 1⟩] := (rfl)

theorem free_openWindow (d : Dev) (source sequence : Nat) (l : List Nat) : (d.openWindow source sequence l).free = d.free := (rfl)
theorem posted_openWindow (d : Dev) (source sequence : Nat) (l : List Nat) : (d.openWindow source sequence l).posted = d.posted := (rfl)

theorem windows_setB (d : Dev) (e : Entry) (b : Bool) : (d.setB e b).windows = d.windows := (rfl)
theorem view_setB (d : Dev) (e : Entry) (b : Bool) : (d.setB e b).view = d.view := (rfl)

/-- A raising of the highest severity writes its record and the flag of the safe stop, and opens its window (R640). -/
theorem confirm_safeStop_spec {d : Dev} {p : Post} (hinjected : p.injected = false) (hact : p.act = true)
    (hseverity : d.get (Dict.evtSeverity p.source) = 4) (hn : p.source < 128) :
    Keeps (Hid.safeStop :: laterRegisters p.source) (d.raised p) (d.confirm p) ∧ (d.confirm p).get Hid.safeStop = 1 ∧
      (d.confirm p).windows = d.windows ++ [⟨p.source, d.nextNumber, safeStopSet, d.view.frames + 1⟩] := by
  rw [confirm_safeStop hinjected hact hseverity]
  have hmarked : Keeps (markRegisters p.source) (d.raised p) (((d.raised p).inc (Dict.lifeFaultCount 4)).markEvt p.source 4) :=
    ((Keeps.refl _ _).lifeFault (by decide)).trans (keeps_markEvt _ _ _)
  have hledger : (((d.raised p).inc (Dict.lifeFaultCount 4)).markEvt p.source 4).windows = d.windows :=
    windows_of_ledger ((ledger_markEvt _ _ _).trans ((ledger_of_rest (rest_inc _ _)).trans (ledger_of_rest (rest_raised d p))))
  have hview : (((d.raised p).inc (Dict.lifeFaultCount 4)).markEvt p.source 4).view = d.view :=
    (view_markEvt _ _ _).trans (of_rest (g := Dev.view) ((rest_inc _ _).trans (rest_raised d p)))
  generalize ((d.raised p).inc (Dict.lifeFaultCount 4)).markEvt p.source 4 = x at hmarked hledger hview
  generalize historyRecord p.source 4 ((if p.railFault then 0x40 else 0) + 0x10) 0xFF 0 d.nextNumber (toTime96 (d.toCycle d.now)) (shownDetail p) = record
  generalize toTime96 (d.toCycle d.now) = time
  have hhistory := keeps_pushHistory ((x.setB Hid.safeStop true).openWindow p.source d.nextNumber safeStopSet) p.source record
  have hpush := (ledger_offerEvent _ p.source 4 time (shownDetail p)).trans
    (ledger_pushHistory ((x.setB Hid.safeStop true).openWindow p.source d.nextNumber safeStopSet) p.source record)
  refine ⟨fun e he => ?_, ?_, ?_⟩
  · have hsafe : Hid.safeStop.addr ≠ e.addr := he _ List.mem_cons_self
    have hlater : ∀ y ∈ laterRegisters p.source, y.addr ≠ e.addr := fun y hy => he y (List.mem_cons_of_mem _ hy)
    rw [get_offerEvent, hhistory e fun y hy => hlater y (List.mem_append_right _ hy), get_openWindow, get_setB_ne _ _ _ _ hsafe,
      hmarked e fun y hy => hlater y (List.mem_append_left _ hy)]
  · rw [get_offerEvent, hhistory _ (historyRegisters_apart hn (.inr (by decide))), get_openWindow, get_setB_self]
    rfl
  · simp only [ledger, Prod.mk.injEq] at hpush
    rw [hpush.2.1, windows_openWindow, windows_setB, view_setB, hledger, hview]

end Dev

/-- What a pair at Fault writes is its record (R636). -/
theorem sampleRegisters_subset (n : Nat) : Dev.sampleRegisters n ⊆ recordRegisters n := by
  intro e he
  refine List.mem_append_left _ (List.mem_append_left _ ?_)
  simp only [Dev.sampleRegisters, List.mem_cons, List.not_mem_nil, or_false] at he
  rcases he with rfl | rfl | rfl <;> simp only [List.mem_cons, true_or, or_true]

namespace Dev

/-- After a sample, every register but the mark of a hand-over reads as the raising left it (R641). -/
theorem get_sample {d : Dev} {e : Entry} (h : e.addr ≠ 0x1200010) : (d.clear Hid.sampleHandOver).get e = d.get e :=
  get_clear_ne _ _ _ h.symm

/-- The numbers of a raising, read after its confirmation (R643, R651). -/
theorem confirmed_numbers {d : Dev} {p : Post} {n : Nat} {d' : Dev} (hsource : p.source = n) (hn : n < 128) {es : List Entry}
    (hkeeps : Keeps (es ++ laterRegisters n) (d.raised p) d')
    (hes : ∀ x ∈ es, x.addr ≠ 0x800001 ∧ x.addr ≠ 0x800002 ∧ x.addr ≠ (0x8100 + n) * 256 + 3) :
    d'.get Dict.refereeSequence = d.nextNumber % 256 ^ 4 ∧
      d'.get Dict.refereeEventCount = min (d.get Dict.refereeEventCount + 1) (Dict.refereeEventCount.modulus - 1) ∧
      d'.get (Dict.evtCount n) = min (d.get (Dict.evtCount n) + 1) ((Dict.evtCount n).modulus - 1) := by
  subst hsource
  obtain ⟨hsequence, hevents, hcount⟩ := d.raised_spec hn
  have hkept : ∀ e : Entry, (e.addr = 0x800001 ∨ e.addr = 0x800002 ∨ e.addr = (0x8100 + p.source) * 256 + 3) → d'.get e = (d.raised p).get e := by
    intro e he
    refine hkeeps e fun x hx => ?_
    rcases List.mem_append.1 hx with hx | hx
    · obtain ⟨h1, h2, h3⟩ := hes x hx
      omega
    · exact laterRegisters_apart hn he x hx
  exact ⟨(hkept _ (.inl rfl)).trans hsequence, (hkept _ (.inr (.inl rfl))).trans hevents, (hkept _ (.inr (.inr (evtCount_addr _)))).trans hcount⟩

/-- What the device holds beside its registers once a raising is taken. -/
theorem aside_of_withoutPost {d d' : Dev} {p : Post} (h : d'.rest = d.rest.withoutPost p) :
    d'.posted = d.posted.erase p ∧ d'.windows = d.windows ∧ d'.eventLog = d.eventLog ∧ d'.view = d.view :=
  ⟨(congrArg Dev.posted h :), (congrArg Dev.windows h :), (congrArg Dev.eventLog h :), (congrArg Dev.view h :)⟩

theorem nextNumber_of_lt {d : Dev} (h : d.get Dict.refereeSequence < 0xFFFFFFFF) : d.nextNumber = d.get Dict.refereeSequence + 1 :=
  if_neg (Nat.ne_of_lt h)

theorem sampled_unmarked {d : Dev} {n : Nat} {e : Entry} (hardware : Nat)
    (h : e.addr ≠ 0x1200010 ∧ e.addr ≠ (0x12000 + n) * 256 ∧ e.addr ≠ (0x8100 + n) * 256 + 10) : (d.sampled n hardware).get e = d.get e :=
  keeps_sampled d n hardware e (sampleRegisters_apart h)

end Dev

/-- An alert is recorded, and nothing more is done (R636, R643, R646). -/
theorem State.pairFault_alert {s : State} {n hardware : Nat} {p : Post} (hdefined : n < 36 ∨ 47 < n) (hn : n ≤ 127)
    (hmasked : s.met.masked n = false) (harmed : s.dev.is (Hid.evtArmed n) = true) (hsequence : s.dev.get Dict.refereeSequence < 0xFFFFFFFF)
    (hp : s.met.presented n hardware = p) (hrail : p.railFault = false) (hinjected : p.injected = false) (hact : p.act = true)
    (hseverity : s.dev.get (Dict.evtSeverity n) = 1) (hwindows : s.dev.windows = []) :
    ∃ t, exec (.pairFault [(n, hardware)]) s = .next t ∧ t.dev.get (Dict.evtRailState n) = 1 ∧ t.dev.get (Hid.evtArmed n) = 0 ∧
      t.dev.get Dict.refereeSequence = s.dev.get Dict.refereeSequence + 1 ∧ Counts s t (Dict.evtCount n) ∧ Counts s t Dict.refereeEventCount ∧
      (t.dev.get (Dict.evtHistory n 0) = Dev.historyRecord n 1 0 0xFF 0 (s.dev.get Dict.refereeSequence + 1)
          (toTime96 (s.met.toCycle s.anyInstant)) p.detail % 256 ^ 32 ∧
        t.dev.eventLog = if s.dev.powered .mem then (Dev.historyRecord n 1 0 0xFF 0 (s.dev.get Dict.refereeSequence + 1)
          (toTime96 (s.met.toCycle s.anyInstant)) p.detail :: s.dev.eventLog).take 2097152 else s.dev.eventLog) ∧
      t.dev.get (Dict.evtHistory n 1) = s.dev.get (Dict.evtHistory n 0) % 256 ^ 32 ∧
      t.dev.posted = s.dev.posted.erase p ∧ t.dev.windows = [] ∧ OnlyRegisters s t (recordRegisters n) := by
  have hsource : p.source = n := hp ▸ s.met.source_presented n hardware
  have hlt : n < 128 := by omega
  obtain ⟨t, hexec, hdev, hstep⟩ := State.pairFault_next hdefined hn hmasked harmed hardware
  obtain ⟨hposted, hwindows', hlog, hview⟩ := Dev.aside_of_withoutPost (s.met.rest_sampled n hardware)
  have hkept := fun e h => Dev.sampled_unmarked (d := s.met) (n := n) (e := e) hardware h
  have hfaulted := s.met.sampled_spec n hardware
  have hsampled := s.met.keeps_sampled n hardware
  rw [hp] at hdev hposted
  generalize s.met.sampled n hardware = d at hdev hposted hwindows' hlog hview hkept hfaulted hsampled
  have hsequence' : d.get Dict.refereeSequence = s.dev.get Dict.refereeSequence := hkept _ (by
    rw [show Dict.refereeSequence.addr = 0x800001 from rfl]
    omega)
  have hnumber : d.nextNumber = s.dev.get Dict.refereeSequence + 1 := by
    rw [Dev.nextNumber_of_lt (hsequence'.symm ▸ hsequence), hsequence']
  have hseverity' : d.get (Dict.evtSeverity n) = 1 := (hkept _ (by simp only [Entry.addr, Dict.evtSeverity]; omega)).trans hseverity
  have hcycle : d.toCycle d.now = s.met.toCycle s.anyInstant := by
    rw [Dev.toCycle_congr hview (hkept _ (by rw [show Dict.incrementActive.addr = 0x200004 from rfl]; omega)), Dev.now, hview]
    rfl
  have hpower : d.powered .mem = s.dev.powered .mem := congrArg (bit · _) (hkept _ (by
    rw [show Hid.poweredDomains.addr = 0x1000001 from rfl]
    omega))
  have hsubject : d.get (Dict.evtSeverity p.source) ≤ 1 := Nat.le_of_eq (by rw [hsource, hseverity'])
  obtain ⟨hlater, hposted', hwindows''⟩ := Dev.confirm_spec hinjected hact hsubject
  have hconfirm := Dev.keeps_confirm hinjected hact hsubject
  have hhistory := Dev.confirm_alert_history hsource hlt hrail hinjected hact hseverity' (hwindows'.trans hwindows)
  rw [hsource] at hlater hconfirm
  obtain ⟨hseq, hevents, hcount⟩ := Dev.confirmed_numbers (es := []) hsource hlt hlater (by simp)
  rw [hnumber, hcycle] at hhistory
  rw [hnumber] at hseq
  refine ⟨t, hexec, ?_, ?_, ?_, ?_, ?_, ⟨?_, ?_⟩, ?_, ?_, ?_, hstep.onlyRegisters ?_⟩
  · rw [hdev, Dev.get_sample (by rw [Dev.evtRailState_addr]; omega), hconfirm _ (confirmRegisters_apart (Dev.offConfirm_evtRailState hlt hlt))]
    exact hfaulted.1
  · rw [hdev, Dev.get_sample (by rw [Dev.evtArmed_addr]; omega), hconfirm _ (confirmRegisters_apart (Dev.offConfirm_evtArmed hlt hlt))]
    exact hfaulted.2
  · rw [hdev, Dev.get_sample (by decide), hseq]
    exact Nat.mod_eq_of_lt (by omega)
  · rw [Counts, hdev, Dev.get_sample (by rw [Dev.evtCount_addr]; omega), hcount, hkept _ (by rw [Dev.evtCount_addr]; omega)]
    rfl
  · rw [Counts, hdev, Dev.get_sample (by decide), hevents, hkept _ (by rw [show Dict.refereeEventCount.addr = 0x800002 from rfl]; omega)]
    rfl
  · rw [hdev, Dev.get_sample (by rw [Dev.evtHistory_addr]; omega)]
    exact hhistory.1
  · rw [hdev, Dev.of_rest (g := Dev.eventLog) (Dev.rest_clear _ _), hhistory.2.2, hpower, hlog]
    rfl
  · rw [hdev, Dev.get_sample (by rw [Dev.evtHistory_addr]; omega), hhistory.2.1, hkept _ (by rw [Dev.evtHistory_addr]; omega)]
    rfl
  · rw [hdev, Dev.posted_clear, hposted', hposted]
    rfl
  · rw [hdev, Dev.of_rest (g := Dev.windows) (Dev.rest_clear _ _), hwindows'', hwindows']
    exact hwindows
  · rw [hdev]
    exact .clear ((hsampled.mono (sampleRegisters_subset n)).trans (hconfirm.mono (confirmRegisters_subset n)))
      (sampleRegisters_subset n (by simp [Dev.sampleRegisters]))

/-- The safe stop is flagged, and its window opened (R640, R642). -/
theorem State.pairFault_safeStop {s : State} {n hardware : Nat} {p : Post} (hdefined : n < 36 ∨ 47 < n) (hn : n ≤ 127)
    (hmasked : s.met.masked n = false) (harmed : s.dev.is (Hid.evtArmed n) = true) (hsequence : s.dev.get Dict.refereeSequence < 0xFFFFFFFF)
    (hp : s.met.presented n hardware = p) (hinjected : p.injected = false) (hact : p.act = true)
    (hseverity : s.dev.get (Dict.evtSeverity n) = 4) :
    ∃ t, exec (.pairFault [(n, hardware)]) s = .next t ∧ t.dev.get Hid.safeStop = 1 ∧
      t.dev.get Dict.refereeSequence = s.dev.get Dict.refereeSequence + 1 ∧
      t.dev.windows = s.dev.windows ++ [⟨n, s.dev.get Dict.refereeSequence + 1, safeStopSet, s.clock.frames + 1⟩] ∧ Counts s t (Dict.evtCount n) ∧
      OnlyRegisters s t (Hid.safeStop :: recordRegisters n) := by
  have hsource : p.source = n := hp ▸ s.met.source_presented n hardware
  have hlt : n < 128 := by omega
  obtain ⟨t, hexec, hdev, hstep⟩ := State.pairFault_next hdefined hn hmasked harmed hardware
  obtain ⟨-, hwindows, -, hview⟩ := Dev.aside_of_withoutPost (s.met.rest_sampled n hardware)
  have hkept := fun e h => Dev.sampled_unmarked (d := s.met) (n := n) (e := e) hardware h
  have hsampled := s.met.keeps_sampled n hardware
  rw [hp] at hdev
  generalize s.met.sampled n hardware = d at hdev hwindows hview hkept hsampled
  have hsequence' : d.get Dict.refereeSequence = s.dev.get Dict.refereeSequence := hkept _ (by
    rw [show Dict.refereeSequence.addr = 0x800001 from rfl]
    omega)
  have hnumber : d.nextNumber = s.dev.get Dict.refereeSequence + 1 := by
    rw [Dev.nextNumber_of_lt (hsequence'.symm ▸ hsequence), hsequence']
  have hseverity' : d.get (Dict.evtSeverity p.source) = 4 := by
    rw [hsource]
    exact (hkept _ (by simp only [Entry.addr, Dict.evtSeverity]; omega)).trans hseverity
  obtain ⟨hlater, hsafe, hopened⟩ := Dev.confirm_safeStop_spec hinjected hact hseverity' (hsource ▸ hlt)
  have hraised := d.keeps_raised p
  rw [hsource] at hlater hopened hraised
  obtain ⟨hseq, -, hcount⟩ := Dev.confirmed_numbers (es := [Hid.safeStop]) hsource hlt hlater (by
    simp only [List.mem_singleton, forall_eq, show Hid.safeStop.addr = 0x1200009 from rfl]
    omega)
  rw [hnumber] at hseq hopened
  refine ⟨t, hexec, ?_, ?_, ?_, ?_, hstep.onlyRegisters ?_⟩
  · rw [hdev, Dev.get_sample (by decide)]
    exact hsafe
  · rw [hdev, Dev.get_sample (by decide), hseq]
    exact Nat.mod_eq_of_lt (by omega)
  · rw [hdev, Dev.of_rest (g := Dev.windows) (Dev.rest_clear _ _), hopened, hwindows, hview]
    rfl
  · rw [Counts, hdev, Dev.get_sample (by rw [Dev.evtCount_addr]; omega), hcount, hkept _ (by rw [Dev.evtCount_addr]; omega)]
    rfl
  · rw [hdev]
    have hrecord : recordRegisters n ⊆ Hid.safeStop :: recordRegisters n := List.subset_cons_self _ _
    have hrecorded : Dev.Keeps (Hid.safeStop :: recordRegisters n) d (d.confirm p) :=
      (hraised.mono fun e he => hrecord (confirmRegisters_subset n (List.mem_append_left _ he))).trans
        (hlater.mono (List.cons_subset_cons _ fun e he => confirmRegisters_subset n (List.mem_append_right _ he)))
    exact .clear ((hsampled.mono fun e he => hrecord (sampleRegisters_subset n he)).trans hrecorded)
      (hrecord (sampleRegisters_subset n (by simp [Dev.sampleRegisters])))

namespace Dev

/-! ### Rail faults -/

theorem offConfirm_evtCount {n m : Nat} (hn : n < 128) (hm : m < 128) (hne : n ≠ m) : offConfirm n (Dict.evtCount m) = true := by
  rw [offConfirm, evtCount_addr]
  exact decide_eq_true (by omega)

theorem offConfirm_evtSeverity {n m : Nat} (hn : n < 128) (hm : m < 128) : offConfirm n (Dict.evtSeverity m) = true := by
  rw [offConfirm, show (Dict.evtSeverity m).addr = (0x8100 + m) * 256 + 1 from rfl]
  exact decide_eq_true (by omega)

/-- What counts an alert of a source. -/
theorem get_evtCount_confirm {d : Dev} {p : Post} (hn : p.source < 128) (hinjected : p.injected = false) (hact : p.act = true)
    (hseverity : d.get (Dict.evtSeverity p.source) ≤ 1) :
    (d.confirm p).get (Dict.evtCount p.source) = min (d.get (Dict.evtCount p.source) + 1) ((Dict.evtCount p.source).modulus - 1) :=
  (confirmed_numbers (es := []) rfl hn (confirm_spec hinjected hact hseverity).1 (by simp)).2.2

/-- Two alerts of different sources, one after the other. -/
theorem confirm_two {d : Dev} {p q : Post} (hp : p.source < 128) (hq : q.source < 128) (hne : p.source ≠ q.source)
    (hpi : p.injected = false) (hpa : p.act = true) (hqi : q.injected = false) (hqa : q.act = true)
    (hps : d.get (Dict.evtSeverity p.source) ≤ 1) (hqs : d.get (Dict.evtSeverity q.source) ≤ 1) :
    Keeps (confirmRegisters p.source ++ confirmRegisters q.source) d ((d.confirm p).confirm q) ∧
      ((d.confirm p).confirm q).posted = d.posted ∧
      ((d.confirm p).confirm q).get (Dict.evtCount p.source) = min (d.get (Dict.evtCount p.source) + 1) ((Dict.evtCount p.source).modulus - 1) ∧
      ((d.confirm p).confirm q).get (Dict.evtCount q.source) = min (d.get (Dict.evtCount q.source) + 1) ((Dict.evtCount q.source).modulus - 1) := by
  have hfirst := keeps_confirm hpi hpa hps
  have hqs' : (d.confirm p).get (Dict.evtSeverity q.source) ≤ 1 := by
    rwa [hfirst _ (confirmRegisters_apart (offConfirm_evtSeverity hp hq))]
  have hsecond := keeps_confirm hqi hqa hqs'
  refine ⟨(hfirst.mono (List.subset_append_left _ _)).trans (hsecond.mono (List.subset_append_right _ _)), ?_, ?_, ?_⟩
  · exact (confirm_spec hqi hqa hqs').2.1.trans (confirm_spec hpi hpa hps).2.1
  · rw [hsecond _ (confirmRegisters_apart (offConfirm_evtCount hq hp hne.symm)), get_evtCount_confirm hp hpi hpa hps]
  · rw [get_evtCount_confirm hq hqi hqa hqs', hfirst _ (confirmRegisters_apart (offConfirm_evtCount hp hq hne))]

/-- The pair reads Invalid: the episode is counted (R632). -/
def railed (d : Dev) (n : Nat) : Dev := ((d.clear Hid.sampleHandOver).inc Dict.railFaultCount).set (Dict.evtRailState n) 2

/-- The two raisings of an episode come in the order of their severity (R632, R641). -/
theorem railFault_two {d : Dev} {n levels : Nat} (hn : n ≤ 127) (hdefined : defined n = true) (hmasked : d.masked n = false)
    (hstate : d.get (Dict.evtRailState n) ≠ 2) :
    ∃ p q : Post, (p.source = n ∧ q.source = 126 ∨ p.source = 126 ∧ q.source = n) ∧ p.injected = false ∧ p.act = true ∧
      q.injected = false ∧ q.act = true ∧
      d.railFault n levels false true = (((d.railed n).confirm p).confirm q).clear Hid.sampleHandOver := by
  have hlow : decide (127 < n) = false := decide_eq_false (by omega)
  have hrail : (d.get (Dict.evtRailState n) == 2) = false := beq_eq_false_iff_ne.2 hstate
  simp only [railFault, hlow, hmasked, hrail, Bool.or_self, Bool.false_eq_true, if_false, hdefined, Bool.not_true]
  split
  · exact ⟨⟨n, 0, true, false, true⟩, ⟨126, packDetail [(1, n), (1, levels)], false, false, true⟩, .inl ⟨rfl, rfl⟩, rfl, rfl, rfl, rfl, rfl⟩
  · exact ⟨⟨126, packDetail [(1, n), (1, levels)], false, false, true⟩, ⟨n, 0, true, false, true⟩, .inr ⟨rfl, rfl⟩, rfl, rfl, rfl, rfl, rfl⟩

/-! ### Units of a domain powered again -/

/-- Beside the pairs, all that the restart of any domain writes. -/
def restartOthers : List Entry :=
  [Dict.isolatedDomains, Dict.latchedDomains, Hid.poweredDomains] ++ (List.range 9).map Hid.unmaskAt ++
    (List.range 4).flatMap (fun k => [Hid.pctResult k, Hid.pctStart k]) ++ [Dict.fillState, Dict.dramState]

theorem repowerRegisters_subset (x : Domain) : repowerRegisters x ⊆ pairRegisters ++ restartOthers := by
  intro e he
  rcases List.mem_append.1 he with he | hmem
  · rcases List.mem_append.1 he with he | hnet
    · rcases List.mem_append.1 he with hpair | hrest
      · exact List.mem_append_left _ hpair
      · have hunmask : Hid.unmaskAt x.bit ∈ (List.range 9).map Hid.unmaskAt :=
          List.mem_map_of_mem (List.mem_range.2 (by cases x <;> decide))
        refine List.mem_append_right _ (List.mem_append_left _ (List.mem_append_left _ ?_))
        simp only [List.mem_cons, List.not_mem_nil, or_false] at hrest
        rcases hrest with rfl | rfl | rfl | rfl
        · exact List.mem_append_left _ (by simp)
        · exact List.mem_append_left _ (by simp)
        · exact List.mem_append_left _ (by simp)
        · exact List.mem_append_right _ hunmask
    · split at hnet
      · exact List.mem_append_right _ (List.mem_append_left _ (List.mem_append_right _ hnet))
      · cases hnet
  · split at hmem
    · exact List.mem_append_right _ (List.mem_append_right _ hmem)
    · cases hmem

/-- The register says nothing of a restart. -/
def offRestart (e : Entry) : Bool := offPairs e && restartOthers.all fun y => y.addr != e.addr

theorem get_of_offRestart {d d' : Dev} {x : Domain} {e : Entry} (h : Keeps (repowerRegisters x) d d') (he : offRestart e = true) :
    d'.get e = d.get e := by
  simp only [offRestart, Bool.and_eq_true, List.all_eq_true, bne_iff_ne] at he
  refine h e fun y hy => ?_
  rcases List.mem_append.1 (repowerRegisters_subset x hy) with hpair | hother
  · exact pairRegisters_apart he.1 y hpair
  · exact he.2 y hother

/-- Whether a unit is removed is as before the restart of a domain. -/
theorem removed_of_restart {d d' : Dev} {x : Domain} {u : Removable} (hu : u.numbered = true) (h : Keeps (repowerRegisters x) d d') :
    d'.removed u = d.removed u := by
  cases u with
  | hmac l => exact congrArg (fun v => !Sys2Proof.Machine.bit v l) (get_of_offRestart h (by decide))
  | aes l => exact congrArg (fun v => !Sys2Proof.Machine.bit v l) (get_of_offRestart h (by decide))
  | channel n | link n | apll n | cko n | pls n | trg n | tod n | port n | skovwin n =>
    have hn := of_decide_eq_true hu
    exact congrArg (· == _) (get_of_offRestart h (by apply of_lt hn; decide))
  | bank b =>
    have hb : b - 1 < 12 := of_decide_eq_true hu
    refine congrArg (· == _) (get_of_offRestart h ?_)
    generalize b - 1 = k at hb ⊢
    apply of_lt hb
    decide

/-- Units that all pass their start-up checks stay as they are (R638). -/
theorem startUpChecks_of_pass {d : Dev} {x : Domain}
    (h : ∀ u ∈ Removable.all, u.domain = x → d.removed u = false → d.startUpPasses u = true) : d.startUpChecks x = d := by
  have hnone : (Removable.all.filter fun u => u.domain == x && !d.removed u && !d.startUpPasses u) = [] := by
    refine List.filter_eq_nil_iff.2 fun u hu => ?_
    by_cases hdomain : u.domain = x
    · cases hremoved : d.removed u with
      | true => simp
      | false => simp [h u hu hdomain hremoved]
    · simp [hdomain]
  unfold startUpChecks
  rw [hnone]
  rfl

theorem startUpPasses_congr {d d' : Dev} (h : d'.free = d.free) (u : Removable) : d'.startUpPasses u = d.startUpPasses u := by
  unfold startUpPasses freeNat
  rw [h]

theorem domainRestart_due {d : Dev} {x : Domain} (hlatched : bit (d.get Dict.latchedDomains) x.bit = false)
    (hdue : d.get (Hid.restartDue x.bit) ≤ d.view.frames) : d.domainRestart x = d.restartDomain x := by
  rw [domainRestart, hlatched, decide_eq_false (Nat.not_lt.2 hdue)]
  rfl

/-- Where every unit passes, a restart writes the registers of the domain alone, and no checker presents its pair (R638). -/
theorem restartDomain_of_pass {d : Dev} {x : Domain} (hisolated : d.isolated x = true)
    (hpass : ∀ u ∈ Removable.all, u.domain = x → d.removed u = false → d.startUpPasses u = true) :
    (d.restartDomain x).posted = d.posted ∧ Keeps (repowerRegisters x) d (d.restartDomain x) := by
  have hkeeps : Keeps (repowerRegisters x) d ((d.repower x).restartUnits x) := (d.keeps_repower x).trans (keeps_restartUnits _ x)
  have hrest : ((d.repower x).restartUnits x).rest = d.rest := (rest_restartUnits _ x).trans (d.rest_repower x)
  rw [restartDomain_of_isolated hisolated]
  generalize (d.repower x).restartUnits x = y at hkeeps hrest
  have hopened : Keeps (repowerRegisters x) d (y.openWindow 0xFF (y.get Dict.refereeSequence) (domainSet x)) :=
    fun e he => (get_openWindow y _ _ _ e).trans (hkeeps e he)
  have hfree : (y.openWindow 0xFF (y.get Dict.refereeSequence) (domainSet x)).free = d.free :=
    (free_openWindow y _ _ _).trans (of_rest (g := Dev.free) hrest)
  rw [startUpChecks_of_pass fun u hu hdomain hremoved => (startUpPasses_congr hfree u).trans
    (hpass u hu hdomain ((removed_of_restart (Removable.numbered_of_mem hu) hopened).symm.trans hremoved))]
  exact ⟨(posted_openWindow y _ _ _).trans (of_rest (g := Dev.posted) hrest), hopened⟩

/-- The pair reads Quiet, and may raise its source again (R630). -/
def quieted (d : Dev) (n : Nat) : Dev := (d.clear (Dict.evtRailState n)).setB (Hid.evtArmed n) true

end Dev

theorem State.quieted_spec {s t : State} {n : Nat} (hdev : t.dev = s.met.quieted n) (hstep : DeviceStep s t) :
    t.dev.get (Dict.evtRailState n) = 0 ∧ t.dev.get (Hid.evtArmed n) = 1 ∧ PresentsNone s t ∧
      OnlyRegisters s t [Dict.evtRailState n, Hid.evtArmed n] := by
  refine ⟨?_, ?_, ?_, hstep.onlyRegisters ?_⟩
  · rw [hdev, Dev.quieted, Dev.get_setB_ne _ _ _ _ (by rw [Dev.evtRailState_addr, Dev.evtArmed_addr]; omega), Dev.get_clear_self]
    rfl
  · rw [hdev, Dev.quieted, Dev.get_setB_self]
    rfl
  · rw [PresentsNone, hdev, Dev.quieted, Dev.posted_setB, Dev.posted_clear]
    rfl
  · rw [hdev]
    exact .setB (.clear (.refl _ s.met) (by simp)) (by simp) _

/-- The two raisings of a rail fault, in whichever order they come (R632). -/
theorem State.railFault_spec {s t : State} {n levels : Nat} {p q : Post} (hn : n < 126)
    (hsources : p.source = n ∧ q.source = 126 ∨ p.source = 126 ∧ q.source = n) (hpi : p.injected = false) (hpa : p.act = true)
    (hqi : q.injected = false) (hqa : q.act = true) (hown : s.dev.get (Dict.evtSeverity n) ≤ 1)
    (hepisode : s.dev.get (Dict.evtSeverity 126) ≤ 1) (hexec : exec (.railFault n levels) s = .next t)
    (hdev : t.dev = (((s.met.railed n).confirm p).confirm q).clear Hid.sampleHandOver) (hstep : DeviceStep s t) :
    ∃ t, exec (.railFault n levels) s = .next t ∧ t.dev.get (Dict.evtRailState n) = 2 ∧ Counts s t Dict.railFaultCount ∧
      Counts s t (Dict.evtCount n) ∧ Counts s t (Dict.evtCount 126) ∧ PresentsNone s t ∧
        OnlyRegisters s t (Dict.railFaultCount :: (recordRegisters n ++ recordRegisters 126)) := by
  have hlt : n < 128 := by omega
  have hrailed : Dev.Keeps [Hid.sampleHandOver, Dict.railFaultCount, Dict.evtRailState n] s.met (s.met.railed n) :=
    .set (.inc (.clear (.refl _ s.met) (by simp)) (by simp)) (by simp) _
  have hseverity : ∀ m < 128, (s.met.railed n).get (Dict.evtSeverity m) = s.dev.get (Dict.evtSeverity m) := fun m hm =>
    hrailed _ (by
      simp only [List.mem_cons, List.not_mem_nil, or_false, forall_eq_or_imp, forall_eq, Entry.addr, Dict.evtSeverity, Hid.sampleHandOver, Hid.reg,
        Dict.railFaultCount, Dict.evtRailState]
      omega)
  have hcount : ∀ m < 128, (s.met.railed n).get (Dict.evtCount m) = s.dev.get (Dict.evtCount m) := fun m hm =>
    hrailed _ (by
      simp only [List.mem_cons, List.not_mem_nil, or_false, forall_eq_or_imp, forall_eq, Entry.addr, Dict.evtCount, Hid.sampleHandOver, Hid.reg,
        Dict.railFaultCount, Dict.evtRailState]
      omega)
  have hboth : Dev.Keeps (confirmRegisters n ++ confirmRegisters 126) (s.met.railed n) (((s.met.railed n).confirm p).confirm q) ∧
      (((s.met.railed n).confirm p).confirm q).posted = (s.met.railed n).posted ∧
      (((s.met.railed n).confirm p).confirm q).get (Dict.evtCount n) =
        min ((s.met.railed n).get (Dict.evtCount n) + 1) ((Dict.evtCount n).modulus - 1) ∧
      (((s.met.railed n).confirm p).confirm q).get (Dict.evtCount 126) =
        min ((s.met.railed n).get (Dict.evtCount 126) + 1) ((Dict.evtCount 126).modulus - 1) := by
    rcases hsources with ⟨hp, hq⟩ | ⟨hp, hq⟩
    · obtain ⟨hkeeps, hposted, hfirst, hsecond⟩ := Dev.confirm_two (d := s.met.railed n) (p := p) (q := q) (by omega) (by omega) (by omega) hpi hpa
        hqi hqa (by rw [hp, hseverity n hlt]; exact hown) (by rw [hq, hseverity 126 (by decide)]; exact hepisode)
      rw [hp, hq] at hkeeps
      rw [hp] at hfirst
      rw [hq] at hsecond
      exact ⟨hkeeps, hposted, hfirst, hsecond⟩
    · obtain ⟨hkeeps, hposted, hfirst, hsecond⟩ := Dev.confirm_two (d := s.met.railed n) (p := p) (q := q) (by omega) (by omega) (by omega) hpi hpa
        hqi hqa (by rw [hp, hseverity 126 (by decide)]; exact hepisode) (by rw [hq, hseverity n hlt]; exact hown)
      rw [hp, hq] at hkeeps
      rw [hp] at hfirst
      rw [hq] at hsecond
      exact ⟨hkeeps.mono (List.append_subset.2 ⟨List.subset_append_right _ _, List.subset_append_left _ _⟩), hposted, hsecond, hfirst⟩
  obtain ⟨hkeeps, hposted, hcountOwn, hcountEpisode⟩ := hboth
  have hunchanged : ∀ e : Entry, offConfirm n e = true → offConfirm 126 e = true →
      (((s.met.railed n).confirm p).confirm q).get e = (s.met.railed n).get e := fun e hoff hoff' =>
    hkeeps e fun x hx => (List.mem_append.1 hx).elim (confirmRegisters_apart hoff x) (confirmRegisters_apart hoff' x)
  refine ⟨t, hexec, ?_, ?_, ?_, ?_, ?_, hstep.onlyRegisters ?_⟩
  · rw [hdev, Dev.get_sample (by rw [Dev.evtRailState_addr]; omega),
      hunchanged _ (Dev.offConfirm_evtRailState hlt hlt) (Dev.offConfirm_evtRailState (by decide) hlt)]
    exact Dev.get_lt_of_set _ _ (show 2 < 256 by decide)
  · have hplace : Dict.railFaultCount.addr = 0x80000E := rfl
    rw [Counts, hdev, Dev.get_sample (by decide), hunchanged _ (by rw [offConfirm, hplace]; exact decide_eq_true (by omega))
      (by rw [offConfirm, hplace]; exact decide_eq_true (by omega)), Dev.railed,
      Dev.get_set_ne _ _ _ _ (by rw [Dev.evtRailState_addr, hplace]; omega), Dev.get_inc, Dev.get_clear_ne _ _ _ (by decide)]
    rfl
  · rw [Counts, hdev, Dev.get_sample (by rw [Dev.evtCount_addr]; omega), hcountOwn, hcount n hlt]
  · rw [Counts, hdev, Dev.get_sample (by decide), hcountEpisode, hcount 126 (by decide)]
  · rw [PresentsNone, hdev, Dev.posted_clear, hposted, Dev.railed, Dev.posted_set, Dev.posted_inc, Dev.posted_clear]
    rfl
  · have hsample : ∀ e ∈ [Hid.sampleHandOver, Dict.evtRailState n], e ∈ Dict.railFaultCount :: (recordRegisters n ++ recordRegisters 126) :=
      fun e he => List.mem_cons_of_mem _ (List.mem_append_left _ (sampleRegisters_subset n (by
        simp only [List.mem_cons, List.not_mem_nil, or_false] at he
        rcases he with rfl | rfl <;> simp [Dev.sampleRegisters])))
    rw [hdev]
    refine .clear (.trans (.set (.inc (.clear (.refl _ s.met) (hsample _ (by simp))) List.mem_cons_self) (hsample _ (by simp)) _)
      (hkeeps.mono fun e he => ?_)) (hsample _ (by simp))
    rcases List.mem_append.1 he with he | he
    · exact List.mem_cons_of_mem _ (List.mem_append_left _ (confirmRegisters_subset n he))
    · exact List.mem_cons_of_mem _ (List.mem_append_right _ (confirmRegisters_subset 126 he))

/-- Settles O58: a raising in its stages, two raisings in a row for a rail fault, and the restart of a domain. -/
theorem refereeConfirmsAndReacts : Obligations.RefereeConfirmsAndReacts := by
  unfold Obligations.RefereeConfirmsAndReacts
  refine ⟨?_, ?_, ?_, ?_, ?_, ?_⟩
  · intro s n hardware hdefined hn hmasked harmed hsequence p seq hrail hinjected hact
    refine ⟨fun hseverity hwindows => ?_, fun hseverity => ?_⟩
    · exact State.pairFault_alert hdefined hn hmasked harmed hsequence rfl hrail hinjected hact hseverity hwindows
    · exact State.pairFault_safeStop hdefined hn hmasked harmed hsequence rfl hinjected hact hseverity
  · intro s
    obtain ⟨t, hexec, hdev, hstep⟩ := State.onDev_next s (·.closeWindows)
    refine ⟨t, hexec, ?_, ?_, hstep.onlyRegisters ?_⟩
    · rw [hdev]
      rfl
    · rw [PresentsNone, hdev]
      rfl
    · rw [hdev]
      exact .of_regs rfl
  · intro s n levels hn hdefined hmasked hstate hown hepisode
    obtain ⟨t, hexec, hdev, hstep⟩ := State.onDev_next s (·.railFault n levels false true)
    obtain ⟨p, q, hsources, hpi, hpa, hqi, hqa, heq⟩ := Dev.railFault_two (d := s.met) (levels := levels) (by omega) hdefined hmasked hstate
    rw [heq] at hdev
    exact State.railFault_spec hn hsources hpi hpa hqi hqa hown hepisode hexec hdev hstep
  · intro s n hn hstate
    obtain ⟨t, hexec, hdev, hstep⟩ := State.onDev_next s (·.railFaultEnd n)
    have hquiet : t.dev = s.met.quieted n := by
      rw [hdev, Dev.railFaultEnd, State.met_get, hstate]
      rfl
    exact ⟨t, hexec, State.quieted_spec hquiet hstep⟩
  · intro s n hn hstate
    obtain ⟨t, hexec, hdev, hstep⟩ := State.onDev_next s (·.pairQuiet n)
    have hquiet : t.dev = s.met.quieted n := by
      rw [hdev, Dev.pairQuiet, State.met_get, hstate]
      rfl
    exact ⟨t, hexec, State.quieted_spec hquiet hstep⟩
  · intro s x y hisolated hlatched hdue
    obtain ⟨t, hexec, hdev, hstep⟩ := State.onDev_next s (·.domainRestart (Domain.ofBit x))
    rw [Dev.domainRestart_due (d := s.met) (x := y) hlatched hdue] at hdev
    obtain ⟨hout, hpowered, hwindows⟩ := Dev.restartDomain_spec (d := s.met) (x := y) hisolated
    refine ⟨t, hexec, hdev ▸ hout, hdev ▸ hpowered, hdev ▸ hwindows, fun hpass => ?_⟩
    obtain ⟨hposted, hkeeps⟩ := Dev.restartDomain_of_pass (d := s.met) (x := y) hisolated hpass
    refine ⟨?_, hstep.onlyRegisters (hdev ▸ hkeeps)⟩
    rw [PresentsNone, hdev]
    exact hposted

end Sys2Proof.Machine
end

section
/-!
PROOF. Audit records (O33): a use of the audit key leaves the archive and the chain alone; a record then enters the ring.
-/
namespace Sys2Proof.Machine
namespace Dev

/-! ### A use of a working slot and the audit's own state -/

/-- What the audit holds: the records that wait, the archive, the last Mac and the size of the ring. -/
def auditView (d : Dev) : List (Nat × Nat) × List (Nat × Nat) × Nat × Nat :=
  (d.auditWaiting, d.archive, d.get Dict.auditLastMac, d.get Dict.auditArchiveDays)

theorem auditView_set (d : Dev) {e : Entry} (v : Nat) (he : e.addr < 0x503000 ∨ 0x503100 ≤ e.addr) : (d.set e v).auditView = d.auditView := by
  have hmac : e.addr ≠ Dict.auditLastMac.addr := by
    rw [show Dict.auditLastMac.addr = 0x503006 from rfl]
    omega
  have hdays : e.addr ≠ Dict.auditArchiveDays.addr := by
    rw [show Dict.auditArchiveDays.addr = 0x503002 from rfl]
    omega
  rw [auditView, get_set_ne _ _ _ _ hmac, get_set_ne _ _ _ _ hdays]
  rfl

/-- The working slots take a record. -/
def withSlots (d : Dev) (l : List WorkSlot) : Dev := { d with slots := l }

theorem auditView_withSlots (d : Dev) (l : List WorkSlot) : (d.withSlots l).auditView = d.auditView := (rfl)
theorem auditView_post (d : Dev) (n : Nat) (l : List (Nat × Nat)) : (d.post n l).auditView = d.auditView := (rfl)

theorem keySlotStatus_addr (n k : Nat) : 0x503100 ≤ (Dict.keySlotStatus n k).addr := by
  simp only [Entry.addr, Dict.keySlotStatus]
  omega

theorem auditView_putSlot (d : Dev) (x : WorkSlot) : (d.putSlot x).auditView = d.auditView := by
  unfold putSlot countSlots
  dsimp only
  rw [auditView_set _ _ (.inr (by decide)), auditView_set _ _ (.inr (keySlotStatus_addr _ _))]
  exact auditView_withSlots d _

theorem auditView_announceInvalid (d : Dev) (node cause generation : Nat) : (d.announceInvalid node cause generation).auditView = d.auditView := by
  unfold announceInvalid
  split
  · exact auditView_post d _ _
  · rfl

theorem auditView_makeStale (d : Dev) (n cause : Nat) : (d.makeStale n cause).auditView = d.auditView := by
  unfold makeStale
  dsimp only
  split
  · rfl
  · exact (auditView_announceInvalid _ _ _ _).trans ((auditView_set _ _ (.inr (by decide))).trans (auditView_putSlot d _))

theorem auditView_staleBelow (d : Dev) (node cause : Nat) : (d.staleBelow node cause).auditView = d.auditView :=
  (foldl_view auditView fun x n _ => auditView_makeStale x n _).trans (foldl_view auditView fun x n _ => auditView_makeStale x n _)

/-- The invalidation of a working slot leaves the audit alone (R496). -/
theorem auditView_invalidate (d : Dev) {node : Nat} (hslot : 0x8000 ≤ node) (expired : Bool) : (d.invalidate node expired).auditView = d.auditView := by
  unfold invalidate
  dsimp only
  rw [if_neg (Nat.not_lt.2 hslot), auditView_announceInvalid, auditView_staleBelow, auditView_putSlot]

theorem auditView_countUse (d : Dev) {node : Nat} (hslot : 0x8000 ≤ node) : (d.countUse node).auditView = d.auditView := by
  unfold countUse
  dsimp only
  rw [if_neg (Nat.not_lt.2 hslot)]
  split
  · exact (auditView_invalidate _ hslot false).trans (auditView_putSlot d _)
  · exact auditView_putSlot d _

theorem auditView_classOne (d : Dev) (n : Nat) : (d.classOne n).auditView = d.auditView := by
  have hbudget : d.budgetFrame.auditView = d.auditView := by
    unfold budgetFrame
    split
    · rfl
    · rw [auditView_set _ _ (.inr (by decide))]
      exact foldl_view auditView fun x e he => auditView_set x _ (.inr (by apply of_mem he; decide))
  unfold classOne
  exact (auditView_set _ _ (.inr (by decide))).trans ((auditView_set _ _ (.inr (by decide))).trans hbudget)

/-! ### The record -/

/-- The oldest waiting record leaves the queue. -/
def withWaiting (d : Dev) (l : List (Nat × Nat)) : Dev := { d with auditWaiting := l }

/-- The text of a record with the flags of a gap and of a change of key (R366 to R368). -/
def auditText (d : Dev) (record : Nat) : List Nat :=
  let given := octetsOf 52 record
  let seq := ofOctets ((given.drop 4).take 4)
  let gen := d.nodeGeneration d.auditNode % 256
  given.take 2 ++ [given.getD 2 0 + (if seq = (d.get Hid.auditKeyed + 1) % 2 ^ 32 then 0 else 2) + (if gen = d.get Hid.auditKeyedGen then 0 else 1), gen] ++
    given.drop 4

/-- The Sequence of a record. -/
def auditSeq (record : Nat) : Nat := ofOctets (((octetsOf 52 record).drop 4).take 4)

theorem auditNode_slot (d : Dev) : 0x8000 ≤ d.auditNode := Nat.le_add_right _ _

/-- A usable working slot with the usage answers with its material, and the use is counted (R473, R489). -/
theorem dispatch_slot {d : Dev} {node usage : Nat} (hslot : 0x8000 ≤ node) (husable : d.nodeUsable node = true)
    (husage : bit (d.nodeUse node).2.1 usage = true) : d.dispatch node usage = (d.countUse node, .key (d.nodeMaterial node)) := by
  have hwait : d.mustWait node = false := by
    rw [mustWait, decide_eq_false (by omega), Bool.false_and]
  simp only [dispatch, husable, husage, hwait, Bool.not_true, Bool.false_eq_true, if_false]

/-- The flag of a difference, written either way round. -/
theorem flag_of_ne {a b k : Nat} : (if a != b then k else 0) = if a = b then 0 else k := by
  by_cases h : a = b <;> simp [h]

theorem withWaiting_facts (d : Dev) (l : List (Nat × Nat)) (node : Nat) :
    (d.withWaiting l).auditNode = d.auditNode ∧ (d.withWaiting l).nodeUsable node = d.nodeUsable node ∧
      (d.withWaiting l).nodeUse node = d.nodeUse node ∧ (d.withWaiting l).nodeMaterial node = d.nodeMaterial node ∧
      (d.withWaiting l).nodeGeneration node = d.nodeGeneration node := ⟨rfl, rfl, rfl, rfl, rfl⟩

/-- Within 64 frames a record is keyed under the audit's node (R366, R367). -/
theorem auditStore_keyed {d : Dev} {frame record : Nat} {rest : List (Nat × Nat)} (hwaiting : d.auditWaiting = (frame, record) :: rest)
    (hsince : d.framesSince frame ≤ 64) (hcrypt : d.powered .crypt = true) (hmem : d.powered .mem = true)
    (husable : d.nodeUsable d.auditNode = true) (husage : bit (d.nodeUse d.auditNode).2.1 2 = true) :
    d.auditStore =
      let d' := (d.withWaiting rest).countUse d.auditNode
      let mac := hmacSha256 (d.nodeMaterial d.auditNode) (octetsOf 12 (d'.get Dict.auditLastMac) ++ d.auditText record) / 2 ^ 160 % 2 ^ 96
      ((((d'.classOne 64).set Dict.auditLastMac mac).set Hid.auditKeyed (auditSeq record)).set Hid.auditKeyedGen
        (d.nodeGeneration d.auditNode % 256)).archiveRecord (auditSeq record) (ofOctets (d.auditText record ++ octetsOf 12 mac)) := by
  have husable' : (d.withWaiting rest).nodeUsable (d.withWaiting rest).auditNode = true := husable
  have hdispatch : (d.withWaiting rest).dispatch (d.withWaiting rest).auditNode 2 =
      ((d.withWaiting rest).countUse d.auditNode, .key (d.nodeMaterial d.auditNode)) :=
    dispatch_slot d.auditNode_slot husable husage
  have hpowers : ¬(64 < d.framesSince frame ∨ (!d.powered .crypt) = true ∨ (!d.powered .mem) = true) := by
    simp [hcrypt, hmem, Nat.not_lt.2 hsince]
  unfold auditStore
  rw [hwaiting]
  dsimp only
  rw [if_neg hpowers, show ({ d with auditWaiting := rest } : Dev) = d.withWaiting rest from rfl, husable']
  simp only [if_true, hdispatch, flag_of_ne]
  rfl

/-- Without a usable key it is stored unkeyed, counted and reported (R368). -/
theorem auditStore_unkeyed {d : Dev} {frame record : Nat} {rest : List (Nat × Nat)} (hwaiting : d.auditWaiting = (frame, record) :: rest)
    (hsince : d.framesSince frame ≤ 64) (hcrypt : d.powered .crypt = true) (hmem : d.powered .mem = true)
    (husable : d.nodeUsable d.auditNode = false) :
    d.auditStore = (((d.withWaiting rest).inc Dict.auditUnkeyedCount).post 82 [(4, auditSeq record)]).archiveRecord (auditSeq record)
      (ofOctets (d.auditText record ++ List.replicate 12 0)) := by
  have husable' : (d.withWaiting rest).nodeUsable (d.withWaiting rest).auditNode = false := husable
  have hpowers : ¬(64 < d.framesSince frame ∨ (!d.powered .crypt) = true ∨ (!d.powered .mem) = true) := by
    simp [hcrypt, hmem, Nat.not_lt.2 hsince]
  unfold auditStore
  rw [hwaiting]
  dsimp only
  rw [if_neg hpowers, show ({ d with auditWaiting := rest } : Dev) = d.withWaiting rest from rfl, husable']
  simp only [Bool.false_eq_true, if_false, flag_of_ne]
  rfl

theorem auditLost_late {d : Dev} {frame record : Nat} {rest : List (Nat × Nat)} (hwaiting : d.auditWaiting = (frame, record) :: rest)
    (hsince : 64 < d.framesSince frame) :
    d.auditLost = ((d.withWaiting rest).inc Dict.auditLostCount).post 82 [(4, auditSeq record)] := by
  unfold auditLost
  rw [hwaiting]
  dsimp only
  rw [if_neg (Nat.not_le.2 hsince)]
  rfl

/-- The archive takes a record, and the oldest beyond its size leave (R370). -/
def withArchive (d : Dev) (l : List (Nat × Nat)) : Dev := { d with archive := l }

theorem archiveRecord_eq (d : Dev) (seq record : Nat) :
    d.archiveRecord seq record =
      let kept := (d.archive ++ [(seq, record)]).drop ((d.archive ++ [(seq, record)]).length - d.get Dict.auditArchiveDays * 86400)
      ((d.withArchive kept).set Dict.auditOldest ((kept.head?.map (·.1)).getD 0)).set Dict.auditLastRecord record := (rfl)

theorem archive_withArchive (d : Dev) (l : List (Nat × Nat)) : (d.withArchive l).archive = l := (rfl)
theorem get_withArchive (d : Dev) (l : List (Nat × Nat)) (e : Entry) : (d.withArchive l).get e = d.get e := (rfl)
theorem archive_set (d : Dev) (e : Entry) (v : Nat) : (d.set e v).archive = d.archive := (rfl)
theorem auditWaiting_set (d : Dev) (e : Entry) (v : Nat) : (d.set e v).auditWaiting = d.auditWaiting := (rfl)
theorem auditWaiting_withArchive (d : Dev) (l : List (Nat × Nat)) : (d.withArchive l).auditWaiting = d.auditWaiting := (rfl)
theorem posted_withArchive (d : Dev) (l : List (Nat × Nat)) : (d.withArchive l).posted = d.posted := (rfl)

theorem archiveRecord_spec (d : Dev) (seq record : Nat) :
    (d.archiveRecord seq record).archive = (d.archive ++ [(seq, record)]).drop (d.archive.length + 1 - d.get Dict.auditArchiveDays * 86400) ∧
      (d.archiveRecord seq record).auditWaiting = d.auditWaiting ∧ (d.archiveRecord seq record).posted = d.posted ∧
      (d.archiveRecord seq record).get Dict.auditLastRecord = record % 256 ^ 64 ∧
      Keeps [Dict.auditOldest, Dict.auditLastRecord] d (d.archiveRecord seq record) := by
  rw [archiveRecord_eq]
  dsimp only
  refine ⟨?_, ?_, ?_, get_set_self _ _ _, .set (.set (fun e _ => get_withArchive d _ e) (by simp) _) (by simp) _⟩
  · rw [archive_set, archive_set, archive_withArchive, List.length_append]
    rfl
  · rw [auditWaiting_set, auditWaiting_set, auditWaiting_withArchive]
  · rw [posted_set, posted_set, posted_withArchive]

theorem auditSeq_lt (record : Nat) : auditSeq record < 256 ^ 4 := by
  refine Nat.lt_of_lt_of_le (ofOctets_lt _) (Nat.pow_le_pow_right (by decide) ?_)
  rw [List.length_take]
  omega

theorem applyGroup_auditArchiveDays (d : Dev) (v : Value) :
    (d.applyGroup [Dict.auditArchiveDays.item v] []).get Dict.auditArchiveDays = v.value % Dict.auditArchiveDays.modulus := by
  rw [applyGroup_value (by decide) (by decide) (by decide), afterWrite_of_followsNoUnit (by decide), if_neg (by decide), if_neg (by decide),
    if_neg (by decide), if_neg (by decide), if_neg (by decide), if_neg (fun h => absurd h.2.1 (by decide)), if_neg (by decide), get_set_self]
  rfl

theorem auditCheckpoint_wanted {d : Dev} (hwanted : bit (d.get Hid.nvWanted) 2 = true) (hpass : d.passHeld 0 = true) :
    d.auditCheckpoint =
      { d.set Hid.nvWanted (clearBit (d.get Hid.nvWanted) 2) with
        nvAudit := some (d.get Hid.auditKeyed, d.get Hid.auditKeyedGen, d.get Dict.auditLastMac) } := by
  have hkeyed : (d.set Hid.nvWanted (clearBit (d.get Hid.nvWanted) 2)).get Hid.auditKeyed = d.get Hid.auditKeyed := get_set_ne _ _ _ _ (by decide)
  have hgen : (d.set Hid.nvWanted (clearBit (d.get Hid.nvWanted) 2)).get Hid.auditKeyedGen = d.get Hid.auditKeyedGen :=
    get_set_ne _ _ _ _ (by decide)
  have hmac : (d.set Hid.nvWanted (clearBit (d.get Hid.nvWanted) 2)).get Dict.auditLastMac = d.get Dict.auditLastMac :=
    get_set_ne _ _ _ _ (by decide)
  simp only [auditCheckpoint, hwanted, hpass, Bool.not_true, Bool.or_self, Bool.false_eq_true, if_false, hkeyed, hgen, hmac]

end Dev

/-- A keyed record extends the chain of Macs, and enters the ring (R366, R367, R370). -/
theorem State.auditStore_keyed {s : State} {frame record mac stored : Nat} {rest : List (Nat × Nat)} (hserves : s.serves .time = true)
    (hwaiting : s.dev.auditWaiting = (frame, record) :: rest) (hsince : s.clock.frames - frame ≤ 64) (hcrypt : s.dev.powered .crypt = true)
    (hmem : s.dev.powered .mem = true) (husable : s.dev.nodeUsable s.dev.auditNode = true)
    (husage : bit (s.dev.nodeUse s.dev.auditNode).2.1 2 = true)
    (hmac : hmacSha256 (s.dev.nodeMaterial s.dev.auditNode) (octetsOf 12 (s.dev.get Dict.auditLastMac) ++ s.met.auditText record) / 2 ^ 160 % 2 ^ 96 = mac)
    (hstored : ofOctets (s.met.auditText record ++ octetsOf 12 mac) = stored) :
    ∃ t, exec .auditRecordStore s = .next t ∧ t.dev.auditWaiting = rest ∧
      t.dev.archive = (s.dev.archive ++ [(Dev.auditSeq record, stored)]).drop
        (s.dev.archive.length + 1 - s.dev.get Dict.auditArchiveDays * 86400) ∧
      t.dev.get Dict.auditLastRecord = stored % 256 ^ 64 ∧ t.dev.get Dict.auditLastMac = mac ∧ t.dev.get Hid.auditKeyed = Dev.auditSeq record ∧
      DeviceOnly s t := by
  obtain ⟨t, hexec, hdev, hstep⟩ := State.during_next hserves (·.auditStore)
  rw [Dev.auditStore_keyed (d := s.met) hwaiting hsince hcrypt hmem husable husage] at hdev
  have hview : ((s.met.withWaiting rest).countUse s.met.auditNode).auditView = (s.met.withWaiting rest).auditView :=
    Dev.auditView_countUse _ s.met.auditNode_slot
  generalize (s.met.withWaiting rest).countUse s.met.auditNode = d at hdev hview
  have hwork := (Dev.auditView_classOne d 64).trans hview
  simp only [Dev.auditView, Prod.mk.injEq] at hview hwork
  obtain ⟨-, -, hlast, -⟩ := hview
  obtain ⟨hrest, harchive, -, hdays⟩ := hwork
  dsimp only at hdev
  rw [show d.get Dict.auditLastMac = s.dev.get Dict.auditLastMac from hlast, show s.met.nodeMaterial s.met.auditNode =
    s.dev.nodeMaterial s.dev.auditNode from rfl, hmac, hstored] at hdev
  generalize d.classOne 64 = e at hdev hrest harchive hdays
  obtain ⟨hring, hleft, -, hshown, hkeeps⟩ := Dev.archiveRecord_spec (((e.set Dict.auditLastMac mac).set Hid.auditKeyed (Dev.auditSeq record)).set
    Hid.auditKeyedGen (s.met.nodeGeneration s.met.auditNode % 256)) (Dev.auditSeq record) stored
  rw [← hdev] at hring hleft hshown hkeeps
  refine ⟨t, hexec, ?_, ?_, hshown, ?_, ?_, hstep.deviceOnly⟩
  · rw [hleft, Dev.auditWaiting_set, Dev.auditWaiting_set, Dev.auditWaiting_set]
    exact hrest
  · rw [hring, Dev.archive_set, Dev.archive_set, Dev.archive_set, harchive, Dev.get_set_ne _ _ _ _ (by decide), Dev.get_set_ne _ _ _ _ (by decide),
      Dev.get_set_ne _ _ _ _ (by decide), hdays]
    rfl
  · rw [hkeeps _ (by decide), Dev.get_set_ne _ _ _ _ (by decide), Dev.get_set_ne _ _ _ _ (by decide)]
    exact Dev.get_lt_of_set _ _ (hmac ▸ Nat.mod_lt _ (by decide))
  · rw [hkeeps _ (by decide), Dev.get_set_ne _ _ _ _ (by decide)]
    exact Dev.get_lt_of_set _ _ (Dev.auditSeq_lt record)

/-- An unkeyed record is counted and reported, and enters the ring (R368, R370). -/
theorem State.auditStore_unkeyed {s : State} {frame record stored : Nat} {rest : List (Nat × Nat)} (hserves : s.serves .time = true)
    (hwaiting : s.dev.auditWaiting = (frame, record) :: rest) (hsince : s.clock.frames - frame ≤ 64) (hcrypt : s.dev.powered .crypt = true)
    (hmem : s.dev.powered .mem = true) (husable : s.dev.nodeUsable s.dev.auditNode = false)
    (hstored : ofOctets (s.met.auditText record ++ List.replicate 12 0) = stored) :
    ∃ t, exec .auditRecordStore s = .next t ∧ t.dev.auditWaiting = rest ∧
      t.dev.archive = (s.dev.archive ++ [(Dev.auditSeq record, stored)]).drop
        (s.dev.archive.length + 1 - s.dev.get Dict.auditArchiveDays * 86400) ∧
      t.dev.get Dict.auditLastRecord = stored % 256 ^ 64 ∧ Counts s t Dict.auditUnkeyedCount ∧ Presents s t 82 [(4, Dev.auditSeq record)] ∧
      OnlyRegisters s t [Dict.auditUnkeyedCount, Dict.auditOldest, Dict.auditLastRecord] := by
  obtain ⟨t, hexec, hdev, hstep⟩ := State.during_next hserves (·.auditStore)
  rw [Dev.auditStore_unkeyed (d := s.met) hwaiting hsince hcrypt hmem husable, hstored] at hdev
  have hcounted : Dev.Keeps [Dict.auditUnkeyedCount] s.met (((s.met.withWaiting rest).inc Dict.auditUnkeyedCount).post 82 [(4, Dev.auditSeq record)]) :=
    .post (.inc (fun _ _ => rfl) (by simp)) _ _
  obtain ⟨hring, hleft, hposted, hshown, hkeeps⟩ := Dev.archiveRecord_spec
    (((s.met.withWaiting rest).inc Dict.auditUnkeyedCount).post 82 [(4, Dev.auditSeq record)]) (Dev.auditSeq record) stored
  rw [← hdev] at hring hleft hposted hshown hkeeps
  refine ⟨t, hexec, hleft, ?_, hshown, ?_, ?_, hstep.onlyRegisters ((hcounted.mono (by simp)).trans (hkeeps.mono (by simp)))⟩
  · rw [hring, hcounted _ (by decide)]
    rfl
  · rw [Counts, hkeeps _ (by decide), Dev.get_post, Dev.get_inc]
    rfl
  · rw [Presents, hposted, Dev.posted_post, Dev.posted_inc]
    rfl

/-- Settles O33: a keyed and an unkeyed record enter the ring alike. -/
theorem auditRecordsAreStoredOrLost : Obligations.AuditRecordsAreStoredOrLost := by
  unfold Obligations.AuditRecordsAreStoredOrLost
  refine ⟨?_, ?_, ?_, ?_⟩
  · intro s frame record rest hserves hwaiting hsince hcrypt hmem given seq node gen flags text kept
    refine ⟨?_, ?_⟩
    · intro husable husage mac stored
      exact State.auditStore_keyed hserves hwaiting hsince hcrypt hmem husable husage rfl rfl
    · intro husable stored
      exact State.auditStore_unkeyed hserves hwaiting hsince hcrypt hmem husable rfl
  · intro s frame record rest hserves hwaiting hsince
    obtain ⟨t, hexec, hdev, hstep⟩ := State.during_next hserves (·.auditLost)
    rw [Dev.auditLost_late (d := s.met) hwaiting hsince] at hdev
    refine ⟨t, hexec, ?_, ?_, ?_, ?_, hstep.onlyRegisters ?_⟩
    · rw [hdev]
      rfl
    · rw [hdev]
      rfl
    · rw [Counts, hdev, Dev.get_post, Dev.get_inc]
      rfl
    · rw [Presents, hdev, Dev.posted_post, Dev.posted_inc]
      rfl
    · rw [hdev]
      exact .post (.inc (fun _ _ => rfl) (by simp)) _ _
  · intro s hwanted hpass
    obtain ⟨t, hexec, hdev, hstep⟩ := State.onDev_next s (·.auditCheckpoint)
    rw [Dev.auditCheckpoint_wanted (d := s.met) hwanted hpass] at hdev
    refine ⟨t, hexec, ?_, ?_, hstep.onlyRegisters ?_⟩
    · rw [hdev]
      rfl
    · rw [PresentsNone, hdev]
      rfl
    · have hset : Dev.Keeps [Hid.nvWanted] s.met (s.met.set Hid.nvWanted (clearBit (s.met.get Hid.nvWanted) 2)) := .set (.refl _ _) (by simp) _
      rw [hdev]
      exact hset.trans (.of_regs rfl)
  · intro s h v x hadmits
    obtain ⟨t, hexec, haccepted⟩ := State.accepted_of_isCommanded hadmits (by decide) (by decide)
    exact ⟨t, hexec, haccepted, fun d => d.applyGroup_auditArchiveDays v⟩

end Sys2Proof.Machine
end

section
/-!
PROOF. The satellite receiver's start, its sample clocks and position check, and the host's commands (O29).
-/
namespace Sys2Proof.Machine
namespace Dev

/-! ### The state table from Off -/

/-- What a channel that follows a sample clock has set (R296). -/
theorem holdClockChannels_spec (d : Dev) :
    d.holdClockChannels.get Dict.gnssState = d.get Dict.gnssState ∧ d.holdClockChannels.posted = d.posted := by
  refine ⟨forUnits_view (fun x : Dev => x.get Dict.gnssState) fun c hc x => ?_, forUnits_view posted fun c _ x => ?_⟩
  · dsimp only
    split
    · simp (disch := apply of_lt hc; decide) only [get_set_ne]
    · rfl
  · dsimp only
    split
    · rw [posted_set, posted_set, posted_set]
    · rfl

/-- An enabled, powered receiver leaves Off (R301). -/
theorem gnssEvaluate_off {d : Dev} (hpowered : d.powered .gnss = true) (henable : d.is Dict.gnssEnable = true) (hoff : d.get Dict.gnssState = 0)
    (sec : GnssSecond) :
    d.gnssEvaluate sec = (((d.set Hid.gnssQuietSeconds (if (List.range 2).all fun b => d.get (Dict.gsSignalsTracked b) == 0 then
      min 60 (d.get Hid.gnssQuietSeconds + 1) else 0)).enterGnss 1).holdClockChannels).clearAll
        [Hid.gnssRestartWanted, Hid.gnssReleaseWanted, Hid.gnssSolved, Hid.gnssPosResult] := by
  have hrows : ∀ v, (d.set Hid.gnssQuietSeconds v).gnssRows sec = ((d.set Hid.gnssQuietSeconds v).enterGnss 1).holdClockChannels := by
    intro v
    have hstate : (d.set Hid.gnssQuietSeconds v).get Dict.gnssState = 0 := (get_set_ne _ _ _ _ (by decide)).trans hoff
    have henable' : (d.set Hid.gnssQuietSeconds v).is Dict.gnssEnable = true := by rw [is, get_set_ne _ _ _ _ (by decide)]; exact henable
    have hpowered' : (d.set Hid.gnssQuietSeconds v).powered .gnss = true := by rw [powered, get_set_ne _ _ _ _ (by decide)]; exact hpowered
    simp only [gnssRows, hstate, henable', hpowered', ne_eq, not_true, false_and, if_false, Bool.and_self, if_true]
  have hlive : (d.powered .gnss && d.get Dict.gnssState != 0) = false := by
    rw [hoff]
    simp
  simp only [gnssEvaluate, hlive, Bool.false_eq_true, if_false, hrows]

/-! ### Sample clocks -/

/-- A channel of the band loses its signal and searches (R296). -/
def dropSignal (b k : Nat) (d : Dev) : Dev :=
  let v := d.get (Dict.gnssChannelStatus k)
  if v / 2 ^ 61 != 0 && bandOf v == b then
    d.set (Dict.gnssChannelStatus k) (v / 2 ^ 51 * 2 ^ 51 + 2 ^ 48 + v / 2 ^ 21 % 2 ^ 17 * 2 ^ 21) else d

/-- A clock that was Active goes Faulty (R296). -/
theorem clockFault_active {d : Dev} {b : Nat} (hb : b < 2) (hstate : d.get (Dict.gsClockState b) = 1) :
    d.clockFault b = (Sys2Proof.Machine.forUnits 192 (dropSignal b)
      ((((d.set (Hid.gsBadAt b) (d.view.frames + 1)).set (Dict.gsClockState b) 2).set (Hid.gsSince b) d.view.frames).set
        (Dict.gsSignalsTracked b) 0)).post 64 [(1, b)] := by
  have hstate' : (d.set (Hid.gsBadAt b) (d.view.frames + 1)).get (Dict.gsClockState b) = 1 :=
    (get_set_ne _ _ _ _ (by apply of_lt hb; decide)).trans hstate
  simp only [clockFault, setClock, hstate', Nat.reduceEqDiff, if_false]
  rfl

theorem keeps_dropSignals (d : Dev) (b : Nat) :
    Keeps ((List.range 192).map Dict.gnssChannelStatus) d (Sys2Proof.Machine.forUnits 192 (dropSignal b) d) :=
  .forUnits (.refl _ d) fun _ hk x => .ite (.set (.refl _ x) (List.mem_map_of_mem (List.mem_range.2 hk)) _) (.refl _ x)

theorem posted_dropSignals (d : Dev) (b : Nat) : (Sys2Proof.Machine.forUnits 192 (dropSignal b) d).posted = d.posted := by
  refine forUnits_view posted fun _ _ x => ?_
  unfold dropSignal
  dsimp only
  split
  · exact posted_set x _ _
  · rfl

/-- A register outside the channels' status. -/
theorem channelStatus_apart {e : Entry} (h : e.addr < (Dict.gnssChannelStatus 0).addr ∨ (Dict.gnssChannelStatus 191).addr < e.addr) :
    ∀ x ∈ (List.range 192).map Dict.gnssChannelStatus, x.addr ≠ e.addr := by
  intro x hx
  obtain ⟨k, hk, rfl⟩ := List.mem_map.1 hx
  have hk' := List.mem_range.1 hk
  simp only [Entry.addr, Dict.gnssChannelStatus] at h ⊢
  omega

/-! ### Trusted time -/

/-- What the trusted time and its episode write (R321, R322). -/
def trustRegisters : List Entry := [Hid.trustKnown, Hid.trustNs, Dict.gnssTrustedTimeUnc, Dict.gnssOsnmaState, Hid.osnmaTimeLost]

/-- The device without its registers and without what waits. -/
def unposted (d : Dev) : Dev := { d with regs := [], posted := [] }

theorem unposted_set (d : Dev) (e : Entry) (v : Nat) : (d.set e v).unposted = d.unposted := (rfl)
theorem unposted_setB (d : Dev) (e : Entry) (b : Bool) : (d.setB e b).unposted = d.unposted := (rfl)
theorem unposted_post (d : Dev) (n : Nat) (l : List (Nat × Nat)) : (d.post n l).unposted = d.unposted := (rfl)

theorem Keeps.postOnce {es : List Entry} {d d' : Dev} (h : Keeps es d d') {flag : Entry} (hflag : flag ∈ es) (active : Bool) (source : Nat)
    (fields : List (Nat × Nat)) : Keeps es d (d'.postOnce flag active source fields) :=
  .ite (.post (h.setB hflag _) _ _) (h.setB hflag _)

theorem unposted_postOnce (d : Dev) (flag : Entry) (active : Bool) (source : Nat) (fields : List (Nat × Nat)) :
    (d.postOnce flag active source fields).unposted = d.unposted := by
  unfold postOnce
  split
  · rw [unposted_post, unposted_setB]
  · rw [unposted_setB]

theorem keeps_showOsnma (d : Dev) : Keeps [Dict.gnssOsnmaState] d d.showOsnma := .set (.refl _ d) (by simp) _

theorem unposted_showOsnma (d : Dev) : d.showOsnma.unposted = d.unposted := by
  unfold showOsnma
  exact unposted_set d _ _

theorem keeps_watchTrust (d : Dev) : Keeps [Dict.gnssTrustedTimeUnc, Hid.osnmaTimeLost, Dict.gnssOsnmaState] d d.watchTrust := by
  unfold watchTrust showTrust
  exact (Keeps.postOnce (.set (.refl _ d) (by simp) _) (by simp) _ _ _).trans ((keeps_showOsnma _).mono (by simp))

theorem unposted_trustedTimeSet (d : Dev) : d.trustedTimeSet.unposted = d.unposted := by
  unfold trustedTimeSet watchTrust showTrust
  rw [unposted_showOsnma, unposted_postOnce, unposted_set, unposted_set, unposted_setB]

/-- The trusted time is 2 s uncertain at its acceptance (R321). -/
theorem trustedTimeSet_spec (d : Dev) : Keeps trustRegisters d d.trustedTimeSet ∧ d.trustedTimeSet.get Hid.trustKnown = 1 ∧
    d.trustedTimeSet.get Hid.trustNs = 2000000000 := by
  have hset : Keeps trustRegisters d ((d.setB Hid.trustKnown true).set Hid.trustNs 2000000000) :=
    .set (.setB (.refl _ d) (by simp [trustRegisters]) _) (by simp [trustRegisters]) _
  have hwatch := keeps_watchTrust ((d.setB Hid.trustKnown true).set Hid.trustNs 2000000000)
  unfold trustedTimeSet
  refine ⟨hset.trans (hwatch.mono (by simp [trustRegisters])), ?_, ?_⟩
  · rw [hwatch _ (by decide), get_set_ne _ _ _ _ (by decide), get_setB_self]
    rfl
  · rw [hwatch _ (by decide)]
    exact get_lt_of_set _ _ (show 2000000000 < 256 ^ 8 from by decide)

theorem find_gnssTrustedTimeSet (v : Value) :
    Dict.find (Dict.gnssTrustedTimeSet.item v).index (Dict.gnssTrustedTimeSet.item v).sub = some Dict.gnssTrustedTimeSet := by
  show Dict.find 0x4830 10 = some Dict.gnssTrustedTimeSet
  decide

/-- The trusted time does not wait for S0 (R321). -/
theorem itemWaits_gnssTrustedTimeSet (v : Value) : itemWaits (Dict.gnssTrustedTimeSet.item v) = false := by
  have hsame : Dict.gnssTrustedTimeSet.addr = (Dict.gnssTrustedTimeSet.item v).index * 256 + (Dict.gnssTrustedTimeSet.item v).sub := rfl
  simp [itemWaits, ← hsame]

theorem acceptItem_gnssTrustedTimeSet (d : Dev) (slot : Nat) (v : Value) :
    d.acceptItem slot (Dict.gnssTrustedTimeSet.item v) = d.trustedTimeSet := by
  rw [acceptItem, find_gnssTrustedTimeSet v]
  simp (disch := decide) only [if_pos, if_neg]

/-! ### Commands at S0 -/

theorem applyGroup_gnssRelease (d : Dev) (v : Value) : d.applyGroup [Dict.gnssRelease.item v] [] = d.setB Hid.gnssReleaseWanted true := by
  rw [applyGroup_plain (by decide)]
  simp (disch := decide) only [plainCommand, if_pos, if_neg]
  rfl

theorem applyGroup_gnssSurveyRestart (d : Dev) (v : Value) :
    d.applyGroup [Dict.gnssSurveyRestart.item v] [] = d.setB Hid.gnssRestartWanted true := by
  rw [applyGroup_plain (by decide)]
  simp (disch := decide) only [plainCommand, if_pos, if_neg]
  rfl

theorem applyGroup_gnssBankRelease (d : Dev) (v : Value) :
    d.applyGroup [Dict.gnssBankRelease.item v] [] = d.releaseRemoved (.bank v.value) := by
  have hunits : unitOf Dict.tmrArm 32 Dict.gnssBankRelease = none ∧ unitOf Dict.outRealign 16 Dict.gnssBankRelease = none ∧
      unitOf Dict.portRecalibrate 6 Dict.gnssBankRelease = none ∧ unitOf Dict.skFaultClear 3 Dict.gnssBankRelease = none ∧
      unitOf Dict.evtClear 128 Dict.gnssBankRelease = none ∧ unitOf Dict.pcClear 64 Dict.gnssBankRelease = none := by decide
  have hkinds : unitOf Dict.chRelease 16 Dict.gnssBankRelease = none ∧ unitOf Dict.linkChRelease 3 Dict.gnssBankRelease = none ∧
      unitOf Dict.apllRelease 4 Dict.gnssBankRelease = none ∧ unitOf Dict.outRelease 16 Dict.gnssBankRelease = none ∧
      unitOf Dict.plsRelease 4 Dict.gnssBankRelease = none ∧ unitOf Dict.portRelease 6 Dict.gnssBankRelease = none ∧
      unitOf Dict.skRelease 3 Dict.gnssBankRelease = none := by decide
  have hrelease : releaseUnit Dict.gnssBankRelease v.value = some (.bank v.value) := by
    obtain ⟨k1, k2, k3, k4, k5, k6, k7⟩ := hkinds
    simp only [releaseUnit, k1, k2, k3, k4, k5, k6, k7]
    rw [if_neg (by decide), if_pos (by decide)]
  obtain ⟨h1, h2, h3, h4, h5, h6⟩ := hunits
  rw [applyGroup_command (by decide) rfl, applyCommand]
  simp only [h1, h2, h3, h4, h5, h6, hrelease]

theorem bank_of_inRange {b : Nat} (h : Dict.gnssBankRelease.inRange b = true) : b ≤ 12 := by
  have hrange : (decide ((1 : Int) ≤ b) && decide ((b : Int) ≤ 12)) = true := h
  simp only [Bool.and_eq_true, decide_eq_true_eq] at hrange
  omega

/-- A removed bank comes back where its start-up check passes (R54, R336). -/
theorem get_releaseRemoved_bank (d : Dev) {b : Nat} (hlow : 1 ≤ b) (hhigh : b ≤ 12) (hremoved : d.removed (.bank b) = true) :
    (d.releaseRemoved (.bank b)).get (Dict.gnssBankState (b - 1)) = if d.startUpPasses (.bank b) then 0 else 1 := by
  have hk : b - 1 < 12 := by omega
  have hcounts : ∀ x : Dev, x.countUnits.get (Dict.gnssBankState (b - 1)) = x.get (Dict.gnssBankState (b - 1)) := by
    intro x
    generalize b - 1 = k at hk ⊢
    unfold countUnits
    simp (disch := apply of_lt hk; decide) only [get_set_ne]
  cases hpass : d.startUpPasses (.bank b) with
  | true =>
    have hback : d.releaseRemoved (.bank b) = (d.clear (Dict.gnssBankState (b - 1))).countUnits := by
      simp only [releaseRemoved, hremoved, hpass, Bool.not_true, Bool.false_eq_true, if_false, Bool.or_true, if_true]
      rfl
    rw [hback, hcounts, get_clear_self]
    rfl
  | false =>
    have hstays : d.releaseRemoved (.bank b) = d.startUpFails (.bank b) := by
      simp only [releaseRemoved, hremoved, hpass, Bool.not_true, Bool.false_eq_true, if_false, Bool.or_false]
    rw [hstays, startUpFails, get_post]
    exact beq_iff_eq.1 hremoved

end Dev

/-- Settles O29: the receiver's own events, and its commands, of which the trusted time acts at acceptance. -/
theorem receiverStartsAndTakesCommands : Obligations.ReceiverStartsAndTakesCommands := by
  unfold Obligations.ReceiverStartsAndTakesCommands
  refine ⟨?_, ?_, ?_, ?_, ?_, ?_, ?_⟩
  · intro s sec hserves hpowered henable hoff
    obtain ⟨t, hexec, hdev, hstep⟩ := State.during_next hserves (·.gnssEvaluate sec)
    rw [Dev.gnssEvaluate_off (d := s.met) hpowered henable hoff] at hdev
    have hquiet : ∀ v, (s.met.set Hid.gnssQuietSeconds v).posted = s.dev.posted := fun v => Dev.posted_set _ _ _
    have hposted := hquiet (if (List.range 2).all fun b => s.met.get (Dict.gsSignalsTracked b) == 0 then
      min 60 (s.met.get Hid.gnssQuietSeconds + 1) else 0)
    generalize s.met.set Hid.gnssQuietSeconds _ = d at hdev hposted
    obtain ⟨hstate, hchannels⟩ := (d.enterGnss 1).holdClockChannels_spec
    refine ⟨t, hexec, ?_, ?_, hstep.deviceOnly⟩
    · rw [hdev, Dev.get_clearAll_ne _ _ _ (by decide), hstate]
      exact Dev.get_lt_of_set _ _ (show 1 < 256 by decide)
    · rw [PresentsNone, hdev, Dev.posted_clearAll, hchannels, Dev.enterGnss, Dev.posted_set, hposted]
  · intro s b hb hserves hmissing hstate
    obtain ⟨t, hexec, hdev, hstep⟩ := State.during_next hserves (·.sampleClockFault b)
    rw [Dev.sampleClockFault, if_pos hmissing, Dev.clockFault_active (d := s.met) hb hstate] at hdev
    have hsignals := Dev.keeps_dropSignals ((((s.met.set (Hid.gsBadAt b) (s.met.view.frames + 1)).set (Dict.gsClockState b) 2).set (Hid.gsSince b)
      s.met.view.frames).set (Dict.gsSignalsTracked b) 0) b
    have hposted := Dev.posted_dropSignals ((((s.met.set (Hid.gsBadAt b) (s.met.view.frames + 1)).set (Dict.gsClockState b) 2).set (Hid.gsSince b)
      s.met.view.frames).set (Dict.gsSignalsTracked b) 0) b
    generalize Sys2Proof.Machine.forUnits 192 (Dev.dropSignal b) _ = d at hdev hsignals hposted
    refine ⟨t, hexec, ?_, ?_, ?_, hstep.onlyRegisters ?_⟩
    · rw [hdev, Dev.get_post, hsignals _ (Dev.channelStatus_apart (by apply of_lt hb; decide)),
        Dev.get_set_ne _ _ _ _ (by apply of_lt hb; decide), Dev.get_set_ne _ _ _ _ (by apply of_lt hb; decide)]
      exact Dev.get_lt_of_set _ _ (show 2 < 256 by decide)
    · rw [hdev, Dev.get_post, hsignals _ (Dev.channelStatus_apart (by apply of_lt hb; decide)), Dev.get_set_self, Nat.zero_mod]
    · rw [Presents, hdev, Dev.posted_post, hposted, Dev.posted_set, Dev.posted_set, Dev.posted_set, Dev.posted_set]
      rfl
    · rw [hdev]
      exact .post ((Dev.Keeps.set (.set (.set (.set (.refl _ s.met) (by simp) _) (by simp) _) (by simp) _) (by simp) _).trans
        (hsignals.mono (List.subset_append_right _ _))) _ _
  · intro s x y z hserves hstate hsince
    obtain ⟨t, hexec, hdev, hstep⟩ := State.during_next hserves (·.positionCheck (x, y, z))
    rw [Dev.positionCheck, if_pos ⟨hstate, hsince⟩] at hdev
    have hdeviation : t.dev.get Dict.gnssPositionDeviation = min (s.dev.positionDeviation (x, y, z)) 0xFFFFFFFF := by
      simp (disch := decide) only [hdev, Dev.checkPosition, Dev.get_set_ne]
      exact Dev.get_lt_of_set _ _ (Nat.lt_of_le_of_lt (Nat.min_le_right _ _) (show 0xFFFFFFFF < 256 ^ 4 by decide))
    refine ⟨t, hexec, hdeviation, ?_, ?_, hstep.onlyRegisters ?_⟩
    · rw [hdeviation]
      simp (disch := decide) only [hdev, Dev.checkPosition, Dev.get_set_ne, Dev.get_set_self, decide_eq_true_eq]
      refine (Nat.mod_eq_of_lt (Nat.lt_of_le_of_lt (show _ ≤ 2 by split <;> omega) (show 2 < 256 by decide))).trans ?_
      rfl
    · rw [PresentsNone, hdev]
      simp only [Dev.checkPosition, Dev.posted_set]
      rfl
    · rw [hdev]
      unfold Dev.checkPosition
      refine .set (.set (.set (.set (.refl _ s.met) ?_ _) ?_ _) ?_ _) ?_ _ <;> simp
  · intro s h v x hadmits
    obtain ⟨t, hexec, haccepted⟩ := State.accepted_of_isCommanded hadmits (by decide) (by decide)
    refine ⟨t, hexec, haccepted, fun d => ?_⟩
    rw [Dev.applyGroup_gnssRelease, Dev.get_setB_self]
    rfl
  · intro s h v x hadmits
    obtain ⟨t, hexec, haccepted⟩ := State.accepted_of_isCommanded hadmits (by decide) (by decide)
    refine ⟨t, hexec, haccepted, fun d => ?_⟩
    rw [Dev.applyGroup_gnssSurveyRestart, Dev.get_setB_self]
    rfl
  · intro s h v x hadmits
    obtain ⟨t, hexec, hdev, hstep⟩ := s.onDev_next (·.command h Dict.gnssTrustedTimeSet v)
    obtain ⟨m, d, hrequest, hstaged, ⟨htype, hid, hnumber, htag, hstatus⟩, hleaves, -, hkeeps⟩ := State.write_of_admits hadmits
      (e := Dict.gnssTrustedTimeSet) ⟨Dev.find_gnssTrustedTimeSet v, by decide, by decide, fun _ h => absurd h (by decide)⟩
    rw [Dev.acceptItem_gnssTrustedTimeSet] at hrequest
    have heffect : t.dev = d.trustedTimeSet := hdev.trans hrequest
    have haside := d.unposted_trustedTimeSet
    obtain ⟨hwritten, hknown, hns⟩ := d.trustedTimeSet_spec
    rw [← heffect] at haside hwritten hknown hns
    refine ⟨t, hexec, ⟨?_, ⟨m, htype, hid, hnumber, htag, hstatus, ?_⟩, hstep.deviceOnly, fun hwaits => ?_⟩,
      hstep.onlyRegisters ((hkeeps.mono (List.subset_append_left _ _)).trans (hwritten.mono (List.subset_append_right _ _))), hknown, hns⟩
    · rw [← hstaged]
      exact (congrArg Dev.staged haside :)
    · have hqueue : t.dev.spiQueue = d.spiQueue := (congrArg Dev.spiQueue haside :)
      have hemit : t.dev.emit = d.emit := (congrArg Dev.emit haside :)
      rw [hqueue, hemit]
      exact hleaves
    · exact absurd (hwaits _ (List.mem_singleton.2 rfl)) (by rw [Dev.itemWaits_gnssTrustedTimeSet]; decide)
  · intro s h v x hadmits
    obtain ⟨t, hexec, haccepted⟩ := State.accepted_of_admits (e := Dict.gnssBankRelease) hadmits
      (Commands.of_isCommanded (by decide) fun hrange _ => Dev.bank_of_inRange hrange) (by decide)
    refine ⟨t, hexec, haccepted, fun d hlow hhigh hremoved => ?_⟩
    rw [Dev.applyGroup_gnssBankRelease]
    exact d.get_releaseRemoved_bank hlow hhigh hremoved

end Sys2Proof.Machine
end

section
/-!
PROOF. The clock sources and the system clock (O57).
-/
namespace Sys2Proof.Machine
namespace Dev

/-! ### The coarse counter goes on from another clock -/

/-- What the coarse counter shows (R587). -/
def coarseRegisters : List Entry := [Dict.coarseClock, Hid.coarse, Hid.coarseFrame, Dict.coarseTime, Dict.coarseUncertainty]

theorem keeps_coarseRun (d : Dev) (ns : Nat) : Keeps [Hid.coarse, Dict.coarseTime, Dict.coarseUncertainty] d (d.coarseRun ns) := by
  unfold coarseRun
  exact .ite (.refl _ d) (.add (.set (.set (.refl _ d) (by simp) _) (by simp) _) (by simp) _)

theorem rest_coarseRun (d : Dev) (ns : Nat) : (d.coarseRun ns).rest = d.rest := by
  unfold coarseRun
  split
  · rfl
  · rw [rest_add, rest_set, rest_set]

theorem keeps_coarseSwitch (d : Dev) (clock : Nat) : Keeps coarseRegisters d (d.coarseSwitch clock) := by
  unfold coarseSwitch coarseNow
  exact .ite (.refl _ d) (.ite (.set (.set ((keeps_coarseRun d _).mono (by decide)) (by simp [coarseRegisters]) _) (by simp [coarseRegisters]) _)
    (.set (.refl _ d) (by simp [coarseRegisters]) _))

theorem rest_coarseSwitch (d : Dev) (clock : Nat) : (d.coarseSwitch clock).rest = d.rest := by
  unfold coarseSwitch coarseNow
  split
  · rfl
  · split
    · rw [rest_set, rest_set, rest_coarseRun]
    · exact rest_set d _ _

/-- A valid counter names its clock. -/
theorem get_coarseSwitch {d : Dev} {clock : Nat} (hclock : clock < 256) (hvalid : d.get Dict.coarseUncertainty ≠ 0xFFFFFFFFFFFFFFFF) :
    (d.coarseSwitch clock).get Dict.coarseClock = clock := by
  unfold coarseSwitch
  rw [if_neg hvalid]
  split
  · exact get_lt_of_set _ _ hclock
  · exact get_lt_of_set _ _ hclock

/-! ### The system clocks fall back to ROSC -/

/-- What the fall-back writes (R561, R567, R568). -/
def fallbackRegisters : List Entry :=
  [Dict.sysClockSource, Dict.spllState, Hid.spllMark, Dict.busClock, Dict.opActive, Dict.railNominal 2, Dict.railNominal 3, Dict.passGranted,
    Dict.passHeadroom, Hid.opCommanded, Hid.opCommandFrame]

/-- The clocks and the operating point after the fall-back, before the passes are given back. -/
def fellBack (d : Dev) : Dev :=
  let d := (d.set Dict.spllState (if d.get Dict.xoState = 3 then 1 else 0)).set Hid.spllMark d.frameMark
  let d := (d.set Dict.sysClockSource 0).set Dict.busClock 200000
  (d.set Dict.opActive 0).showNominal

theorem sysClockFallback_of_source {d : Dev} (h : d.get Dict.sysClockSource ≠ 0) :
    d.sysClockFallback = (((d.fellBack.releasePass 2).releasePass 1).commandVoltage 0).post 4 [] := by
  unfold sysClockFallback
  rw [if_neg h]
  rfl

theorem keeps_fellBack (d : Dev) : Keeps fallbackRegisters d d.fellBack := by
  unfold fellBack showNominal
  refine .set (.set (.set (.set (.set (.set (.set (.refl _ d) ?_ _) ?_ _) ?_ _) ?_ _) ?_ _) ?_ _) ?_ _ <;> simp [fallbackRegisters]

theorem rest_fellBack (d : Dev) : d.fellBack.rest = d.rest := by
  unfold fellBack showNominal
  simp only [rest_set]

theorem keeps_releasePass (d : Dev) (k : Nat) : Keeps [Dict.passGranted, Dict.passHeadroom] d (d.releasePass k) := by
  unfold releasePass showHeadroom
  exact .set (.set (.refl _ d) (by simp) _) (by simp) _

theorem rest_releasePass (d : Dev) (k : Nat) : (d.releasePass k).rest = d.rest := by
  unfold releasePass showHeadroom
  rw [rest_set, rest_set]

theorem passHeld_releasePass {d : Dev} {k j : Nat} (hj : j < 8) : (d.releasePass k).passHeld j = (d.passHeld j && decide (j ≠ k)) := by
  unfold passHeld releasePass showHeadroom
  rw [get_set_ne _ _ _ _ (by decide), get_set_self]
  exact (bit_mod_of_lt (n := 8) hj).trans (bit_clearBit _ _ _)

theorem keeps_sysClockFallback (d : Dev) : Keeps fallbackRegisters d d.sysClockFallback := by
  by_cases h : d.get Dict.sysClockSource = 0
  · rw [sysClockFallback, if_pos h]
    exact .refl _ d
  · rw [sysClockFallback_of_source h]
    have hpasses := (keeps_releasePass d.fellBack 2).trans (keeps_releasePass _ 1)
    exact .post (.out (.set (.set ((keeps_fellBack d).trans (hpasses.mono (by decide))) (by decide) _) (by decide) _) _) _ _

theorem posted_sysClockFallback (d : Dev) : d.sysClockFallback.posted =
    d.posted ++ (if d.get Dict.sysClockSource = 0 then [] else [⟨4, packDetail [], false, false, true⟩]) := by
  by_cases h : d.get Dict.sysClockSource = 0
  · rw [sysClockFallback, if_pos h, if_pos h, List.append_nil]
  · rw [sysClockFallback_of_source h, if_neg h, posted_post, commandVoltage, posted_out, posted_set, posted_set,
      of_rest (g := Dev.posted) ((rest_releasePass _ 1).trans ((rest_releasePass _ 2).trans (rest_fellBack d)))]

/-- After the fall-back the system clocks run from ROSC, and the point reads OP0 (R561). -/
theorem sysClockFallback_spec {d : Dev} (h : d.get Dict.sysClockSource ≠ 0) :
    d.sysClockFallback.get Dict.sysClockSource = 0 ∧ d.sysClockFallback.get Dict.busClock = 200000 ∧ d.sysClockFallback.get Dict.opActive = 0 ∧
      d.sysClockFallback.emit = d.emit ++ [.pmbus 0] ∧ d.sysClockFallback.passHeld 1 = false ∧ d.sysClockFallback.passHeld 2 = false := by
  rw [sysClockFallback_of_source h]
  have hpasses := (keeps_releasePass d.fellBack 2).trans (keeps_releasePass _ 1)
  have hafter : ∀ e : Entry, e.addr ≠ Hid.opCommanded.addr → e.addr ≠ Hid.opCommandFrame.addr →
      ((((d.fellBack.releasePass 2).releasePass 1).commandVoltage 0).post 4 []).get e = ((d.fellBack.releasePass 2).releasePass 1).get e :=
    fun e h1 h2 => by rw [get_post, commandVoltage, get_out, get_set_ne _ _ _ _ h2.symm, get_set_ne _ _ _ _ h1.symm]
  have hheld1 : ((d.fellBack.releasePass 2).releasePass 1).passHeld 1 = false := by
    rw [passHeld_releasePass (by decide)]
    simp
  have hheld2 : ((d.fellBack.releasePass 2).releasePass 1).passHeld 2 = false := by
    rw [passHeld_releasePass (by decide), passHeld_releasePass (by decide)]
    simp
  refine ⟨?_, ?_, ?_, ?_, ?_, ?_⟩
  · rw [hafter _ (by decide) (by decide), hpasses _ (by decide), fellBack, showNominal]
    simp (disch := decide) only [get_set_ne, get_set_self, Nat.zero_mod]
  · rw [hafter _ (by decide) (by decide), hpasses _ (by decide), fellBack, showNominal]
    simp (disch := decide) only [get_set_ne]
    exact get_lt_of_set _ _ (show 200000 < 256 ^ 4 by decide)
  · rw [hafter _ (by decide) (by decide), hpasses _ (by decide), fellBack, showNominal]
    simp (disch := decide) only [get_set_ne, get_set_self, Nat.zero_mod]
  · rw [emit_post, commandVoltage, emit_out, emit_set, emit_set,
      of_rest (g := Dev.emit) ((rest_releasePass _ 1).trans ((rest_releasePass _ 2).trans (rest_fellBack d)))]
  · rw [passHeld, hafter _ (by decide) (by decide)]
    exact hheld1
  · rw [passHeld, hafter _ (by decide) (by decide)]
    exact hheld2

/-! ### APLL0 starts on a qualified source -/

/-- What APLL0's start on a source writes (R257). -/
def apll0StartRegisters : List Entry :=
  [Dict.apll0State, Dict.apll0Source, Dict.apll0Feedback, Hid.apll0FromHold, Hid.apll0Returning, Hid.vcoLeftAt]

theorem keeps_apll0Lock (d : Dev) (source : Nat) (fromHold : Bool) : Keeps apll0StartRegisters d (d.apll0Lock source fromHold) := by
  unfold apll0Lock
  dsimp only
  refine .setB (.setB (.set (.set (.set (.ite (.set (.refl _ d) ?_ _) (.refl _ d)) ?_ _) ?_ _) ?_ _) ?_ _) ?_ _ <;> simp [apll0StartRegisters]

theorem rest_apll0Lock (d : Dev) (source : Nat) (fromHold : Bool) : (d.apll0Lock source fromHold).rest = d.rest := by
  unfold apll0Lock
  dsimp only
  rw [rest_setB, rest_setB, rest_set, rest_set, rest_set]
  split
  · exact rest_set d _ _
  · rfl

theorem keeps_apll0Start (d : Dev) : Keeps apll0StartRegisters d d.apll0Start := by
  unfold apll0Start
  split
  · exact .refl _ d
  · exact .ite (.ite (keeps_apll0Lock d _ _) (.refl _ d)) (.ite (keeps_apll0Lock d _ _) (.refl _ d))

theorem rest_apll0Start (d : Dev) : d.apll0Start.rest = d.rest := by
  unfold apll0Start
  split
  · rfl
  · split
    · split
      · exact rest_apll0Lock d _ _
      · rfl
    · split
      · exact rest_apll0Lock d _ _
      · rfl

theorem keeps_sourceQualified (d : Dev) : Keeps (Hid.apll0Wait :: apll0StartRegisters) d d.sourceQualified := by
  have hwait : Keeps (Hid.apll0Wait :: apll0StartRegisters) d (d.setB Hid.apll0Wait false) := .setB (.refl _ d) (by simp) _
  unfold sourceQualified
  exact .ite hwait (hwait.trans ((keeps_apll0Start _).mono (List.subset_cons_self _ _)))

theorem rest_sourceQualified (d : Dev) : d.sourceQualified.rest = d.rest := by
  unfold sourceQualified
  dsimp only
  split
  · exact rest_setB d _ _
  · exact (rest_apll0Start _).trans (rest_setB d _ _)

/-! ### The state table after an event, in VCO hold or not -/

theorem keeps_enterHoldover_vco (d : Dev) : Keeps holdoverRegisters d (d.enterHoldover 2) := by
  unfold enterHoldover
  dsimp only
  rw [if_neg (by decide)]
  refine .post (.setQ (.setQ (.set (.inc (.inc (.set (.set ((keeps_enterState d 4).mono (List.subset_append_left _ _)) ?_ _) ?_ _) ?_) ?_) ?_ _) _ _) _ _)
    _ _ <;> simp [stateRegisters]

theorem posted_enterHoldover_vco (d : Dev) : d.posted <+: (d.enterHoldover 2).posted := by
  unfold enterHoldover
  dsimp only
  rw [if_neg (by decide), posted_post, posted_setQ, posted_setQ, posted_set, posted_inc, posted_inc, posted_set, posted_set]
  exact (posted_enterState d 4).trans (List.prefix_append _ _)

theorem keeps_stateRows (d : Dev) : Keeps holdoverRegisters d d.stateRowsNow := by
  cases hhold : d.vcoHold with
  | false => exact keeps_stateRowsNow hhold
  | true =>
    unfold stateRowsNow
    simp only [hhold, and_true, Bool.not_true, Bool.false_eq_true, and_false, if_false]
    exact .ite (keeps_enterHoldover_vco d) (.ite (keeps_holdoverRows d) (.refl _ d))

theorem posted_stateRows (d : Dev) : d.posted <+: d.stateRowsNow.posted := by
  cases hhold : d.vcoHold with
  | false => exact posted_stateRowsNow hhold
  | true =>
    unfold stateRowsNow
    simp only [hhold, and_true, Bool.not_true, Bool.false_eq_true, and_false, if_false]
    split
    · exact posted_enterHoldover_vco d
    · split
      · exact posted_holdoverRows d
      · exact List.prefix_rfl

/-! ### MOSC -/

/-- What a relock of the output APLLs writes (R261). -/
def relockRegisters : List Entry := [1, 2, 3].flatMap fun a => [Dict.apllState a, Hid.apllFromHold a, Hid.apllFromCal a]

theorem keeps_apllRelock (d : Dev) (a : Nat) : Keeps [Dict.apllState a, Hid.apllFromHold a, Hid.apllFromCal a] d (d.apllRelock a) := by
  unfold apllRelock
  exact .ite (.setB (.setB (.set (.refl _ d) (by simp) _) (by simp) _) (by simp) _) (.refl _ d)

theorem rest_apllRelock (d : Dev) (a : Nat) : (d.apllRelock a).rest = d.rest := by
  unfold apllRelock
  split
  · rw [rest_setB, rest_setB, rest_set]
  · rfl

theorem get_apllRelock (d : Dev) {a : Nat} (ha : a < 4) :
    (d.apllRelock a).get (Dict.apllState a) = if d.get (Dict.apllState a) = 4 then 2 else d.get (Dict.apllState a) := by
  unfold apllRelock
  split
  · rw [get_setB_ne _ _ _ _ (by apply of_lt ha; decide), get_setB_ne _ _ _ _ (by apply of_lt ha; decide)]
    exact get_lt_of_set _ _ (show 2 < 256 by decide)
  · rfl

/-- In a pass over the three output APLLs, each unit's part is that unit's own. -/
theorem get_threeApll {f : Dev → Nat → Dev} {g : Nat → Entry} {d : Dev} {a : Nat} {v : Nat} (hlow : 1 ≤ a) (hhigh : a ≤ 3)
    (hother : ∀ (x : Dev) (b c : Nat), 1 ≤ b → b ≤ 3 → 1 ≤ c → c ≤ 3 → b ≠ c → (f x b).get (g c) = x.get (g c))
    (hat : ∀ x : Dev, x.get (g a) = d.get (g a) → (f x a).get (g a) = v) : ([1, 2, 3].foldl f d).get (g a) = v := by
  simp only [List.foldl_cons, List.foldl_nil]
  obtain rfl | rfl | rfl : a = 1 ∨ a = 2 ∨ a = 3 := by omega
  · rw [hother _ 3 1 (by decide) (by decide) (by decide) (by decide) (by decide),
      hother _ 2 1 (by decide) (by decide) (by decide) (by decide) (by decide)]
    exact hat d rfl
  · rw [hother _ 3 2 (by decide) (by decide) (by decide) (by decide) (by decide)]
    exact hat _ (hother _ 1 2 (by decide) (by decide) (by decide) (by decide) (by decide))
  · exact hat _ ((hother _ 2 3 (by decide) (by decide) (by decide) (by decide) (by decide)).trans
      (hother _ 1 3 (by decide) (by decide) (by decide) (by decide) (by decide)))

theorem keeps_relocks (d : Dev) : Keeps relockRegisters d ([1, 2, 3].foldl apllRelock d) :=
  .foldl (.refl _ d) fun x a ha => (keeps_apllRelock x a).mono fun _ he => List.mem_flatMap.2 ⟨a, ha, he⟩

theorem rest_relocks (d : Dev) : ([1, 2, 3].foldl apllRelock d).rest = d.rest := foldl_view rest fun x a _ => rest_apllRelock x a

theorem get_relocks (d : Dev) {a : Nat} (hlow : 1 ≤ a) (hhigh : a ≤ 3) :
    ([1, 2, 3].foldl apllRelock d).get (Dict.apllState a) = if d.get (Dict.apllState a) = 4 then 2 else d.get (Dict.apllState a) := by
  refine get_threeApll hlow hhigh (fun x b c hb hb' hc hc' hbc => ?_) fun x hx => ?_
  · have hb4 : b < 4 := by omega
    have hc4 : c < 4 := by omega
    exact keeps_apllRelock x b _ (by
      have apart : ∀ b < 4, ∀ c < 4, b ≠ c →
          ∀ e ∈ [Dict.apllState b, Hid.apllFromHold b, Hid.apllFromCal b], e.addr ≠ (Dict.apllState c).addr := by decide
      exact apart b hb4 c hc4 hbc)
  · rw [get_apllRelock x (by omega), hx]

theorem moscQualified_due {d : Dev} (hmosc : d.get Dict.moscState ≠ 2) (hxo : 3 ≤ d.get Dict.xoState)
    (hsince : d.sinceMark (d.get Hid.moscBreak) (d.get Dict.moscQualifyTime * framesPerSecond) = true) :
    d.moscQualified = ([1, 2, 3].foldl apllRelock ((d.set Dict.moscState 2).set Hid.moscQualifiedFrame d.view.frames)).sourceQualified := by
  have h0 : d.get Dict.xoState ≠ 0 := by omega
  have h1 : d.get Dict.xoState ≠ 1 := by omega
  have h2 : d.get Dict.xoState ≠ 2 := by omega
  simp only [moscQualified, hmosc, h0, h1, h2, hsince, Bool.not_true, Bool.false_eq_true, or_self, if_false]

/-- What a hold of the output APLLs writes (R261, R272). -/
def holdRegisters : List Entry := ([1, 2, 3].flatMap fun a => [Dict.apllState a, Hid.apllHoldFrame a]) ++ (List.range 16).map Dict.outState

theorem keeps_apllHold (d : Dev) (a : Nat) :
    Keeps ([Dict.apllState a, Hid.apllHoldFrame a] ++ (List.range 16).map Dict.outState) d (d.apllHold a) := by
  unfold apllHold
  refine .ite (.post (.trans (.set (.set (.refl _ d) (by simp) _) (by simp) _) ((keeps_holdOutputs _ a).mono fun e he => ?_)) _ _) (.refl _ d)
  obtain ⟨n, hn, rfl⟩ := List.mem_map.1 he
  exact List.mem_append_right _ (List.mem_map_of_mem (List.mem_range.2 (lt_of_mem_outputsOf hn)))

theorem outState_apart {e : Entry} (h : ∀ n < 16, (Dict.outState n).addr ≠ e.addr) : ∀ x ∈ (List.range 16).map Dict.outState, x.addr ≠ e.addr := by
  intro x hx
  obtain ⟨n, hn, rfl⟩ := List.mem_map.1 hx
  exact h n (List.mem_range.1 hn)

/-- A Locked or Locking APLL enters Hold, with source 59. -/
theorem apllHold_spec {d : Dev} {a : Nat} (ha : a < 4) (hstate : d.get (Dict.apllState a) = 2 ∨ d.get (Dict.apllState a) = 3) :
    (d.apllHold a).get (Dict.apllState a) = 4 ∧ (d.apllHold a).posted = d.posted ++ [⟨59, packDetail [(1, a)], false, false, true⟩] := by
  unfold apllHold
  rw [if_pos hstate]
  refine ⟨?_, ?_⟩
  · rw [get_post, keeps_holdOutputs _ a _ (outputs_apart (by apply of_lt ha; decide) _ _),
      get_set_ne _ _ _ _ (by apply of_lt ha; decide)]
    exact get_lt_of_set _ _ (show 4 < 256 by decide)
  · rw [posted_post, of_rest (g := Dev.posted) (rest_holdOutputs _ a), posted_set, posted_set]

theorem posted_apllHold (d : Dev) (a : Nat) : d.posted <+: (d.apllHold a).posted := by
  unfold apllHold
  split
  · rw [posted_post, of_rest (g := Dev.posted) (rest_holdOutputs _ a), posted_set, posted_set]
    exact List.prefix_append _ _
  · exact List.prefix_rfl

/-- The output APLLs hold, each in turn. -/
def holdAll (d : Dev) : Dev := [1, 2, 3].foldl apllHold d

theorem keeps_holdAll (d : Dev) : Keeps holdRegisters d d.holdAll := by
  refine .foldl (.refl _ d) fun x a ha => (keeps_apllHold x a).mono fun e he => ?_
  rcases List.mem_append.1 he with he | he
  · exact List.mem_append_left _ (List.mem_flatMap.2 ⟨a, ha, he⟩)
  · exact List.mem_append_right _ he

theorem posted_holdAll (d : Dev) : d.posted <+: d.holdAll.posted :=
  foldl_keeps (p := fun x : Dev => d.posted <+: x.posted) List.prefix_rfl fun x a _ hx => hx.trans (posted_apllHold x a)

theorem get_apllHold_ne (d : Dev) {b c : Nat} (hb : b < 4) (hc : c < 4) (hbc : b ≠ c) :
    (d.apllHold b).get (Dict.apllState c) = d.get (Dict.apllState c) := by
  refine keeps_apllHold d b _ fun x hx => ?_
  rcases List.mem_append.1 hx with hx | hx
  · have apart : ∀ b < 4, ∀ c < 4, b ≠ c → ∀ x ∈ [Dict.apllState b, Hid.apllHoldFrame b], x.addr ≠ (Dict.apllState c).addr := by decide
    exact apart b hb c hc hbc x hx
  · exact outState_apart (by apply of_lt hc; decide) x hx

/-- Each APLL that ran is in Hold, and has raised source 59 (R261). -/
theorem holdAll_spec {d : Dev} {a : Nat} (hlow : 1 ≤ a) (hhigh : a ≤ 3) (hstate : d.get (Dict.apllState a) = 2 ∨ d.get (Dict.apllState a) = 3) :
    d.holdAll.get (Dict.apllState a) = 4 ∧ (⟨59, packDetail [(1, a)], false, false, true⟩ : Post) ∈ d.holdAll.posted := by
  have hother : ∀ (x : Dev) (b c : Nat), 1 ≤ b → b ≤ 3 → 1 ≤ c → c ≤ 3 → b ≠ c → (x.apllHold b).get (Dict.apllState c) = x.get (Dict.apllState c) :=
    fun x b c _ hb _ hc hbc => get_apllHold_ne x (by omega) (by omega) hbc
  refine ⟨get_threeApll hlow hhigh hother fun x hx => (apllHold_spec (by omega) (hx.symm ▸ hstate)).1, ?_⟩
  have hraises : ∀ x : Dev, x.get (Dict.apllState a) = d.get (Dict.apllState a) →
      (⟨59, packDetail [(1, a)], false, false, true⟩ : Post) ∈ (x.apllHold a).posted := by
    intro x hx
    rw [(apllHold_spec (by omega) (hx.symm ▸ hstate)).2]
    exact List.mem_append_right _ (List.mem_singleton.2 rfl)
  unfold holdAll
  simp only [List.foldl_cons, List.foldl_nil]
  obtain rfl | rfl | rfl : a = 1 ∨ a = 2 ∨ a = 3 := by omega
  · exact (posted_apllHold _ 3).subset ((posted_apllHold _ 2).subset (hraises d rfl))
  · exact (posted_apllHold _ 3).subset (hraises _ (hother _ 1 2 (by decide) (by decide) (by decide) (by decide) (by decide)))
  · exact hraises _ ((hother _ 2 3 (by decide) (by decide) (by decide) (by decide) (by decide)).trans
      (hother _ 1 3 (by decide) (by decide) (by decide) (by decide) (by decide)))

/-- MOSC is Tripped, counted and reported (R570). -/
def tripped (d : Dev) (cause : Nat) : Dev :=
  (((((d.set Dict.moscState 3).set Dict.moscLastTripCause cause).set Hid.moscBreak d.frameMark).inc Dict.moscTripCount).inc Dict.lifeMoscTrips).post
    2 [(1, cause)]

/-- What a trip of MOSC writes of MOSC itself. -/
def tripRegisters : List Entry := [Dict.moscState, Dict.moscLastTripCause, Dict.moscTripCount, Dict.lifeMoscTrips, Hid.moscBreak]

theorem keeps_tripped (d : Dev) (cause : Nat) : Keeps tripRegisters d (d.tripped cause) := by
  unfold tripped
  refine .post (.inc (.inc (.set (.set (.set (.refl _ d) ?_ _) ?_ _) ?_ _) ?_) ?_) _ _ <;> simp [tripRegisters]

theorem posted_tripped (d : Dev) (cause : Nat) : (d.tripped cause).posted = d.posted ++ [⟨2, packDetail [(1, cause)], false, false, true⟩] := by
  unfold tripped
  rw [posted_post, posted_inc, posted_inc, posted_set, posted_set, posted_set]

/-- What a trip of MOSC writes, the state table aside. -/
def tripAllRegisters : List Entry :=
  tripRegisters ++ ([Dict.apll0State, Dict.apll0HoldCount, Hid.apll0HoldFrame, Hid.apll0Returning, Hid.apll0Held] ++ holdRegisters)

/-- The trip of MOSC, with APLL0's hold where MOSC is its source. -/
def trippedHeld (d : Dev) (cause : Nat) : Dev :=
  if d.onMosc then (d.tripped cause).apll0Hold (if cause = 3 then 2 else 1) else d.tripped cause

theorem keeps_trippedHeld (d : Dev) (cause : Nat) :
    Keeps [Dict.apll0State, Dict.apll0HoldCount, Hid.apll0HoldFrame, Hid.apll0Returning, Hid.apll0Held] (d.tripped cause) (d.trippedHeld cause) :=
  .ite (keeps_apll0Hold _ _) (.refl _ _)

theorem posted_trippedHeld (d : Dev) (cause : Nat) : (d.tripped cause).posted <+: (d.trippedHeld cause).posted := by
  unfold trippedHeld
  split
  · rw [posted_apll0Hold]
    exact List.prefix_append _ _
  · exact List.prefix_rfl

/-- An entry that no hold of an APLL writes reads after the trip as MOSC's own part of it leaves it. -/
theorem get_trip (d : Dev) (cause : Nat) {e : Entry} (hout : ∀ n < 16, (Dict.outState n).addr ≠ e.addr)
    (hunits : ∀ x ∈ [1, 2, 3].flatMap fun a => [Dict.apllState a, Hid.apllHoldFrame a], x.addr ≠ e.addr)
    (hrows : ∀ x ∈ holdoverRegisters, x.addr ≠ e.addr) :
    (d.trippedHeld cause).holdAll.stateRowsNow.get e = (d.trippedHeld cause).get e := by
  rw [keeps_stateRows _ _ hrows]
  exact keeps_holdAll _ _ fun x hx => (List.mem_append.1 hx).elim (hunits x) (outState_apart hout x)

theorem moscTrip_taken {d : Dev} {cause : Nat} (hlow : 1 ≤ cause) (hhigh : cause ≤ 3) (hmosc : d.get Dict.moscState = 1 ∨ d.get Dict.moscState = 2)
    (hdetector : cause = 3 → d.onMosc = true) :
    d.moscTrip cause = (d.trippedHeld cause).holdAll := by
  have hboth : ∀ x : Dev, (x.apll0Locked && x.onMosc) = x.onMosc := fun x => by
    unfold onMosc
    cases x.apll0Locked <;> simp
  have honMosc : (d.tripped cause).onMosc = d.onMosc := by
    unfold onMosc apll0Locked
    rw [keeps_tripped d cause _ (by decide), keeps_tripped d cause _ (by decide)]
  have hfirst : ¬(cause = 3 ∧ (!(d.apll0Locked && d.onMosc)) = true) := by
    rintro ⟨h3, hnot⟩
    rw [hboth, hdetector h3] at hnot
    cases hnot
  have hsecond : ¬(d.get Dict.moscState = 0 ∨ d.get Dict.moscState = 3 ∨ cause = 0 ∨ 3 < cause) := by omega
  unfold moscTrip
  rw [if_neg hfirst, if_neg hsecond]
  dsimp only
  rw [show ((((((d.set Dict.moscState 3).set Dict.moscLastTripCause cause).set Hid.moscBreak d.frameMark).inc Dict.moscTripCount).inc
    Dict.lifeMoscTrips).post 2 [(1, cause)]) = d.tripped cause from rfl, hboth, honMosc]
  rfl

/-- MOSC trips: it reads Tripped with the cause, counted and reported (R570). -/
theorem trip_spec (d : Dev) {cause : Nat} (hcause : cause < 256) :
    (d.trippedHeld cause).holdAll.stateRowsNow.get Dict.moscState = 3 ∧
      (d.trippedHeld cause).holdAll.stateRowsNow.get Dict.moscLastTripCause = cause ∧
      (d.trippedHeld cause).holdAll.stateRowsNow.get Dict.moscTripCount = min (d.get Dict.moscTripCount + 1) (Dict.moscTripCount.modulus - 1) ∧
      (d.trippedHeld cause).holdAll.stateRowsNow.get Dict.lifeMoscTrips = min (d.get Dict.lifeMoscTrips + 1) (Dict.lifeMoscTrips.modulus - 1) := by
  have hheld := d.keeps_trippedHeld cause
  refine ⟨?_, ?_, ?_, ?_⟩ <;> rw [get_trip d cause (by decide) (by decide) (by decide), hheld _ (by decide), tripped, get_post]
  · simp (disch := decide) only [get_inc_ne, get_set_ne]
    exact get_lt_of_set _ _ (show 3 < 256 by decide)
  · simp (disch := decide) only [get_inc_ne, get_set_ne]
    exact get_lt_of_set _ _ hcause
  · rw [get_inc_ne _ _ _ (by decide), get_inc]
    simp (disch := decide) only [get_set_ne]
  · rw [get_inc]
    simp (disch := decide) only [get_inc_ne, get_set_ne]

/-- What a trip presents: after what was presented before it, source 2; the holds that follow present theirs. -/
theorem posted_trip (d : Dev) (cause : Nat) :
    d.posted ++ [⟨2, packDetail [(1, cause)], false, false, true⟩] <+: (d.trippedHeld cause).holdAll.stateRowsNow.posted := by
  rw [← posted_tripped]
  exact (d.posted_trippedHeld cause).trans ((posted_holdAll _).trans (posted_stateRows _))

/-- APLL0 locked to MOSC enters VCO hold with the trip (R257). -/
theorem trip_onMosc {d : Dev} {cause : Nat} (hon : d.onMosc = true) :
    (d.trippedHeld cause).holdAll.stateRowsNow.get Dict.apll0State = 3 ∧
      (⟨56, packDetail [(1, if cause = 3 then 2 else 1), (1, 1)], false, false, true⟩ : Post) ∈
        (d.trippedHeld cause).holdAll.stateRowsNow.posted := by
  have hsource : d.get Dict.apll0Source = 1 := beq_iff_eq.1 (Bool.and_eq_true_iff.1 hon).2
  refine ⟨?_, ((posted_holdAll _).trans (posted_stateRows _)).subset ?_⟩
  · rw [get_trip d cause (by decide) (by decide) (by decide), trippedHeld, if_pos hon, apll0State_apll0Hold]
  · rw [trippedHeld, if_pos hon, posted_apll0Hold, keeps_tripped d cause _ (by decide), hsource]
    exact List.mem_append_right _ (.head _)

/-- Each output APLL that ran enters Hold with the trip (R261). -/
theorem trip_apll {d : Dev} (cause : Nat) {a : Nat} (hlow : 1 ≤ a) (hhigh : a ≤ 3)
    (hstate : d.get (Dict.apllState a) = 2 ∨ d.get (Dict.apllState a) = 3) :
    (d.trippedHeld cause).holdAll.stateRowsNow.get (Dict.apllState a) = 4 ∧
      (⟨59, packDetail [(1, a)], false, false, true⟩ : Post) ∈ (d.trippedHeld cause).holdAll.stateRowsNow.posted := by
  have ha : a < 4 := by omega
  have hbefore : (d.trippedHeld cause).get (Dict.apllState a) = d.get (Dict.apllState a) := by
    rw [keeps_trippedHeld d cause _ (by apply of_lt ha; decide), keeps_tripped d cause _ (by apply of_lt ha; decide)]
  obtain ⟨hhold, hraised⟩ := holdAll_spec (d := d.trippedHeld cause) hlow hhigh (hbefore.symm ▸ hstate)
  refine ⟨?_, (posted_stateRows _).subset hraised⟩
  rw [keeps_stateRows _ _ (by apply of_lt ha; decide), hhold]

theorem keeps_trip (d : Dev) (cause : Nat) :
    Keeps (holdoverRegisters ++ tripAllRegisters) d (d.trippedHeld cause).holdAll.stateRowsNow := by
  have htrip : Keeps tripAllRegisters d (d.tripped cause) := (d.keeps_tripped cause).mono (List.subset_append_left _ _)
  have hheld : Keeps tripAllRegisters (d.tripped cause) (d.trippedHeld cause) :=
    (d.keeps_trippedHeld cause).mono fun _ hx => List.mem_append_right _ (List.mem_append_left _ hx)
  have hhold : Keeps tripAllRegisters (d.trippedHeld cause) (d.trippedHeld cause).holdAll :=
    (keeps_holdAll _).mono fun _ hx => List.mem_append_right _ (List.mem_append_right _ hx)
  exact (((htrip.trans hheld).trans hhold).mono (List.subset_append_right holdoverRegisters _)).trans
    ((keeps_stateRows _).mono (List.subset_append_left _ _))

/-! ### XO -/

/-- What a qualification of XO writes, its loss of APLL0's wait aside (R565, R587). -/
def xoQualifiedRegisters : List Entry :=
  [Dict.xoState, Dict.xoRoscEstimate, Dict.roscFrequency, Dict.spllState, Hid.spllMark, Dict.moscState] ++ coarseRegisters

/-- XO and the clocks that follow it, before the coarse counter goes on from it. -/
def xoShown (d : Dev) (estimate : Nat) : Dev :=
  let d := (d.set Dict.xoState 3).set Dict.xoRoscEstimate estimate
  let d := d.set Dict.roscFrequency ((400000 * d.xoNominal + estimate / 2) / estimate)
  let d := if d.get Dict.spllState = 0 then (d.set Dict.spllState 1).set Hid.spllMark d.frameMark else d
  if d.get Dict.moscState = 0 then d.set Dict.moscState 1 else d

theorem xoQualified_eq (d : Dev) (estimate : Nat) : d.xoQualified estimate = (d.xoShown estimate).coarseSwitch 1 := rfl

theorem keeps_xoShown (d : Dev) (estimate : Nat) : Keeps xoQualifiedRegisters d (d.xoShown estimate) := by
  have hset : Keeps xoQualifiedRegisters d ((d.set Dict.xoState 3).set Dict.xoRoscEstimate estimate) :=
    .set (.set (.refl _ d) (by simp [xoQualifiedRegisters]) _) (by simp [xoQualifiedRegisters]) _
  unfold xoShown
  dsimp only
  refine .ite (.set ?_ (by simp [xoQualifiedRegisters]) _) ?_ <;>
    exact .ite (.set (.set (.set hset (by simp [xoQualifiedRegisters]) _) (by simp [xoQualifiedRegisters]) _) (by simp [xoQualifiedRegisters]) _)
      (.set hset (by simp [xoQualifiedRegisters]) _)

theorem rest_xoShown (d : Dev) (estimate : Nat) : (d.xoShown estimate).rest = d.rest := by
  unfold xoShown
  dsimp only
  split <;> split <;> simp only [rest_set]

/-- XO is Qualified with its estimate, and SPLL begins to lock (R565, R567). -/
theorem xoShown_spec (d : Dev) {estimate : Nat} (hestimate : estimate < 2 ^ 32) :
    (d.xoShown estimate).get Dict.xoState = 3 ∧ (d.xoShown estimate).get Dict.xoRoscEstimate = estimate ∧
      (d.xoShown estimate).get Dict.spllState = if d.get Dict.spllState = 0 then 1 else d.get Dict.spllState := by
  have hxo : (((d.set Dict.xoState 3).set Dict.xoRoscEstimate estimate)).get Dict.xoState = 3 := by
    rw [get_set_ne _ _ _ _ (by decide)]
    exact get_lt_of_set _ _ (show 3 < 256 by decide)
  have hrosc : (((d.set Dict.xoState 3).set Dict.xoRoscEstimate estimate)).get Dict.xoRoscEstimate = estimate := get_lt_of_set _ _ hestimate
  have hone : ∀ x : Dev, (x.set Dict.spllState 1).get Dict.spllState = 1 := fun x => get_lt_of_set _ _ (show 1 < 256 by decide)
  unfold xoShown
  dsimp only
  generalize hd : (d.set Dict.xoState 3).set Dict.xoRoscEstimate estimate = x at hxo hrosc ⊢
  have hspll : x.get Dict.spllState = d.get Dict.spllState := by
    rw [← hd, get_set_ne _ _ _ _ (by decide), get_set_ne _ _ _ _ (by decide)]
  rw [get_set_ne _ _ _ _ (by decide), hspll]
  by_cases h : d.get Dict.spllState = 0
  · rw [if_pos h, if_pos h]
    split <;> simp (disch := decide) only [get_set_ne, hxo, hrosc, hone, and_self]
  · rw [if_neg h, if_neg h]
    split <;> simp (disch := decide) only [get_set_ne, hxo, hrosc, hspll, and_self]

/-- XO is Failed, with source 3 (R566). -/
def xoFailed (d : Dev) : Dev := ((d.set Dict.xoState 4).set Hid.xoFailMark d.frameMark).post 3 []

theorem xoFail_of_state {d : Dev} (h : d.get Dict.xoState ≠ 4) : d.xoFail = (d.xoFailed.coarseSwitch 2).sysClockFallback := by
  rw [xoFail, if_neg h]
  rfl

/-- What the failure of XO writes, APLL0 aside. -/
def xoFailRegisters : List Entry := Dict.xoState :: Hid.xoFailMark :: (coarseRegisters ++ fallbackRegisters)

theorem keeps_xoFailed (d : Dev) : Keeps [Dict.xoState, Hid.xoFailMark] d d.xoFailed := by
  unfold xoFailed
  exact .post (.set (.set (.refl _ d) (by simp) _) (by simp) _) _ _

/-- XO fails: it is Failed, the system clocks are on ROSC, and so is a valid coarse counter (R566, R567, R587). -/
theorem xoFail_spec {d : Dev} (h : d.get Dict.xoState ≠ 4) :
    d.xoFail.get Dict.xoState = 4 ∧ d.xoFail.get Dict.sysClockSource = 0 ∧
      (d.get Dict.coarseUncertainty ≠ 0xFFFFFFFFFFFFFFFF → d.xoFail.get Dict.coarseClock = 2) ∧ Keeps xoFailRegisters d d.xoFail ∧
      d.xoFail.posted = d.posted ++ [⟨3, packDetail [], false, false, true⟩] ++
        (if d.get Dict.sysClockSource = 0 then [] else [⟨4, packDetail [], false, false, true⟩]) := by
  rw [xoFail_of_state h]
  have hfailed := d.keeps_xoFailed
  have hswitch := d.xoFailed.keeps_coarseSwitch 2
  have hfallback := (d.xoFailed.coarseSwitch 2).keeps_sysClockFallback
  have hsource : (d.xoFailed.coarseSwitch 2).get Dict.sysClockSource = d.get Dict.sysClockSource := by
    rw [hswitch _ (by decide), hfailed _ (by decide)]
  refine ⟨?_, ?_, fun hvalid => ?_, ?_, ?_⟩
  · rw [hfallback _ (by decide), hswitch _ (by decide), xoFailed, get_post, get_set_ne _ _ _ _ (by decide)]
    exact get_lt_of_set _ _ (show 4 < 256 by decide)
  · by_cases hrosc : (d.xoFailed.coarseSwitch 2).get Dict.sysClockSource = 0
    · rw [sysClockFallback, if_pos hrosc, hrosc]
    · exact (sysClockFallback_spec hrosc).1
  · rw [hfallback _ (by decide)]
    exact get_coarseSwitch (by decide) (by rwa [hfailed _ (by decide)])
  · exact ((hfailed.mono (by decide)).trans (hswitch.mono (by decide))).trans (hfallback.mono (by decide))
  · rw [posted_sysClockFallback, hsource, of_rest (g := Dev.posted) (rest_coarseSwitch _ 2), xoFailed, posted_post, posted_set, posted_set]

/-! ### The remaining commands -/

theorem applyGroup_moscReturn (d : Dev) (v : Value) : d.applyGroup [Dict.moscReturn.item v] [] = d.setB Hid.moscReturnWanted true := by
  rw [applyGroup_plain (by decide)]
  simp (disch := decide) only [plainCommand, if_pos, if_neg]

theorem get_forcedSwitch (d : Dev) {mux : Nat} (hmux : mux < 256) :
    (d.forcedSwitch mux).get Dict.forcedSwitchCount = min (d.get Dict.forcedSwitchCount + 1) (Dict.forcedSwitchCount.modulus - 1) ∧
      (d.forcedSwitch mux).get Dict.forcedSwitchLastMux = mux := by
  unfold forcedSwitch
  rw [get_post, get_post, get_set_ne _ _ _ _ (by decide), get_inc]
  exact ⟨rfl, get_lt_of_set _ _ hmux⟩

end Dev

/-- Settles O57, a command at a time: each change of state is a lemma above, and what follows it in the same command writes other registers. -/
theorem clockSourcesChangeState : Obligations.ClockSourcesChangeState := by
  unfold Obligations.ClockSourcesChangeState
  refine ⟨?_, ?_, ?_, ?_, ?_, ?_, ?_, ?_, ?_⟩
  · intro s estimate hmay hestimate
    obtain ⟨t, hexec, hdev, hstep⟩ := State.onDev_next s (·.xoQualifies estimate)
    rw [Dev.xoQualifies, if_pos hmay, Dev.xoQualified_eq] at hdev
    obtain ⟨hxo, hrosc, hspll⟩ := s.met.xoShown_spec hestimate
    have hswitch := (s.met.xoShown estimate).keeps_coarseSwitch 1
    have hstart := Dev.keeps_sourceQualified ((s.met.xoShown estimate).coarseSwitch 1)
    refine ⟨t, hexec, ?_, ?_, ?_, ?_, hstep.onlyRegisters ?_⟩
    · rw [hdev, hstart _ (by decide), hswitch _ (by decide), hxo]
    · rw [hdev, hstart _ (by decide), hswitch _ (by decide), hrosc]
    · rw [hdev, hstart _ (by decide), hswitch _ (by decide), hspll]
      rfl
    · rw [PresentsNone, hdev, Dev.of_rest (g := Dev.posted)
        ((Dev.rest_sourceQualified _).trans ((Dev.rest_coarseSwitch _ 1).trans (Dev.rest_xoShown _ _)))]
      rfl
    · rw [hdev]
      exact (((s.met.keeps_xoShown estimate).mono (by decide)).trans (hswitch.mono (by decide))).trans (hstart.mono (by decide))
  · intro s hxo lost
    obtain ⟨t, hexec, hdev, hstep⟩ := State.onDev_next s (·.xoFails.stateRowsNow)
    obtain ⟨hfailed, hsource, hcoarse, hkeeps, hposted⟩ := Dev.xoFail_spec (d := s.met) hxo
    have hlost : s.met.xoFails = if lost = true then s.met.xoFail.apll0Hold 2 else s.met.xoFail := by
      have hne : (s.met.get Dict.xoState != 4) = true := bne_iff_ne.2 hxo
      rw [Dev.xoFails, hne, Bool.and_true]
      rfl
    have hhold : ∀ e : Entry, (∀ x ∈ [Dict.apll0State, Dict.apll0HoldCount, Hid.apll0HoldFrame, Hid.apll0Returning, Hid.apll0Held], x.addr ≠ e.addr) →
        s.met.xoFails.get e = s.met.xoFail.get e := fun e he => by
      rw [hlost]
      split
      · exact s.met.xoFail.keeps_apll0Hold 2 e he
      · rfl
    have hrises : s.met.xoFail.posted <+: s.met.xoFails.posted := by
      rw [hlost]
      split
      · rw [Dev.posted_apll0Hold]
        exact List.prefix_append _ _
      · exact List.prefix_rfl
    have hrows := Dev.keeps_stateRows s.met.xoFails
    have hall := hrises.trans (Dev.posted_stateRows s.met.xoFails)
    refine ⟨t, hexec, ?_, ?_, ?_, fun hspll => ?_, fun h => ⟨?_, ?_⟩, fun hvalid => ?_, ?_, hstep.onlyRegisters ?_⟩
    · rw [hdev, hrows _ (by decide), hhold _ (by decide), hfailed]
    · rw [hdev]
      refine hall.subset ?_
      rw [hposted]
      exact List.mem_append_left _ (List.mem_append_right _ (.head _))
    · rw [hdev, hrows _ (by decide), hhold _ (by decide), hsource]
    · rw [hdev]
      refine hall.subset ?_
      rw [hposted, if_neg (show s.met.get Dict.sysClockSource ≠ 0 from hspll)]
      exact List.mem_append_right _ (.head _)
    · rw [hdev, hrows _ (by decide), hlost, if_pos h, Dev.apll0State_apll0Hold]
    · have hxoSource : s.dev.get Dict.apll0Source = 2 := beq_iff_eq.1 (Bool.and_eq_true_iff.1 h).2
      rw [hdev]
      refine (Dev.posted_stateRows _).subset ?_
      rw [hlost, if_pos h, Dev.posted_apll0Hold, hkeeps _ (by decide), State.met_get, hxoSource]
      exact List.mem_append_right _ (.head _)
    · rw [hdev, hrows _ (by decide), hhold _ (by decide)]
      exact hcoarse hvalid
    · rw [hdev]
      refine .trans ?_ hall
      rw [hposted, List.append_assoc]
      exact List.prefix_append _ _
    · have hfails : Dev.Keeps (Dev.xoFailRegisters ++ [Dict.apll0State, Dict.apll0HoldCount, Hid.apll0HoldFrame, Hid.apll0Returning, Hid.apll0Held])
          s.met s.met.xoFails := fun e he => by
        rw [hhold e fun x hx => he x (List.mem_append_right _ hx)]
        exact hkeeps e fun x hx => he x (List.mem_append_left _ hx)
      rw [hdev]
      refine .trans (hfails.mono fun x hx => ?_) (hrows.mono fun x hx => ?_)
      · rw [List.append_assoc, List.append_assoc holdoverRegisters, ← List.append_assoc _ _ [Dict.apll0State, _, _, _, _]]
        exact List.mem_append_right _ hx
      · exact List.mem_append_left _ (List.mem_append_left _ (List.mem_append_left _ hx))
  · intro s hxo hsince
    obtain ⟨t, hexec, hdev, hstep⟩ := State.onDev_next s (·.xoRestart)
    rw [Dev.xoRestart, if_pos ⟨hxo, hsince⟩] at hdev
    refine ⟨t, hexec, ?_, ?_, hstep.onlyRegisters ?_⟩
    · rw [hdev, Dev.get_set_ne _ _ _ _ (by decide)]
      exact Dev.get_lt_of_set _ _ (show 1 < 256 by decide)
    · rw [PresentsNone, hdev, Dev.posted_set, Dev.posted_set]
      rfl
    · rw [hdev]
      exact .set (.set (.refl _ s.met) (by simp) _) (by simp) _
  · intro s hxo hsource hsince
    obtain ⟨t, hexec, hdev, hstep⟩ := State.onDev_next s (·.sysClockToSpll)
    rw [Dev.sysClockToSpll, if_pos ⟨hxo, hsource, hsince⟩] at hdev
    dsimp only at hdev
    generalize hspll : ((s.met.set Dict.spllState 2).set Dict.sysClockSource 1).set Dict.busClock 800000 = d at hdev
    have hclock : d.get Dict.sysClockSource = 1 ∧ d.get Dict.spllState = 2 ∧ d.get Dict.busClock = 800000 := by
      rw [← hspll]
      simp (disch := decide) only [Dev.get_set_ne]
      exact ⟨Dev.get_lt_of_set _ _ (show 1 < 256 by decide), Dev.get_lt_of_set _ _ (show 2 < 256 by decide),
        Dev.get_lt_of_set _ _ (show 800000 < 256 ^ 4 by decide)⟩
    have hdram : Dev.Keeps [Dict.dramState] d t.dev := by
      rw [hdev]
      exact .ite (.set (.refl _ d) (by simp) _) (.refl _ d)
    obtain ⟨hsys, hspllState, hbus⟩ := hclock
    refine ⟨t, hexec, ?_, ?_, ?_, ?_, hstep.onlyRegisters (.trans (d' := d) ?_ (hdram.mono (by decide)))⟩
    · rw [hdram _ (by decide), hsys]
    · rw [hdram _ (by decide), hspllState]
    · rw [hdram _ (by decide), hbus]
    · have hposted : d.posted = s.dev.posted := by
        rw [← hspll, Dev.posted_set, Dev.posted_set, Dev.posted_set]
        rfl
      rw [PresentsNone, hdev]
      split
      · rw [Dev.posted_set, hposted]
      · exact hposted
    · rw [← hspll]
      exact .set (.set (.set (.refl _ s.met) (by simp) _) (by simp) _) (by simp) _
  · intro s hsource
    obtain ⟨t, hexec, hdev, hstep⟩ := State.onDev_next s (·.sysClockFallback)
    obtain ⟨hsys, hbus, hop, hemit, hheld1, hheld2⟩ := Dev.sysClockFallback_spec (d := s.met) hsource
    rw [← hdev] at hsys hbus hop hemit hheld1 hheld2
    refine ⟨t, hexec, hsys, hbus, hop, hemit, hheld1, hheld2, ?_, hstep.onlyRegisters ?_⟩
    · rw [Presents, hdev, Dev.posted_sysClockFallback, if_neg (show s.met.get Dict.sysClockSource ≠ 0 from hsource)]
      rfl
    · rw [hdev]
      exact s.met.keeps_sysClockFallback
  · intro s hmosc hxo hsince
    obtain ⟨t, hexec, hdev, hstep⟩ := State.onDev_next s (·.moscQualified)
    rw [Dev.moscQualified_due (d := s.met) hmosc hxo hsince] at hdev
    generalize hqualified : (s.met.set Dict.moscState 2).set Hid.moscQualifiedFrame s.met.view.frames = d at hdev
    have hfirst : Dev.Keeps [Dict.moscState, Hid.moscQualifiedFrame] s.met d := by
      rw [← hqualified]
      exact .set (.set (.refl _ s.met) (by simp) _) (by simp) _
    have hstate : d.get Dict.moscState = 2 := by
      rw [← hqualified, Dev.get_set_ne _ _ _ _ (by decide)]
      exact Dev.get_lt_of_set _ _ (show 2 < 256 by decide)
    have hrelocks := d.keeps_relocks
    have hstart := Dev.keeps_sourceQualified ([1, 2, 3].foldl Dev.apllRelock d)
    refine ⟨t, hexec, ?_, fun a hlow hhigh => ?_, ?_, hstep.onlyRegisters ?_⟩
    · rw [hdev, hstart _ (by decide), hrelocks _ (by decide), hstate]
    · have ha : a < 4 := by omega
      rw [hdev, hstart _ (by apply of_lt ha; decide), Dev.get_relocks d hlow hhigh, hfirst _ (by apply of_lt ha; decide)]
      rfl
    · rw [PresentsNone, hdev, Dev.of_rest (g := Dev.posted) ((Dev.rest_sourceQualified _).trans (Dev.rest_relocks d)), ← hqualified, Dev.posted_set,
        Dev.posted_set]
      rfl
    · rw [hdev]
      exact ((hfirst.mono (by decide)).trans (hrelocks.mono (by decide))).trans (hstart.mono (by decide))
  · intro s cause hlow hhigh hmosc hdetector
    obtain ⟨t, hexec, hdev, hstep⟩ := State.onDev_next s (fun d => (d.moscTrip cause).stateRowsNow)
    rw [Dev.moscTrip_taken (d := s.met) hlow hhigh hmosc hdetector] at hdev
    obtain ⟨hstate, hlast, hcount, hlife⟩ := s.met.trip_spec (Nat.lt_of_le_of_lt hhigh (show 3 < 256 by decide))
    have hposted := s.met.posted_trip cause
    rw [← hdev] at hstate hlast hcount hlife hposted
    refine ⟨t, hexec, hstate, hlast, hcount, hlife, (List.prefix_append _ _).trans hposted, hposted.subset (List.mem_append_right _ (.head _)),
      fun hon => ?_, fun a ha hb hruns => ?_, hstep.onlyRegisters ?_⟩
    · rw [hdev]
      exact Dev.trip_onMosc (d := s.met) hon
    · rw [hdev]
      exact Dev.trip_apll (d := s.met) cause ha hb hruns
    · rw [hdev]
      refine (s.met.keeps_trip cause).mono ?_
      simp only [Dev.tripAllRegisters, Dev.tripRegisters, Dev.holdRegisters, List.append_assoc, List.Subset.refl]
  · intro s h v x hadmits
    obtain ⟨t, hexec, haccepted⟩ := State.accepted_of_isCommanded hadmits (by decide) (by decide)
    refine ⟨t, hexec, haccepted, fun d => ?_⟩
    rw [Dev.applyGroup_moscReturn, Dev.get_setB_self]
    rfl
  · intro s mux hmux
    obtain ⟨t, hexec, hdev, hstep⟩ := State.onDev_next s (·.forcedSwitch mux)
    obtain ⟨hcount, hlast⟩ := s.met.get_forcedSwitch hmux
    rw [← hdev] at hcount hlast
    refine ⟨t, hexec, hcount, hlast, ?_, hstep.onlyRegisters ?_⟩
    · rw [Presents, hdev, Dev.forcedSwitch, Dev.posted_post, Dev.posted_set, Dev.posted_inc]
      rfl
    · rw [hdev, Dev.forcedSwitch]
      exact .post (.set (.inc (.refl _ s.met) (by simp)) (by simp) _) _ _

end Sys2Proof.Machine
end

section
/-!
PROOF. Skovwin ports: their packets, their calibration and their states (O53).
-/
namespace Sys2Proof.Machine
namespace Dev

/-! ### States of a port -/

/-- What an entry to Training writes (R515, R520). -/
def skTrainRegisters (m : Nat) : List Entry := [Dict.skState m, Hid.skSequence m, Hid.skValidRun m, Hid.skMissRun m, Dict.skFaultCause m]

theorem keeps_skTrain (d : Dev) (m : Nat) : Keeps (skTrainRegisters m) d (d.skTrain m) := by
  unfold skTrain
  exact .clearAll (.set (.refl _ d) (by simp [skTrainRegisters]) _) (by simp [skTrainRegisters])

theorem rest_skTrain (d : Dev) (m : Nat) : (d.skTrain m).rest = d.rest := by
  unfold skTrain
  rw [rest_clearAll, rest_set]

theorem skState_skTrain (d : Dev) {m : Nat} (hm : m < 3) : (d.skTrain m).get (Dict.skState m) = 2 := by
  unfold skTrain
  rw [get_clearAll_ne _ _ _ (by apply of_lt hm; decide)]
  exact get_lt_of_set _ _ (show 2 < 256 by decide)

/-- A port that leaves Up for Training raises source 114 where it carries the link of a pair (R520). -/
theorem skLinkLost_up {d : Dev} {m : Nat} (hm : m < 3) (hup : d.get (Dict.skState m) = 3) :
    d.skLinkLost m = if m = 2 ∧ d.get Dict.keeperRole ≠ 0 then
      (d.skTrain m).post 114 [(1, 1), (1, d.get Dict.keeperInterlockIn), (2, d.get Dict.keeperMissedCount)] else d.skTrain m := by
  have htrain := d.keeps_skTrain m
  unfold skLinkLost paired
  dsimp only
  rw [htrain _ (by apply of_lt hm; decide), htrain _ (by apply of_lt hm; decide),
    htrain _ (by apply of_lt hm; decide), hup]
  simp only [beq_self_eq_true, Bool.true_and, Bool.and_eq_true, beq_iff_eq, bne_iff_ne]

/-! ### Packets -/

/-- A packet that checks, in order and needing no tag, moves the sequence on (R515). -/
theorem skAccept_valid {d : Dev} {p : SkPacket} (octets : List Nat) (hport : p.port < 3)
    (hstate : d.get (Dict.skState p.port) = 2 ∨ d.get (Dict.skState p.port) = 3) (hcrc : p.crcOk = true)
    (horder : d.get (Hid.skSequence p.port) = 0 ∨ d.get (Hid.skSequence p.port) < p.sequence + 1) (hauth : d.is Dict.skAuthRequired = false) :
    d.skAccept p octets = (d.set (Hid.skSequence p.port) (p.sequence + 1), true) := by
  have hopen : ¬(3 ≤ p.port ∨ ¬(d.get (Dict.skState p.port) = 2 ∨ d.get (Dict.skState p.port) = 3)) := by
    rintro (h | h)
    · omega
    · exact h hstate
  have hlate : ¬(d.get (Hid.skSequence p.port) ≠ 0 ∧ p.sequence + 1 ≤ d.get (Hid.skSequence p.port)) := by omega
  simp only [skAccept, if_neg hopen, hcrc, Bool.not_true, Bool.false_eq_true, if_false, if_neg hlate, hauth, if_true]

/-- A packet whose CRC fails is discarded and counted (R515). -/
theorem skAccept_crc {d : Dev} {p : SkPacket} (octets : List Nat) (hport : p.port < 3)
    (hstate : d.get (Dict.skState p.port) = 2 ∨ d.get (Dict.skState p.port) = 3) (hcrc : p.crcOk = false) :
    d.skAccept p octets = (d.skInvalid p.port Dict.skCrcErrorCount, false) := by
  have hopen : ¬(3 ≤ p.port ∨ ¬(d.get (Dict.skState p.port) = 2 ∨ d.get (Dict.skState p.port) = 3)) := by
    rintro (h | h)
    · omega
    · exact h hstate
  simp only [skAccept, if_neg hopen, hcrc, Bool.not_false, if_true]

theorem keeps_postSecond (d : Dev) (place source : Nat) (fields : List (Nat × Nat)) :
    Keeps [Hid.raisedSecond place] d (d.postSecond place source fields) := by
  unfold postSecond
  exact .ite (.refl _ d) (.post (.set (.refl _ d) (by simp) _) _ _)

theorem beatsIn_postSecond (d : Dev) (place source : Nat) (fields : List (Nat × Nat)) : (d.postSecond place source fields).beatsIn = d.beatsIn := by
  have hset : ∀ v, (d.set (Hid.raisedSecond place) v).beatsIn = d.beatsIn := fun v => of_rest (g := Dev.beatsIn) (rest_set d _ v)
  have hpost : ∀ x : Dev, (x.post source fields).beatsIn = x.beatsIn := fun x => rfl
  unfold postSecond
  split
  · rfl
  · rw [hpost, hset]

theorem keeps_skInvalid (d : Dev) (m : Nat) (counter : Nat → Entry) :
    Keeps [counter m, Hid.skValidRun m, Hid.raisedSecond (56 + m)] d (d.skInvalid m counter) := by
  unfold skInvalid
  exact .trans (.clear (.inc (.refl _ d) (by simp)) (by simp)) ((keeps_postSecond _ _ _ _).mono (by simp))

theorem beatsIn_skInvalid (d : Dev) (m : Nat) (counter : Nat → Entry) : (d.skInvalid m counter).beatsIn = d.beatsIn := by
  unfold skInvalid
  rw [beatsIn_postSecond]
  exact of_rest (g := Dev.beatsIn) ((rest_clear _ _).trans (rest_inc d _))

/-- A failed CRC is counted and ends the run of valid Beats (R515, R520). -/
theorem skInvalid_crc (d : Dev) {m : Nat} (hm : m < 3) :
    (d.skInvalid m Dict.skCrcErrorCount).get (Dict.skCrcErrorCount m) =
        min (d.get (Dict.skCrcErrorCount m) + 1) ((Dict.skCrcErrorCount m).modulus - 1) ∧
      (d.skInvalid m Dict.skCrcErrorCount).get (Hid.skValidRun m) = 0 := by
  unfold skInvalid
  have hsecond := keeps_postSecond ((d.inc (Dict.skCrcErrorCount m)).clear (Hid.skValidRun m)) (56 + m) 117 [(1, m)]
  refine ⟨?_, ?_⟩
  · rw [hsecond _ (by apply of_lt hm; decide), get_clear_ne _ _ _ (by apply of_lt hm; decide), get_inc]
  · rw [hsecond _ (by apply of_lt hm; decide), get_clear_self]
    rfl

/-- The Beats that wait, in place of those before. -/
def withBeats (d : Dev) (l : List BeatIn) : Dev := { d with beatsIn := l }

/-- The Replication packets that wait, in place of those before. -/
def withRepl (d : Dev) (l : List Replication) : Dev := { d with replIn := l }

theorem get_withBeats (d : Dev) (l : List BeatIn) (e : Entry) : (d.withBeats l).get e = d.get e := (rfl)
theorem posted_withBeats (d : Dev) (l : List BeatIn) : (d.withBeats l).posted = d.posted := (rfl)
theorem beatsIn_withBeats (d : Dev) (l : List BeatIn) : (d.withBeats l).beatsIn = l := (rfl)
theorem get_withRepl (d : Dev) (l : List Replication) (e : Entry) : (d.withRepl l).get e = d.get e := (rfl)
theorem posted_withRepl (d : Dev) (l : List Replication) : (d.withRepl l).posted = d.posted := (rfl)
theorem replIn_withRepl (d : Dev) (l : List Replication) : (d.withRepl l).replIn = l := (rfl)

/-- The last Beat of a port waits for S0, and no earlier one of that port (R517). -/
theorem beatReceive_valid {d : Dev} {p : SkPacket} (b : Beat) (hport : p.port < 3)
    (hstate : d.get (Dict.skState p.port) = 2 ∨ d.get (Dict.skState p.port) = 3) (hcrc : p.crcOk = true)
    (horder : d.get (Hid.skSequence p.port) = 0 ∨ d.get (Hid.skSequence p.port) < p.sequence + 1) (hauth : d.is Dict.skAuthRequired = false) :
    d.beatReceive p b = ((d.set (Hid.skSequence p.port) (p.sequence + 1)).withBeats
      ((d.beatsIn.filter fun x => x.port != p.port) ++ [⟨p.port, b, false, d.view.frames⟩])).inc (Hid.skValidRun p.port) := by
  have hauth' : (d.set (Hid.skSequence p.port) (p.sequence + 1)).is Dict.skAuthRequired = false := by
    rw [is, get_set_ne _ _ _ _ (by generalize p.port = m at hport; apply of_lt hport; decide)]
    exact hauth
  have hbeats : (d.set (Hid.skSequence p.port) (p.sequence + 1)).beatsIn = d.beatsIn := of_rest (g := Dev.beatsIn) (rest_set d _ _)
  have hview : (d.set (Hid.skSequence p.port) (p.sequence + 1)).view = d.view := of_rest (g := Dev.view) (rest_set d _ _)
  unfold beatReceive
  rw [skAccept_valid _ hport hstate hcrc horder hauth]
  simp only [Bool.not_true, Bool.false_eq_true, if_false, hauth', hbeats, hview]
  rfl

theorem beatReceive_crc {d : Dev} {p : SkPacket} (b : Beat) (hport : p.port < 3)
    (hstate : d.get (Dict.skState p.port) = 2 ∨ d.get (Dict.skState p.port) = 3) (hcrc : p.crcOk = false) :
    d.beatReceive p b = d.skInvalid p.port Dict.skCrcErrorCount := by
  unfold beatReceive
  rw [skAccept_crc _ hport hstate hcrc]
  rfl

theorem replicationPacket_valid {d : Dev} {p : SkPacket} (x : Replication) (hport : p.port = 2)
    (hstate : d.get (Dict.skState 2) = 2 ∨ d.get (Dict.skState 2) = 3) (hcrc : p.crcOk = true)
    (horder : d.get (Hid.skSequence 2) = 0 ∨ d.get (Hid.skSequence 2) < p.sequence + 1) (hauth : d.is Dict.skAuthRequired = false) :
    d.replicationPacket p x = (d.set (Hid.skSequence 2) (p.sequence + 1)).withRepl (d.replIn ++ [x]) := by
  have hrepl : (d.set (Hid.skSequence 2) (p.sequence + 1)).replIn = d.replIn := of_rest (g := Dev.replIn) (rest_set d _ _)
  have haccept := skAccept_valid (d := d) (p := p) (replCovered p.sequence x) (by omega) (by rwa [hport]) hcrc (by rwa [hport]) hauth
  unfold replicationPacket
  rw [haccept, hport]
  simp only [and_self, if_true, hrepl]
  rfl

/-! ### Calibration -/

/-- What a complete calibration writes before the port trains (R521). -/
def skCalibrated (d : Dev) (m : Nat) (l : LaneDelays) (distribution : Int) : Dev :=
  let d := (d.setI (Dict.skTxDelay m) (fsToUnits l.tx)).setI (Dict.skRxDelay m) (fsToUnits l.rx)
  let d := (d.setI (Dict.linkChPathDelay0 m) (fsToUnits distribution)).set (Dict.skCalStatus m) 1
  d.set (Dict.skEndTerm m) 3

theorem skovwinCalDone_passed {d : Dev} {m : Nat} {l : LaneDelays} (distribution : Int) (hm : m < 3) (hstate : d.get (Dict.skState m) = 1)
    (hcheck : d.skCheck m (some l) = 0) : d.skovwinCalDone m (some l) distribution = (d.skCalibrated m l distribution).skTrain m := by
  unfold skovwinCalDone
  rw [if_neg (by omega), hcheck]
  rfl

/-- A complete calibration leaves its delays, its status and its end term (R521). -/
theorem skCalibrated_spec (d : Dev) {m : Nat} (l : LaneDelays) (distribution : Int) (hm : m < 3) :
    (d.skCalibrated m l distribution).get (Dict.skCalStatus m) = 1 ∧ (d.skCalibrated m l distribution).get (Dict.skEndTerm m) = 3 ∧
      (d.skCalibrated m l distribution).get (Dict.skTxDelay m) = (Dict.skTxDelay m).ofInt (fsToUnits l.tx) := by
  unfold skCalibrated
  refine ⟨?_, ?_, ?_⟩
  · rw [get_set_ne _ _ _ _ (by apply of_lt hm; decide)]
    exact get_lt_of_set _ _ (show 1 < 256 by decide)
  · exact get_lt_of_set _ _ (show 3 < 256 ^ 4 by decide)
  · rw [get_set_ne _ _ _ _ (by apply of_lt hm; decide), get_set_ne _ _ _ _ (by apply of_lt hm; decide),
      get_setI_ne _ _ _ _ (by apply of_lt hm; decide), get_setI_ne _ _ _ _ (by apply of_lt hm; decide), get_setI_self]

theorem keeps_skCalibrated (d : Dev) (m : Nat) (l : LaneDelays) (distribution : Int) :
    Keeps [Dict.skTxDelay m, Dict.skRxDelay m, Dict.linkChPathDelay0 m, Dict.skCalStatus m, Dict.skEndTerm m] d
      (d.skCalibrated m l distribution) := by
  unfold skCalibrated
  exact .set (.set (.setI (.setI (.setI (.refl _ d) (by simp) _) (by simp) _) (by simp) _) (by simp) _) (by simp) _

theorem rest_skCalibrated (d : Dev) (m : Nat) (l : LaneDelays) (distribution : Int) : (d.skCalibrated m l distribution).rest = d.rest := by
  unfold skCalibrated
  simp only [rest_set, rest_setI]

/-! ### The host's commands at S0 -/

theorem applyGroup_skFaultClear (d : Dev) {m : Nat} (v : Value) (hm : m < 3) :
    d.applyGroup [(Dict.skFaultClear m).item v] [] = d.skFaultClear m := by
  have hunits : unitOf Dict.tmrArm 32 (Dict.skFaultClear m) = none ∧ unitOf Dict.outRealign 16 (Dict.skFaultClear m) = none ∧
      unitOf Dict.portRecalibrate 6 (Dict.skFaultClear m) = none ∧ unitOf Dict.skFaultClear 3 (Dict.skFaultClear m) = some m := by
    apply of_lt hm
    decide
  obtain ⟨htimer, hout, hport, hsk⟩ := hunits
  rw [applyGroup_command (by apply of_lt hm; decide) rfl, applyCommand]
  simp only [htimer, hout, hport, hsk]

/-- A release entry of a Skovwin port releases that port. -/
theorem releaseUnit_skRelease {m : Nat} (hm : m < 3) (x : Nat) : releaseUnit (Dict.skRelease m) x = some (.skovwin m) := by
  have hunits : unitOf Dict.chRelease 16 (Dict.skRelease m) = none ∧ unitOf Dict.linkChRelease 3 (Dict.skRelease m) = none ∧
      unitOf Dict.apllRelease 4 (Dict.skRelease m) = none ∧ unitOf Dict.outRelease 16 (Dict.skRelease m) = none ∧
      unitOf Dict.plsRelease 4 (Dict.skRelease m) = none ∧ unitOf Dict.portRelease 6 (Dict.skRelease m) = none ∧
      unitOf Dict.skRelease 3 (Dict.skRelease m) = some m := by
    apply of_lt hm
    decide
  obtain ⟨h1, h2, h3, h4, h5, h6, h7⟩ := hunits
  simp only [releaseUnit, h1, h2, h3, h4, h5, h6, h7]

theorem applyGroup_skRelease (d : Dev) {m : Nat} (v : Value) (hm : m < 3) :
    d.applyGroup [(Dict.skRelease m).item v] [] = d.releaseRemoved (.skovwin m) := by
  have hunits : unitOf Dict.tmrArm 32 (Dict.skRelease m) = none ∧ unitOf Dict.outRealign 16 (Dict.skRelease m) = none ∧
      unitOf Dict.portRecalibrate 6 (Dict.skRelease m) = none ∧ unitOf Dict.skFaultClear 3 (Dict.skRelease m) = none ∧
      unitOf Dict.evtClear 128 (Dict.skRelease m) = none ∧ unitOf Dict.pcClear 64 (Dict.skRelease m) = none := by
    apply of_lt hm
    decide
  obtain ⟨h1, h2, h3, h4, h5, h6⟩ := hunits
  rw [applyGroup_command (by apply of_lt hm; decide) rfl, applyCommand]
  simp only [h1, h2, h3, h4, h5, h6, releaseUnit_skRelease hm]

/-- A removed port that is not enabled comes back Off where its start-up check passes (R54, R520). -/
theorem get_releaseRemoved_skovwin (d : Dev) {m : Nat} (hm : m < 3) (hremoved : d.get (Dict.skState m) = 5) (hoff : d.is (Dict.skEnable m) = false) :
    (d.releaseRemoved (.skovwin m)).get (Dict.skState m) = if d.startUpPasses (.skovwin m) then 0 else 5 := by
  have hcounts : ∀ x : Dev, x.countUnits.get (Dict.skState m) = x.get (Dict.skState m) ∧
      x.countUnits.get (Dict.skEnable m) = x.get (Dict.skEnable m) := by
    intro x
    unfold countUnits
    simp (disch := apply of_lt hm; decide) only [get_set_ne, and_self]
  have hout : d.removed (.skovwin m) = true := by
    exact beq_iff_eq.2 hremoved
  cases hpass : d.startUpPasses (.skovwin m) with
  | true =>
    have hback : d.releaseRemoved (.skovwin m) = (d.clear (Dict.skState m)).countUnits.configureSk m := by
      simp only [releaseRemoved, hout, hpass, Bool.not_true, Bool.false_eq_true, if_false, Bool.or_true, if_true]
      rfl
    have hstate : (d.clear (Dict.skState m)).countUnits.get (Dict.skState m) = 0 := by
      rw [(hcounts _).1, get_clear_self]
      rfl
    have henable : (d.clear (Dict.skState m)).countUnits.is (Dict.skEnable m) = false := by
      rw [is, (hcounts _).2, get_clear_ne _ _ _ (by apply of_lt hm; decide)]
      exact hoff
    rw [hback]
    simp only [configureSk, hstate, henable, Bool.false_and, Bool.not_false, if_true]
    simpa using hstate
  | false =>
    have hstays : d.releaseRemoved (.skovwin m) = d.startUpFails (.skovwin m) := by
      simp only [releaseRemoved, hout, hpass, Bool.not_true, Bool.false_eq_true, if_false, Bool.or_false]
    rw [hstays, startUpFails, get_post, hremoved]
    rfl

end Dev

/-- Settles O53: a packet that checks is kept for S0 and moves the sequence on, and each change of state enters Training, Up or Off. -/
theorem skovwinPortsFollowTheLink : Obligations.SkovwinPortsFollowTheLink := by
  unfold Obligations.SkovwinPortsFollowTheLink
  refine ⟨?_, ?_, ?_, ?_, ?_, ?_, ?_, ?_⟩
  · intro s p b hport hsequence hserves hstate hcrc horder hauth
    obtain ⟨t, hexec, hdev, hstep⟩ := State.during_next hserves (·.beatReceive p b)
    rw [Dev.beatReceive_valid (d := s.met) b hport hstate hcrc horder hauth] at hdev
    generalize p.port = m at *
    refine ⟨t, hexec, ?_, ?_, ?_, ?_, hstep.onlyRegisters ?_⟩
    · rw [hdev, Dev.of_rest (g := Dev.beatsIn) (Dev.rest_inc _ _), Dev.beatsIn_withBeats]
      rfl
    · rw [hdev, Dev.get_inc_ne _ _ _ (by apply of_lt hport; decide), Dev.get_withBeats]
      exact Dev.get_lt_of_set _ _ (Nat.lt_of_le_of_lt hsequence (show 2 ^ 32 < 256 ^ 8 by decide))
    · rw [Counts, hdev, Dev.get_inc, Dev.get_withBeats, Dev.get_set_ne _ _ _ _ (by apply of_lt hport; decide)]
      rfl
    · rw [PresentsNone, hdev, Dev.posted_inc, Dev.posted_withBeats, Dev.posted_set]
      rfl
    · rw [hdev]
      exact .inc (fun e he => (Dev.get_withBeats _ _ e).trans ((Dev.Keeps.refl _ s.met).set (by simp) _ e he)) (by simp)
  · intro s p b hport hserves hstate hcrc
    obtain ⟨t, hexec, hdev, hstep⟩ := State.during_next hserves (·.beatReceive p b)
    rw [Dev.beatReceive_crc (d := s.met) b hport hstate hcrc] at hdev
    obtain ⟨hcount, hrun⟩ := s.met.skInvalid_crc hport
    rw [← hdev] at hcount hrun
    refine ⟨t, hexec, ?_, hcount, hrun, hstep.onlyRegisters ?_⟩
    · rw [hdev, Dev.beatsIn_skInvalid]
      rfl
    · rw [hdev]
      exact s.met.keeps_skInvalid p.port Dict.skCrcErrorCount
  · intro s p x hport hsequence hserves hstate hcrc horder hauth
    obtain ⟨t, hexec, hdev, hstep⟩ := State.during_next hserves (·.replicationPacket p x)
    rw [Dev.replicationPacket_valid (d := s.met) x hport hstate hcrc horder hauth] at hdev
    refine ⟨t, hexec, ?_, ?_, ?_, hstep.onlyRegisters ?_⟩
    · rw [hdev, Dev.replIn_withRepl]
      rfl
    · rw [hdev, Dev.get_withRepl]
      exact Dev.get_lt_of_set _ _ (Nat.lt_of_le_of_lt hsequence (show 2 ^ 32 < 256 ^ 8 by decide))
    · rw [PresentsNone, hdev, Dev.posted_withRepl, Dev.posted_set]
      rfl
    · rw [hdev]
      exact fun e he => (Dev.get_withRepl _ _ e).trans ((Dev.Keeps.refl _ s.met).set (by simp) _ e he)
  · intro s m l distribution hm hserves hstate hcheck
    obtain ⟨t, hexec, hdev, hstep⟩ := State.during_next hserves (·.skovwinCalDone m (some l) distribution)
    rw [Dev.skovwinCalDone_passed (d := s.met) distribution hm hstate hcheck] at hdev
    obtain ⟨hstatus, hend, htx⟩ := s.met.skCalibrated_spec l distribution hm
    have htrain := (s.met.skCalibrated m l distribution).keeps_skTrain m
    refine ⟨t, hexec, ?_, ?_, ?_, ?_, ?_, hstep.onlyRegisters ?_⟩
    · rw [hdev, Dev.skState_skTrain _ hm]
    · rw [hdev, htrain _ (by apply of_lt hm; decide), hstatus]
    · rw [hdev, Dev.getI, htrain _ (by apply of_lt hm; decide), htx]
    · rw [hdev, htrain _ (by apply of_lt hm; decide), hend]
    · rw [PresentsNone, hdev, Dev.of_rest (g := Dev.posted) ((Dev.rest_skTrain _ m).trans (Dev.rest_skCalibrated _ m l distribution))]
      rfl
    · rw [hdev]
      exact ((s.met.keeps_skCalibrated m l distribution).mono (by simp)).trans (htrain.mono (by simp [Dev.skTrainRegisters]))
  · intro s m hm hserves hstate hrun
    obtain ⟨t, hexec, hdev, hstep⟩ := State.during_next hserves (·.skovwinPortUp m)
    have hup : s.met.skovwinPortUp m = (s.met.set (Dict.skState m) 3).clear (Hid.skMissRun m) := by
      have hstate' : s.met.get (Dict.skState m) = 2 := hstate
      have hrun' : 64 ≤ s.met.get (Hid.skValidRun m) := hrun
      rw [Dev.skovwinPortUp, if_neg (by omega)]
    rw [hup] at hdev
    refine ⟨t, hexec, ?_, ?_, hstep.onlyRegisters ?_⟩
    · rw [hdev, Dev.get_clear_ne _ _ _ (by apply of_lt hm; decide)]
      exact Dev.get_lt_of_set _ _ (show 3 < 256 by decide)
    · rw [PresentsNone, hdev, Dev.of_rest (g := Dev.posted) ((Dev.rest_clear _ _).trans (Dev.rest_set _ _ _))]
      rfl
    · rw [hdev]
      exact .clear (.set (.refl _ s.met) (by simp) _) (by simp)
  · intro s m hm hserves hstate
    obtain ⟨t, hexec, hdev, hstep⟩ := State.during_next hserves (·.skovwinLinkDown m true)
    have hlost : s.met.skovwinLinkDown m true = s.met.skLinkLost m := by
      rw [Dev.skovwinLinkDown, if_neg (by omega), if_pos ⟨hstate, .inl rfl⟩]
    rw [hlost, Dev.skLinkLost_up (d := s.met) hm hstate] at hdev
    have hrises : (s.met.skTrain m).posted = s.dev.posted := Dev.of_rest (g := Dev.posted) (d := s.met) (Dev.rest_skTrain s.met m)
    refine ⟨t, hexec, ?_, ?_, hstep.onlyRegisters ?_⟩
    · rw [hdev]
      split
      · rw [Dev.get_post, Dev.skState_skTrain _ hm]
      · exact Dev.skState_skTrain _ hm
    · by_cases hpair : m = 2 ∧ s.dev.get Dict.keeperRole ≠ 0
      · rw [if_pos hpair, Presents, hdev, if_pos (show m = 2 ∧ s.met.get Dict.keeperRole ≠ 0 from hpair), Dev.posted_post, hrises]
        rfl
      · rw [if_neg hpair, PresentsNone, hdev, if_neg (show ¬(m = 2 ∧ s.met.get Dict.keeperRole ≠ 0) from hpair), hrises]
    · rw [hdev]
      exact .ite (.post (s.met.keeps_skTrain m) _ _) (s.met.keeps_skTrain m)
  · intro s h m v x hm hadmits
    obtain ⟨t, hexec, haccepted⟩ := State.accepted_of_isCommanded hadmits (by apply of_lt hm; decide) (by apply of_lt hm; decide)
    refine ⟨t, hexec, haccepted, fun d hfaulty => ?_⟩
    rw [Dev.applyGroup_skFaultClear d v hm, Dev.skFaultClear, if_pos hfaulty, Dev.skState_skTrain d hm]
  · intro s h m v x hm hadmits
    obtain ⟨t, hexec, haccepted⟩ := State.accepted_of_isCommanded hadmits (by apply of_lt hm; decide) (by apply of_lt hm; decide)
    refine ⟨t, hexec, haccepted, fun d hremoved hoff => ?_⟩
    rw [Dev.applyGroup_skRelease d v hm]
    exact d.get_releaseRemoved_skovwin hm hremoved hoff

end Sys2Proof.Machine
end

section
/-!
PROOF. The Keeper pair: changes of role, the interlock, the hand-over and the announcements (O52).
-/
namespace Sys2Proof.Machine
namespace Dev

/-! ### What every change of role does -/

/-- What the end of a hand-over clears (R542). -/
def handOverRegisters : List Entry :=
  [Dict.keeperHandOverState, Hid.handOverAt, Hid.handOverFrame, Hid.handOverActive, Hid.handOverWanted, Hid.handOverSource, Hid.handOverCause]

theorem keeps_endHandOver (d : Dev) : Keeps handOverRegisters d d.endHandOver := .clearAll (.refl _ d) (List.Subset.refl _)

theorem rest_endHandOver (d : Dev) : d.endHandOver.rest = d.rest := rest_clearAll d _

theorem handOverState_endHandOver (d : Dev) : d.endHandOver.get Dict.keeperHandOverState = 0 :=
  (get_clearAll_of_mem d (by decide) (by decide)).trans rfl

/-- No packet of a replication waits or has been sent. -/
def withoutPackets (d : Dev) : Dev := { d with replIn := [], replSent := [] }

theorem get_withoutPackets (d : Dev) (e : Entry) : d.withoutPackets.get e = d.get e := (rfl)
theorem posted_withoutPackets (d : Dev) : d.withoutPackets.posted = d.posted := (rfl)

/-- What a fresh replication clears (R540, R541). -/
def replicationRegisters : List Entry := [Dict.replicationState, Dict.replicationBulkSlot, Hid.replStarted, Hid.replClear, Hid.replEnd]

theorem freshReplication_eq (d : Dev) : d.freshReplication = d.withoutPackets.clearAll replicationRegisters := rfl

theorem keeps_freshReplication (d : Dev) : Keeps replicationRegisters d d.freshReplication := fun e he => by
  rw [freshReplication_eq, get_clearAll_ne _ _ _ he, get_withoutPackets]

theorem posted_freshReplication (d : Dev) : d.freshReplication.posted = d.posted := by
  rw [freshReplication_eq, of_rest (g := Dev.posted) (rest_clearAll _ _), posted_withoutPackets]

theorem keeps_enterRole (d : Dev) (role cause : Nat) : Keeps [Dict.keeperRole, Dict.keeperLastRoleChange] d (d.enterRole role cause) := by
  unfold enterRole
  exact .post (.set (.set (.refl _ d) (by simp) _) (by simp) _) _ _

/-- Source 112 names the roles, the innings and the cause (R722). -/
theorem posted_enterRole (d : Dev) (role cause : Nat) : (d.enterRole role cause).posted =
    d.posted ++ [⟨112, packDetail [(1, d.get Dict.keeperRole), (1, role), (4, d.get Dict.keeperInnings), (1, cause)], false, false, true⟩] := by
  unfold enterRole
  dsimp only
  rw [posted_post, posted_set, posted_set, get_set_ne _ _ _ _ (by decide), get_set_ne _ _ _ _ (by decide)]

/-- The unit in its new role, with no hand-over under way and a fresh replication. -/
def roleEntered (d : Dev) (role cause : Nat) : Dev := (d.enterRole role cause).endHandOver.freshReplication

/-- What every change of role writes. -/
def enteredRegisters : List Entry := [Dict.keeperRole, Dict.keeperLastRoleChange] ++ (handOverRegisters ++ replicationRegisters)

theorem keeps_roleEntered (d : Dev) (role cause : Nat) : Keeps enteredRegisters d (d.roleEntered role cause) := by
  unfold roleEntered
  exact (((keeps_enterRole d role cause).mono (by decide)).trans ((keeps_endHandOver _).mono (by decide))).trans
    ((keeps_freshReplication _).mono (by decide))

theorem roleEntered_spec (d : Dev) {role : Nat} (cause : Nat) (hrole : role < 256) :
    (d.roleEntered role cause).get Dict.keeperRole = role ∧ (d.roleEntered role cause).get Dict.keeperHandOverState = 0 ∧
      (d.roleEntered role cause).posted =
        d.posted ++ [⟨112, packDetail [(1, d.get Dict.keeperRole), (1, role), (4, d.get Dict.keeperInnings), (1, cause)], false, false, true⟩] := by
  unfold roleEntered
  refine ⟨?_, ?_, ?_⟩
  · rw [keeps_freshReplication _ _ (by decide), keeps_endHandOver _ _ (by decide), enterRole, get_post, get_set_ne _ _ _ _ (by decide)]
    exact get_lt_of_set _ _ hrole
  · rw [keeps_freshReplication _ _ (by decide), handOverState_endHandOver]
  · rw [posted_freshReplication, of_rest (g := Dev.posted) (rest_endHandOver _), posted_enterRole]

/-! ### The Active -/

/-- What an Active prepares: its service, its bound, its counts and its announcements (R356, R434, R545). -/
def startServing (d : Dev) (from_ : Nat) : Dev :=
  let d := d.set Hid.serveFrom (d.globalFrame + 1)
  let d := if d.is Hid.peerSeen then d.set Hid.takeoverBound (d.get Dict.keeperPeerBound) else d
  let d := d.clearAll [Hid.readyFrames, Dict.keeperRevertRemaining, Hid.higherBeats]
  (d.set Hid.announceLeft (d.get Dict.keeperAnnounceCount)).set Hid.announceDue from_

/-- The innings of a new Active (R526). -/
def nextInnings (d : Dev) : Nat := max (d.get Dict.keeperInnings) (d.get Dict.keeperPeerInnings) + 1

theorem becomeActive_eq (d : Dev) (cause from_ : Nat) :
    d.becomeActive cause from_ = (((d.set Dict.keeperInnings d.nextInnings).roleEntered 1 cause).assertKhold).startServing from_ := rfl

/-- What the start of service writes. -/
def servingRegisters : List Entry :=
  [Hid.serveFrom, Hid.takeoverBound, Hid.readyFrames, Dict.keeperRevertRemaining, Hid.higherBeats, Hid.announceLeft, Hid.announceDue]

theorem keeps_startServing (d : Dev) (from_ : Nat) : Keeps servingRegisters d (d.startServing from_) := by
  have hfrom : Keeps servingRegisters d (d.set Hid.serveFrom (d.globalFrame + 1)) := .set (.refl _ d) (by simp [servingRegisters]) _
  unfold startServing
  dsimp only
  refine .set (.set (.clearAll (.ite (hfrom.set ?_ _) hfrom) (by decide)) ?_ _) ?_ _ <;> simp [servingRegisters]

theorem rest_startServing (d : Dev) (from_ : Nat) : (d.startServing from_).rest = d.rest := by
  unfold startServing
  dsimp only
  rw [rest_set, rest_set, rest_clearAll]
  split
  · rw [rest_set, rest_set]
  · exact rest_set d _ _

theorem assertKhold_of_released {d : Dev} (h : d.get Dict.keeperInterlockIn = 0) : d.assertKhold = d.setB Dict.keeperInterlockOut true :=
  if_pos h

/-- A unit whose interlock reads Released becomes Active with higher innings and holds KHOLD (R526, R529, R533). -/
theorem becomeActive_spec (d : Dev) {cause : Nat} (from_ : Nat) (hinnings : d.nextInnings < 2 ^ 32) (hreleased : d.get Dict.keeperInterlockIn = 0) :
    (d.becomeActive cause from_).get Dict.keeperRole = 1 ∧ (d.becomeActive cause from_).get Dict.keeperInnings = d.nextInnings ∧
      (d.becomeActive cause from_).get Dict.keeperInterlockOut = 1 ∧ (d.becomeActive cause from_).get Dict.keeperHandOverState = 0 ∧
      (d.becomeActive cause from_).posted =
        d.posted ++ [⟨112, packDetail [(1, d.get Dict.keeperRole), (1, 1), (4, d.nextInnings), (1, cause)], false, false, true⟩] ∧
      Keeps roleRegisters d (d.becomeActive cause from_) := by
  have hset : (d.set Dict.keeperInnings d.nextInnings).get Dict.keeperInnings = d.nextInnings := get_lt_of_set _ _ hinnings
  have hkeep : ∀ e : Entry, Dict.keeperInnings.addr ≠ e.addr → (d.set Dict.keeperInnings d.nextInnings).get e = d.get e :=
    fun e he => get_set_ne _ _ _ _ he
  have hposted : (d.set Dict.keeperInnings d.nextInnings).posted = d.posted := posted_set _ _ _
  have hinnings' : Keeps roleRegisters d (d.set Dict.keeperInnings d.nextInnings) := .set (.refl _ d) (by decide) _
  rw [becomeActive_eq]
  generalize d.set Dict.keeperInnings d.nextInnings = x at hset hkeep hposted hinnings' ⊢
  obtain ⟨hrole, hstate, hraised⟩ := x.roleEntered_spec (role := 1) cause (by decide)
  have hentered := x.keeps_roleEntered 1 cause
  rw [assertKhold_of_released (by rw [hentered _ (by decide), hkeep _ (by decide), hreleased])]
  have hserving := keeps_startServing ((x.roleEntered 1 cause).setB Dict.keeperInterlockOut true) from_
  refine ⟨?_, ?_, ?_, ?_, ?_, ?_⟩
  · rw [hserving _ (by decide), get_setB_ne _ _ _ _ (by decide), hrole]
  · rw [hserving _ (by decide), get_setB_ne _ _ _ _ (by decide), hentered _ (by decide), hset]
  · rw [hserving _ (by decide), get_setB_self]
    rfl
  · rw [hserving _ (by decide), get_setB_ne _ _ _ _ (by decide), hstate]
  · rw [of_rest (g := Dev.posted) (rest_startServing _ _), posted_setB, hraised, hposted, hset, hkeep _ (by decide)]
  · exact ((hinnings'.trans (hentered.mono (by decide))).setB (by decide) _).trans (hserving.mono (by decide))

/-! ### The Standby -/

/-- What a Standby clears: KHOLD is released (R529). -/
def standbyRegisters : List Entry :=
  [Dict.keeperInterlockOut, Hid.announceLeft, Hid.readyFrames, Dict.keeperRevertRemaining, Hid.higherBeats, Hid.contention]

theorem becomeStandby_eq (d : Dev) (cause : Nat) : d.becomeStandby cause = (d.roleEntered 2 cause).clearAll standbyRegisters := rfl

/-- A Standby has released KHOLD, with the innings it had (R526, R533). -/
theorem becomeStandby_spec (d : Dev) (cause : Nat) :
    (d.becomeStandby cause).get Dict.keeperRole = 2 ∧ (d.becomeStandby cause).get Dict.keeperInterlockOut = 0 ∧
      (d.becomeStandby cause).get Dict.keeperHandOverState = 0 ∧ (d.becomeStandby cause).get Dict.keeperInnings = d.get Dict.keeperInnings ∧
      (d.becomeStandby cause).posted =
        d.posted ++ [⟨112, packDetail [(1, d.get Dict.keeperRole), (1, 2), (4, d.get Dict.keeperInnings), (1, cause)], false, false, true⟩] ∧
      Keeps roleRegisters d (d.becomeStandby cause) := by
  rw [becomeStandby_eq]
  obtain ⟨hrole, hstate, hraised⟩ := d.roleEntered_spec (role := 2) cause (by decide)
  have hentered := d.keeps_roleEntered 2 cause
  refine ⟨?_, ?_, ?_, ?_, ?_, ?_⟩
  · rw [get_clearAll_ne _ _ _ (by decide), hrole]
  · exact (get_clearAll_of_mem _ (by decide) (by decide)).trans rfl
  · rw [get_clearAll_ne _ _ _ (by decide), hstate]
  · rw [get_clearAll_ne _ _ _ (by decide), hentered _ (by decide)]
  · rw [of_rest (g := Dev.posted) (rest_clearAll _ _), hraised]
  · exact (hentered.mono (by decide)).clearAll (by decide)

/-! ### The interlock -/

/-- Without a Beat of the peer, a fault of the interlock's pair reads as held (R530). -/
theorem judgeHolds_of_silent {d : Dev} (h : d.peerBeat 2 = none) :
    d.judgeHolds = d.setB Dict.keeperPeerHolds (d.get Dict.keeperInterlockIn == 1 || d.get Dict.keeperInterlockIn == 2) := by
  simp only [judgeHolds, h, Bool.not_false, Bool.and_true]

theorem kholdInput_of_silent {d : Dev} (high inverse : Bool) (h : d.peerBeat 2 = none) :
    (d.kholdInput high inverse).get Dict.keeperInterlockIn = (if high && !inverse then 1 else if !high && inverse then 0 else 2) ∧
      (d.kholdInput high inverse).get Dict.keeperPeerHolds = (if !high && inverse then 0 else 1) ∧
      (d.kholdInput high inverse).posted = d.posted ∧
      Keeps [Dict.keeperInterlockIn, Dict.keeperPeerHolds] d (d.kholdInput high inverse) := by
  have hbeat : ∀ v, (d.set Dict.keeperInterlockIn v).peerBeat 2 = none := fun v => (of_rest (g := (·.peerBeat 2)) (rest_set d _ v)).trans h
  have hsmall : (if high && !inverse then 1 else if !high && inverse then 0 else 2 : Nat) < 256 := by
    split
    · decide
    · split <;> decide
  unfold kholdInput
  rw [judgeHolds_of_silent (hbeat _), get_lt_of_set _ _ hsmall]
  refine ⟨?_, ?_, ?_, ?_⟩
  · rw [get_setB_ne _ _ _ _ (by decide)]
    exact get_lt_of_set _ _ hsmall
  · rw [get_setB_self]
    cases high <;> cases inverse <;> rfl
  · rw [posted_setB, posted_set]
  · exact .setB (.set (.refl _ d) (by simp) _) (by simp) _

/-! ### Announcements -/

/-- Frames left on a port: they are sent in order and counted, and nothing else happens. -/
structure Sends (q : Nat) (l : List SentFrame) (d d' : Dev) : Prop where
  keeps : Keeps [Dict.txFrames q, Dict.txOctets q] d d'
  emit : d'.emit = d.emit ++ l.map Emit.frame
  posted : d'.posted = d.posted
  view : d'.view = d.view
  port : ∀ f ∈ l, f.port = q

theorem Sends.none (q : Nat) (d : Dev) : Sends q [] d d := ⟨.refl _ d, (List.append_nil _).symm, rfl, rfl, fun _ h => nomatch h⟩

theorem Sends.trans {q : Nat} {l l' : List SentFrame} {d d' d'' : Dev} (h : Sends q l d d') (h' : Sends q l' d' d'') : Sends q (l ++ l') d d'' :=
  ⟨h.keeps.trans h'.keeps, by rw [h'.emit, h.emit, List.map_append, List.append_assoc], h'.posted.trans h.posted, h'.view.trans h.view,
    fun f hf => (List.mem_append.1 hf).elim (h.port f) (h'.port f)⟩

theorem sends_sendFrame (d : Dev) {f : SentFrame} {q : Nat} (hport : f.port = q) : Sends q [f] d (d.sendFrame f) := by
  subst hport
  have hrest : (d.sendFrame f).rest = d.rest.out (.frame f) := by
    unfold sendFrame
    rw [rest_out, rest_add, rest_inc]
  refine ⟨?_, (congrArg Dev.emit hrest :), (congrArg Dev.posted hrest :), (congrArg Dev.view hrest :), fun g hg => by rw [List.mem_singleton.1 hg]⟩
  unfold sendFrame
  exact .out (.add (.inc (.refl _ d) (by simp)) (by simp) _) _

/-- No pause mark is a count of frames sent. -/
theorem pauseUntil_apart (q p k : Nat) : ∀ e ∈ [Dict.txFrames p, Dict.txOctets p], e.addr ≠ (Hid.pauseUntil q k).addr := by
  simp only [List.forall_mem_cons, Entry.addr, Dict.txFrames, Dict.txOctets, Hid.pauseUntil, Hid.reg]
  exact ⟨by omega, by omega, fun _ h => nomatch h⟩

theorem Sends.stopped {q p prio : Nat} {l : List SentFrame} {d d' : Dev} (h : Sends p l d d') : d'.stopped q prio = d.stopped q prio := by
  unfold Dev.stopped now
  rw [h.view, h.keeps _ (pauseUntil_apart q p prio)]

/-- What a port that announces does not change of itself. -/
theorem Sends.get {q p : Nat} {l : List SentFrame} {d d' : Dev} (h : Sends p l d d') (hq : q < 6) (hp : p < 6) {f : Nat → Entry}
    (hf : f ∈ [Dict.portState, Dict.portPcp, Dict.portMacAddress, Dict.svcIpv4Address, Dict.svcIpv6Address]) : d'.get (f q) = d.get (f q) := by
  have apart : ∀ q < 6, ∀ p < 6, ∀ e ∈ [Dict.portState, Dict.portPcp, Dict.portMacAddress, Dict.svcIpv4Address, Dict.svcIpv6Address].map (· q),
      ∀ x ∈ [Dict.txFrames p, Dict.txOctets p], x.addr ≠ e.addr := by decide
  exact h.keeps _ (apart q hq p hp _ (List.mem_map_of_mem hf))

/-- A port that is Up and not stopped sends what it announces (R427, R545). -/
theorem sendResolved_up {d : Dev} {q : Nat} (ip address toward : Nat) (hq : q < 6) (hup : d.get (Dict.portState q) = 3)
    (hrun : d.stopped q (d.get (Dict.portPcp q)) = false) :
    ∃ f, f.payload = .resolved ip address (d.get (Dict.portMacAddress q)) toward ∧ Sends q [f] d (d.sendResolved q ip address toward) := by
  rw [sendResolved, if_pos hq, submit]
  dsimp only
  rw [hrun, if_neg Bool.false_ne_true, commit]
  dsimp only
  rw [if_neg (not_not_intro hup)]
  exact ⟨_, rfl, d.sends_sendFrame rfl⟩

/-- A port announces its addresses (R545). -/
def announceOn (q : Nat) (d : Dev) : Dev :=
  if d.get (Dict.portState q) ≠ 3 then d
  else
    let v4 := d.get (Dict.svcIpv4Address q)
    let v6 := d.get (Dict.svcIpv6Address q)
    let d := if v4 = 0 then d else d.sendResolved q 4 v4 0xFFFFFFFFFFFF
    if v6 = 0 then d else d.sendResolved q 6 v6 0x333300000001

/-- A frame of the list announces the address. -/
def Announces (l : List SentFrame) (version address mac toward : Nat) : Prop := ∃ f ∈ l, f.payload = .resolved version address mac toward

theorem announceOn_up {d : Dev} {q : Nat} (hq : q < 6) (hup : d.get (Dict.portState q) = 3) (hrun : d.stopped q (d.get (Dict.portPcp q)) = false) :
    ∃ l, Sends q l d (announceOn q d) ∧
      (d.get (Dict.svcIpv4Address q) ≠ 0 → Announces l 4 (d.get (Dict.svcIpv4Address q)) (d.get (Dict.portMacAddress q)) 0xFFFFFFFFFFFF) ∧
      (d.get (Dict.svcIpv6Address q) ≠ 0 → Announces l 6 (d.get (Dict.svcIpv6Address q)) (d.get (Dict.portMacAddress q)) 0x333300000001) := by
  have hfirst : ∃ l, Sends q l d (if d.get (Dict.svcIpv4Address q) = 0 then d else d.sendResolved q 4 (d.get (Dict.svcIpv4Address q)) 0xFFFFFFFFFFFF) ∧
      (d.get (Dict.svcIpv4Address q) ≠ 0 → Announces l 4 (d.get (Dict.svcIpv4Address q)) (d.get (Dict.portMacAddress q)) 0xFFFFFFFFFFFF) := by
    by_cases hzero : d.get (Dict.svcIpv4Address q) = 0
    · exact ⟨[], by rw [if_pos hzero]; exact .none q d, fun h => absurd hzero h⟩
    · obtain ⟨f, hpayload, hsends⟩ := sendResolved_up 4 (d.get (Dict.svcIpv4Address q)) 0xFFFFFFFFFFFF hq hup hrun
      exact ⟨[f], by rw [if_neg hzero]; exact hsends, fun _ => ⟨f, List.mem_singleton.2 rfl, hpayload⟩⟩
  obtain ⟨l, hsends, hfour⟩ := hfirst
  rw [announceOn, if_neg (not_not_intro hup)]
  dsimp only
  generalize (if d.get (Dict.svcIpv4Address q) = 0 then d else _) = x at hsends ⊢
  by_cases hzero : d.get (Dict.svcIpv6Address q) = 0
  · exact ⟨l, by rw [if_pos hzero]; exact hsends, hfour, fun h => absurd hzero h⟩
  · have hpcp : x.get (Dict.portPcp q) = d.get (Dict.portPcp q) := hsends.get hq hq (by simp)
    have hmac : x.get (Dict.portMacAddress q) = d.get (Dict.portMacAddress q) := hsends.get hq hq (by simp)
    obtain ⟨f, hpayload, hsecond⟩ := sendResolved_up (d := x) 6 (d.get (Dict.svcIpv6Address q)) 0x333300000001 hq
      ((hsends.get hq hq (f := Dict.portState) (by simp)).trans hup) (by rw [hpcp, hsends.stopped, hrun])
    refine ⟨l ++ [f], by rw [if_neg hzero]; exact hsends.trans hsecond, fun h => ?_, fun _ => ?_⟩
    · obtain ⟨g, hg, hpayload⟩ := hfour h
      exact ⟨g, List.mem_append_left _ hg, hpayload⟩
    · exact ⟨f, List.mem_append_right _ (List.mem_singleton.2 rfl), by rw [hpayload, hmac]⟩

/-- What an announcement on the ports counts. -/
def sentRegisters : List Entry := (List.range 6).flatMap fun q => [Dict.txFrames q, Dict.txOctets q]

/-- The announcements of the first `n` ports have left, and no other frame. -/
structure Announced (d : Dev) (n : Nat) (x : Dev) : Prop where
  keeps : Keeps sentRegisters d x
  posted : x.posted = d.posted
  view : x.view = d.view
  frames : ∃ l : List SentFrame, x.emit = d.emit ++ l.map Emit.frame ∧ (∀ f ∈ l, f.port < 6 ∧ d.get (Dict.portState f.port) = 3) ∧
    ∀ q < n, d.get (Dict.portState q) = 3 →
      (d.get (Dict.svcIpv4Address q) ≠ 0 →
        Announces (l.filter (·.port = q)) 4 (d.get (Dict.svcIpv4Address q)) (d.get (Dict.portMacAddress q)) 0xFFFFFFFFFFFF) ∧
      (d.get (Dict.svcIpv6Address q) ≠ 0 →
        Announces (l.filter (·.port = q)) 6 (d.get (Dict.svcIpv6Address q)) (d.get (Dict.portMacAddress q)) 0x333300000001)

theorem Announces.append {l : List SentFrame} {q version address mac toward : Nat} (h : Announces (l.filter (·.port = q)) version address mac toward)
    (l' : List SentFrame) : Announces ((l ++ l').filter (·.port = q)) version address mac toward := by
  obtain ⟨f, hf, hpayload⟩ := h
  exact ⟨f, by rw [List.filter_append]; exact List.mem_append_left _ hf, hpayload⟩

theorem Announces.of_port {l : List SentFrame} {q version address mac toward : Nat} (h : Announces l version address mac toward)
    (hport : ∀ f ∈ l, f.port = q) (l' : List SentFrame) : Announces ((l' ++ l).filter (·.port = q)) version address mac toward := by
  obtain ⟨f, hf, hpayload⟩ := h
  exact ⟨f, List.mem_filter.2 ⟨List.mem_append_right _ hf, decide_eq_true (hport f hf)⟩, hpayload⟩

theorem Announced.get {d x : Dev} {n q : Nat} (h : Announced d n x) (hq : q < 6) {f : Nat → Entry}
    (hf : f ∈ [Dict.portState, Dict.portPcp, Dict.portMacAddress, Dict.svcIpv4Address, Dict.svcIpv6Address]) : x.get (f q) = d.get (f q) := by
  have apart : ∀ q < 6, ∀ e ∈ [Dict.portState, Dict.portPcp, Dict.portMacAddress, Dict.svcIpv4Address, Dict.svcIpv6Address].map (· q),
      ∀ x ∈ sentRegisters, x.addr ≠ e.addr := by decide
  exact h.keeps _ (apart q hq _ (List.mem_map_of_mem hf))

theorem Announced.stopped {d x : Dev} {n q prio : Nat} (h : Announced d n x) : x.stopped q prio = d.stopped q prio := by
  have apart : ∀ e ∈ sentRegisters, e.addr ≠ (Hid.pauseUntil q prio).addr := fun e he => by
    obtain ⟨p, -, hp⟩ := List.mem_flatMap.1 he
    exact pauseUntil_apart q p prio e hp
  unfold Dev.stopped now
  rw [h.view, h.keeps _ apart]

/-- The next port's announcements leave. -/
theorem Announced.step {d x : Dev} {n : Nat} (h : Announced d n x) (hn : n < 6) (hrun : d.stopped n (d.get (Dict.portPcp n)) = false) :
    Announced d (n + 1) (announceOn n x) := by
  obtain ⟨l, hemit, hports, hall⟩ := h.frames
  have hstate : x.get (Dict.portState n) = d.get (Dict.portState n) := h.get hn (by simp)
  by_cases hup : d.get (Dict.portState n) = 3
  · have hpcp : x.get (Dict.portPcp n) = d.get (Dict.portPcp n) := h.get hn (by simp)
    have hmac : x.get (Dict.portMacAddress n) = d.get (Dict.portMacAddress n) := h.get hn (by simp)
    have hv4 : x.get (Dict.svcIpv4Address n) = d.get (Dict.svcIpv4Address n) := h.get hn (by simp)
    have hv6 : x.get (Dict.svcIpv6Address n) = d.get (Dict.svcIpv6Address n) := h.get hn (by simp)
    obtain ⟨new, hsends, hfour, hsix⟩ := announceOn_up hn (hstate.trans hup) (by rw [hpcp, h.stopped, hrun])
    rw [hv4, hmac] at hfour
    rw [hv6, hmac] at hsix
    refine ⟨h.keeps.trans (hsends.keeps.mono fun e he => List.mem_flatMap.2 ⟨n, List.mem_range.2 hn, he⟩), hsends.posted.trans h.posted,
      hsends.view.trans h.view, l ++ new, ?_, fun f hf => ?_, fun q hq hqup => ?_⟩
    · rw [hsends.emit, hemit, List.map_append, List.append_assoc]
    · rcases List.mem_append.1 hf with hf | hf
      · exact hports f hf
      · rw [hsends.port f hf]
        exact ⟨hn, hup⟩
    · rcases Nat.lt_succ_iff_lt_or_eq.1 hq with hq | rfl
      · obtain ⟨h4, h6⟩ := hall q hq hqup
        exact ⟨fun hne => (h4 hne).append new, fun hne => (h6 hne).append new⟩
      · exact ⟨fun hne => (hfour hne).of_port hsends.port l, fun hne => (hsix hne).of_port hsends.port l⟩
  · rw [announceOn, if_pos (by rwa [hstate])]
    refine ⟨h.keeps, h.posted, h.view, l, hemit, hports, fun q hq hqup => ?_⟩
    rcases Nat.lt_succ_iff_lt_or_eq.1 hq with hq | rfl
    · exact hall q hq hqup
    · exact absurd hqup hup

/-- All six ports announce. -/
theorem announced_forUnits {d : Dev} (hrun : ∀ q < 6, d.stopped q (d.get (Dict.portPcp q)) = false) {n : Nat} (hn : n ≤ 6) :
    Announced d n (Sys2Proof.Machine.forUnits n announceOn d) := by
  induction n with
  | zero => exact ⟨.refl _ d, rfl, rfl, [], (List.append_nil _).symm, (fun _ h => nomatch h), fun _ h => absurd h (Nat.not_lt_zero _)⟩
  | succ n ih =>
    have hnext : Sys2Proof.Machine.forUnits (n + 1) announceOn d = announceOn n (Sys2Proof.Machine.forUnits n announceOn d) := by
      simp only [Sys2Proof.Machine.forUnits, List.range_succ, List.foldl_append, List.foldl_cons, List.foldl_nil]
    rw [hnext]
    exact (ih (Nat.le_of_succ_le hn)).step hn (hrun n hn)

theorem addressAnnounce_due {d : Dev} (hrole : d.get Dict.keeperRole = 1) (hleft : 0 < d.get Hid.announceLeft)
    (hdue : d.get Hid.announceDue ≤ d.view.frames) :
    d.addressAnnounce =
      let x := Sys2Proof.Machine.forUnits 6 announceOn d
      (x.set Hid.announceLeft (x.get Hid.announceLeft - 1)).set Hid.announceDue (x.view.frames + 256) := by
  rw [addressAnnounce, if_neg (by omega)]
  rfl

/-! ### The host's commands at S0 -/

theorem applyGroup_keeperSwitchover (d : Dev) (v : Value) : d.applyGroup [Dict.keeperSwitchover.item v] [] = d.switchover := by
  rw [applyGroup_plain (by decide)]
  simp (disch := decide) only [plainCommand, if_pos, if_neg]

theorem applyGroup_keeperRejoin (d : Dev) (v : Value) : d.applyGroup [Dict.keeperRejoin.item v] [] = d.rejoin := by
  rw [applyGroup_plain (by decide)]
  simp (disch := decide) only [plainCommand, if_pos, if_neg]

end Dev

/-- Settles O52: a change of role is one of two, and what each leaves is said once; the announcements go port by port. -/
theorem keeperRolesChangeAndAreAnnounced : Obligations.KeeperRolesChangeAndAreAnnounced := by
  unfold Obligations.KeeperRolesChangeAndAreAnnounced
  refine ⟨?_, ?_, ?_, ?_, ?_, ?_, ?_, ?_, ?_, ?_⟩
  · intro s high inverse hserves hsilent
    obtain ⟨t, hexec, hdev, hstep⟩ := State.during_next hserves (·.kholdInput high inverse)
    obtain ⟨hin, hholds, hposted, hkeeps⟩ := Dev.kholdInput_of_silent (d := s.met) high inverse hsilent
    rw [← hdev] at hin hholds hposted hkeeps
    exact ⟨t, hexec, hin, hholds, hposted, hstep.onlyRegisters hkeeps⟩
  · intro s hserves hrole hmissed hreleased hseen new hnew
    obtain ⟨t, hexec, hdev, hstep⟩ := State.during_next hserves (·.takeover)
    have htake : s.met.takeover = (((s.met.inc Dict.keeperTakeoverCount).inc Dict.lifeTakeovers).post 113
        [(1, s.dev.get Dict.keeperStandbyReady), (2, s.dev.get Dict.keeperMissedCount)]).becomeActive 1 (s.met.view.frames + 1) := by
      rw [Dev.takeover, if_pos ⟨hrole, hmissed, hreleased, hseen⟩]
      dsimp only
      rw [Dev.get_inc_ne _ _ _ (by decide), Dev.get_inc_ne _ _ _ (by decide), Dev.get_inc_ne _ _ _ (by decide), Dev.get_inc_ne _ _ _ (by decide)]
      rfl
    have hcounted : Dev.Keeps [Dict.keeperTakeoverCount, Dict.lifeTakeovers] s.met (((s.met.inc Dict.keeperTakeoverCount).inc Dict.lifeTakeovers).post
        113 [(1, s.dev.get Dict.keeperStandbyReady), (2, s.dev.get Dict.keeperMissedCount)]) :=
      .post (.inc (.inc (.refl _ s.met) (by simp)) (by simp)) _ _
    have hcount : (((s.met.inc Dict.keeperTakeoverCount).inc Dict.lifeTakeovers).post 113 [(1, s.dev.get Dict.keeperStandbyReady),
        (2, s.dev.get Dict.keeperMissedCount)]).get Dict.keeperTakeoverCount =
        min (s.dev.get Dict.keeperTakeoverCount + 1) (Dict.keeperTakeoverCount.modulus - 1) := by
      rw [Dev.get_post, Dev.get_inc_ne _ _ _ (by decide), Dev.get_inc]
      rfl
    have hraised : (((s.met.inc Dict.keeperTakeoverCount).inc Dict.lifeTakeovers).post 113 [(1, s.dev.get Dict.keeperStandbyReady),
        (2, s.dev.get Dict.keeperMissedCount)]).posted = s.dev.posted ++
        [⟨113, packDetail [(1, s.dev.get Dict.keeperStandbyReady), (2, s.dev.get Dict.keeperMissedCount)], false, false, true⟩] := by
      rw [Dev.posted_post, Dev.posted_inc, Dev.posted_inc]
      rfl
    rw [htake] at hdev
    generalize Dev.post _ 113 _ = d at hdev hcounted hcount hraised
    have hnext : d.nextInnings = new := by
      rw [Dev.nextInnings, hcounted _ (by decide), hcounted _ (by decide)]
      rfl
    obtain ⟨hrole', hinnings, hout, -, hposted, hkeeps⟩ := d.becomeActive_spec (cause := 1) (s.met.view.frames + 1) (hnext ▸ hnew)
      ((hcounted _ (by decide)).trans hreleased)
    rw [← hdev, hnext] at hinnings
    rw [← hdev, hnext, hraised, hcounted _ (by decide), State.met_get, hrole, List.append_assoc] at hposted
    rw [← hdev] at hrole' hout hkeeps
    refine ⟨t, hexec, hrole', hinnings, hout, ?_, hposted, hstep.onlyRegisters ?_⟩
    · rw [Counts, hkeeps _ (by decide), hcount]
    · exact (hcounted.mono (List.subset_append_right _ _)).trans (hkeeps.mono (List.subset_append_left _ _))
  · intro s hserves hrole hwait hreleased hseen new hnew
    obtain ⟨t, hexec, hdev, hstep⟩ := State.during_next hserves (·.startWaitExpiry)
    have hexpires : s.met.startWaitExpiry = s.met.becomeActive 4 (s.met.view.frames + 1) := by
      have hrole' : s.met.get Dict.keeperRole = 2 := hrole
      have hwait' : s.met.get Dict.keeperStartWait ≤ s.met.serviceSeconds := hwait
      have hseen' : s.met.is Hid.peerSeen = false := hseen
      have hreleased' : s.met.get Dict.keeperInterlockIn = 0 := hreleased
      rw [Dev.startWaitExpiry, if_neg (by omega), hseen', hreleased']
      rfl
    rw [hexpires] at hdev
    obtain ⟨hrole', hinnings, hout, -, hposted, hkeeps⟩ := s.met.becomeActive_spec (cause := 4) (s.met.view.frames + 1) hnew hreleased
    rw [← hdev] at hrole' hinnings hout hposted hkeeps
    rw [State.met_get, hrole] at hposted
    exact ⟨t, hexec, hrole', hinnings, hout, hposted, hstep.onlyRegisters hkeeps⟩
  · intro s hserves hrole hstate hdue hsoon
    obtain ⟨t, hexec, hdev, hstep⟩ := State.duringAt_next (Bool.and_eq_true_iff.2 ⟨hserves, decide_eq_true hsoon⟩)
      (max s.start (s.dev.get Hid.handOverAt - 4000 * unitsPerNs)) (·.handOverRelease)
    have hposted : (s.begin (max s.start (s.dev.get Hid.handOverAt - 4000 * unitsPerNs))).posted = s.dev.posted := rfl
    have hget : ∀ e, (s.begin (max s.start (s.dev.get Hid.handOverAt - 4000 * unitsPerNs))).get e = s.dev.get e := fun _ => rfl
    have hframe : (s.begin (max s.start (s.dev.get Hid.handOverAt - 4000 * unitsPerNs))).view.frameStart = s.start := rfl
    generalize s.begin _ = d at hdev hposted hget hframe
    rw [Dev.handOverRelease, if_pos (by rw [hget, hget, hget, hframe]; exact ⟨hrole, hstate, hdue⟩), hget] at hdev
    obtain ⟨hrole', hout, hstate', hinnings, hraised, hkeeps⟩ := d.becomeStandby_spec (if s.dev.get Hid.handOverCause = 3 then 3 else 2)
    rw [← hdev] at hrole' hout hstate' hinnings hraised hkeeps
    rw [hget, hget, hrole, hposted] at hraised
    exact ⟨t, hexec, hrole', hout, hstate', hinnings.trans (hget _), hraised, hstep.onlyRegisters fun e he => (hkeeps e he).trans (hget e)⟩
  · intro s hserves hrole hstate hdue hsoon hreleased new hnew
    obtain ⟨t, hexec, hdev, hstep⟩ := State.duringAt_next (Bool.and_eq_true_iff.2 ⟨hserves, decide_eq_true hsoon⟩)
      (max s.start (s.dev.get Hid.handOverAt)) (·.handOverReached)
    have hposted : (s.begin (max s.start (s.dev.get Hid.handOverAt))).posted = s.dev.posted := rfl
    have hget : ∀ e, (s.begin (max s.start (s.dev.get Hid.handOverAt))).get e = s.dev.get e := fun _ => rfl
    have hframe : (s.begin (max s.start (s.dev.get Hid.handOverAt))).view.frameStart = s.start := rfl
    generalize s.begin _ = d at hdev hposted hget hframe
    rw [Dev.handOverReached, if_pos (by rw [hget, hget, hget, hframe]; exact ⟨hrole, hstate, hdue⟩), if_pos ((hget _).trans hreleased)] at hdev
    have hcounted : Dev.Keeps [Dict.keeperHandOverCount] d (d.inc Dict.keeperHandOverCount) := .inc (.refl _ d) (by simp)
    have hnext : (d.inc Dict.keeperHandOverCount).nextInnings = new := by
      rw [Dev.nextInnings, hcounted _ (by decide), hcounted _ (by decide), hget, hget]
    obtain ⟨hrole', hinnings, hout, hstate', hraised, hkeeps⟩ := (d.inc Dict.keeperHandOverCount).becomeActive_spec (cause := 2) d.view.frames
      (hnext ▸ hnew) (by rw [hcounted _ (by decide), hget, hreleased])
    rw [← hdev] at hrole' hinnings hout hstate' hraised hkeeps
    rw [hnext] at hinnings
    rw [hnext, hcounted _ (by decide), hget, hrole, Dev.posted_inc, hposted] at hraised
    refine ⟨t, hexec, hrole', hinnings, hout, hstate', ?_, hraised, hstep.onlyRegisters fun e he => ?_⟩
    · rw [Counts, hkeeps _ (by decide), Dev.get_inc, hget]
    · rw [hkeeps e fun x hx => he x (List.mem_cons_of_mem _ hx), hcounted e fun x hx => he x (List.mem_singleton.1 hx ▸ .head _), hget]
  · intro s hserves hrole hstate hlate hsource
    obtain ⟨t, hexec, hdev, hstep⟩ := State.during_next hserves (·.handOverAbandon)
    have habandon : s.met.handOverAbandon = s.met.endHandOver.postPath 4 := by
      have hsource' : s.met.get Hid.handOverSource = 0 := hsource
      rw [Dev.handOverAbandon, if_pos ⟨hrole, hstate, hlate⟩, Dev.abandonHandOver, hsource']
      rfl
    have hend := s.met.keeps_endHandOver
    rw [habandon, Dev.postPath] at hdev
    refine ⟨t, hexec, ?_, ?_, hstep.onlyRegisters ?_⟩
    · rw [hdev, Dev.get_post, Dev.handOverState_endHandOver]
    · rw [Presents, hdev, Dev.posted_post, Dev.of_rest (g := Dev.posted) s.met.rest_endHandOver, hend _ (by decide), hend _ (by decide)]
      rfl
    · rw [hdev]
      exact .post hend _ _
  · intro s hserves hreverting hstate hready
    obtain ⟨t, hexec, hdev, hstep⟩ := State.during_next hserves (·.revertExpiry)
    have hexpires : s.met.revertExpiry = (s.met.setB Hid.handOverWanted true).set Hid.handOverCause 3 := by
      have hreverting' : s.met.reverting = true := hreverting
      have hstate' : (s.met.get Dict.keeperHandOverState == 0) = true := beq_iff_eq.2 hstate
      have hready' : decide (s.met.get Dict.keeperRevertHold * framesPerSecond ≤ s.met.get Hid.readyFrames) = true := decide_eq_true hready
      rw [Dev.revertExpiry, hreverting', hstate', hready']
      rfl
    rw [hexpires] at hdev
    refine ⟨t, hexec, ?_, ?_, ?_, hstep.onlyRegisters ?_⟩
    · rw [hdev, Dev.get_set_ne _ _ _ _ (by decide), Dev.get_setB_self]
      rfl
    · rw [hdev]
      exact Dev.get_lt_of_set _ _ (show 3 < 256 by decide)
    · rw [PresentsNone, hdev, Dev.posted_set, Dev.posted_setB]
      rfl
    · rw [hdev]
      exact .set (.setB (.refl _ s.met) (by simp) _) (by simp) _
  · intro s h v x hadmits
    obtain ⟨t, hexec, haccepted⟩ := State.accepted_of_isCommanded hadmits (by decide) (by decide)
    refine ⟨t, hexec, haccepted, fun d => ?_⟩
    rw [Dev.applyGroup_keeperSwitchover, Dev.switchover, Dev.get_set_ne _ _ _ _ (by decide), Dev.get_setB_self]
    rfl
  · intro s h v x hadmits
    obtain ⟨t, hexec, haccepted⟩ := State.accepted_of_isCommanded hadmits (by decide) (by decide)
    refine ⟨t, hexec, haccepted, ?_⟩
    intro d hrole hbeats hstate hinnings d'
    have hrejoin : d' = (d.set Dict.keeperInnings (d.get Dict.keeperPeerInnings)).becomeStandby 8 := by
      rw [show d' = _ from Dev.applyGroup_keeperRejoin d v, Dev.rejoin, if_pos ⟨hrole, hbeats, hstate⟩]
    obtain ⟨hrole', -, -, hinnings', -⟩ := (d.set Dict.keeperInnings (d.get Dict.keeperPeerInnings)).becomeStandby_spec 8
    rw [hrejoin]
    exact ⟨hrole', hinnings'.trans (Dev.get_lt_of_set _ _ hinnings)⟩
  · intro s hserves hrole hleft hsmall hdue hrun announces
    obtain ⟨t, hexec, hdev, hstep⟩ := State.during_next hserves (·.addressAnnounce)
    rw [Dev.addressAnnounce_due (d := s.met) hrole hleft hdue] at hdev
    obtain ⟨hkeeps, hposted, hview, l, hemit, hports, hall⟩ := Dev.announced_forUnits (d := s.met) hrun (Nat.le_refl 6)
    dsimp only at hdev
    generalize Sys2Proof.Machine.forUnits 6 Dev.announceOn s.met = d at hdev hkeeps hposted hview hemit
    have hsent : t.dev.emit = l.map Emit.frame := by
      rw [hdev, Dev.emit_set, Dev.emit_set, hemit]
      rfl
    have hannounces : ∀ {q version address mac toward : Nat}, Dev.Announces (l.filter (·.port = q)) version address mac toward →
        ∃ f, .frame f ∈ t.dev.emit ∧ f.port = q ∧ f.payload = .resolved version address mac toward := by
      rintro q version address mac toward ⟨f, hf, hpayload⟩
      obtain ⟨hl, hq⟩ := List.mem_filter.1 hf
      exact ⟨f, by rw [hsent]; exact List.mem_map_of_mem hl, of_decide_eq_true hq, hpayload⟩
    refine ⟨t, hexec, fun q hq hup => ?_, fun f hf => ?_, ?_, ?_, ?_, hstep.onlyRegisters ?_⟩
    · obtain ⟨hfour, hsix⟩ := hall q hq hup
      exact ⟨fun hne => hannounces (hfour hne), fun hne => hannounces (hsix hne)⟩
    · rw [hsent] at hf
      obtain ⟨g, hg, hgf⟩ := List.mem_map.1 hf
      obtain rfl := Emit.frame.inj hgf
      exact hports g hg
    · rw [hdev, Dev.get_set_ne _ _ _ _ (by decide), hkeeps _ (by decide)]
      exact Dev.get_lt_of_set _ _ (Nat.lt_of_le_of_lt (Nat.sub_le _ _) hsmall)
    · rw [hdev, Dev.get_set_self, hview]
      rfl
    · rw [PresentsNone, hdev, Dev.posted_set, Dev.posted_set, hposted]
      rfl
    · rw [hdev]
      exact .set (.set (hkeeps.mono (List.subset_append_right _ _)) (List.mem_append_left _ (by simp)) _) (List.mem_append_left _ (by simp)) _

end Sys2Proof.Machine
end

section
/-!
PROOF. Unicast grants: the client table, and how grants begin and end (O49).
-/
namespace Sys2Proof.Machine

/-- The register file without the addresses of a kind: those read nothing, the others as before. -/
theorem Sparse.find_filter {α : Type} (l : List (Nat × α)) (p : Nat → Bool) (k : Nat) :
    Sparse.find (l.filter fun kv => !p kv.1) k = if p k then none else Sparse.find l k := by
  induction l with
  | nil => simp [Sparse.find]
  | cons a l ih =>
    obtain ⟨j, v⟩ := a
    by_cases hdrop : p j = true
    · rw [List.filter_cons_of_neg (by simp [hdrop]), ih]
      by_cases hjk : j = k
      · subst hjk
        simp [hdrop]
      · simp [Sparse.find, hjk]
    · rw [List.filter_cons_of_pos (by simp [hdrop]), Sparse.find, Sparse.find, ih]
      by_cases hjk : j = k
      · subst hjk
        simp [hdrop]
      · simp [hjk]

namespace Dev

theorem get_resetWhere (d : Dev) (p : Nat → Nat → Bool) (e : Entry) :
    (d.resetWhere p).get e = if p (e.addr / 256) (e.addr % 256) then e.reset else d.get e := by
  unfold get resetWhere
  rw [Sparse.find_filter d.regs (fun a => p (a / 256) (a % 256))]
  cases p (e.addr / 256) (e.addr % 256) <;> rfl

/-! ### The device beside its registers and its clients -/

/-- What no work on the client table changes: everything but the registers, the table, its rates and the Signalling that waits. -/
def beyond (d : Dev) : Dev := { d with regs := [], rats := [], clients := [], rates := [], signals := [] }

theorem beyond_of_rest {d d' : Dev} (h : d'.rest = d.rest) : d'.beyond = d.beyond := of_rest h

theorem posted_of_beyond {d d' : Dev} (h : d'.beyond = d.beyond) : d'.posted = d.posted := (congrArg Dev.posted h :)

theorem view_of_beyond {d d' : Dev} (h : d'.beyond = d.beyond) : d'.view = d.view := (congrArg Dev.view h :)

theorem clients_of_rest {d d' : Dev} (h : d'.rest = d.rest) : d'.clients = d.clients := of_rest (g := Dev.clients) h

theorem signals_of_rest {d d' : Dev} (h : d'.rest = d.rest) : d'.signals = d.signals := of_rest (g := Dev.signals) h

/-- The client table in place of the one before. -/
def withClients (d : Dev) (l : List Client) : Dev := { d with clients := l }

/-- The rates of the clients in place of those before. -/
def withRates (d : Dev) (l : List ClientRate) : Dev := { d with rates := l }

/-- The Signalling that waits in place of what waited before. -/
def withSignals (d : Dev) (l : List Signalling) : Dev := { d with signals := l }

theorem get_withClients (d : Dev) (l : List Client) (e : Entry) : (d.withClients l).get e = d.get e := (rfl)
theorem beyond_withClients (d : Dev) (l : List Client) : (d.withClients l).beyond = d.beyond := (rfl)
theorem clients_withClients (d : Dev) (l : List Client) : (d.withClients l).clients = l := (rfl)
theorem signals_withClients (d : Dev) (l : List Client) : (d.withClients l).signals = d.signals := (rfl)
theorem get_withRates (d : Dev) (l : List ClientRate) (e : Entry) : (d.withRates l).get e = d.get e := (rfl)
theorem beyond_withRates (d : Dev) (l : List ClientRate) : (d.withRates l).beyond = d.beyond := (rfl)
theorem clients_withRates (d : Dev) (l : List ClientRate) : (d.withRates l).clients = d.clients := (rfl)
theorem get_withSignals (d : Dev) (l : List Signalling) (e : Entry) : (d.withSignals l).get e = d.get e := (rfl)
theorem beyond_withSignals (d : Dev) (l : List Signalling) : (d.withSignals l).beyond = d.beyond := (rfl)
theorem clients_withSignals (d : Dev) (l : List Signalling) : (d.withSignals l).clients = d.clients := (rfl)
theorem signals_withSignals (d : Dev) (l : List Signalling) : (d.withSignals l).signals = l := (rfl)

/-! ### The table -/

/-- The record of a slot takes the place of those the slot held. -/
def replaced (c : Client) (l : List Client) : List Client := l.map fun x => if x.slot = c.slot then c else x

theorem putClient_eq (d : Dev) (c : Client) : d.putClient c = (d.withClients (replaced c d.clients)).inc Hid.clientChanges := rfl

theorem clients_putClient (d : Dev) (c : Client) : (d.putClient c).clients = replaced c d.clients := by
  rw [putClient_eq, clients_of_rest (rest_inc _ _), clients_withClients]

theorem keeps_putClient (d : Dev) (c : Client) : Keeps [Hid.clientChanges] d (d.putClient c) := by
  rw [putClient_eq]
  exact .inc (fun e _ => get_withClients _ _ e) (by simp)

theorem beyond_putClient (d : Dev) (c : Client) : (d.putClient c).beyond = d.beyond := by
  rw [putClient_eq, beyond_of_rest (rest_inc _ _), beyond_withClients]

/-- The first record of a kind, written again as one of that kind, is found where it was. -/
theorem find_replaced {l : List Client} {p : Client → Bool} {c c' : Client} (h : l.find? p = some c) (hslot : c'.slot = c.slot) (hp : p c' = true) :
    (replaced c' l).find? p = some c' := by
  unfold replaced
  induction l with
  | nil => cases h
  | cons x l ih =>
    rw [List.map_cons, List.find?_cons]
    by_cases hx : x.slot = c'.slot
    · simp only [if_pos hx, hp]
    · simp only [if_neg hx]
      rw [List.find?_cons] at h
      cases hpx : p x with
      | true =>
        rw [hpx] at h
        obtain rfl := Option.some.inj h
        exact absurd hslot.symm hx
      | false =>
        rw [hpx] at h
        exact ih h

theorem mem_replaced {l : List Client} {c c' : Client} (h : c ∈ l) (hslot : c'.slot = c.slot) : c' ∈ replaced c' l :=
  List.mem_map.2 ⟨c, h, if_pos hslot.symm⟩

/-- The key of a record (R440). -/
def keyed (inst port transport address : Nat) (c : Client) : Bool :=
  c.inst == inst && c.port == port && c.transport == transport && c.address == address

theorem lookup_eq (d : Dev) (inst port transport address : Nat) :
    d.lookup inst port transport address = d.clients.find? (keyed inst port transport address) := rfl

theorem freeClient_eq (d : Dev) (slot : Nat) : d.freeClient slot =
    (((d.withClients (d.clients.filter fun c => c.slot != slot)).withRates (d.rates.filter fun x => x.slot != slot)).inc Hid.clientChanges).countClients :=
  rfl

theorem rest_countClients (d : Dev) : d.countClients.rest = d.rest := by
  unfold countClients
  dsimp only
  rw [forUnits_view rest fun i _ x => rest_set x _ _, rest_set, rest_set]

theorem keeps_countClients (d : Dev) : Keeps clientRegisters d d.countClients := by
  unfold countClients
  exact .forUnits (.set (.set (.refl _ d) (by simp [clientRegisters]) _) (by simp [clientRegisters]) _) fun i hi x =>
    .set (.refl _ x) (List.mem_append_right _ (List.mem_map_of_mem (List.mem_range.2 hi))) _

/-- A freed slot holds no record. -/
theorem clients_freeClient (d : Dev) (slot : Nat) : (d.freeClient slot).clients = d.clients.filter fun c => c.slot != slot := by
  rw [freeClient_eq, clients_of_rest (rest_countClients _), clients_of_rest (rest_inc _ _), clients_withRates, clients_withClients]

theorem slot_of_mem_freeClient {d : Dev} {slot : Nat} {y : Client} (h : y ∈ (d.freeClient slot).clients) : y.slot ≠ slot := by
  rw [clients_freeClient] at h
  exact bne_iff_ne.1 (List.mem_filter.1 h).2

theorem keeps_freeClient (d : Dev) (slot : Nat) : Keeps (Hid.clientChanges :: clientRegisters) d (d.freeClient slot) := by
  rw [freeClient_eq]
  refine .trans (.inc (fun e _ => ?_) (List.mem_cons_self ..)) ((keeps_countClients _).mono (List.subset_cons_self _ _))
  rw [get_withRates, get_withClients]

theorem beyond_freeClient (d : Dev) (slot : Nat) : (d.freeClient slot).beyond = d.beyond := by
  rw [freeClient_eq, beyond_of_rest (rest_countClients _), beyond_of_rest (rest_inc _ _), beyond_withRates, beyond_withClients]

/-! ### The end of a grant -/

/-- A record without its Announce grant. -/
def announceEnded (c : Client) : Client := { c with logAnnounce := noGrant }

theorem endGrant_announce {d : Dev} {slot : Nat} {c : Client} (h : (d.clients.find? fun y => y.slot == slot) = some c) :
    d.endGrant slot 11 = if (announceEnded c).idle then d.freeClient slot else d.putClient (announceEnded c) := by
  simp only [endGrant, h, if_true]
  rfl

/-- Without its Announce grant a record is idle when it holds no other. -/
theorem idle_announceEnded (c : Client) : (announceEnded c).idle = (c.logSync == noGrant && c.logDelayResp == noGrant) := by
  unfold Client.idle announceEnded
  simp

/-! ### Signalling that waits -/

theorem signal_spec (d : Dev) (sender q : Nat) (route : Route) (target : Nat) (tlv : List Nat) :
    ∃ l, d.signal sender q route target tlv = d.withSignals l ∧ ∃ x ∈ l, tlv ∈ x.tlvs := by
  unfold signal
  dsimp only
  split
  · next hsame =>
    obtain ⟨x, hx, hmatch⟩ := List.any_eq_true.1 hsame
    refine ⟨_, rfl, _, List.mem_map.2 ⟨x, hx, rfl⟩, ?_⟩
    rw [if_pos hmatch]
    exact List.mem_append_right _ (List.mem_singleton.2 rfl)
  · exact ⟨_, rfl, _, List.mem_append_right _ (List.mem_singleton.2 rfl), List.mem_singleton.2 rfl⟩

/-! ### Admitted work -/

theorem keeps_budgetFrame (d : Dev) : Keeps workRegisters d d.budgetFrame := by
  unfold budgetFrame
  exact .ite (.refl _ d) (.set (.clearAll (.refl _ d) (by decide)) (by decide) _)

theorem rest_spend (d : Dev) (cls msgs hmac aes : Nat) : (d.spend cls msgs hmac aes).rest = d.rest := by
  unfold spend take
  rw [rest_add, rest_add, rest_add, rest_add, rest_add, rest_budgetFrame]

theorem keeps_spend (d : Dev) {cls : Nat} (hcls : cls < 5) (msgs hmac aes : Nat) : Keeps workRegisters d (d.spend cls msgs hmac aes) := by
  unfold spend take
  exact .add (.add (.add (.add (.add (keeps_budgetFrame d) (by decide) _) (by decide) _) (by decide) _) (by decide) _)
    (List.mem_append_right _ (List.mem_map_of_mem (List.mem_range.2 hcls))) _

/-- Class 3 work that the frame has room for is done at once (R460). -/
theorem offerPtp_now {d : Dev} {m : PtpRx} {w : ProtoWork} {counter : Nat → Entry} {i : Nat} (hinst : d.instanceFor m = some i)
    (hserves : d.instServes i = true) (hport : d.get (Dict.portState m.rx.port) = 3) (hqueue : d.protoQueue = [])
    (hchanges : (d.inc (counter i)).changesLeft = true)
    (hfits : (d.inc (counter i)).fits ((d.inc (counter i)).ptpWorkCost i w).1 ((d.inc (counter i)).ptpWorkCost i w).2 0 (d.inc (counter i)).reserved = true) :
    d.offerPtp m w counter = ((d.inc (counter i)).spend 3 ((d.inc (counter i)).ptpWorkCost i w).1 ((d.inc (counter i)).ptpWorkCost i w).2 0).doPtpWork i w := by
  have hempty : (d.inc (counter i)).protoQueue = [] := (of_rest (g := Dev.protoQueue) (rest_inc d _)).trans hqueue
  unfold offerPtp
  simp only [hinst, hserves, hport, bne_self_eq_false, Bool.not_true, Bool.or_self, Bool.false_eq_true, if_false, hempty, List.isEmpty_nil, hchanges,
    hfits, Bool.and_self, if_true]

theorem instanceFor_lt {d : Dev} {m : PtpRx} {i : Nat} (h : d.instanceFor m = some i) : i < 8 := List.mem_range.1 (List.mem_of_find?_eq_some h)

theorem accept_unauthenticated {d : Dev} {i : Nat} (m : PtpRx) (h : d.get (Dict.instAuthMode i) = 0) : d.accept i m = (d, some false) := by
  unfold accept
  rw [h]
  rfl

/-- A record with an accepted Signalling message that needs no authentication (R439). -/
def noted (m : PtpRx) (c : Client) : Client :=
  { c with mac := m.rx.mac, identity := m.identity, authSeen := false, lastSignallingSeq := m.sequence }

theorem noteSignalling_known {d : Dev} {i : Nat} {m : PtpRx} {c : Client} (h : d.lookup i m.rx.port m.transport m.source = some c) :
    d.noteSignalling i m false = d.putClient (noted m c) := by
  simp only [noteSignalling, h]
  rfl

theorem noteSignalling_unknown {d : Dev} {i : Nat} {m : PtpRx} (h : d.lookup i m.rx.port m.transport m.source = none) :
    d.noteSignalling i m false = d := by
  simp only [noteSignalling, h]

/-- The record noted is found by its key. -/
theorem lookup_noted {d : Dev} {i : Nat} {m : PtpRx} {c : Client} (h : d.lookup i m.rx.port m.transport m.source = some c) :
    (d.putClient (noted m c)).lookup i m.rx.port m.transport m.source = some (noted m c) := by
  rw [lookup_eq, clients_putClient]
  exact find_replaced h rfl (show keyed i m.rx.port m.transport m.source c = true from List.find?_some h)

theorem keeps_noteSignalling (d : Dev) (i : Nat) (m : PtpRx) : Keeps [Hid.clientChanges] d (d.noteSignalling i m false) := by
  cases h : d.lookup i m.rx.port m.transport m.source with
  | none => rw [noteSignalling_unknown h]; exact .refl _ d
  | some c => rw [noteSignalling_known h]; exact keeps_putClient d _

theorem beyond_noteSignalling (d : Dev) (i : Nat) (m : PtpRx) : (d.noteSignalling i m false).beyond = d.beyond := by
  cases h : d.lookup i m.rx.port m.transport m.source with
  | none => rw [noteSignalling_unknown h]
  | some c => rw [noteSignalling_known h]; exact beyond_putClient d _

theorem rest_countStash (d : Dev) (c : Option Client) : (d.countStash c).rest = d.rest := by
  cases c with
  | none => rfl
  | some c =>
    unfold countStash
    dsimp only
    split
    · exact rest_inc d _
    · rfl

theorem keeps_countStash (d : Dev) (c : Option Client) : Keeps [Hid.stashHits] d (d.countStash c) := by
  cases c with
  | none => exact .refl _ d
  | some c => exact .ite (.inc (.refl _ d) (by simp)) (.refl _ d)

/-! ### A request decided -/

/-- A request out of range is denied with duration 0 (R435). -/
theorem decide1_outOfRange {d : Dev} {i : Nat} {u : UnicastTlv} (m : PtpRx) (auth : Bool) (h : d.periodOk i u = false) :
    ∃ l, d.decide1 i m auth u = (d.inc (Dict.instGrantsRefused i)).withSignals l ∧ ∃ x ∈ l, grantTlv u.type u.period 0 ∈ x.tlvs := by
  unfold decide1
  simp only [h, Bool.not_false, if_true]
  exact signal_spec _ _ _ _ _ _

/-- A record with its Announce grant made (R435, R439). -/
def announceGranted (d : Dev) (m : PtpRx) (u : UnicastTlv) (duration : Nat) (c : Client) : Client :=
  { noted m c with logAnnounce := u.period, announceExpiry := (d.second + duration) % 2 ^ 32, grantSecond := d.second % 2 ^ 32 }

/-- The Announce grant of a known client is made (R435). -/
theorem decide1_announce {d : Dev} {i : Nat} {m : PtpRx} {u : UnicastTlv} {c : Client} (htype : u.type = 11)
    (hperiod : u.period = d.getI (Dict.instLogAnnounce i)) (hknown : d.lookup i m.rx.port m.transport m.source = some c) :
    ∃ l r, d.decide1 i m false u =
        ((((d.countStash (some c)).putClient (announceGranted d m u (max (d.get (Dict.instGrantMin i)) (min u.duration (d.get (Dict.instGrantMax i)))) c)).withRates
          r).withSignals l) ∧
      ∃ x ∈ l, grantTlv u.type u.period (max (d.get (Dict.instGrantMin i)) (min u.duration (d.get (Dict.instGrantMax i)))) ∈ x.tlvs := by
  have hok : d.periodOk i u = true := by
    rw [periodOk, if_pos htype]
    exact beq_iff_eq.2 hperiod
  have hrest := d.rest_countStash (some c)
  have hagain : (d.countStash (some c)).lookup i m.rx.port m.transport m.source = some c := by
    rw [lookup_eq, clients_of_rest hrest]
    exact hknown
  have hsecond : (d.countStash (some c)).second = d.second := of_rest (g := Dev.second) hrest
  have hgranted : ∀ duration, { ((d.countStash (some c)).grantInto c u duration).1 with
      mac := m.rx.mac, identity := m.identity, authSeen := false, lastSignallingSeq := m.sequence } = announceGranted d m u duration c := by
    intro duration
    rw [grantInto]
    dsimp only
    rw [if_pos htype, hsecond]
    rfl
  have hnotother : (u.type != 11) = false := by rw [htype]; rfl
  unfold decide1
  simp only [hok, Bool.not_true, Bool.false_eq_true, if_false, hknown, hagain, htype, ne_eq, not_true, decide_false, Bool.false_and, Option.getD_some]
  rw [← htype, hgranted]
  obtain ⟨l, hl, hx⟩ := signal_spec (((d.countStash (some c)).putClient (announceGranted d m u (max (d.get (Dict.instGrantMin i))
    (min u.duration (d.get (Dict.instGrantMax i)))) c)).putRate ((d.countStash (some c)).grantInto c u
      (max (d.get (Dict.instGrantMin i)) (min u.duration (d.get (Dict.instGrantMax i))))).2) i m.rx.port
    (d.unicastRoute m.rx.port m.transport m.rx.mac m.source 12) m.identity
    (grantTlv u.type u.period (max (d.get (Dict.instGrantMin i)) (min u.duration (d.get (Dict.instGrantMax i)))))
  exact ⟨l, _, hl, hx⟩

/-! ### The host's commands at S0 -/

theorem applyGroup_clientDelete (d : Dev) (v : Value) : d.applyGroup [Dict.clientDelete.item v] [] = d.clientDelete v.value := by
  rw [applyGroup_plain (by decide)]
  simp (disch := decide) only [plainCommand, if_pos, if_neg]

theorem applyGroup_protoCountersClear (d : Dev) (v : Value) : d.applyGroup [Dict.protoCountersClear.item v] [] = d.clearProtoCounters := by
  rw [applyGroup_plain (by decide)]
  simp (disch := decide) only [plainCommand, if_pos, if_neg]

theorem clientDelete_known {d : Dev} {v : Nat} {c : Client}
    (h : d.lookup (fieldAt 24 v 0 1) (fieldAt 24 v 1 1) (fieldAt 24 v 2 1) (fieldAt 24 v 8 16) = some c) : d.clientDelete v = d.freeClient c.slot := by
  unfold fieldAt at h
  unfold clientDelete
  dsimp only
  rw [h]

/-- The counters of the instances, cleared (R466). -/
def instanceCounters (i : Nat) : List Entry :=
  [Dict.instSyncSent i, Dict.instAnnounceSent i, Dict.instDelayReqRx i, Dict.instDelayRespSent i, Dict.instSignallingRx i, Dict.instGrantsRefused i,
    Dict.instAuthFailRx i, Dict.instDelayReqDropped i, Dict.instSyncSkipped i]

/-- The counters of the engine, cleared, NTP's aside. -/
def clearEngine (d : Dev) : Dev :=
  let d := d.clearAll [Dict.protoShedCount, Dict.keyStaleDrops, Dict.clientInsertFailCount]
  let d := Sys2Proof.Machine.forUnits 8 (fun i d => d.clearAll (instanceCounters i)) d
  let d := Sys2Proof.Machine.forUnits 32 (fun s d => d.clear (Dict.saVerifyFail s)) d
  Sys2Proof.Machine.forUnits 2 (fun r d => d.clear (Dict.nrefExchanges r)) d

theorem clearProtoCounters_eq (d : Dev) : d.clearProtoCounters = d.clearEngine.resetWhere fun i s => i == 0x6310 && decide (1 ≤ s) := rfl

/-- An entry that no later pass of the clearing names reads what the first passes left. -/
theorem get_lastPasses (d : Dev) {e : Entry} (hsa : ∀ s < 32, (Dict.saVerifyFail s).addr ≠ e.addr) (hnref : ∀ r < 2, (Dict.nrefExchanges r).addr ≠ e.addr) :
    (Sys2Proof.Machine.forUnits 2 (fun r d => d.clear (Dict.nrefExchanges r))
      (Sys2Proof.Machine.forUnits 32 (fun s d => d.clear (Dict.saVerifyFail s)) d)).get e = d.get e := by
  rw [forUnits_view (·.get e) fun r hr x => get_clear_ne x _ _ (hnref r hr), forUnits_view (·.get e) fun s hs x => get_clear_ne x _ _ (hsa s hs)]

/-- The counters of the protocols read zero after the command (R466). -/
theorem clearProtoCounters_spec (d : Dev) :
    d.clearProtoCounters.get Dict.protoShedCount = 0 ∧ d.clearProtoCounters.get Dict.ntpRequests = 0 ∧
      ∀ i < 8, d.clearProtoCounters.get (Dict.instDelayReqRx i) = 0 := by
  rw [clearProtoCounters_eq]
  refine ⟨?_, ?_, fun i hi => ?_⟩
  · rw [get_resetWhere, if_neg (by decide), clearEngine, get_lastPasses _ (by decide) (by decide),
      forUnits_view (·.get Dict.protoShedCount) fun i hi x => get_clearAll_ne x _ _ (by apply of_lt hi; decide),
      get_clearAll_of_mem d (by decide) (by decide)]
    rfl
  · rw [get_resetWhere, if_pos (by decide)]
    rfl
  · rw [get_resetWhere, if_neg (by apply of_lt hi; decide), clearEngine,
      get_lastPasses _ (by apply of_lt hi; decide) (by apply of_lt hi; decide)]
    refine get_forUnits _ hi (fun x => ?_) fun j hj hji x => get_clearAll_ne x _ _ ?_
    · exact (get_clearAll_of_mem x (by simp [instanceCounters]) (by apply of_lt hi; decide)).trans rfl
    · have apart : ∀ j < 8, ∀ i < 8, j ≠ i → ∀ e ∈ instanceCounters j, e.addr ≠ (Dict.instDelayReqRx i).addr := by decide
      exact apart j hj i hi hji

theorem applyGroup_cryptoLaneRelease (d : Dev) {v : Value} (hlane : v.value < 128) :
    d.applyGroup [Dict.cryptoLaneRelease.item v] [] = d.releaseRemoved (.hmac v.value) := by
  have hunits : unitOf Dict.tmrArm 32 Dict.cryptoLaneRelease = none ∧ unitOf Dict.outRealign 16 Dict.cryptoLaneRelease = none ∧
      unitOf Dict.portRecalibrate 6 Dict.cryptoLaneRelease = none ∧ unitOf Dict.skFaultClear 3 Dict.cryptoLaneRelease = none ∧
      unitOf Dict.evtClear 128 Dict.cryptoLaneRelease = none ∧ unitOf Dict.pcClear 64 Dict.cryptoLaneRelease = none := by decide
  have hkinds : unitOf Dict.chRelease 16 Dict.cryptoLaneRelease = none ∧ unitOf Dict.linkChRelease 3 Dict.cryptoLaneRelease = none ∧
      unitOf Dict.apllRelease 4 Dict.cryptoLaneRelease = none ∧ unitOf Dict.outRelease 16 Dict.cryptoLaneRelease = none ∧
      unitOf Dict.plsRelease 4 Dict.cryptoLaneRelease = none ∧ unitOf Dict.portRelease 6 Dict.cryptoLaneRelease = none ∧
      unitOf Dict.skRelease 3 Dict.cryptoLaneRelease = none := by decide
  have hrelease : releaseUnit Dict.cryptoLaneRelease v.value = some (.hmac v.value) := by
    obtain ⟨k1, k2, k3, k4, k5, k6, k7⟩ := hkinds
    simp only [releaseUnit, k1, k2, k3, k4, k5, k6, k7]
    rw [if_pos (by decide), if_pos hlane]
  obtain ⟨h1, h2, h3, h4, h5, h6⟩ := hunits
  rw [applyGroup_command (by decide) rfl, applyCommand]
  simp only [h1, h2, h3, h4, h5, h6, hrelease]

/-- A removed HMAC lane comes back where its start-up check passes (R54). -/
theorem removed_releaseRemoved_hmac (d : Dev) {l : Nat} (hl : l < 8) (hremoved : d.removed (.hmac l) = true) :
    (d.releaseRemoved (.hmac l)).removed (.hmac l) = !d.startUpPasses (.hmac l) := by
  have hcounts : ∀ x : Dev, x.countUnits.get Dict.hmacLaneMask = x.get Dict.hmacLaneMask := by
    intro x
    unfold countUnits
    simp (disch := decide) only [get_set_ne]
  cases hpass : d.startUpPasses (.hmac l) with
  | true =>
    have hback : d.releaseRemoved (.hmac l) = (d.set Dict.hmacLaneMask (setBit (d.get Dict.hmacLaneMask) l)).countUnits := by
      simp only [releaseRemoved, hremoved, hpass, Bool.not_true, Bool.false_eq_true, if_false, Bool.or_true, if_true]
      rfl
    have hset : bit ((d.set Dict.hmacLaneMask (setBit (d.get Dict.hmacLaneMask) l)).countUnits.get Dict.hmacLaneMask) l = true := by
      rw [hcounts, get_set_self]
      refine (bit_mod_of_lt (n := 32) (by omega)).trans ?_
      rw [bit_setBit]
    rw [hback, removed, hset]
  | false =>
    have hstays : d.releaseRemoved (.hmac l) = d.startUpFails (.hmac l) := by
      simp only [releaseRemoved, hremoved, hpass, Bool.not_true, Bool.false_eq_true, if_false, Bool.or_false]
    rw [hstays]
    exact hremoved

/-! ### A Signalling message that is handled at once -/

/-- The device with the message counted and its work admitted. -/
structure Admitted (i : Nat) (d d' : Dev) : Prop where
  rest : d'.rest = d.rest
  keeps : Keeps (workRegisters ++ [Dict.instSignallingRx i]) d d'
  counts : d'.get (Dict.instSignallingRx i) = min (d.get (Dict.instSignallingRx i) + 1) ((Dict.instSignallingRx i).modulus - 1)

theorem admitted_spend (d : Dev) {i : Nat} (hi : i < 8) (msgs hmac : Nat) : Admitted i d ((d.inc (Dict.instSignallingRx i)).spend 3 msgs hmac 0) := by
  have hspend := keeps_spend (d.inc (Dict.instSignallingRx i)) (show 3 < 5 by decide) msgs hmac 0
  refine ⟨(rest_spend _ _ _ _ _).trans (rest_inc d _), ?_, ?_⟩
  · exact (Keeps.inc (.refl _ d) (List.mem_append_right _ (List.mem_singleton.2 rfl))).trans (hspend.mono (List.subset_append_left _ _))
  · rw [hspend _ (by apply of_lt hi; decide), get_inc]

/-- The configuration's entries are neither counted up nor part of admitted work. -/
theorem Admitted.get {i : Nat} {d d' : Dev} (h : Admitted i d d') (hi : i < 8) {f : Nat → Entry}
    (hf : f ∈ [Dict.instAuthMode, Dict.instLogAnnounce, Dict.instLogSync, Dict.instLogDelayResp, Dict.instGrantMin, Dict.instGrantMax,
      Dict.instGrantsRefused]) : d'.get (f i) = d.get (f i) := by
  have apart : ∀ i < 8, ∀ e ∈ [Dict.instAuthMode, Dict.instLogAnnounce, Dict.instLogSync, Dict.instLogDelayResp, Dict.instGrantMin,
      Dict.instGrantMax, Dict.instGrantsRefused].map (· i), ∀ x ∈ workRegisters ++ [Dict.instSignallingRx i], x.addr ≠ e.addr := by decide
  exact h.keeps _ (apart i hi _ (List.mem_map_of_mem hf))

/-- Nor is it by a record that is written. -/
theorem get_of_clientChanges {i : Nat} {d d' : Dev} (h : Keeps [Hid.clientChanges] d d') (hi : i < 8) {f : Nat → Entry}
    (hf : f ∈ [Dict.instAuthMode, Dict.instLogAnnounce, Dict.instLogSync, Dict.instLogDelayResp, Dict.instGrantMin, Dict.instGrantMax,
      Dict.instGrantsRefused, Dict.instSignallingRx]) : d'.get (f i) = d.get (f i) := by
  have apart : ∀ i < 8, ∀ e ∈ [Dict.instAuthMode, Dict.instLogAnnounce, Dict.instLogSync, Dict.instLogDelayResp, Dict.instGrantMin,
      Dict.instGrantMax, Dict.instGrantsRefused, Dict.instSignallingRx].map (· i), ∀ x ∈ [Hid.clientChanges], x.addr ≠ e.addr := by decide
  exact h _ (apart i hi _ (List.mem_map_of_mem hf))

/-- A request that the frame has room for is decided on the record that the message is noted in (R435, R439). -/
theorem unicastRequest_now {d : Dev} {m : PtpRx} {u : UnicastTlv} {i : Nat} (hinst : d.instanceFor m = some i) (hserves : d.instServes i = true)
    (hmode : d.get (Dict.instMode i) = 1) (hport : d.get (Dict.portState m.rx.port) = 3) (hqueue : d.protoQueue = [])
    (hchanges : (d.inc (Dict.instSignallingRx i)).changesLeft = true)
    (hfits : (d.inc (Dict.instSignallingRx i)).fits ((d.inc (Dict.instSignallingRx i)).ptpWorkCost i (.request m [u])).1
      ((d.inc (Dict.instSignallingRx i)).ptpWorkCost i (.request m [u])).2 0 (d.inc (Dict.instSignallingRx i)).reserved = true)
    (hauth : d.get (Dict.instAuthMode i) = 0) :
    ∃ x, Admitted i d x ∧ d.unicastRequest m [u] = (x.noteSignalling i m false).decide1 i m false u := by
  have hadmitted := d.admitted_spend (instanceFor_lt hinst) ((d.inc (Dict.instSignallingRx i)).ptpWorkCost i (.request m [u])).1
    ((d.inc (Dict.instSignallingRx i)).ptpWorkCost i (.request m [u])).2
  refine ⟨_, hadmitted, ?_⟩
  have haccept := accept_unauthenticated m ((hadmitted.get (instanceFor_lt hinst) (f := Dict.instAuthMode) (by simp)).trans hauth)
  simp only [unicastRequest, hinst, hmode, if_true]
  rw [offerPtp_now hinst hserves hport hqueue hchanges hfits, doPtpWork, answerRequest, haccept]
  rfl

/-- A cancellation that the frame has room for ends the grant of the record that the message is noted in, and is acknowledged (R436). -/
theorem unicastCancel_now {d : Dev} {m : PtpRx} {i : Nat} {c : Client} (hinst : d.instanceFor m = some i) (hserves : d.instServes i = true)
    (hmode : d.get (Dict.instMode i) = 1) (hport : d.get (Dict.portState m.rx.port) = 3) (hqueue : d.protoQueue = [])
    (hchanges : (d.inc (Dict.instSignallingRx i)).changesLeft = true)
    (hfits : (d.inc (Dict.instSignallingRx i)).fits ((d.inc (Dict.instSignallingRx i)).ptpWorkCost i (.cancel m [11])).1
      ((d.inc (Dict.instSignallingRx i)).ptpWorkCost i (.cancel m [11])).2 0 (d.inc (Dict.instSignallingRx i)).reserved = true)
    (hauth : d.get (Dict.instAuthMode i) = 0) (hknown : d.lookup i m.rx.port m.transport m.source = some c) :
    ∃ x l, Admitted i d x ∧
      d.unicastCancel m [11] = (((x.putClient (noted m c)).countStash (some (noted m c))).endGrant c.slot 11).withSignals l ∧
      ∃ y ∈ l, ackCancelTlv 11 ∈ y.tlvs := by
  have hadmitted := d.admitted_spend (instanceFor_lt hinst) ((d.inc (Dict.instSignallingRx i)).ptpWorkCost i (.cancel m [11])).1
    ((d.inc (Dict.instSignallingRx i)).ptpWorkCost i (.cancel m [11])).2
  have haccept := accept_unauthenticated m ((hadmitted.get (instanceFor_lt hinst) (f := Dict.instAuthMode) (by simp)).trans hauth)
  have hnow : d.unicastCancel m [11] = (((d.inc (Dict.instSignallingRx i)).spend 3 ((d.inc (Dict.instSignallingRx i)).ptpWorkCost i (.cancel m [11])).1
      ((d.inc (Dict.instSignallingRx i)).ptpWorkCost i (.cancel m [11])).2 0).answerCancel i m [11]) := by
    simp only [unicastCancel, hinst, hmode, if_true]
    rw [offerPtp_now hinst hserves hport hqueue hchanges hfits, doPtpWork]
  generalize (d.inc (Dict.instSignallingRx i)).spend 3 _ _ 0 = x at hadmitted haccept hnow
  have hfound : x.lookup i m.rx.port m.transport m.source = some c := by
    rw [lookup_eq, clients_of_rest hadmitted.rest]
    exact hknown
  obtain ⟨l, hl, hy⟩ := signal_spec (((x.putClient (noted m c)).countStash (some (noted m c))).endGrant c.slot 11) i m.rx.port
    ((((x.putClient (noted m c)).countStash (some (noted m c))).endGrant c.slot 11).unicastRoute m.rx.port m.transport m.rx.mac m.source 12) m.identity
    (ackCancelTlv 11)
  refine ⟨x, l, hadmitted, ?_, hy⟩
  rw [hnow, ← hl, answerCancel, haccept]
  dsimp only
  rw [noteSignalling_known hfound, List.foldl_cons, List.foldl_nil, lookup_noted hfound]
  rfl

/-- The known client's Announce grant: its record holds it, its answer waits, and nothing else is written (R435, R439). -/
theorem announce_granted {d x : Dev} {m : PtpRx} {u : UnicastTlv} {i : Nat} {c : Client} (hi : i < 8) (hadmitted : Admitted i d x)
    (hknown : d.lookup i m.rx.port m.transport m.source = some c) (htype : u.type = 11) (hperiod : u.period = d.getI (Dict.instLogAnnounce i)) :
    let duration := max (d.get (Dict.instGrantMin i)) (min u.duration (d.get (Dict.instGrantMax i)))
    let d' := (x.noteSignalling i m false).decide1 i m false u
    announceGranted d m u duration c ∈ d'.clients ∧ (∃ y ∈ d'.signals, grantTlv u.type u.period duration ∈ y.tlvs) ∧
      d'.get (Dict.instSignallingRx i) = x.get (Dict.instSignallingRx i) ∧ d'.posted = d.posted ∧
      Keeps (workRegisters ++ [Dict.instSignallingRx i, Hid.stashHits]) d d' := by
  have hfound : x.lookup i m.rx.port m.transport m.source = some c := by
    rw [lookup_eq, clients_of_rest hadmitted.rest]
    exact hknown
  have hget : ∀ {f : Nat → Entry}, f ∈ [Dict.instAuthMode, Dict.instLogAnnounce, Dict.instLogSync, Dict.instLogDelayResp, Dict.instGrantMin,
      Dict.instGrantMax, Dict.instGrantsRefused] → (x.putClient (noted m c)).get (f i) = d.get (f i) := fun {f} hf =>
    (get_of_clientChanges (keeps_putClient x _) hi (List.mem_append_left [Dict.instSignallingRx] hf)).trans (hadmitted.get hi hf)
  have hbeyond : (x.putClient (noted m c)).beyond = d.beyond := (beyond_putClient x _).trans (beyond_of_rest hadmitted.rest)
  have hsecond : (x.putClient (noted m c)).second = d.second := by
    rw [second, view_of_beyond hbeyond, second]
  have hmember : noted m c ∈ (x.putClient (noted m c)).clients := by
    rw [clients_putClient]
    exact mem_replaced (List.mem_of_find?_eq_some hfound) rfl
  obtain ⟨l, r, hdecided, hanswer⟩ := decide1_announce (d := x.putClient (noted m c)) htype
    (by rw [hperiod, getI, getI, hget (f := Dict.instLogAnnounce) (by simp)]) (lookup_noted hfound)
  rw [hget (f := Dict.instGrantMin) (by simp), hget (f := Dict.instGrantMax) (by simp)] at hdecided hanswer
  intro duration d'
  have hd' : d' = _ := (congrArg (·.decide1 i m false u) (noteSignalling_known hfound)).trans hdecided
  have hgranted : announceGranted (x.putClient (noted m c)) m u duration (noted m c) = announceGranted d m u duration c := by
    unfold announceGranted
    rw [hsecond]
    rfl
  rw [hgranted] at hd'
  have hstash := (x.putClient (noted m c)).keeps_countStash (some (noted m c))
  have hput := ((x.putClient (noted m c)).countStash (some (noted m c))).keeps_putClient (announceGranted d m u duration c)
  have hsame : ∀ e, d'.get e = (((x.putClient (noted m c)).countStash (some (noted m c))).putClient (announceGranted d m u duration c)).get e := fun e => by
    rw [hd', get_withSignals, get_withRates]
  refine ⟨?_, ?_, ?_, ?_, fun e he => ?_⟩
  · rw [hd', clients_withSignals, clients_withRates, clients_putClient, clients_of_rest (rest_countStash _ _)]
    exact mem_replaced hmember rfl
  · rw [hd', signals_withSignals]
    exact hanswer
  · rw [hsame, get_of_clientChanges hput hi (f := Dict.instSignallingRx) (by simp), hstash _ (by apply of_lt hi; decide),
      get_of_clientChanges (keeps_putClient x _) hi (f := Dict.instSignallingRx) (by simp)]
  · refine posted_of_beyond ?_
    rw [hd', beyond_withSignals, beyond_withRates, beyond_putClient, beyond_of_rest (rest_countStash _ _), hbeyond]
  · have hwork : ∀ y ∈ workRegisters ++ [Dict.instSignallingRx i], y.addr ≠ e.addr := fun y hy => he y <|
      (List.mem_append.1 hy).elim (List.mem_append_left _) fun h => List.mem_append_right _ (List.mem_singleton.1 h ▸ .head _)
    have hchanges : ∀ y ∈ [Hid.clientChanges], y.addr ≠ e.addr := fun y hy =>
      he y (List.mem_append_left _ (List.mem_singleton.1 hy ▸ by decide))
    rw [hsame, hput e hchanges, hstash e fun y hy => he y (List.mem_append_right _ (List.mem_singleton.1 hy ▸ .tail _ (.head _))),
      keeps_putClient x _ e hchanges, hadmitted.keeps e hwork]

/-- The refused request: its answer waits with duration 0, counted, and the record of a known client has only the message noted (R435). -/
theorem request_refused {d x : Dev} {m : PtpRx} {u : UnicastTlv} {i : Nat} (hi : i < 8) (hadmitted : Admitted i d x) (hrange : d.periodOk i u = false) :
    let d' := (x.noteSignalling i m false).decide1 i m false u
    (∃ y ∈ d'.signals, grantTlv u.type u.period 0 ∈ y.tlvs) ∧ d'.clients = (x.noteSignalling i m false).clients ∧
      d'.get (Dict.instGrantsRefused i) = min (d.get (Dict.instGrantsRefused i) + 1) ((Dict.instGrantsRefused i).modulus - 1) ∧
      d'.posted = d.posted ∧ Keeps (workRegisters ++ [Dict.instSignallingRx i, Dict.instGrantsRefused i]) d d' := by
  have hnote := x.keeps_noteSignalling i m
  have hget : ∀ {f : Nat → Entry}, f ∈ [Dict.instAuthMode, Dict.instLogAnnounce, Dict.instLogSync, Dict.instLogDelayResp, Dict.instGrantMin,
      Dict.instGrantMax, Dict.instGrantsRefused] → (x.noteSignalling i m false).get (f i) = d.get (f i) := fun {f} hf =>
    (get_of_clientChanges hnote hi (List.mem_append_left [Dict.instSignallingRx] hf)).trans (hadmitted.get hi hf)
  have hrange' : (x.noteSignalling i m false).periodOk i u = false := by
    have hgetI : ∀ {f : Nat → Entry}, f ∈ [Dict.instAuthMode, Dict.instLogAnnounce, Dict.instLogSync, Dict.instLogDelayResp, Dict.instGrantMin,
        Dict.instGrantMax, Dict.instGrantsRefused] → (x.noteSignalling i m false).getI (f i) = d.getI (f i) := fun hf => by
      rw [getI, getI, hget hf]
    refine Eq.trans ?_ hrange
    unfold periodOk
    rw [hgetI (f := Dict.instLogAnnounce) (by simp), hgetI (f := Dict.instLogSync) (by simp), hgetI (f := Dict.instLogDelayResp) (by simp)]
  obtain ⟨l, hdecided, hanswer⟩ := decide1_outOfRange m false hrange'
  intro d'
  have hd' : d' = _ := hdecided
  refine ⟨?_, ?_, ?_, ?_, fun e he => ?_⟩
  · rw [hd', signals_withSignals]
    exact hanswer
  · rw [hd', clients_withSignals, clients_of_rest (rest_inc _ _)]
  · rw [hd', get_withSignals, get_inc, hget (f := Dict.instGrantsRefused) (by simp)]
  · refine posted_of_beyond ?_
    rw [hd', beyond_withSignals, beyond_of_rest (rest_inc _ _), beyond_noteSignalling, beyond_of_rest hadmitted.rest]
  · have hwork : ∀ y ∈ workRegisters ++ [Dict.instSignallingRx i], y.addr ≠ e.addr := fun y hy => he y <|
      (List.mem_append.1 hy).elim (List.mem_append_left _) fun h => List.mem_append_right _ (List.mem_singleton.1 h ▸ .head _)
    rw [hd', get_withSignals, get_inc_ne _ _ _ (he _ (List.mem_append_right _ (.tail _ (.head _)))),
      hnote e fun y hy => he y (List.mem_append_left _ (List.mem_singleton.1 hy ▸ by decide)), hadmitted.keeps e hwork]

/-- The cancelled Announce grant of a record that holds another: the record goes on without it (R436). -/
theorem announce_cancelled {d x : Dev} {m : PtpRx} {i : Nat} {c : Client} (l : List Signalling) (hadmitted : Admitted i d x)
    (hslot : (d.clients.find? fun y => y.slot == c.slot) = some c)
    (hsync : c.logSync ≠ noGrant) :
    let d' := (((x.putClient (noted m c)).countStash (some (noted m c))).endGrant c.slot 11).withSignals l
    announceEnded (noted m c) ∈ d'.clients ∧ d'.posted = d.posted ∧ Keeps (workRegisters ++ [Dict.instSignallingRx i, Hid.stashHits]) d d' := by
  have hrest := (x.putClient (noted m c)).rest_countStash (some (noted m c))
  have hclients : ((x.putClient (noted m c)).countStash (some (noted m c))).clients = replaced (noted m c) d.clients := by
    rw [clients_of_rest hrest, clients_putClient, clients_of_rest hadmitted.rest]
  have hfirst : (((x.putClient (noted m c)).countStash (some (noted m c))).clients.find? fun y => y.slot == c.slot) = some (noted m c) := by
    rw [hclients]
    exact find_replaced hslot rfl (beq_iff_eq.2 rfl)
  have hbusy : (announceEnded (noted m c)).idle = false := by
    have hne : ((noted m c).logSync == noGrant) = false := beq_eq_false_iff_ne.2 hsync
    rw [idle_announceEnded, hne, Bool.false_and]
  have hend : (((x.putClient (noted m c)).countStash (some (noted m c))).endGrant c.slot 11) =
      ((x.putClient (noted m c)).countStash (some (noted m c))).putClient (announceEnded (noted m c)) := by
    rw [endGrant_announce hfirst, hbusy]
    rfl
  intro d'
  have hd' : d' = (((x.putClient (noted m c)).countStash (some (noted m c))).putClient (announceEnded (noted m c))).withSignals l :=
    congrArg (·.withSignals l) hend
  refine ⟨?_, ?_, fun e he => ?_⟩
  · rw [hd', clients_withSignals, clients_putClient, hclients]
    exact mem_replaced (mem_replaced (List.mem_of_find?_eq_some hslot) rfl) rfl
  · refine posted_of_beyond ?_
    rw [hd', beyond_withSignals, beyond_putClient, beyond_of_rest hrest, beyond_putClient, beyond_of_rest hadmitted.rest]
  · have hwork : ∀ y ∈ workRegisters ++ [Dict.instSignallingRx i], y.addr ≠ e.addr := fun y hy => he y <|
      (List.mem_append.1 hy).elim (List.mem_append_left _) fun h => List.mem_append_right _ (List.mem_singleton.1 h ▸ .head _)
    have hchanges : ∀ y ∈ [Hid.clientChanges], y.addr ≠ e.addr := fun y hy =>
      he y (List.mem_append_left _ (List.mem_singleton.1 hy ▸ by decide))
    rw [hd', get_withSignals, keeps_putClient _ _ e hchanges,
      keeps_countStash _ _ e fun y hy => he y (List.mem_append_right _ (List.mem_singleton.1 hy ▸ .tail _ (.head _))),
      keeps_putClient x _ e hchanges, hadmitted.keeps e hwork]

end Dev

/-- Settles O49: a grant is a change of one record, which is found again by its key and by its slot. -/
theorem unicastGrantsBeginAndEnd : Obligations.UnicastGrantsBeginAndEnd := by
  unfold Obligations.UnicastGrantsBeginAndEnd
  refine ⟨?_, ?_, ?_, ?_, ?_, ?_⟩
  · intro s m u i hnet hproto d d' cost hinst hserves hmode hport hqueue hchanges hfits hauth
    have hi := Dev.instanceFor_lt hinst
    obtain ⟨x, hadmitted, hnow⟩ := Dev.unicastRequest_now (d := d) hinst hserves hmode hport hqueue hchanges hfits hauth
    obtain ⟨t, hexec, hdev, hstep⟩ := State.duringAt_next (Bool.and_eq_true_iff.2 ⟨hnet, hproto⟩) (s.arrival m.rx) (·.unicastRequest m [u])
    have hbefore : t.dev = (x.noteSignalling i m false).decide1 i m false u := hdev.trans hnow
    refine ⟨?_, fun hrange => ?_⟩
    · intro c hknown htype hperiod duration
      obtain ⟨hgranted, ⟨y, hy, htlv⟩, hcount, hposted, hkeeps⟩ := Dev.announce_granted (d := d) hi hadmitted hknown htype hperiod
      rw [← hbefore] at hgranted hy hcount hposted hkeeps
      exact ⟨t, _, y, hexec, hgranted, rfl, rfl, rfl, rfl, hy, htlv, hcount.trans hadmitted.counts, hposted, hstep.onlyRegisters hkeeps⟩
    · obtain ⟨⟨y, hy, htlv⟩, hclients, hcount, hposted, hkeeps⟩ := Dev.request_refused (d := d) (m := m) (u := u) hi hadmitted hrange
      rw [← hbefore] at hy hclients hcount hposted hkeeps
      refine ⟨t, y, hexec, hy, fun hunknown => ?_, fun c hknown => ?_, htlv, hcount, hposted, hstep.onlyRegisters hkeeps⟩
      · have hnone : x.lookup i m.rx.port m.transport m.source = none := by
          rw [Dev.lookup_eq, Dev.clients_of_rest hadmitted.rest]
          exact hunknown
        rw [hclients, Dev.noteSignalling_unknown hnone, Dev.clients_of_rest hadmitted.rest]
        rfl
      · have hfound : x.lookup i m.rx.port m.transport m.source = some c := by
          rw [Dev.lookup_eq, Dev.clients_of_rest hadmitted.rest]
          exact hknown
        refine ⟨Dev.noted m c, ?_, rfl, rfl, rfl, rfl, rfl⟩
        rw [hclients, Dev.noteSignalling_known hfound, Dev.clients_putClient]
        exact Dev.mem_replaced (List.mem_of_find?_eq_some hfound) rfl
  · intro s m i c hnet hproto d d' cost hinst hserves hmode hport hqueue hchanges hfits hauth hknown hslot hsync
    obtain ⟨x, l, hadmitted, hnow, y, hy, htlv⟩ := Dev.unicastCancel_now (d := d) hinst hserves hmode hport hqueue hchanges hfits hauth hknown
    obtain ⟨t, hexec, hdev, hstep⟩ := State.duringAt_next (Bool.and_eq_true_iff.2 ⟨hnet, hproto⟩) (s.arrival m.rx) (·.unicastCancel m [11])
    have hbefore := hdev.trans hnow
    obtain ⟨hended, hposted, hkeeps⟩ := Dev.announce_cancelled (d := d) (m := m) l hadmitted hslot hsync
    rw [← hbefore] at hended hposted hkeeps
    exact ⟨t, _, y, hexec, hended, rfl, rfl, rfl, by rw [hbefore]; exact hy, htlv, hposted, hstep.onlyRegisters hkeeps⟩
  · intro s slot c hserves hfind hover
    obtain ⟨t, hexec, hdev, hstep⟩ := State.during_next hserves (·.grantLapse slot 11)
    have hlapse : s.met.grantLapse slot 11 = s.met.endGrant slot 11 := by
      have hfind' : (s.met.clients.find? fun y => y.slot == slot) = some c := hfind
      simp only [Dev.grantLapse, hfind', hover, Bool.and_true]
      rfl
    have hslot : c.slot = slot := beq_iff_eq.1 (List.find?_some hfind :)
    rw [hlapse, Dev.endGrant_announce (d := s.met) hfind, Dev.idle_announceEnded] at hdev
    refine ⟨t, hexec, ?_, hstep.onlyRegisters ?_, fun hsync hresp y hy => ?_, fun hsync => ?_⟩
    · refine (Dev.posted_of_beyond (d := s.met) ?_ : t.dev.posted = _)
      rw [hdev]
      split
      · exact Dev.beyond_freeClient _ _
      · exact Dev.beyond_putClient _ _
    · rw [hdev]
      split
      · exact s.met.keeps_freeClient slot
      · exact (s.met.keeps_putClient _).mono fun _ h => List.mem_singleton.1 h ▸ .head _
    · rw [hsync, hresp] at hdev
      rw [hdev] at hy
      exact Dev.slot_of_mem_freeClient hy
    · have hne : (c.logSync == noGrant) = false := beq_eq_false_iff_ne.2 hsync
      rw [hdev, hne, Bool.false_and, if_neg Bool.false_ne_true, Dev.clients_putClient]
      exact Dev.mem_replaced (List.mem_of_find?_eq_some hfind) rfl
  · intro s h v x hadmits
    obtain ⟨t, hexec, haccepted⟩ := State.accepted_of_isCommanded hadmits (by decide) (by decide)
    refine ⟨t, hexec, haccepted, fun d c hknown y hy => ?_⟩
    rw [Dev.applyGroup_clientDelete, Dev.clientDelete_known hknown] at hy
    exact Dev.slot_of_mem_freeClient hy
  · intro s h v x hadmits
    obtain ⟨t, hexec, haccepted⟩ := State.accepted_of_isCommanded hadmits (by decide) (by decide)
    refine ⟨t, hexec, haccepted, fun d hlane hremoved => ?_⟩
    rw [Dev.applyGroup_cryptoLaneRelease d (by omega)]
    exact d.removed_releaseRemoved_hmac hlane hremoved
  · intro s h v x hadmits
    obtain ⟨t, hexec, haccepted⟩ := State.accepted_of_isCommanded hadmits (by decide) (by decide)
    refine ⟨t, hexec, haccepted, fun d => ?_⟩
    rw [Dev.applyGroup_protoCountersClear]
    exact d.clearProtoCounters_spec

end Sys2Proof.Machine
end

section
/-!
PROOF. Notches, and the material of the navigation message's authentication (O32).
-/
namespace Sys2Proof.Machine
namespace Dev

/-! ### Notches -/

/-- An integer from 0 up to half the modulus is its own code in a signed entry. -/
theorem ofInt_of_nonneg {e : Entry} {i : Int} (hsigned : e.ty.signed = true) (hlow : 0 ≤ i) (hhigh : i < (e.modulus / 2 : Int)) :
    e.ofInt i = i.toNat := by
  have hclamp : max (-(e.modulus / 2 : Int)) (min i ((e.modulus / 2 : Int) - 1)) = i := by omega
  rw [Entry.ofInt, hsigned, if_pos rfl, hclamp, Int.emod_eq_of_lt hlow (by omega)]

theorem notch_modulus (b k : Nat) : (Dict.gsNotchCentre b k).modulus = 2 ^ 32 := rfl

/-- The first notch, idle, takes the offset (R324). -/
theorem notchEngage_first {d : Dev} {b : Nat} (hz : Int) (hmode : d.get Dict.gnssInterferenceMode = 1)
    (hidle : d.get (Dict.gsNotchCentre b 0) = 0x7FFFFFFF) :
    d.notchEngage b hz = (((d.setI (Dict.gsNotchCentre b 0) hz).inc (Dict.gsNotchActive b)).post 71
      [(1, b), (4, ((d.setI (Dict.gsNotchCentre b 0) hz).inc (Dict.gsNotchActive b)).get (Dict.gsNotchCentre b 0))]) := by
  have hfirst : (d.getI (Dict.gsNotchCentre b 0) == 0x7FFFFFFF) = true := by
    rw [getI, hidle]
    rfl
  have hfree : ((List.range 4).find? fun k => d.getI (Dict.gsNotchCentre b k) == 0x7FFFFFFF) = some 0 := by
    rw [show List.range 4 = 0 :: [1, 2, 3] from rfl, List.find?_cons, hfirst]
  simp only [notchEngage, hfree, hmode, true_or, if_true]
  rfl

/-- A notch in use is freed (R324). -/
theorem notchDisengage_used {d : Dev} {b k : Nat} (hk : k < 4) (hused : d.getI (Dict.gsNotchCentre b k) ≠ 0x7FFFFFFF) :
    d.notchDisengage b k = ((d.clear (Dict.gsNotchCentre b k)).set (Dict.gsNotchActive b)
      (d.get (Dict.gsNotchActive b) - 1)).post 71 [(1, b), (4, d.get (Dict.gsNotchCentre b k))] := by
  rw [notchDisengage, if_neg (not_or.2 ⟨by omega, hused⟩)]

/-! ### Tags -/

/-- The data that are authenticated, in place of those before. -/
def withOsnma (d : Dev) (l : List OsnmaData) : Dev := { d with osnma := l }

/-- The public key of the navigation message in place of the one before. -/
def withOsnmaKey (d : Dev) (k : Option (Nat × List Nat)) : Dev := { d with osnmaKey := k }

theorem get_withOsnma (d : Dev) (l : List OsnmaData) (e : Entry) : (d.withOsnma l).get e = d.get e := (rfl)
theorem get_withOsnmaKey (d : Dev) (k : Option (Nat × List Nat)) (e : Entry) : (d.withOsnmaKey k).get e = d.get e := (rfl)
theorem osnmaKey_withOsnmaKey (d : Dev) (k : Option (Nat × List Nat)) : (d.withOsnmaKey k).osnmaKey = k := (rfl)
theorem posted_withOsnmaKey (d : Dev) (k : Option (Nat × List Nat)) : (d.withOsnmaKey k).posted = d.posted := (rfl)

theorem Keeps.withOsnma {es : List Entry} {d d' : Dev} (h : Keeps es d d') (l : List OsnmaData) : Keeps es d (d'.withOsnma l) := fun e he =>
  (get_withOsnma d' l e).trans (h e he)

theorem Keeps.withOsnmaKey {es : List Entry} {d d' : Dev} (h : Keeps es d d') (k : Option (Nat × List Nat)) : Keeps es d (d'.withOsnmaKey k) :=
  fun e he => (get_withOsnmaKey d' k e).trans (h e he)

/-- A revoked number is marked (R319). -/
def markRevoked (e : Entry) (x : Option Nat) (d : Dev) : Dev :=
  match x with
  | some k => d.set e (setBit (d.get e) k)
  | none => d

theorem Keeps.markRevoked {es : List Entry} {d d' : Dev} (h : Keeps es d d') {e : Entry} (he : e ∈ es) (x : Option Nat) :
    Keeps es d (markRevoked e x d') := by
  cases x with
  | none => exact h
  | some k => exact h.set he _

/-- A held public key that is revoked is dropped (R319). -/
def dropRevoked (d : Dev) : Dev :=
  match d.osnmaKey with
  | some k => if bit (d.get Hid.revokedKeys) k.1 then d.withOsnmaKey none else d
  | none => d

theorem keeps_dropRevoked (d : Dev) : Keeps [] d d.dropRevoked := by
  unfold dropRevoked
  split
  · exact .ite ((Keeps.refl _ d).withOsnmaKey _) (.refl _ d)
  · exact .refl _ d

theorem takeRevocation_eq (d : Dev) (t : OsnmaTag) :
    d.takeRevocation t = (markRevoked Hid.revokedChains t.revokedChain (markRevoked Hid.revokedKeys t.revokedKey d)).dropRevoked.withOsnma
      ((markRevoked Hid.revokedChains t.revokedChain (markRevoked Hid.revokedKeys t.revokedKey d)).dropRevoked.osnma.filter fun o =>
        !bit ((markRevoked Hid.revokedChains t.revokedChain (markRevoked Hid.revokedKeys t.revokedKey d)).dropRevoked.get Hid.revokedKeys) o.keyId &&
          !bit ((markRevoked Hid.revokedChains t.revokedChain (markRevoked Hid.revokedKeys t.revokedKey d)).dropRevoked.get Hid.revokedChains)
            o.chainId) := rfl

theorem keeps_takeRevocation (d : Dev) (t : OsnmaTag) : Keeps [Hid.revokedKeys, Hid.revokedChains] d (d.takeRevocation t) := by
  rw [takeRevocation_eq]
  exact .withOsnma (.trans (.markRevoked (.markRevoked (.refl _ d) (by simp) _) (by simp) _) ((keeps_dropRevoked _).mono (List.nil_subset _))) _

/-- What the count of authenticated satellites writes (R320). -/
def countRegisters : List Entry := [Dict.gnssOsnmaAuthSats, Dict.gnssOsnmaState, Hid.osnmaHad]

theorem keeps_countAuthenticated (d : Dev) : Keeps countRegisters d d.countAuthenticated := by
  have hset (v : Nat) : Keeps countRegisters d ((d.set Dict.gnssOsnmaAuthSats v).showOsnma) :=
    (Keeps.set (.refl _ d) (by simp [countRegisters]) _).trans ((keeps_showOsnma _).mono (by simp [countRegisters]))
  unfold countAuthenticated
  exact .ite (hset _) (.post (.setB (hset _) (by simp [countRegisters]) _) _ _)

/-- The identifiers of a tag are shown, with the status of its message (R318, R319). -/
def identified (d : Dev) (t : OsnmaTag) : Dev :=
  ((d.set Hid.osnmaStatus t.status).setB Hid.osnmaBad (!t.supported)).set Dict.gnssOsnmaKeyId t.keyId |>.set Dict.gnssOsnmaChainId t.chainId

/-- What a tag writes beside its identifiers. -/
def tagRegisters : List Entry := [Dict.gnssOsnmaFailCount] ++ countRegisters ++ [Hid.revokedKeys, Hid.revokedChains]

/-- The tag counts toward its data, or discards them, under a public key and a trusted time (R319, R320). -/
def judgeTag (d : Dev) (t : OsnmaTag) (allowed : Bool) : Dev :=
  match d.osnmaPublic with
  | none => d.countAuthenticated
  | some pub =>
    if !allowed || !t.supported || !d.osnmaTimeHolds then d.countAuthenticated
    else
      let mine (o : OsnmaData) : Bool := o.prn == t.prn && o.adkd == t.adkd
      let old := d.osnma.find? fun o => mine o && o.data == t.data
      let rest := d.osnma.filter fun o => !mine o
      if Config.osnmaTag pub t.teslaKey t.prn t.adkd t.data t.tag t.bits then
        let o := match old with
          | some o => { o with bits := o.bits + t.bits }
          | none => ⟨t.prn, t.adkd, t.data, t.bits, false, t.keyId, t.chainId⟩
        (d.withOsnma (o :: rest)).countAuthenticated
      else
        (((d.withOsnma (⟨t.prn, t.adkd, t.data, 0, true, t.keyId, t.chainId⟩ :: rest)).inc Dict.gnssOsnmaFailCount).post 74
          [(1, t.prn), (1, t.adkd)]).countAuthenticated

theorem keeps_judgeTag (d : Dev) (t : OsnmaTag) (allowed : Bool) : Keeps tagRegisters d (d.judgeTag t allowed) := by
  have hcounted : ∀ x : Dev, Keeps tagRegisters d x → Keeps tagRegisters d x.countAuthenticated := fun x hx =>
    hx.trans ((keeps_countAuthenticated x).mono (by decide))
  unfold judgeTag
  split
  · exact hcounted _ (.refl _ d)
  · exact .ite (hcounted _ (.refl _ d))
      (.ite (hcounted _ ((Keeps.refl _ d).withOsnma _)) (hcounted _ (.post (.inc ((Keeps.refl _ d).withOsnma _) (by decide)) _ _)))

theorem osnmaVerify_eq {d : Dev} (t : OsnmaTag) (hstate : ¬(d.get Dict.gnssState = 0 ∨ d.get Dict.gnssState = 6)) :
    ∃ allowed, d.osnmaVerify t = (if t.status = 3 ∨ (!t.supported) = true ∨ (t.status = 1 ∧ (!((d.identified t).takeRevocation t).is Dict.gnssOsnmaAcceptTest) = true)
      then ((d.identified t).takeRevocation t).withOsnma [] else (d.identified t).takeRevocation t).judgeTag t allowed := by
  rw [osnmaVerify, if_neg hstate]
  exact ⟨_, rfl⟩

/-- A tag writes its identifiers, and what follows it writes others (R318 to R320). -/
theorem keeps_osnmaVerify {d : Dev} (t : OsnmaTag) (hstate : ¬(d.get Dict.gnssState = 0 ∨ d.get Dict.gnssState = 6)) :
    Keeps tagRegisters (d.identified t) (d.osnmaVerify t) := by
  have hrevoked := ((d.identified t).keeps_takeRevocation t).mono (show _ ⊆ tagRegisters by decide)
  obtain ⟨allowed, htag⟩ := osnmaVerify_eq t hstate
  rw [htag]
  exact (Keeps.ite (hrevoked.withOsnma []) hrevoked).trans (keeps_judgeTag _ t allowed)

theorem keeps_identified (d : Dev) (t : OsnmaTag) :
    Keeps [Hid.osnmaStatus, Hid.osnmaBad, Dict.gnssOsnmaKeyId, Dict.gnssOsnmaChainId] d (d.identified t) := by
  unfold identified
  exact .set (.set (.setB (.set (.refl _ d) (by simp) _) (by simp) _) (by simp) _) (by simp) _

/-! ### The public key -/

theorem keeps_showKey (d : Dev) (i : Nat) : Keeps (keyRegisters i) d (d.showKey i) := by
  unfold showKey
  dsimp only
  split
  · refine .set (.set (.set (.set (.set (.set (.set (.ite (.set (.set (.set (.set (.refl _ d) ?_ _) ?_ _) ?_ _) ?_ _) (.set (.set (.set (.refl _ d) ?_ _) ?_ _)
      ?_ _)) ?_ _) ?_ _) ?_ _) ?_ _) ?_ _) ?_ _) ?_ _ <;> simp [keyRegisters]
  · exact .clearAll (.refl _ d) (by simp [keyRegisters])

theorem posted_showKey (d : Dev) (i : Nat) : (d.showKey i).posted = d.posted := by
  unfold showKey
  dsimp only
  split
  · simp only [posted_set]
    split <;> simp only [posted_set]
  · exact of_rest (g := Dev.posted) (rest_clearAll d _)

/-- The stored keys in place of those before. -/
def withKeys (d : Dev) (l : List KeyRec) : Dev := { d with keys := l }

theorem get_withKeys (d : Dev) (l : List KeyRec) (e : Entry) : (d.withKeys l).get e = d.get e := (rfl)
theorem posted_withKeys (d : Dev) (l : List KeyRec) : (d.withKeys l).posted = d.posted := (rfl)

theorem putKey_eq (d : Dev) (k : KeyRec) : d.putKey k = (d.withKeys (k :: d.keys.filter fun x => x.index != k.index)).showKey k.index := rfl

/-- A use of a stored key without a limit writes the entries of that key, and presents nothing (R489). -/
theorem countUse_unlimited {d : Dev} {i : Nat} {k : KeyRec} (hi : i < 0x8000) (hkey : d.key i = some k) (hlimit : (d.nodeUse i).2.2.1 = 0) :
    Keeps (keyRegisters i) d (d.countUse i) ∧ (d.countUse i).posted = d.posted := by
  have hindex : k.index = i := beq_iff_eq.1 (List.find?_some hkey :)
  have hput : d.countUse i = d.putKey { k with uses := k.uses + 1 } := by
    unfold countUse
    simp only [if_pos hi, hkey, hlimit, ne_eq, not_true, false_and, if_false]
  rw [hput, putKey_eq]
  dsimp only
  rw [hindex]
  exact ⟨fun e he => (keeps_showKey _ i e he).trans (get_withKeys d _ e), (posted_showKey _ i).trans (posted_withKeys d _)⟩

/-- A use of a usable node that serves the use and need not wait (R489). -/
theorem dispatch_usable {d : Dev} {node usage : Nat} (husable : d.nodeUsable node = true) (hbit : bit (d.nodeUse node).2.1 usage = true)
    (hwait : d.mustWait node = false) : d.dispatch node usage = (d.countUse node, .key (d.nodeMaterial node)) := by
  simp only [dispatch, husable, hbit, hwait, Bool.not_true, Bool.false_eq_true, if_false]

/-- A public key is held where its proof verifies against the stored root (R319). -/
theorem dsmPkr_usable {d : Dev} (keyId : Nat) (material proof : List Nat) (hkey : (d.key 7).isSome = true) (husable : d.nodeUsable 7 = true)
    (hbit : bit (d.nodeUse 7).2.1 6 = true) (hwait : d.mustWait 7 = false) :
    d.dsmPkr keyId material proof = if Config.merkleProof (octetsOf 32 (d.nodeMaterial 7)) keyId material proof = true then
      (((d.countUse 7).withOsnmaKey (some (keyId, material))).set Dict.gnssOsnmaKeyId keyId).showOsnma else d.countUse 7 := by
  have hsome : ¬((d.key 7).isNone = true) := by
    rw [Option.isNone_iff_eq_none]
    intro hnone
    rw [hnone] at hkey
    cases hkey
  rw [dsmPkr, if_neg hsome, dispatch_usable husable hbit hwait]
  rfl

theorem osnmaKey_countUse (d : Dev) (node : Nat) : (d.countUse node).osnmaKey = d.osnmaKey := (congrArg Dev.osnmaKey (core_countUse d node) :)

theorem osnmaKey_set (d : Dev) (e : Entry) (v : Nat) : (d.set e v).osnmaKey = d.osnmaKey := (rfl)

theorem osnmaKey_showOsnma (d : Dev) : d.showOsnma.osnmaKey = d.osnmaKey := by
  unfold showOsnma
  exact osnmaKey_set d _ _

theorem posted_showOsnma (d : Dev) : d.showOsnma.posted = d.posted := by
  unfold showOsnma
  exact posted_set d _ _

/-! ### The trusted time -/

/-- While a trusted reference is followed in Locked, the trusted time is the timescale's bound (R321). -/
theorem trustedSecond_followed {d : Dev} (hselected : d.get Dict.selectedRef = 16) (hauth : d.is (Hid.refAuth 16) = true) (hstate : d.state = 3)
    (hbound : d.get Dict.boundTimescale < 0xFFFFFFFF) :
    d.trustedSecond = (((d.set Hid.lastRef 16).setB Hid.trustKnown true).set Hid.trustNs ((d.get Dict.boundTimescale + 999) / 1000)).watchTrust := by
  have hlast : (d.set Hid.lastRef 16).get Hid.lastRef = 16 := get_lt_of_set _ _ (by decide)
  have hkeeps : ∀ e : Entry, Hid.lastRef.addr ≠ e.addr → (d.set Hid.lastRef 16).get e = d.get e := fun e he => get_set_ne _ _ _ _ he
  have hstate' : (d.set Hid.lastRef 16).state = 3 := by
    rw [state, hkeeps _ (by decide)]
    exact hstate
  have hauth' : (d.set Hid.lastRef 16).is (Hid.refAuth 16) = true := by
    rw [is, hkeeps _ (by decide)]
    exact hauth
  have htrust : (d.set Hid.lastRef 16).trustFromTimescale = true := by
    have hne : (d.get Dict.boundTimescale != unbounded) = true := bne_iff_ne.2 (Nat.ne_of_lt hbound)
    rw [trustFromTimescale, hlast, hkeeps _ (by decide), hne, hstate', hauth']
    rfl
  unfold trustedSecond
  rw [if_pos (show d.get Dict.selectedRef < 18 by omega), hselected]
  dsimp only
  rw [if_pos htrust, hkeeps _ (by decide)]

end Dev

/-- Settles O32: what each event writes of its own stands after what it shows and counts. -/
theorem notchesAndAuthenticationMaterial : Obligations.NotchesAndAuthenticationMaterial := by
  unfold Obligations.NotchesAndAuthenticationMaterial
  refine ⟨?_, ?_, ?_, ?_, ?_⟩
  · intro s b hz hb hserves hmode hidle hlow hhigh
    obtain ⟨t, hexec, hdev, hstep⟩ := State.during_next hserves (·.notchEngage b hz)
    rw [Dev.notchEngage_first (d := s.met) hz hmode hidle] at hdev
    have hcode : (Dict.gsNotchCentre b 0).ofInt hz = hz.toNat := Dev.ofInt_of_nonneg rfl hlow (by rw [Dev.notch_modulus]; omega)
    have hcentre : ((s.met.setI (Dict.gsNotchCentre b 0) hz).inc (Dict.gsNotchActive b)).get (Dict.gsNotchCentre b 0) = hz.toNat := by
      rw [Dev.get_inc_ne _ _ _ (by apply of_lt hb; decide), Dev.get_setI_self, hcode]
    refine ⟨t, hexec, ?_, ?_, ?_, hstep.onlyRegisters ?_⟩
    · rw [hdev, Dev.getI, Dev.get_post, hcentre, Entry.toInt, Dev.notch_modulus, if_neg]
      · omega
      · rw [Bool.and_eq_true, decide_eq_true_eq]
        omega
    · rw [Counts, hdev, Dev.get_post, Dev.get_inc, Dev.get_setI_ne _ _ _ _ (by apply of_lt hb; decide)]
      rfl
    · rw [Presents, hdev, hcentre, Dev.posted_post, Dev.posted_inc, Dev.posted_setI]
      rfl
    · rw [hdev]
      exact .post (.inc (.setI (.refl _ s.met) (by simp) _) (by simp)) _ _
  · intro s b k hb hk hserves hused
    obtain ⟨t, hexec, hdev, hstep⟩ := State.during_next hserves (·.notchDisengage b k)
    rw [Dev.notchDisengage_used (d := s.met) hk hused] at hdev
    refine ⟨t, hexec, ?_, ?_, hstep.onlyRegisters ?_⟩
    · rw [hdev, Dev.get_post, Dev.get_set_ne _ _ _ _ (by apply of_lt₂ hb hk; decide), Dev.get_clear_self]
      rfl
    · rw [Presents, hdev, Dev.posted_post, Dev.of_rest (g := Dev.posted) ((Dev.rest_set _ _ _).trans (Dev.rest_clear s.met _))]
      rfl
    · rw [hdev]
      exact .post (.set (.clear (.refl _ s.met) (by simp)) (by simp) _) _ _
  · intro s tag hserves hstate hkey hchain
    obtain ⟨t, hexec, hdev, hstep⟩ := State.during_next hserves (·.osnmaVerify tag)
    have hstate' : s.met.get Dict.gnssState = 4 := hstate
    have htag := Dev.keeps_osnmaVerify (d := s.met) tag (by omega)
    rw [← hdev] at htag
    refine ⟨t, hexec, ?_, ?_, hstep.onlyRegisters (((s.met.keeps_identified tag).mono (by decide)).trans (htag.mono (by decide)))⟩
    · rw [htag _ (by decide), Dev.identified, Dev.get_set_ne _ _ _ _ (by decide)]
      exact Dev.get_lt_of_set _ _ hkey
    · rw [htag _ (by decide)]
      exact Dev.get_lt_of_set _ _ hchain
  · intro s keyId material proof hserves husable hkey hbit hwait
    obtain ⟨t, hexec, hdev, hstep⟩ := State.during_next hserves (·.dsmPkr keyId material proof)
    rw [Dev.dsmPkr_usable (d := s.met) keyId material proof hkey husable hbit hwait] at hdev
    have hmaterial : s.met.nodeMaterial 7 = s.dev.nodeMaterial 7 := rfl
    rw [hmaterial] at hdev
    refine ⟨t, hexec, ?_, hstep.deviceOnly, fun hlimit => ?_⟩
    · rw [hdev]
      split
      · rw [Dev.osnmaKey_showOsnma, Dev.osnmaKey_set, Dev.osnmaKey_withOsnmaKey]
      · exact Dev.osnmaKey_countUse s.met 7
    · obtain ⟨k, hk⟩ := Option.isSome_iff_exists.1 hkey
      obtain ⟨hkeeps, hposted⟩ := Dev.countUse_unlimited (d := s.met) (by decide) hk hlimit
      have hkeeps' : Dev.Keeps (keyRegisters 7 ++ [Dict.gnssOsnmaKeyId, Dict.gnssOsnmaState]) s.met (s.met.countUse 7) :=
        hkeeps.mono (List.subset_append_left _ _)
      refine ⟨?_, hstep.onlyRegisters ?_⟩
      · rw [PresentsNone, hdev]
        split
        · rw [Dev.posted_showOsnma, Dev.posted_set, Dev.posted_withOsnmaKey, hposted]
          rfl
        · exact hposted
      · rw [hdev]
        split
        · exact ((hkeeps'.withOsnmaKey _).set (List.mem_append_right _ (by simp)) _).trans ((Dev.keeps_showOsnma _).mono (by simp))
        · exact hkeeps'
  · intro s hserves hselected hauth hstate hbound
    obtain ⟨t, hexec, hdev, hstep⟩ := State.during_next hserves (·.trustedSecond)
    rw [Dev.trustedSecond_followed (d := s.met) hselected hauth hstate hbound] at hdev
    generalize hset : ((s.met.set Hid.lastRef 16).setB Hid.trustKnown true).set Hid.trustNs ((s.met.get Dict.boundTimescale + 999) / 1000) = d at hdev
    have hwatch := d.keeps_watchTrust
    rw [← hdev] at hwatch
    refine ⟨t, hexec, ?_, ?_, hstep.onlyRegisters (.trans (d' := d) ?_ (hwatch.mono (by simp)))⟩
    · rw [hwatch _ (by decide), ← hset, Dev.get_set_ne _ _ _ _ (by decide), Dev.get_setB_self]
      rfl
    · rw [hwatch _ (by decide), ← hset]
      exact Dev.get_lt_of_set _ _ (Nat.lt_of_le_of_lt (Nat.div_le_self _ _) (show s.dev.get Dict.boundTimescale + 999 < 256 ^ 8 by omega))
    · rw [← hset]
      exact .set (.setB (.set (.refl _ s.met) (by simp) _) (by simp) _) (by simp) _

end Sys2Proof.Machine
end

section
/-!
PROOF. The timing solution: how a second forms its record, and how the record is posted (O31).
-/
namespace Sys2Proof.Machine
namespace Dev

/-! ### What a solution reads is not what it writes before its record -/

/-- The record formed in place of the one before. -/
def withFormed (d : Dev) (r : Option G0Record) : Dev := { d with g0Formed := r }

/-- The record posted in place of the one before. -/
def withPosted (d : Dev) (r : Option G0Record) : Dev := { d with g0Posted := r }

/-- The rates kept in place of those before. -/
def withRatings (d : Dev) (l : List Rat) : Dev := { d with g0Rates := l }

/-- The satellites followed in place of those before. -/
def withSats (d : Dev) (l : List SatTrack) : Dev := { d with sats := l }

/-- The biases of the systems in place of those before. -/
def withBias (d : Dev) (l : List SysBias) : Dev := { d with sysBias := l }

theorem get_withFormed (d : Dev) (r : Option G0Record) (e : Entry) : (d.withFormed r).get e = d.get e := (rfl)
theorem g0Formed_withFormed (d : Dev) (r : Option G0Record) : (d.withFormed r).g0Formed = r := (rfl)
theorem get_withRatings (d : Dev) (l : List Rat) (e : Entry) : (d.withRatings l).get e = d.get e := (rfl)
theorem get_withSats (d : Dev) (l : List SatTrack) (e : Entry) : (d.withSats l).get e = d.get e := (rfl)
theorem get_withBias (d : Dev) (l : List SysBias) (e : Entry) : (d.withBias l).get e = d.get e := (rfl)
theorem view_withBias (d : Dev) (l : List SysBias) : (d.withBias l).view = d.view := (rfl)
theorem g0Formed_withRatings (d : Dev) (l : List Rat) : (d.withRatings l).g0Formed = d.g0Formed := (rfl)
theorem g0Formed_withSats (d : Dev) (l : List SatTrack) : (d.withSats l).g0Formed = d.g0Formed := (rfl)

/-- The device as the solution of a second finds it: no record, the calibration shown, the rate of its second kept. -/
def rated (d : Dev) : Dev :=
  (d.withFormed none).showCalibration.withRatings
    ((ofFrac64 ((d.withFormed none).showCalibration.getI (Dict.refFrequency 16)) - (d.withFormed none).showCalibration.q Q.rTot) ::
      (d.withFormed none).showCalibration.g0Rates |>.take 64)

theorem keeps_showCalibration (d : Dev) : Keeps [Dict.gnssIfDelay, Dict.gnssCalTerm] d d.showCalibration := by
  unfold showCalibration
  exact .set (.setI (.refl _ d) (by simp) _) (by simp) _

theorem keeps_rated (d : Dev) : Keeps [Dict.gnssIfDelay, Dict.gnssCalTerm] d d.rated := fun e he => by
  rw [rated, get_withRatings, keeps_showCalibration _ e he, get_withFormed]

theorem g0Formed_rated (d : Dev) : d.rated.g0Formed = none := by
  have hshow : (d.withFormed none).showCalibration.g0Formed = (d.withFormed none).g0Formed := by
    unfold showCalibration
    exact of_rest (g := Dev.g0Formed) ((rest_set _ _ _).trans (rest_setI _ _ _))
  rw [rated, g0Formed_withRatings, hshow, g0Formed_withFormed]

/-! ### The satellites of a second -/

/-- What the exclusions of a second write (R328, R336). -/
def exclusionRegisters : List Entry := Dict.gnssExcludedCount :: (List.range 192).map Dict.gnssChannelStatus

theorem exclusion_apart {e : Entry} (hcount : Dict.gnssExcludedCount.addr ≠ e.addr)
    (h : e.addr < (Dict.gnssChannelStatus 0).addr ∨ (Dict.gnssChannelStatus 191).addr < e.addr) : ∀ x ∈ exclusionRegisters, x.addr ≠ e.addr := by
  intro x hx
  rcases List.mem_cons.1 hx with rfl | hx
  · exact hcount
  · exact channelStatus_apart h x hx

theorem keeps_markExcluded (d : Dev) (o : SatObs) (cause : Nat) : Keeps exclusionRegisters d (d.markExcluded o cause) := by
  unfold markExcluded
  exact .forUnits (.refl _ d) fun k hk x =>
    .ite (.set (.refl _ x) (List.mem_cons_of_mem _ (List.mem_map_of_mem (List.mem_range.2 hk))) _) (.refl _ x)

theorem keeps_excludeSat (d : Dev) (o : SatObs) (check : Nat) : Keeps exclusionRegisters d (d.excludeSat o check) := by
  unfold excludeSat
  exact .post ((Keeps.inc (.refl _ d) (List.mem_cons_self ..)).trans (keeps_markExcluded _ o check)) _ _

theorem keeps_prepareSats (d : Dev) (e : GnssEpoch) (epoch bands : Nat) : Keeps exclusionRegisters d (d.prepareSats e epoch bands).1 := by
  unfold prepareSats
  dsimp only
  refine .foldl (.foldl (.foldl (d' := d.withSats _) (fun f _ => get_withSats d _ f) fun x p _ => keeps_excludeSat x _ _) fun x p _ =>
    keeps_markExcluded x _ _) fun x p _ => keeps_markExcluded x _ _

/-- Without observations nothing is excluded, and no satellite is left. -/
theorem prepareSats_nil (d : Dev) {e : GnssEpoch} (epoch bands : Nat) (h : e.sats = []) : d.prepareSats e epoch bands = (d.withSats [], []) := by
  unfold prepareSats
  rw [h]
  dsimp only [List.map_nil, List.filter_nil, List.foldl_nil]
  cases (d.get Dict.gnssInterferenceMode == 2 || d.get Dict.gnssInterferenceMode == 3) && bands == 3 <;> rfl

/-- Where no consistency check is set, every satellite stays and passes (R328). -/
theorem checkSats_unset {d : Dev} (e : GnssEpoch) (l : List SatResidual)
    (hmode : d.get Dict.gnssInterferenceMode = 0 ∨ d.get Dict.gnssInterferenceMode = 1) : d.checkSats e l = (d, l, true) := by
  have hnone : (d.get Dict.gnssInterferenceMode == 2 || d.get Dict.gnssInterferenceMode == 3) = false := by
    rcases hmode with h | h <;> rw [h] <;> rfl
  simp only [checkSats, hnone, Bool.not_false, if_true]

/-- In Holding the solution is only noted (R301). -/
theorem solved_holding {d : Dev} (e : GnssEpoch) (bands : Nat) (hstate : d.get Dict.gnssState = 4) :
    d.solved e bands = d.setB Hid.gnssSolved true := by
  unfold solved
  dsimp only
  rw [get_setB_ne _ _ _ _ (by decide), hstate]
  cases e.position <;> rfl

/-- The satellites that enter the solution are enough. -/
theorem minSats_le_of_enough {d : Dev} {l : List SatResidual} (h : d.enoughSats l = true) :
    d.get Dict.gnssMinSats ≤ (l.filter fun s => d.posts s.obs).length := by
  simp only [enoughSats, Bool.and_eq_true, decide_eq_true_eq] at h
  exact h.1.1

/-- The device of a second with enough satellites where no consistency check is set goes to its judgement with all of them (R301, R328). -/
theorem gnssSolution_formed {d x : Dev} {e : GnssEpoch} {l : List SatResidual} (hstate : d.get Dict.gnssState = 4)
    (hp : d.rated.prepareSats e d.second d.bandsInUse = (x, l)) (hxstate : x.get Dict.gnssState = 4)
    (hmode : x.get Dict.gnssInterferenceMode = 0 ∨ x.get Dict.gnssInterferenceMode = 1) (henough : x.enoughSats l = true) :
    d.gnssSolution e = (x.setB Hid.gnssSolved true).judgeEpoch e d.second d.bandsInUse l := by
  have hfew : decide ((l.filter fun s => x.posts s.obs).length < x.get Dict.gnssMinSats) = false :=
    decide_eq_false (Nat.not_lt.2 (minSats_le_of_enough henough))
  unfold rated withFormed withRatings at hp
  unfold gnssSolution
  rw [if_neg (by omega)]
  dsimp only
  rw [hp]
  dsimp only
  rw [henough, checkSats_unset e l hmode]
  dsimp only
  rw [hfew, henough, solved_holding e _ hxstate, hstate]
  rfl

/-- A second without enough satellites leaves no record (R301). -/
theorem gnssSolution_without {d x : Dev} {e : GnssEpoch} {l : List SatResidual} (hstate : d.get Dict.gnssState = 4)
    (hp : d.rated.prepareSats e d.second d.bandsInUse = (x, l)) (hfew : x.enoughSats l = false) : d.gnssSolution e = x := by
  unfold rated withFormed withRatings at hp
  unfold gnssSolution
  rw [if_neg (by omega)]
  dsimp only
  rw [hp]
  dsimp only
  rw [hfew]
  rfl

/-! ### What the judgement of an epoch reads -/

theorem posts_setB (d : Dev) (b : Bool) (o : SatObs) : (d.setB Hid.gnssSolved b).posts o = d.posts o := by
  unfold posts
  rw [get_setB_ne _ _ _ _ (by decide), of_rest (g := (·.authenticated o.prn 0)) (rest_setB d _ b)]

theorem biasOf_setB (d : Dev) (b : Bool) (e : GnssEpoch) (system : Nat) : (d.setB Hid.gnssSolved b).biasOf e system = d.biasOf e system := by
  unfold biasOf
  dsimp only
  rw [get_setB_ne _ _ _ _ (by decide), get_setB_ne _ _ _ _ (by decide), get_setB_ne _ _ _ _ (by decide),
    of_rest (g := Dev.sysBias) (rest_setB d _ b)]

theorem satWeight_setB (d : Dev) (b : Bool) (sigma isb : Rat) : (d.setB Hid.gnssSolved b).satWeight sigma isb = d.satWeight sigma isb :=
  of_rest (g := (·.satWeight sigma isb)) (rest_setB d _ b)

theorem weightedMean_setB (d : Dev) (b : Bool) (e : GnssEpoch) (l : List SatResidual) :
    (d.setB Hid.gnssSolved b).weightedMean e l = d.weightedMean e l := by
  simp only [weightedMean, posts_setB, biasOf_setB, satWeight_setB]

/-- The resolved week depends on three entries and the frame (R300). -/
theorem weekTerm_of_eq {d d' : Dev} (e : GnssEpoch) (hview : d'.view = d.view)
    (hget : ∀ f ∈ [Dict.gnssTimeSystem, Dict.gnssWeekPivot, Dict.boundTimescale], d'.get f = d.get f) : d'.weekTerm e = d.weekTerm e := by
  simp only [weekTerm, weekStart, resolveWeek, second, hview, hget Dict.gnssTimeSystem (by simp), hget Dict.gnssWeekPivot (by simp),
    hget Dict.boundTimescale (by simp)]

theorem utcTerm_of_eq {d d' : Dev} (a0 a1 : Int) (tot epoch : Nat) (hget : d'.get Dict.gnssUtcRealisation = d.get Dict.gnssUtcRealisation) :
    d'.utcTerm a0 a1 tot epoch = d.utcTerm a0 a1 tot epoch := by
  unfold utcTerm
  rw [hget]

/-- Learning the biases of the systems writes no register and no view (R308). -/
theorem learnBiases_same (d : Dev) (l : List SatResidual) (b : Rat) :
    (∀ e, (d.learnBiases l b).get e = d.get e) ∧ (d.learnBiases l b).view = d.view := by
  unfold learnBiases
  dsimp only
  refine forUnits_keeps (p := fun x : Dev => (∀ e, x.get e = d.get e) ∧ x.view = d.view) ⟨fun _ => rfl, rfl⟩ fun k _ x hx => ?_
  split
  · exact hx
  · split
    · exact hx
    · exact ⟨fun e => (get_withBias x _ e).trans (hx.1 e), (view_withBias x _).trans hx.2⟩

theorem bandsInUse_le (d : Dev) : d.bandsInUse ≤ 3 := by
  unfold bandsInUse
  dsimp only
  split <;> split <;> omega

/-- The common flags lie below AuthTime's bit (R313). -/
theorem commonFlags_lt (d : Dev) {bands : Nat} (h : bands ≤ 3) (ran : Bool) : d.commonFlags bands ran < 2 ^ 14 := by
  unfold commonFlags
  dsimp only
  split <;> split <;> split <;> omega

/-! ### A record formed or withheld -/

theorem withhold_spec (d : Dev) (epoch : Nat) {flags : Nat} (h : flags < 2 ^ 14) :
    (d.withhold epoch flags).g0Formed.map (fun r => (r.epoch, r.offset, r.sats, bit r.flags 15)) = some (epoch, 0, 0, false) ∧
      Keeps [Dict.gnssWithheldCount] d (d.withhold epoch flags) := by
  refine ⟨?_, ?_⟩
  · have hbit : bit (flags + 256) 15 = false := by
      rw [bit, beq_eq_false_iff_ne]
      omega
    exact congrArg (fun b => some (epoch, 0, 0, b)) hbit
  · exact .inc (.refl _ d) (by simp)

/-- What a formed record writes beside it. -/
def formRegisters : List Entry := [Hid.leapSeen, Hid.leapSeenAt, Hid.gnssKept, Hid.ephemerisAt] ++ (List.range 192).map Dict.gnssChannelStatus

theorem keeps_announceBroadcast (d : Dev) (time kind : Nat) : Keeps formRegisters d (d.announceBroadcast time kind) := by
  have hset : Keeps formRegisters d ((d.set Hid.leapSeen kind).set Hid.leapSeenAt time) := .set (.set (.refl _ d) (by simp [formRegisters]) _)
    (by simp [formRegisters]) _
  unfold announceBroadcast
  exact .ite (.refl _ d) (.ite hset (.post hset _ _))

theorem keeps_markUsed (d : Dev) (l : List SatResidual) : Keeps formRegisters d (d.markUsed l) := by
  unfold markUsed
  exact .forUnits (.refl _ d) fun k hk x =>
    .ite (.refl _ x) (.set (.refl _ x) (List.mem_append_right _ (List.mem_map_of_mem (List.mem_range.2 hk))) _)

theorem formRecord_spec (d : Dev) (e : GnssEpoch) (epoch : Nat) {bands : Nat} (l : List SatResidual) (ws : List Rat) (x : Rat) (ran : Bool)
    (hbands : bands ≤ 3) :
    (d.formRecord e epoch bands l ws x ran).g0Formed.map (fun r => (r.epoch, r.offset, r.sats, bit r.flags 15)) =
        some (epoch, roundNear (x * (secondUnits : Nat)), l.length, true) ∧
      Keeps formRegisters d (d.formRecord e epoch bands l ws x ran) := by
  have hflags := d.commonFlags_lt hbands ran
  have hbit : ∀ auth : Bool, bit (2 ^ 15 + (if auth then 2 ^ 14 else 0) + d.commonFlags bands ran) 15 = true := by
    intro auth
    rw [bit, beq_iff_eq]
    cases auth <;> simp only [Bool.false_eq_true, if_false, if_true] <;> omega
  refine ⟨?_, ?_⟩
  · exact congrArg (fun b => some (epoch, roundNear (x * (secondUnits : Nat)), l.length, b))
      (hbit (d.osnmaTimeHolds && d.authAgrees e epoch l x))
  · unfold formRecord
    dsimp only
    exact fun f hf => (get_withFormed _ _ f).trans
      ((Keeps.set (.set ((keeps_announceBroadcast d _ _).trans (keeps_markUsed _ l)) (by simp [formRegisters]) _) (by simp [formRegisters]) _) f hf)

/-- Neither of the clock checks is set, so none runs (R329). -/
theorem clockChecksRun_unset {d : Dev} (h : d.get Dict.gnssInterferenceMode = 0 ∨ d.get Dict.gnssInterferenceMode = 1) : d.clockChecksRun = false := by
  have hmode : (d.get Dict.gnssInterferenceMode == 2 || d.get Dict.gnssInterferenceMode == 3) = false := by
    rcases h with h | h <;> rw [h] <;> rfl
  simp only [clockChecksRun, hmode, Bool.false_and]

/-- The satellites of a solution whose system's bias is known (R307, R308). -/
def knownSats (d : Dev) (e : GnssEpoch) (l : List SatResidual) : List SatResidual :=
  l.filter fun s => d.posts s.obs && (d.biasOf e s.obs.system).isSome

/-- In Holding, with no consistency check set, an epoch is withheld for too few satellites of known bias or else forms its record (R307 to R309). -/
theorem judgeEpoch_holding {d : Dev} (e : GnssEpoch) (epoch : Nat) {bands : Nat} (l : List SatResidual) (hstate : d.get Dict.gnssState = 4)
    (hmode : d.get Dict.gnssInterferenceMode = 0 ∨ d.get Dict.gnssInterferenceMode = 1) (hbands : bands ≤ 3) :
    (d.judgeEpoch e epoch bands l).g0Formed.map (fun r => (r.epoch, r.offset, r.sats, bit r.flags 15)) =
        some (if (d.knownSats e l).length < d.get Dict.gnssMinSats ∨ (d.weightedMean e l).2 = 0 then (epoch, 0, 0, false)
          else (epoch, roundNear (((d.weightedMean e l).1 + d.utcTerm e.a0 e.a1 e.tot epoch + d.weekTerm e) * (secondUnits : Nat)),
            (d.knownSats e l).length, true)) ∧
      (d.judgeEpoch e epoch bands l).get Hid.gnssSolved = d.get Hid.gnssSolved := by
  obtain ⟨hget, hview⟩ := d.learnBiases_same l (d.weightedMean e l).1
  have hutc := utcTerm_of_eq e.a0 e.a1 e.tot epoch (hget Dict.gnssUtcRealisation)
  have hweek := weekTerm_of_eq e hview fun f _ => hget f
  have hnot5 : ¬d.get Dict.gnssState = 5 := by omega
  unfold judgeEpoch
  dsimp only
  rw [hget, hget, hutc, hweek]
  generalize d.learnBiases l (d.weightedMean e l).1 = x at hget
  by_cases hfew : (d.knownSats e l).length < d.get Dict.gnssMinSats ∨ (d.weightedMean e l).2 = 0
  · have hheld := x.withhold_spec epoch (x.commonFlags_lt hbands false)
    rw [if_pos hfew, if_pos (hfew.elim .inl fun h => .inr (.inl h))]
    exact ⟨hheld.1, (hheld.2 _ (by decide)).trans (hget _)⟩
  · have hran : x.clockChecksRun = false := clockChecksRun_unset (by rwa [hget])
    rw [if_neg hfew, if_neg (fun h => hfew (h.elim .inl fun h => h.elim .inr fun h => absurd h hnot5)), hran, Bool.false_and,
      if_neg Bool.false_ne_true, if_neg Bool.false_ne_true]
    have hclear : Keeps [Dict.gnssClockCheckState, Hid.clockBad, Hid.clockGood] x
        ((x.set Dict.gnssClockCheckState 0).clearAll [Hid.clockBad, Hid.clockGood]) := .clearAll (.set (.refl _ x) (by simp) _) (by simp)
    obtain ⟨hformed, hkeeps⟩ := formRecord_spec ((x.set Dict.gnssClockCheckState 0).clearAll [Hid.clockBad, Hid.clockGood]) e epoch (d.knownSats e l)
      (d.weightsOf e (d.knownSats e l)) ((d.weightedMean e l).1 + d.utcTerm e.a0 e.a1 e.tot epoch + d.weekTerm e) false hbands
    have hhidden : ∀ y ∈ [Hid.leapSeen, Hid.leapSeenAt, Hid.gnssKept, Hid.ephemerisAt], y.addr ≠ Hid.gnssSolved.addr := by decide
    have hform : ∀ y ∈ formRegisters, y.addr ≠ Hid.gnssSolved.addr := fun y hy =>
      (List.mem_append.1 hy).elim (hhidden y) (channelStatus_apart (.inr (by decide)) y)
    exact ⟨hformed, (hkeeps _ hform).trans ((hclear _ (by decide)).trans (hget _))⟩

/-! ### The post port -/

theorem postRecord_inTime {d : Dev} {r : G0Record} (hformed : d.g0Formed = some r) (htime : d.second ≤ r.epoch) :
    d.postRecord = (d.withFormed none).withPosted (some r) := by
  have hsecond : ¬(r.epoch < (d.withFormed none).second) := Nat.not_lt.2 htime
  unfold postRecord
  rw [hformed]
  exact if_neg hsecond

theorem postRecord_late {d : Dev} {r : G0Record} (hformed : d.g0Formed = some r) (hlate : r.epoch < d.second) :
    d.postRecord = ((d.withFormed none).inc Dict.g0LateCount).post 77 [] := by
  have hsecond : r.epoch < (d.withFormed none).second := hlate
  unfold postRecord
  rw [hformed]
  exact if_pos hsecond

theorem g0Posted_withFormed (d : Dev) (r : Option G0Record) : (d.withFormed r).g0Posted = d.g0Posted := (rfl)
theorem posted_withFormed (d : Dev) (r : Option G0Record) : (d.withFormed r).posted = d.posted := (rfl)

end Dev

/-- Settles O31: a second's satellites are prepared, then judged; the device reads the same entries before and after each. -/
theorem solutionFormsARecord : Obligations.SolutionFormsARecord := by
  unfold Obligations.SolutionFormsARecord
  refine ⟨?_, ?_, ?_, ?_⟩
  · intro s e hserves hstate hmode found rated p used mean offset henough
    obtain ⟨t, hexec, hdev, hstep⟩ := State.during_next hserves (·.gnssSolution e)
    have hkeeps : ∀ f : Entry, (∀ y ∈ [Dict.gnssIfDelay, Dict.gnssCalTerm] ++ Dev.exclusionRegisters, y.addr ≠ f.addr) →
        p.1.get f = s.dev.get f := fun f hf =>
      (Dev.keeps_prepareSats _ _ _ _ f fun y hy => hf y (List.mem_append_right _ hy)).trans
        (s.met.keeps_rated f fun y hy => hf y (List.mem_append_left _ hy))
    have hplaces : ∀ f ∈ [Dict.gnssState, Dict.gnssInterferenceMode, Dict.gnssMinSats],
        (∀ y ∈ [Dict.gnssIfDelay, Dict.gnssCalTerm], y.addr ≠ f.addr) ∧ Dict.gnssExcludedCount.addr ≠ f.addr ∧
          (f.addr < (Dict.gnssChannelStatus 0).addr ∨ (Dict.gnssChannelStatus 191).addr < f.addr) := by decide
    have happart : ∀ f ∈ [Dict.gnssState, Dict.gnssInterferenceMode, Dict.gnssMinSats],
        ∀ y ∈ [Dict.gnssIfDelay, Dict.gnssCalTerm] ++ Dev.exclusionRegisters, y.addr ≠ f.addr := fun f hf y hy =>
      (List.mem_append.1 hy).elim ((hplaces f hf).1 y) (Dev.exclusion_apart (hplaces f hf).2.1 (hplaces f hf).2.2 y)
    have hxstate : p.1.get Dict.gnssState = 4 := (hkeeps _ (happart _ (by simp))).trans hstate
    have hxmode : p.1.get Dict.gnssInterferenceMode = 0 ∨ p.1.get Dict.gnssInterferenceMode = 1 := by
      rw [hkeeps _ (happart _ (by simp))]
      exact hmode
    have hminSats : p.1.get Dict.gnssMinSats = s.dev.get Dict.gnssMinSats := hkeeps _ (happart _ (by simp))
    have hformed := Dev.gnssSolution_formed (d := s.met) (x := p.1) (l := p.2) hstate rfl hxstate hxmode henough
    rw [hformed] at hdev
    have hother : ∀ f : Entry, Hid.gnssSolved.addr ≠ f.addr → (p.1.setB Hid.gnssSolved true).get f = p.1.get f := fun f hf => Dev.get_setB_ne _ _ _ _ hf
    obtain ⟨hrecord, hsolved⟩ := Dev.judgeEpoch_holding (d := p.1.setB Hid.gnssSolved true) e s.met.second p.2
      ((hother _ (by decide)).trans hxstate) (by rw [hother _ (by decide)]; exact hxmode) s.met.bandsInUse_le
    have hused : (p.1.setB Hid.gnssSolved true).knownSats e p.2 = used := by
      simp only [Dev.knownSats, Dev.posts_setB, Dev.biasOf_setB]
      rfl
    rw [hused, Dev.weightedMean_setB, hother _ (by decide), hminSats,
      Dev.utcTerm_of_eq _ _ _ _ (hother Dict.gnssUtcRealisation (by decide)),
      Dev.weekTerm_of_eq e (Dev.of_rest (g := Dev.view) (Dev.rest_setB p.1 _ true)) fun f hf => hother f (by apply of_mem hf; decide),
      ← hdev] at hrecord
    rw [← hdev, Dev.get_setB_self] at hsolved
    exact ⟨t, hexec, hsolved, hrecord, hstep.deviceOnly⟩
  · intro s e hserves hstate hnone _
    obtain ⟨t, hexec, hdev, hstep⟩ := State.during_next (s := s) hserves (·.gnssSolution e)
    have hrated := s.met.keeps_rated
    have hwithout : (s.met.rated.withSats []).enoughSats [] = false := by
      simp only [Dev.enoughSats, List.filter_nil, List.any_nil, Bool.and_false, Bool.false_and]
    rw [Dev.gnssSolution_without (d := s.met) hstate (s.met.rated.prepareSats_nil s.met.second s.met.bandsInUse hnone) hwithout] at hdev
    refine ⟨t, hexec, ?_, ?_, hstep.onlyRegisters fun f hf => ?_⟩
    · rw [hdev, Dev.g0Formed_withSats, Dev.g0Formed_rated]
    · rw [hdev, Dev.get_withSats, hrated _ (by decide)]
      rfl
    · rw [hdev, Dev.get_withSats]
      have hshown : [Dict.gnssIfDelay, Dict.gnssCalTerm] ⊆ [Dict.gnssIfDelay, Dict.gnssCalTerm, Dict.gnssExcludedCount, Hid.gnssSolved] := by decide
      exact hrated f fun y hy => hf y (List.mem_append_left _ (hshown hy))
  · intro s r hserves hformed htime
    obtain ⟨t, hexec, hdev, hstep⟩ := State.during_next hserves (·.postRecord)
    rw [Dev.postRecord_inTime (d := s.met) hformed htime] at hdev
    refine ⟨t, hexec, by rw [hdev]; rfl, by rw [hdev]; rfl, by rw [PresentsNone, hdev]; rfl, hstep.onlyRegisters fun e _ => by rw [hdev]; rfl⟩
  · intro s r hserves hformed hlate
    obtain ⟨t, hexec, hdev, hstep⟩ := State.during_next hserves (·.postRecord)
    rw [Dev.postRecord_late (d := s.met) hformed hlate] at hdev
    have hrest : t.dev.rest = (s.met.withFormed none).rest.post 77 [] := by
      rw [hdev, Dev.rest_post, Dev.rest_inc]
    refine ⟨t, hexec, (congrArg Dev.g0Posted hrest :), (congrArg Dev.g0Formed hrest :), ?_, (congrArg Dev.posted hrest :), hstep.onlyRegisters ?_⟩
    · rw [Counts, hdev, Dev.get_post, Dev.get_inc, Dev.get_withFormed]
      rfl
    · rw [hdev]
      exact .post (.inc (fun f _ => Dev.get_withFormed s.met none f) (by simp)) _ _

end Sys2Proof.Machine
end
